-- ==== Sys2Proof/Word.lean ====
section
/-! DEFINITION. The word types of the device (R12, R13): 32-bit register words and bytes. -/

namespace Sys2Proof

/-- A BAR0 register word. -/
abbrev Word := BitVec 32

/-- A byte of memory or of a message (R13: multi-byte fields are little-endian). -/
abbrev Byte := BitVec 8

/-- A sparse table: what an unlisted key holds is said by the operation that reads it. -/
abbrev Table (V : Type) := List (Nat × V)

end Sys2Proof
end

