-- ==== Sys2Proof/Syntax.lean ====
section
/-! DEFINITION. The commands: one constructor of `Instr` for each row of spec/opcode_table.json, with the row's operands
(log entry 4). The operands' names: `k` a lane, `n` a channel (spindle), `x` a stream context or a SLUICE context, `src` a
source, `m` a millrace, `a` an axis, `w` the word written; `body` and `chk` are bits [63:8] and the CHK of a received data
block, `body` and `check` bits [55:8] and the CHECK of a received control block; `b` a block that the receiver
discards; `line` the 64 bits that arrive on the line; `drift` a word that the clocks of two devices lose or repeat
(R347); `errs` the bit errors a read meets (R441); `late`: the block that follows is ready only for a word of the next tick
(R363). -/

namespace Sys2Proof

/-- What the ECC of R442 finds over a granule that is read. -/
inductive EccFinding where
  | clean
  | corrected (symbol : Nat)
  | uncorrectable
  deriving DecidableEq, Repr

/-- Bit errors that a read meets in a granule (R441): which granule of the read, codeword, symbol, and the bits inverted. -/
structure SymbolError where
  granule : Nat
  word : Nat
  symbol : Nat
  bits : Nat
  deriving DecidableEq, Repr

/-- A block that the receiver discards: why (R324; 0 an invalid header, 1 CHECK, 2 type, 3 CHK or, on a twin
lane, a reserved TT, R403), and its 64 payload bits. -/
structure Discarded where
  cause : Nat
  payload : Nat
  deriving DecidableEq, Repr

/-- A batch of writes (R453): its millrace, and the bit errors in the granules that it reads to merge them (R454). -/
structure WriteBatch where
  m : Nat
  errs : List SymbolError
  deriving DecidableEq, Repr

/-- R441: a symbol of a codeword, with some bit inverted. -/
def SymbolError.ok (e : SymbolError) (granules : Nat) : Bool :=
  decide (e.granule < granules) && decide (e.word < 8) && decide (e.symbol < 20) && decide (0 < e.bits) && decide (e.bits < 256)

/-- Outcome of programming the NVM (R599); a failure says whether the store-fault mark could be written. -/
inductive NvOutcome where
  | ok
  | programFailed (markWritten : Bool)
  | eraseFailed (markWritten : Bool)
  deriving DecidableEq, Repr

/-- What the configuration space holds that the rules name (R472, R474, R478, R480, R493). -/
inductive CfgReg where
  | deviceId
  | command
  | classCode
  | bar (k : Nat)
  | deviceControl
  | deviceControl2
  | powerControl
  | msixControl
  | ptmControl
  | aerStatus
  | aerHeader
  deriving DecidableEq, Repr

/-- What a configuration request does that the rules name (R472, R474, R475, R478, R492, R493). -/
inductive CfgReq where
  | read (r : CfgReg)
  | enable
  | relaxed (on : Bool)
  | mrrs (bytes : Nat)
  | ptm (on : Bool)
  | mps (bytes : Nat)
  | tag10 (on : Bool)
  | d3 (on : Bool)
  | bar (two : Bool) (base : Nat)
  | aerClear
  deriving DecidableEq, Repr

/-- The header of a boot slot as the boot ROM reads it (R613, R614): its 256 bytes. -/
structure BootHeader where
  bytes : List Byte
  deriving DecidableEq, Repr

/-- The commands the block takes: the rows with operands in the table's order, then the rows without. -/
inductive Instr where
  /-- BAR0_ACCESS_ERROR (R15): A BAR0 access that is not 32-bit and 4-byte aligned reads 0xFFFF_FFFF or is discarded,
  is recorded in ACC_ERR and raises a claim-class interrupt. -/
  | bar0AccessError (write : Bool) (addr size : Nat)
  /-- BAR0_NO_PAGE_ACCESS (R683): An aligned access to an offset in no page is refused with ACC_ERR cause 2. -/
  | bar0NoPageAccess (write : Bool) (addr : Nat)
  /-- STOPPED_PAGE_ACCESS (R684): An access to a page stopped by a power state is refused with ACC_ERR cause 3. -/
  | stoppedPageAccess (write : Bool) (addr : Nat)
  /-- REGISTER_WRITE (R49): A write to a register that has no row of its own takes effect in page order. -/
  | registerWrite (addr : Nat) (w : Word)
  /-- WIDE_VALUE_READ (R21): A read of the least significant word of a wide value captures the whole value for the
  following reads. -/
  | wideValueRead (addr : Nat)
  /-- WIDE_VALUE_COMMIT (R22): A write of the least significant word of a wide value commits the whole value in one
  step. -/
  | wideValueCommit (addr : Nat) (w : Word)
  /-- COUNTER_READ_CLEAR (R19): A read of an RC field returns it and clears it, an event in the same clock being kept
  for the next read. -/
  | counterReadClear (addr : Nat)
  /-- BLK_ENABLE (R688): A write of BLK_CTRL.ENABLE to a page with no enable row of its own enables or disables the
  block. -/
  | blkEnable (addr : Nat) (en : Bool)
  /-- SOFT_RESET (R690): A write of SOFT_RESET with ENABLE 0 on an inactive page returns the page registers to reset
  values, or is refused. -/
  | softReset (addr : Nat) (en : Bool)
  /-- DOORBELL (R54): A write of HOPPER.DOORBELL sets the stream's TAIL without waiting for BAR2 writes. -/
  | doorbell (w : Word)
  /-- DOORBELL_ORD (R53): A write of HOPPER.DOORBELL_ORD is held until every earlier BAR2 write is visible in DRAM. -/
  | doorbellOrd (w : Word)
  /-- CTX_ENABLE (R87): A write of CTX[n].CTRL.ENABLE 1 checks the configuration and moves the context to IDLE or
  records ENABLE_ERR. -/
  | ctxEnable (x : Nat) (w : Word)
  /-- CTX_DISABLE (R89): A write of ENABLE 0 stops reading, finishes the record in execution, discards unstarted
  records and enters DRAINING. -/
  | ctxDisable (x : Nat) (w : Word)
  /-- CTX_DRAIN_COMPLETE (R90): When the spindle has stopped, a DRAINING context reaches DISABLED. -/
  | ctxDrainComplete (x : Nat)
  /-- RESUME (R90): A write of CTX[n].ACTION.RESUME continues a HALTED or LAYER_HOLD stream. -/
  | resume (x : Nat)
  /-- SKIP (R90): A write of CTX[n].ACTION.SKIP discards the faulting record of a HALTED stream and continues. -/
  | skip (x : Nat)
  /-- HOPPER_READ_RETURN (R77): Returned records are checked and placed in the prefetch buffer or staging queue in
  ring order. -/
  | hopperReadReturn (x id : Nat)
  /-- RECORD_START (R128): A spindle starts the next record in its buffer by sending its first sample. -/
  | recordStart (n : Nat)
  /-- RECORD_RETIRE (R75): A record retires when the spindle has sent its last sample, advancing HEAD. -/
  | recordRetire (n : Nat)
  /-- SHARE_OFFER (R110): The hopper offers the head record of a share staging queue to the fantail when a member has
  room. -/
  | shareOffer (x : Nat)
  /-- FENCE_ARRIVE (R114): A spindle arrives at a FENCE when it is next and every earlier record has retired. -/
  | fenceArrive (n : Nat)
  /-- FENCE_TIMEOUT (R121): A waiting spindle's fence timeout expires and the fence is held, released or halted by
  TIMEOUT_ACTION. -/
  | fenceTimeout (n : Nat)
  /-- LAYER_END_ARRIVE (R130): A spindle reaches its LAYER_END and holds in LAYER_HOLD, becoming eligible for share
  records. -/
  | layerEndArrive (n : Nat)
  /-- LAYER_END_PASS (R113): A held member passes its LAYER_END once its share streams have ended and its share
  records retired. -/
  | layerEndPass (n : Nat)
  /-- LDR_ENABLE (R484): A write of LDR_CFG.EN 1 sets HEAD and TAIL to 0 and PHASE to 1, or is refused. -/
  | ldrEnable (w : Word)
  /-- LDR_DB (R485): A write of LDR_DB sets the loader's tail and lets it read descriptors up to it. -/
  | ldrDb (w : Word)
  /-- LDR_DESCRIPTOR_RETURN (R486): Fetched descriptors are checked, and malformed ones complete with STATUS 4. -/
  | ldrDescriptorReturn (data : List Byte)
  /-- LDR_DATA_RETURN (R485): Host read data for a descriptor returns and is written to device DRAM. -/
  | ldrDataReturn (k : Nat) (data : List Byte) (err : Nat)
  /-- SPINDLE_ENABLE (R132): A write of the spindle's BLK_CTRL enable 1 checks its configuration and enters STOPPED or
  records CFG_ERR. -/
  | spindleEnable (n : Nat)
  /-- SPINDLE_DISABLE (R131): A write of the spindle's BLK_CTRL enable 0 ends emission, brings the mirror to rest and
  disables its stream. -/
  | spindleDisable (n : Nat)
  /-- MIRROR_AT_REST (R130): A BRAKING spindle whose mirror comes to rest enters BRAKED, or DISABLED after a disable.
  -/
  | mirrorAtRest (n : Nat)
  /-- BRAKE_RESUME (R163): A write of CMD.BRAKE_RESUME with the brake released restarts the spindle from its brake
  point. -/
  | brakeResume (n : Nat)
  /-- SPINDLE_GRID_SWAP (R176): A write of CMD.GRID_SWAP switches the bank of a STOPPED spindle at once. -/
  | spindleGridSwap (n : Nat)
  /-- TABLE_WINDOW_WRITE (R192): A write through the table window updates a grid node or staging profile entry, or is
  discarded into TABLE_ERR. -/
  | tableWindowWrite (off : Nat) (w : Word)
  /-- WAIT_ALARM (R209): A request ungranted for WAIT_LIMIT ticks raises WAIT_ALARM. -/
  | waitAlarm (n : Nat)
  /-- TERR_FETCH_RETURN (R220): A territory cell fetch returns; an uncorrectable error names no spindle and raises
  TERR_FETCH_ERR. -/
  | terrFetchReturn (k : Nat) (ue : Bool)
  /-- MEAS (R240): A head MEAS message arrives and is paired with the history entry of its tick. -/
  | meas (k body chk : Nat) (late : Bool)
  /-- MEAS_MISSING (R241): No measurement for tick t by the end of tick t + 3 counts one bad measurement. -/
  | measMissing (n : Nat) (late : Bool)
  /-- KEEPER (R263): After KEEPER ticks without a correction block, a KEEPER block repeats the factor. -/
  | keeper (n : Nat)
  /-- MPOWER (R292): A laser MPOWER message arrives and its measured power is paired with its tick's planned point. -/
  | mpower (k body chk : Nat)
  /-- MPOWER_MISSING (R310): A bad or missing measured power is replaced by a substitute deposit. -/
  | mpowerMissing (n : Nat)
  /-- MP_CLEAR (R312): A write of LEDGER.CMD.MP_CLEAR unfreezes a recovered channel's throttle. -/
  | mpClear (n : Nat)
  /-- LEDGER_EVALUATION (R299): Every 40 ticks the ledger evaluates T_spot, rise, throttle, warnings and halt
  conditions. -/
  | ledgerEvaluation (late : Bool)
  /-- LEDGER_CELL_RETURN (R291): A ledger cell fetch returns and is converted, or taken as 0 on an uncorrectable
  error. -/
  | ledgerCellReturn (k : Nat) (ue : Bool)
  /-- LANE_ENABLE (R329): A write of a lane's BLK_CTRL enable 1 starts bring-up in DETECT when the start-up order
  permits. -/
  | laneEnable (k : Nat)
  /-- LANE_DISABLE (R329): A write of a lane's BLK_CTRL enable 0 puts the lane DOWN in electrical idle. -/
  | laneDisable (k : Nat)
  /-- START (R329): A write of LANE_CMD.START starts bring-up of a DOWN or ABSENT lane. -/
  | start (k : Nat)
  /-- RETRAIN (R337): A write of LANE_CMD.RETRAIN sends RETRAIN_REQ and leads the lane to TRAIN. -/
  | retrain (k : Nat)
  /-- LANE_RATE_WRITE (R333): A write of LANE_CTRL.RATE restarts training at the new rate or sets RATE_PENDING. -/
  | laneRateWrite (k : Nat) (slow : Bool)
  /-- DETECT_PROBE (R331): Every 100 µs the transmitter probes for the partner's termination and leaves DETECT when
  found. -/
  | detectProbe (k : Nat) (found signal : Bool)
  /-- TRAIN (R332): A TRAIN control block arrives and drives the training steps and cursor requests. -/
  | train (k body check : Nat) (stepEnd : Bool) (fom ctle : Nat)
  /-- IDLE (R334): A received IDLE block counts towards the lock or relock criterion. -/
  | idle (k body check : Nat)
  /-- EXCH_OFFER (R335): EXCH OFFER blocks arrive and after 4 are checked against role, lane and rate. -/
  | exchOffer (k body check : Nat)
  /-- EXCH_CONFIRM (R335): After 4 CONFIRM blocks each way the lane enters ACTIVE and records LANE_PEER. -/
  | exchConfirm (k body check : Nat)
  /-- LANE_TIMEOUT (R329): A DETECT, TRAIN, LOCK or EXCHANGE timeout fails the attempt into BACKOFF. -/
  | laneTimeout (k : Nat)
  /-- BACKOFF_EXPIRY (R329): After BACKOFF_MS the lane starts its next attempt or enters ABSENT. -/
  | backoffExpiry (k : Nat)
  /-- BLOCK_LOCK_LOST (R326): 16 invalid headers in 64 lose block lock and send an ACTIVE lane to relock. -/
  | blockLockLost (k : Nat)
  /-- RELOCK_TIMEOUT (R329): A relock not completed within 10 µs sends the lane to TRAIN. -/
  | relockTimeout (k : Nat)
  /-- SIGNAL_LOST (R329): Loss of the receive signal without EI_ENTER sends an ACTIVE lane to TRAIN. -/
  | signalLost (k : Nat)
  /-- RETRAIN_REQ (R337): A received RETRAIN_REQ is answered with RETRAIN_ACK and the lane enters TRAIN. -/
  | retrainReq (k body check : Nat)
  /-- RETRAIN_ACK (R337): A received RETRAIN_ACK moves the requesting lane into TRAIN. -/
  | retrainAck (k body check : Nat)
  /-- RETRAIN_REQ_TIMEOUT (R337): 1 µs after sending RETRAIN_REQ the lane enters TRAIN. -/
  | retrainReqTimeout (k : Nat)
  /-- FOM_WINDOW_END (R338): At each window end the figure-of-merit threshold moves and FOM is updated. -/
  | fomWindowEnd (k count : Nat)
  /-- DFE_STEP (R339): After every 256 data blocks each DFE tap moves by at most one step. -/
  | dfeStep (k : Nat) (d : List Int)
  /-- ADAPT_FROZEN (R340): 64 consecutive non-data blocks freeze adaptation. -/
  | adaptFrozen (k : Nat)
  /-- LINE_KEEPER_SEND (R341): After 8 µs of non-data blocks the transmitter sends a line keeper. -/
  | lineKeeperSend (k : Nat)
  /-- LINE_KEEPER (R342): A received line keeper is checked against the PRBS31 sequence. -/
  | lineKeeper (k body : Nat)
  /-- BLOCK_DISCARD (R324): A block with an invalid header, failed CHECK or unassigned type is discarded and counted.
  -/
  | blockDiscard (k : Nat) (b : Discarded)
  /-- EI_ENTER (R345): A received EI_ENTER makes the receiver treat its input as idle and hold its settings. -/
  | eiEnter (k body check : Nat)
  /-- WAKE_TIMEOUT (R329): A fast exit without lock 80 ticks after it began sends the lane to TRAIN. -/
  | wakeTimeout (k : Nat)
  /-- LANE_TEST_MODE (R347): A write of LANE_TEST.MODE enters or leaves a test mode, or is refused. -/
  | laneTestMode (k : Nat) (w : Word)
  /-- INJ_GO (R350): A write of LANE_INJ_CTL.GO starts error injection, or is refused. -/
  | injGo (k : Nat) (w : Word)
  /-- INJ_STOP (R350): A write of LANE_INJ_CTL.STOP ends error injection. -/
  | injStop (k : Nat) (w : Word)
  /-- MGMT_GO (R374): A write of MGMT_CMD.GO sends a MGMT_REQ with a new RSEQ. -/
  | mgmtGo (k : Nat) (w : Word)
  /-- MGMT_RETRY (R375): A request without response in 2,000 ticks is resent, and abandoned after the third resend. -/
  | mgmtRetry (k : Nat)
  /-- MGMT_RSP (R374): A MGMT_RSP arrives and completes its request. -/
  | mgmtRsp (k body chk : Nat)
  /-- GALVO (R190): A GALVO message arrives and its feedback is compared for tracking errors. -/
  | galvo (k body chk : Nat)
  /-- HSTAT (R355): An HSTAT message arrives with Z feedback and status bits. -/
  | hstat (k body chk : Nat)
  /-- PARTNER_TICK_MARK (R360): A head or laser takes a TICK_MARK as its tick edge and resynchronises its count. -/
  | partnerTickMark (k tally check : Nat)
  /-- PARTNER_SAMPLE (R365): A head or laser accepts a downlink sample and holds it until its tick. -/
  | partnerSample (k port mt body chk : Nat)
  /-- CORRECTION (R368): A laser applies a CORRECTION block to its emission from its next emission on. -/
  | correction (k port body check : Nat)
  /-- BRAKE (R372): A laser engages on a BRAKE with ENGAGE 1 and releases only on a newer release. -/
  | brake (k port body check : Nat)
  /-- BRAKE_ECHO (R373): A laser not echoing a new BSEQ within 8 ticks sets PROTO_EVT.BRAKE_ECHO. -/
  | brakeEcho (k : Nat)
  /-- CAM_CREDIT (R383): The device grants CAM_DATA credits as ring space allows. -/
  | camCredit (k : Nat)
  /-- CAM_SOF (R384): A CAM_SOF starts a frame record, truncating any frame in progress. -/
  | camSof (k body chk : Nat)
  /-- CAM_DATA (R383): A CAM_DATA block is stored, or discarded and counted as overrun without credit. -/
  | camData (k body chk : Nat)
  /-- CAM_EOF (R385): A CAM_EOF closes the frame, writes its header and advances CAM_WR. -/
  | camEof (k body chk : Nat)
  /-- CAM_ENABLE (R386): A write of CAM_CTRL.EN enables the camera stream or refuses it with SIZE_ERR. -/
  | camEnable (k : Nat) (w : Word)
  /-- XY2_ENABLE (R392): A write of XY2_CTRL.EN enables the XY2-100 output or refuses it with ERR. -/
  | xy2Enable (k : Nat) (w : Word)
  /-- XY2_FRAME (R391): Every 200 ticks an XY2-100 frame carrying the bound spindle's position sample starts. -/
  | xy2Frame (k : Nat)
  /-- BRAKE_IN_EDGE (R675): A filtered change on BRAKE_IN asserts or deasserts its level source. -/
  | brakeInEdge (k : Nat) (high late : Bool)
  /-- ENGAGE (R672): A write of BRK_CMD.ENGAGE asserts brake source 3. -/
  | engage (late : Bool)
  /-- TWIN_ENABLE (R398): A write of TWIN.CTRL.EN enables or disables twin operation. -/
  | twinEnable (w : Word)
  /-- PAIR_OFFER (R399): A PAIR OFFER arrives carrying the partner's channels, preference, mode and port. -/
  | pairOffer (k body chk : Nat)
  /-- PAIR_UID (R399): A PAIR UID arrives carrying the partner's upper UID bits. -/
  | pairUid (k body chk : Nat)
  /-- PAIR_CONFIRM (R399): A PAIR CONFIRM arrives; roles take effect after both confirms. -/
  | pairConfirm (k body chk : Nat)
  /-- TWIN_CYCLE_BOUNDARY (R405): Every 20 ticks ALIGN blocks are sent and the state record is taken and sent. -/
  | twinCycleBoundary (testOk : Bool)
  /-- BEACON (R404): A BEACON arrives with the partner's role and health word. -/
  | beacon (k body chk : Nat)
  /-- ALIGN (R405): An ALIGN block arrives and the receiver deskews the link lanes. -/
  | align (k body check : Nat)
  /-- REC (R406): A REC block arrives carrying seven bytes of the state record. -/
  | recBlockIn (k body chk : Nat)
  /-- FWD (R411): A FWD block arrives carrying a forwarded command or a configuration digest half. -/
  | fwd (k body chk : Nat)
  /-- TWIN_ALIVE_TOGGLE (R397): Every 10 ticks TWIN_ALIVE[0] toggles while the device qualifies. -/
  | twinAliveToggle (domains : Bool)
  /-- HANDOVER (R425): The standby receives the handover record and enters TAKEOVER. -/
  | handover (blocks : List (Nat × Nat × Nat))
  /-- DUP_RELOCK (R436): A lane without a valid uplink DUP_RELOCK ticks after takeover is treated as lost. -/
  | dupRelock (k : Nat)
  /-- MILLRACE_ENABLE (R465): A write of a millrace's BLK_CTRL enable 1 starts INIT when the start-up order permits; 0
  turns it OFF. -/
  | millraceEnable (m : Nat) (en : Bool)
  /-- INIT_DONE (R466): The INIT sequence completes and training attempt 1 begins. -/
  | initDone (m : Nat)
  /-- TRAIN_STEP_DONE (R466): A training step completes, passing to the next step, to SERVICE or to a failure. -/
  | trainStepDone (m : Nat) (pass : Bool)
  /-- TRAIN_RETRY (R465): 10 ms after a failed first attempt, training attempt 2 begins. -/
  | trainRetry (m : Nat)
  /-- MC_RETRAIN (R468): A write of MC_CTRL.RETRAIN retrains a millrace, or is refused while RT requesters can reach
  it. -/
  | mcRetrain (m : Nat)
  /-- MC_RATE_WRITE (R467): A write of MC_CTRL.RATE restarts training or sets RATE_PENDING. -/
  | mcRateWrite (m rate : Nat)
  /-- RT_READ (R449): A real-time read request reaches the millrace and is queued ahead of writes. -/
  | rtRead (m who a len : Nat) (bulk : Bool)
  /-- RT_READ_RETURN (R449): A real-time read returns its data within the bound and its latency is measured. -/
  | rtReadReturn (m ns : Nat) (errs : List SymbolError)
  /-- BULK_READ (R448): A bulk read is served before writes except during a drain. -/
  | bulkRead (m a : Nat) (errs : List SymbolError)
  /-- DRAM_WRITE (R451): A write is accepted into the write queue and becomes visible, merging with an existing entry.
  -/
  | dramWrite (host : Bool)
  /-- WRITE_BATCH (R453): The millrace commits a batch of whole-granule writes when no RT read waits. -/
  | writeBatch (b : WriteBatch)
  /-- REFRESH_DUE (R457): A refresh interval falls due for a rank and bank index. -/
  | refreshDue (m rank idx : Nat)
  /-- REFRESH_REPAY (R458): Refresh debt is repaid when no RT read concerns the bank index. -/
  | refreshRepay (m rank idx : Nat)
  /-- NRR (R460): A triggered neighbour-row refresh activates and precharges the adjacent rows after any RT access. -/
  | nrr (m : Nat)
  /-- DRAM_TEMP_READ (R457): Every 16 ms the DRAM temperature is read and HOT set or cleared. -/
  | dramTempRead (m : Nat) (degC : Int)
  /-- PERIODIC_CALIBRATION (R470): Every 100 ms per rank one calibration step runs when no RT read waits. -/
  | periodicCalibration (m : Nat)
  /-- SCRUB_READ (R462): The patrol scrub reads the next granule and writes back corrected errors. -/
  | scrubRead (m : Nat) (errs : List SymbolError)
  /-- ROW_CLOSE (R456): A row idle for PAGE_IDLE clocks is closed. -/
  | rowClose (m bank : Nat)
  /-- BAR2_WRITE (R479): A BAR2 write is made visible in DRAM in order received, or refused. -/
  | bar2Write (off : Nat) (data : List (Option Byte))
  /-- BAR2_READ (R479): A BAR2 read returns DRAM data after every earlier BAR2 write is visible, or is refused. -/
  | bar2Read (off : Nat) (en : List Bool)
  /-- BAR2_WIN_WRITE (R477): A write of BAR2_WIN moves the window for later BAR2 requests. -/
  | bar2WinWrite (w : Word)
  /-- CONFIG_REQUEST (R473): A configuration request is completed with retry status until verification ends, normally
  after. -/
  | configRequest (q : CfgReq)
  /-- MSIX_MESSAGE (R518): The host port decides a requested message against masks and condition and sends or
  withholds it. -/
  | msixMessage (v : Nat)
  /-- MSIX_ENABLE (R519): Enabling MSI-X sends one message for every vector whose condition holds. -/
  | msixEnable (on mask : Bool)
  /-- PTM_DIALOGUE (R493): Every PERIOD_MS the device sends a PTM request. -/
  | ptmDialogue (clk : Nat)
  /-- PTM_RESPONSE (R494): A PTM response arrives and the wall time is slewed or stepped. -/
  | ptmResponse (t2 p clk : Nat) (ok : Bool)
  /-- WALL_SET (R495): A write of WALL_SET steps the wall time to the written value. -/
  | wallSet (w : Word)
  /-- LOG_ENABLE (R488): A write of LOG_CFG.EN 1 sets LOG_WR to LOG_RD, or is refused. -/
  | logEnable (w : Word)
  /-- SMB_UNKNOWN (R497): Any other SMBus command code is answered with a block of length 0. -/
  | smbUnknown (cmd : Nat)
  /-- SLUICE_ENABLE (R505): Enabling the sluice takes present filtered states as previous states and arms contexts and
  groups. -/
  | sluiceEnable (en : Bool)
  /-- SOURCE_LEVEL (R503): An asserted LEVEL source that is not claimed becomes pending. -/
  | sourceLevel (src : Nat)
  /-- SOURCE_EDGE (R504): A selected edge of an edge-mode source increments its event count. -/
  | sourceEdge (src : Nat)
  /-- SW_PEND_SET (R506): A write of SW_PEND with CLEAR 0 sets the named source's software latch. -/
  | swPendSet (src : Nat)
  /-- SW_PEND_CLEAR (R506): A write of SW_PEND with CLEAR 1 clears the named source's software latch. -/
  | swPendClear (src : Nat)
  /-- CTX_CLAIM (R510): A read of CTX_CLAIM claims the highest deliverable source and pushes its priority. -/
  | ctxClaim (x : Nat)
  /-- CTX_COMPLETE (R511): A write of CTX_COMPLETE with FLUSH 0 completes the source on top of the stack. -/
  | ctxComplete (x src : Nat)
  /-- CTX_COMPLETE_FLUSH (R512): A write of CTX_COMPLETE with FLUSH 1 completes every claim on the stack. -/
  | ctxCompleteFlush (x : Nat)
  /-- CTX_THRESH_WRITE (R509): A write of CTX_THRESH sets the threshold and arms the context. -/
  | ctxThreshWrite (x t : Nat)
  /-- SCAN_ACK (R515): A write of SCAN_ACK acknowledges the named sources and arms the group. -/
  | scanAck (g mask : Nat)
  /-- COALESCE_RELEASE (R516): A held message is released when COUNT pendings or TIME_US have passed. -/
  | coalesceRelease (v : Nat)
  /-- GPI_CHANGE (R522): A general input's filtered state changes after holding for FILTER clocks. -/
  | gpiChange (k : Nat) (on : Bool)
  /-- ENCODER_EDGE (R525): A quadrature change counts ±1, or both inputs changing counts an error. -/
  | encoderEdge (e : Nat) (a b : Bool)
  /-- ENC_Z_EDGE (R527): A rising Z edge copies the count into ENC_ZLATCH and sets Z_SEEN. -/
  | encZEdge (e : Nat)
  /-- ENC_SET (R526): A write of ENC_SET sets the encoder count, or is refused while a geared axis is bound. -/
  | encSet (e : Nat) (w : Word)
  /-- AXIS_ENABLE (R538): A write of AX_CTRL.ENABLE 1 moves the axis to IDLE; 0 stops it and disables it. -/
  | axisEnable (a : Nat) (on : Bool)
  /-- MOVE_ABS (R537): AX_CMD OP 0x1 moves the axis to TARGET, or is refused. -/
  | moveAbs (a : Nat)
  /-- MOVE_REL (R537): AX_CMD OP 0x2 moves the axis by TARGET, or is refused. -/
  | moveRel (a : Nat)
  /-- VELOCITY (R537): AX_CMD OP 0x3 runs the axis at VJOG, or is refused. -/
  | velocity (a : Nat)
  /-- STOP (R537): AX_CMD OP 0x4 decelerates the axis to rest at DECEL. -/
  | stop (a : Nat)
  /-- QSTOP (R547): AX_CMD OP 0x5 stops the axis immediately. -/
  | qstop (a : Nat)
  /-- HOME (R553): AX_CMD OP 0x6 starts the homing sequence, or is refused. -/
  | home (a : Nat)
  /-- GEAR (R544): AX_CMD OP 0x7 enters gearing to the bound encoder, or is refused. -/
  | gear (a : Nat)
  /-- SET_POS (R537): AX_CMD OP 0x8 sets the position to TARGET and clears POS_LOST. -/
  | setPos (a : Nat)
  /-- ARM_RATIO (R537): AX_CMD OP 0x9 latches the second ratio and switch count and arms the switch. -/
  | armRatio (a : Nat)
  /-- DISARM (R537): AX_CMD OP 0xA clears RATIO_ARMED. -/
  | disarm (a : Nat)
  /-- AX_CMD_UNASSIGNED (R537): An unassigned AX_CMD OP is refused with cause 9. -/
  | axCmdUnassigned (a op : Nat)
  /-- STANDSTILL (R543): After STILL_MS at rest the axis enters OFF, SHORT or HOLD. -/
  | standstill (a : Nat)
  /-- WAKE_DONE (R543): After WAKE_MS of driving from OFF or SHORT the axis starts to move. -/
  | wakeDone (a : Nat)
  /-- ROW_SLOT (R560): Every 25 µs the next lamp row is selected and its columns pulsed. -/
  | rowSlot (stuck lampSense padsA padsB : Nat) (camAt : Option Nat)
  /-- CAM_SYNC_EDGE (R567): An asserting filtered CAM_SYNC edge truncates the row slot and starts a frame. -/
  | camSyncEdge (on : Bool)
  /-- FREEZE (R589): A write of the recorder BLK_CTRL freeze bit freezes or unfreezes the histogram view. -/
  | freeze (on : Bool)
  /-- REC_MW_WRITE (R587): A write of REC_MW with width 0 is rejected and sets CFG_ERR. -/
  | recMwWrite (k : Nat) (w : Word)
  /-- NV_WRITE (R598): An NV record is programmed into the NVM when a token is available. -/
  | nvWrite (o : NvOutcome)
  /-- WEAR_CFG_WRITE (R603): A write changing a wear item's EN or SOURCE clears its history. -/
  | wearCfgWrite (k : Nat) (w : Word)
  /-- NG_ENABLE (R623): A write of NG_CTRL.EN enables the ring output, or is refused. -/
  | ngEnable (w : Word)
  /-- DEVICE_RESET (R644): A full device reset releases and boot with slot selection and NVM scans runs. -/
  | deviceReset (hA hB : BootHeader) (fault : Nat)
  /-- BOOT_VERIFY_END (R615): Boot image verification ends, the firmware starts or RECOVERY is entered. -/
  | bootVerifyEnd (bodyOk : Bool)
  /-- DIODE_ROUND (R661): Every 100 µs all 8 die diodes are measured and T_max formed. -/
  | diodeRound (temps : List Int) (late : Bool)
  /-- RAIL_SAMPLE (R666): Every 10 µs each rail is sampled. -/
  | railSample (mv : List Nat)
  /-- CHECKER_BLOCK (R349): In TEST mode a received data block is compared by the pattern checker (or looped back in
  FAR_PARALLEL), updating SYNC, PC_BITS, PC_ERRS and slips. -/
  | checkerBlock (k line drift : Nat)
  /-- TRIM_STORE_DONE (R637): The erase, program and read-back of the machine trim slot complete, and the run ends
  with PASS and TRIM_DARK updated, or with FAIL cause 9. -/
  | trimStoreDone (ok : Bool)
  /-- TICK (R42): At every tick edge the tally increments and the per-tick work of spindles, fantail and ledger runs.
  -/
  | tick
  /-- TALLY_WRAP (R45): The tally wraps from 2^48 − 1 to 0 and the recorder logs the wrap. -/
  | tallyWrap
  /-- ORDERED_DOORBELL_EFFECT (R53): A waiting ordered doorbell takes effect once the BAR2 writes before it are
  visible. -/
  | orderedDoorbellEffect
  /-- HOPPER_READ_REQUEST (R103): The hopper requests a real-time read of up to 128 records when a stream's buffer has
  room. -/
  | hopperReadRequest
  /-- LDR_COMPLETION (R56): The loader writes a completion record once every copied byte is visible in DRAM. -/
  | ldrCompletion
  /-- LDR_RESUME (R487): A write of LDR_CMD.RESUME clears HALTED and continues with the next descriptor. -/
  | ldrResume
  /-- LDR_ABORT (R487): A write of LDR_CMD.ABORT completes every unstarted descriptor with STATUS 5. -/
  | ldrAbort
  /-- PUBLISH (R180): A write of PROF_CTRL.PUBLISH makes the staging copy the newest and moves idle spindles to it. -/
  | publish
  /-- PROF_DONE (R181): After OLD_USERS reaches 0 the device copies the profile table and opens the staging copy. -/
  | profDone
  /-- FLOW_LOST (R216): The gas-flow input reads 0: grants are withheld and a brake may be requested. -/
  | flowLost
  /-- FLOW_RESTORED (R216): The gas-flow input reads 1 again and grants resume. -/
  | flowRestored
  /-- LEDGER_ENABLE (R283): A write of the ledger's BLK_CTRL enable 1 checks configuration, resets channel state and
  starts the fill. -/
  | ledgerEnable
  /-- LEDGER_FILL_DONE (R283): The last fill write becomes visible and STAT.READY is set. -/
  | ledgerFillDone
  /-- LEDGER_DISABLE (R284): While the ledger is disabled it delivers factor 1.0 and full ceilings and makes no
  deposits. -/
  | ledgerDisable
  /-- HALT_CLEAR (R308): A write of LEDGER.CMD.HALT_CLEAR requests the clear of the thermal halt at the next
  evaluation. -/
  | haltClear
  /-- LEDGER_SWEEP (R288): The background sweep reads every cell and rewrites cold cells with EXCESS 0. -/
  | ledgerSweep
  /-- TICK_MARK (R359): At each superframe tick a TICK_MARK is sent on every head and laser downlink. -/
  | tickMark
  /-- BRAKE_PERIODIC (R371): While engaged, the brake state block is resent in every tick whose tally is a multiple of
  64. -/
  | brakePeriodic
  /-- RELEASE (R679): A write of BRK_CMD.RELEASE releases the brake at the next tick edge, or is refused while a level
  source asserts. -/
  | release
  /-- BRK_IN_MISMATCH (R670): BRAKE_IN inputs disagreeing for MISMATCH_US set IN_MISMATCH. -/
  | brkInMismatch
  /-- PAIR_TIMEOUT (R400): PAIR_TIMEOUT expires without both confirms and pairing is refused. -/
  | pairTimeout
  /-- BEACON_LOSS (R430): No valid BEACON for BEACON_LOSS ticks moves the standby to SUSPECT. -/
  | beaconLoss
  /-- STATE_RECORD_COMPLETE (R407): A complete state record is CRC-checked and compared with the standby's own state.
  -/
  | stateRecordComplete
  /-- RECORD_DEADLINE (R407): A state record incomplete at its deadline counts RECORD_ERR and sets RECORD_FAIL. -/
  | recordDeadline
  /-- REPLAY_COMPLETE (R415): A replay completes and a waiting record is compared. -/
  | replayComplete
  /-- FWD_APPLY (R411): A forwarded command is applied in the tick its APPLY8 names. -/
  | fwdApply
  /-- CONFIG_DIGEST (R417): After a layer close the configuration digest completes and is sent in two FWD blocks. -/
  | configDigest
  /-- DIGEST_HALF_TIMEOUT (R417): A digest half without its partner half within 2 ms is discarded and counted. -/
  | digestHalfTimeout
  /-- TWIN_ALIVE_EDGE (R431): An edge on TWIN_ALIVE[1] in SUSPECT or QUERY moves the standby to DETACHED. -/
  | twinAliveEdge
  /-- ALIVE_SILENT (R397): No TWIN_ALIVE[1] edge for ALIVE_SILENT ticks marks it silent and moves SUSPECT onwards. -/
  | aliveSilent
  /-- SOLO (R401): A write of TWIN.CMD.SOLO lets an unpaired device drive, or is refused. -/
  | solo
  /-- HANDOVER_CMD (R422): A write of TWIN.CMD.HANDOVER is accepted while the partner is READY, otherwise refused. -/
  | handoverCmd
  /-- HANDOVER_SEND (R424): The active stops samples after tick F, sends the handover record and enters FAILED. -/
  | handoverSend
  /-- NATIVE_SWITCHOVER (R426): The new active sends the samples from F + 33 onwards and catches up without a seam. -/
  | nativeSwitchover
  /-- SEAM_SWITCHOVER (R428): The new active engages its brake, puts lit spindles into BRAKED and logs seams. -/
  | seamSwitchover
  /-- AUTO_RESUME (R429): Once every spindle is BRAKED the new active releases the brake and resumes them. -/
  | autoResume
  /-- DUPLICATE_TAKEOVER (R436): A DUPLICATE-mode standby becomes active, starts TWIN_ALIVE[0] and logs seams. -/
  | duplicateTakeover
  /-- FLR (R475): A Function Level Reset resets only the host port. -/
  | flr
  /-- LINK_DOWN (R475): A loss of the data link resets only the host port. -/
  | linkDown
  /-- LOG_RECORD_WRITE (R489): A staged record is written to the log ring when it has room. -/
  | logRecordWrite
  /-- LOG_DROP (R489): A record that the staging buffer cannot take is dropped and counted. -/
  | logDrop
  /-- LOG_WRITEBACK (R490): After WB_UNITS units or on idle the log writeback record is written. -/
  | logWriteback
  /-- SMB_CHIP_ID (R497): SMBus command 0x01 returns CHIP_ID and the device UID. -/
  | smbChipId
  /-- SMB_HEALTH (R497): SMBus command 0x02 returns the health word, role, power state and armed flag. -/
  | smbHealth
  /-- SMB_DIODES (R497): SMBus command 0x03 returns the eight die diode readings. -/
  | smbDiodes
  /-- SMB_RAILS (R497): SMBus command 0x04 returns the seven rail monitor readings. -/
  | smbRails
  /-- SMB_TALLY (R497): SMBus command 0x05 returns the tally captured at the command byte. -/
  | smbTally
  /-- SMB_LINK (R497): SMBus command 0x06 returns the PCIe link state, width, rate and link-down count. -/
  | smbLink
  /-- SMB_HALTS (R497): SMBus command 0x07 returns NV_HALTS, STORE_FAULT and LAYER_COUNT. -/
  | smbHalts
  /-- SMB_ALERT_RESPONSE (R496): The device answers the Alert Response Address while it asserts SMB_ALERT_N. -/
  | smbAlertResponse
  /-- AXIS_UPDATE (R528): Every 0.5 µs each enabled axis's profile, gearing and homing advance. -/
  | axisUpdate
  /-- SWAP (R565): A write of LIGHT.CMD.SWAP sets SWAP_PENDING. -/
  | swap
  /-- PAT_CLEAR (R569): A write of LIGHT.CMD.PAT_CLEAR ends the recovery pattern. -/
  | patClear
  /-- SHORT_TEST (R573): A write of LIGHT.CMD.SHORT_TEST schedules the neighbour-pin short test for the next frame. -/
  | shortTest
  /-- BUILD_OPEN (R588): A write of REC_CMD.BUILD_OPEN closes any open build, clears and opens the build scope. -/
  | buildOpen
  /-- BUILD_CLOSE (R588): A write of REC_CMD.BUILD_CLOSE emits the BUILD_CLOSE event and BUILD_SUMMARY. -/
  | buildClose
  /-- FREEZE_EXPIRED (R590): A freeze older than 200,000 ticks ends and emits FREEZE_EXPIRED. -/
  | freezeExpired
  /-- NV_TOKEN_REFILL (R598): Every second one token is added to the NV bucket. -/
  | nvTokenRefill
  /-- LIFETIME (R597): Every LIFE_HOURS a LIFETIME record is written. -/
  | lifetime
  /-- WEAR_INTERVAL_END (R603): Every 8 h each enabled wear item appends a point and is refitted. -/
  | wearIntervalEnd
  /-- INT_INSTALL (R611): A write of ID_CMD.INT_INSTALL installs the staged integrator certificate, or is refused. -/
  | intInstall
  /-- INT_ERASE (R611): A write of ID_CMD.INT_ERASE removes the current integrator certificate, or is refused. -/
  | intErase
  /-- COMMIT_SVN (R618): A write of ID_CMD.COMMIT_SVN raises the stored security version. -/
  | commitSvn
  /-- FLASH_ERASE (R617): A write of ID_FLASH_CMD.ERASE erases a 64 KiB flash sector, or is refused. -/
  | flashErase
  /-- FLASH_PROGRAM (R617): A write of ID_FLASH_CMD.PROGRAM writes the staging object to flash, or is refused. -/
  | flashProgram
  /-- FLASH_DONE (R617): A flash command or certificate install completes. -/
  | flashDone
  /-- NG_ENTRY_SIGNED (R622): An entry's signature completes and it is queued for the ring and window. -/
  | ngEntrySigned
  /-- NG_RING_WRITE (R623): A queued signed entry is written to the Ngabenor ring when it has room. -/
  | ngRingWrite
  /-- TRIM_RUN (R633): A write of TRIM_CMD.RUN starts a dark-offset measurement and store. -/
  | trimRun
  /-- TRIM_MEASURE_END (R635): After 512 blocks the offsets are computed and tested, and the record is stored. -/
  | trimMeasureEnd
  /-- APPLY (R639): A write of TRIM_CMD.APPLY copies TRIM_DARK into every channel's TENT_OFFSET. -/
  | apply
  /-- POWER_ON_RESET (R643): The internal power-on reset holds the device until every rail has been good for 1 ms. -/
  | powerOnReset
  /-- WARM_PERST (R645): A PERST_N assertion with PERST_FULL 0 resets only the host port. -/
  | warmPerst
  /-- CHIP_RESET (R646): A write of RST_CMD.CHIP_RESET resets the device, or is refused while armed. -/
  | chipReset
  /-- BROWN_OUT (R668): A rail below 92 % for 2 µs resets the device with cause 3. -/
  | brownOut
  /-- START_STEP (R648): A start-up step begins once its predecessor ends or its delay has passed. -/
  | startStep
  /-- POWER_STATE_CHOICE (R654): Every millisecond the device chooses a target power state and enters it if deeper. -/
  | powerStateChoice
  /-- POWER_STATE_EXIT (R655): Arming the build or a tolerance change starts the return to Ready. -/
  | powerStateExit
  /-- PWR_CHG (R658): An exit sequence completes and PWR_STAT reads Ready. -/
  | pwrChg
  /-- DIE_SHUTDOWN (R664): 400 ticks after the critical condition the spindle domain and lanes stop. -/
  | dieShutdown
  deriving DecidableEq, Repr

end Sys2Proof
end

