-- ==== Sys2Proof/Decode.lean ====
section
/-! DEFINITION. Words of commands. No row of spec/opcode_table.json gives its command any bits: a command is an access, a
block of a lane or an event, never a word. -/

namespace Sys2Proof

/-- The command that `nbits` bits `w` spell by the table's bits: no row has bits, so none. -/
def decodeTableWord (_nbits _w : Nat) : Option Instr := none

end Sys2Proof
end

