-- ==== Sys2Proof/Config.lean ====
section
/-! DEFINITION. The free values: what the spec leaves open, as constants without a body (log entry 8). -/

namespace Sys2Proof.Config

/-- A value no rule fixes, one for each draw (`Ctl.drawn`): signatures, random numbers, bytes of unstated content. -/
opaque freeNat : Nat → Nat

/-- The device's ECDSA signature over a message, 64 bytes as a number (R620; the key is secret, R608). -/
opaque signature : List Byte → Nat

/-- The device certificate (object 0) and the Drifold device CA certificate (object 1), byte by byte (R610). -/
opaque certByte : Nat → Nat → Byte

/-- Length of the certificate of the given object, at most 2,048 bytes (R610). -/
opaque certLen : Nat → Nat

/-- Whether DER bytes parse as an X.509 certificate (R611 cause 1). -/
opaque parsesAsCert : List Byte → Bool

/-- Whether a parsed certificate's subject public key is the device key (R611 cause 2). -/
opaque namesDeviceKey : List Byte → Bool

/-- Whether the ENDORSE and SIG signatures of a boot header verify (R614). -/
opaque headerVerifies : List Byte → Bool

/-- The random source's draw for a millrace's neighbour-row generator (R460). -/
opaque nrrDraw : Nat → Nat → BitVec 32

/-- The device's 16-bit identity in EXCH blocks (R327). -/
opaque peerId : Nat

end Sys2Proof.Config
end

