-- ==== Sys2Proof/Machine/Num.lean ====
section
/-! DEFINITION. Numbers: two's complement fields (R12), the narrowing of R26, clamps of R27, modular ticks of R46,
integer roots, and bytes in little-endian order (R13). -/

namespace Sys2Proof.Machine

/-- The low `w` bits of `v` read as two's complement. -/
def sgn (w v : Nat) : Int :=
  let m := v % 2 ^ w
  if m < 2 ^ (w - 1) then (m : Int) else (m : Int) - (2 ^ w : Nat)

/-- The `w`-bit two's complement code of `i`. -/
def code (w : Nat) (i : Int) : Nat := (i % ((2 ^ w : Nat) : Int)).toNat

/-- R27: `i` held between `lo` and `hi`. -/
def clamp (i lo hi : Int) : Int := if i < lo then lo else if hi < i then hi else i

/-- R26: saturate to a signed format of `w` bits. -/
def satS (w : Nat) (i : Int) : Int := clamp i (-(2 ^ (w - 1) : Nat)) ((2 ^ (w - 1) - 1 : Nat))

/-- R26: saturate to an unsigned format of `w` bits. -/
def satU (w : Nat) (i : Int) : Int := clamp i 0 ((2 ^ w - 1 : Nat))

/-- R26: half up, then truncation towards minus infinity, of `n / d` (`d` positive). -/
def roundDiv (n d : Int) : Int := (2 * n + d).fdiv (2 * d)

/-- R26 on a right shift by `k` bits. -/
def roundShift (i : Int) (k : Nat) : Int := if k = 0 then i else (i + (2 ^ (k - 1) : Nat)).fdiv ((2 ^ k : Nat))

/-- R26 on an exact rational. -/
def roundRat (q : Rat) : Int := (q + mkRat 1 2).floor

/-- R26 on rational `q` towards a signed field of `w` bits with `f` fractional bits. -/
def narrowS (w f : Nat) (q : Rat) : Int := satS w (roundRat (q * (2 ^ f : Nat)))

/-- R26 on rational `q` towards an unsigned field of `w` bits with `f` fractional bits. -/
def narrowU (w f : Nat) (q : Rat) : Int := satU w (roundRat (q * (2 ^ f : Nat)))

/-- Saturating counter of `w` bits. -/
def satAdd (w a b : Nat) : Nat := min (a + b) (2 ^ w - 1)

/-- Bit `k` of `n`. -/
def bitOf (n k : Nat) : Bool := n.testBit k

/-- Bits `lo` to `lo + w - 1` of `n`. -/
def slice (n lo w : Nat) : Nat := (n >>> lo) % 2 ^ w

/-- `n` with bits `lo` to `lo + w - 1` set to `v`. -/
def splice (n lo w v : Nat) : Nat :=
  n % 2 ^ lo + (v % 2 ^ w) * 2 ^ lo + (n >>> (lo + w)) * 2 ^ (lo + w)

/-- A Bool as a bit. -/
def b2n (b : Bool) : Nat := if b then 1 else 0

/-- The number of ones among the low `k` bits. -/
def popCount : Nat → Nat → Nat
  | 0, _ => 0
  | k + 1, n => n % 2 + popCount k (n / 2)

/-- The lowest one among bits `i` to `i + k - 1`. -/
def lowestBit : Nat → Nat → Nat → Option Nat
  | 0, _, _ => none
  | k + 1, i, n => if bitOf n i then some i else lowestBit k (i + 1) n

/-- Positions of the ones among the low `k` bits, rising. -/
def bitList (k n : Nat) : List Nat := (List.range k).filter (bitOf n)

/-- The mask with a one at each listed position. -/
def maskOf (l : List Nat) : Nat := l.foldl (fun m k => m ||| 2 ^ k) 0

/-- R46: `a - b` of 48-bit tallies as a signed modular difference. -/
def tdiff (a b : Nat) : Int := sgn 48 (code 48 ((a : Int) - b))

/-- Ticks from `b` to `a`, modulo 2^48 (R46). -/
def since (a b : Nat) : Nat := (a + 2 ^ 48 - b % 2 ^ 48) % 2 ^ 48

/-- Newton steps towards the floor of the square root. -/
def isqrtGo : Nat → Nat → Nat → Nat
  | 0, _, x => x
  | k + 1, n, x => if x = 0 then 0 else
    let y := (x + n / x) / 2
    if y < x then isqrtGo k n y else x

/-- Floor of the square root. -/
def isqrt (n : Nat) : Nat := if n = 0 then 0 else isqrtGo (n.log2 + 8) n (2 ^ (n.log2 / 2 + 1))

/-- Newton steps towards the floor of the cube root. -/
def icbrtGo : Nat → Nat → Nat → Nat
  | 0, _, x => x
  | k + 1, n, x => if x = 0 then 0 else
    let y := (2 * x + n / (x * x)) / 3
    if y < x then icbrtGo k n y else x

/-- Floor of the cube root. -/
def icbrt (n : Nat) : Nat := if n = 0 then 0 else icbrtGo (n.log2 + 12) n (2 ^ (n.log2 / 3 + 1))

/-- A rational cut to 40 binary places, so that a plan drawn up anew from the spot's speed and place keeps bounded
numbers (log entry 12). -/
def floor40 (q : Rat) : Rat := mkRat (q * (2 ^ 40 : Nat)).floor (2 ^ 40)

/-- Square root of a rational to 40 binary places (log entry 12: DESIGN CHOICE precision). -/
def rsqrt (q : Rat) : Rat :=
  if q ≤ 0 then 0 else mkRat (isqrt ((q * (2 ^ 80 : Nat)).floor.toNat) : Int) (2 ^ 40)

/-- Cube root of a rational to 32 binary places (log entry 12). -/
def rcbrt (q : Rat) : Rat :=
  if q ≤ 0 then 0 else mkRat (icbrt ((q * (2 ^ 96 : Nat)).floor.toNat) : Int) (2 ^ 32)

/-- `k` bytes of `n`, least significant first (R13). -/
def leBytes : Nat → Nat → List Byte
  | 0, _ => []
  | k + 1, n => BitVec.ofNat 8 n :: leBytes k (n / 256)

/-- The number little-endian bytes spell (R13). -/
def leNat : List Byte → Nat
  | [] => 0
  | b :: t => b.toNat + 256 * leNat t

/-- `k` bytes of a two's complement value. -/
def leInt (k : Nat) (i : Int) : List Byte := leBytes k (code (8 * k) i)

/-- `n` zero bytes. -/
def zeros (n : Nat) : List Byte := List.replicate n 0

/-- `k` bytes from byte `i` of a list, missing ones 0, as a number. -/
def fieldAt (l : List Byte) (i k : Nat) : Nat := leNat ((l.drop i).take k)

/-- The greatest of a list, 0 when empty. -/
def maxOf (l : List Nat) : Nat := l.foldl max 0

/-- The sum of a list of integers. -/
def sumI (l : List Int) : Int := l.foldl (· + ·) 0

/-- Magnitude. -/
def absI (i : Int) : Nat := i.natAbs

end Sys2Proof.Machine
end

