-- ==== Sys2Proof/Machine/Crc.lean ====
section
/-! DEFINITION. Checks over bytes: CRC-16 of R67, the short checks of the lane code and the messages, the digests of
the twin and SHA-256 (R591, R620). -/

namespace Sys2Proof.Machine

/-- One bit into a most-significant-first CRC register of `w` bits. -/
def crcBit (w poly r : Nat) (b : Bool) : Nat :=
  let top := bitOf r (w - 1)
  let s := (r * 2) % 2 ^ w
  if top == b then s else s ^^^ poly

/-- The `k` bits of `v`, most significant first, into the register. -/
def crcBits (w poly : Nat) : Nat → Nat → Nat → Nat
  | 0, _, r => r
  | k + 1, v, r => crcBits w poly k v (crcBit w poly r (bitOf v k))

/-- A CRC over bytes in ascending order, each most significant bit first. -/
def crcBytes (w poly : Nat) (l : List Byte) (r : Nat) : Nat :=
  l.foldl (fun r b => crcBits w poly 8 b.toNat r) r

/-- R67: CRC-16, polynomial 0x1021, initial value 0xFFFF. -/
def crc16 (l : List Byte) : Nat := crcBytes 16 0x1021 l 0xFFFF

/-! SHA-256 (FIPS 180-4, to which R620 refers by name). Its constants are computed from what that standard says of them:
the first 32 fractional bits of the roots of the first primes. A round is one shift of a register: the words of the
message move through a window of sixteen, the working words through two chains of four. -/

/-- No number from 2 below `n` divides it. -/
def isPrime (n : Nat) : Bool := (List.range (n - 2)).all (fun d => n % (d + 2) != 0)

/-- The first 64 primes: those from 2 to 311. -/
def primes64 : List Nat := ((List.range 310).map (· + 2)).filter isPrime

/-- The fractional bits of the cube root of a prime. -/
def cubeFrac (p : Nat) : BitVec 32 := BitVec.ofNat 32 (icbrt (p * 2 ^ 96))

/-- The fractional bits of the square root of a prime. -/
def squareFrac (p : Nat) : BitVec 32 := BitVec.ofNat 32 (isqrt (p * 2 ^ 64))

/-- The register of a block in progress: the next sixteen message words, and the working words a to d and e to h. -/
structure ShaReg where
  win : List (BitVec 32)
  up : List (BitVec 32)
  lo : List (BitVec 32)
  deriving DecidableEq, Repr

/-- Three right rotations of a word, added without carry. -/
def spin3 (x : BitVec 32) (i j k : Nat) : BitVec 32 := x.rotateRight i ^^^ x.rotateRight j ^^^ x.rotateRight k

/-- The message word sixteen places on from the head of a window. -/
def shaNext (win : List (BitVec 32)) : BitVec 32 :=
  let near := win.getD 1 0
  let far := win.getD 14 0
  win.getD 0 0 + win.getD 9 0 + (near.rotateRight 7 ^^^ near.rotateRight 18 ^^^ near.ushiftRight 3) +
    (far.rotateRight 17 ^^^ far.rotateRight 19 ^^^ far.ushiftRight 10)

/-- One round with the constant of the prime `p`. -/
def ShaReg.turn (r : ShaReg) (p : Nat) : ShaReg :=
  let u := fun i => r.up.getD i 0
  let l := fun i => r.lo.getD i 0
  let pick := l 2 ^^^ (l 0 &&& (l 1 ^^^ l 2))
  let most := (u 0 &&& u 1) ||| (u 2 &&& (u 0 ||| u 1))
  let feed := r.win.getD 0 0 + cubeFrac p + l 3 + spin3 (l 0) 6 11 25 + pick
  { win := r.win.drop 1 ++ [shaNext r.win]
    up := (feed + spin3 (u 0) 2 13 22 + most) :: r.up.take 3
    lo := (u 3 + feed) :: r.lo.take 3 }

/-- The four-byte words of a message, most significant byte first. -/
def beWords : List Byte → List (BitVec 32)
  | a :: b :: c :: d :: t => (a ++ b ++ c ++ d : BitVec 32) :: beWords t
  | _ => []

/-- The blocks of sixteen words, in turn, into the eight hash words. -/
def shaFold : Nat → List (BitVec 32) → List (BitVec 32) → List (BitVec 32)
  | 0, _, h => h
  | n + 1, msg, h =>
    let r := primes64.foldl ShaReg.turn { win := msg.take 16, up := h.take 4, lo := h.drop 4 }
    shaFold n (msg.drop 16) (List.zipWith (· + ·) h (r.up ++ r.lo))

/-- SHA-256 of a byte list, 32 bytes: a one bit, zeros to 8 bytes short of a block, and the length in bits. -/
def sha256 (m : List Byte) : List Byte :=
  let blocks := (m.length + 72) / 64
  let tail := (leBytes 8 (8 * m.length)).reverse
  let msg := m ++ 0x80#8 :: zeros (64 * blocks - m.length - 9) ++ tail
  (shaFold blocks (beWords msg) ((primes64.take 8).map squareFrac)).flatMap (fun w => (leBytes 4 w.toNat).reverse)

/-- R407: one bit of the reflected CRC-32. -/
def crc32Bit (r : Nat) (b : Bool) : Nat := if (r % 2 == 1) != b then (r / 2) ^^^ 0xEDB88320 else r / 2

/-- R407: CRC-32, polynomial 0x04C1_1DB7, reflected, initial value and final XOR 0xFFFF_FFFF. -/
def crc32 (l : List Byte) : Nat :=
  (l.foldl (fun r b => (List.range 8).foldl (fun r i => crc32Bit r (b.getLsbD i)) r) 0xFFFFFFFF) ^^^ 0xFFFFFFFF

/-- R409: CRC-64, polynomial 0x42F0_E1EB_A9EA_3693, not reflected, initial value all ones, no final XOR. -/
def crc64 (l : List Byte) : Nat := crcBytes 64 0x42F0E1EBA9EA3693 l (2 ^ 64 - 1)

end Sys2Proof.Machine
end

