-- ==== Sys2Proof/Machine/RegTable.lean ====
section
/-! DEFINITION. The register map of BAR0 (R682, R694 and every "Bits | Field | Type | Reset" table of the spec):
the byte address of each register, the place of each field, and for each page the writable masks and reset words. -/

namespace Sys2Proof.Machine

/-- A field of a register: the register's BAR0 byte address, the field's lowest bit and its width. -/
structure Fld where
  addr : Nat
  lo : Nat
  w : Nat
  deriving DecidableEq, Repr

/-- One row of the register map: `n1` copies `s1` bytes apart of `n2` copies `s2` bytes apart, from offset `off`
of the page; the masks of its RW, RWL and W1C bits; its word after reset (R24). -/
structure RegRow where
  off : Nat
  s1 : Nat
  n1 : Nat
  s2 : Nat
  n2 : Nat
  rw : Nat
  rwl : Nat
  w1c : Nat
  rst : Nat
  deriving DecidableEq, Repr

namespace R

/-- The Vector Control word of MSI-X entry `v` (R480). -/
def MSIX_CTRL (v : Nat) : Nat := 0xC0C + 0x10 * v
def MSIX_MASK (v : Nat) : Fld := ⟨MSIX_CTRL v, 0, 1⟩

/-- Base of context n's 64 bytes (R85). -/
def ctxBase (n : Nat) : Nat := 0x41000 + (n / 32) * 0x1000 + 0x40 + (n % 32) * 0x40
/-- The common header (R686): the header words of the page or sub-page at `page`. -/
def BLK_ID (page : Nat) : Nat := page
def BLK_VER (page : Nat) : Nat := page + 0x4
def BLK_CTRL (page : Nat) : Nat := page + 0x8
def BLK_STAT (page : Nat) : Nat := page + 0xC
def BLK_IRQ_RAW (page : Nat) : Nat := page + 0x10
def BLK_IRQ_EN (page : Nat) : Nat := page + 0x14
def BLK_IRQ_STAT (page : Nat) : Nat := page + 0x18
def BLK_FENCE (page : Nat) : Nat := page + 0x1C
def BLK_CTRL_ENABLE (page : Nat) : Fld := ⟨BLK_CTRL page, 0, 1⟩
def BLK_STAT_ACTIVE (page : Nat) : Fld := ⟨BLK_STAT page, 0, 1⟩
def BLK_STAT_SRST_BUSY (page : Nat) : Fld := ⟨BLK_STAT page, 1, 1⟩
def BLK_STAT_SRST_REFUSED (page : Nat) : Fld := ⟨BLK_STAT page, 31, 1⟩

/-- Global page, ch. 19. -/
def GLOBAL_CHIP_ID : Nat := 0x40
def GLOBAL_CHIP_ID_PART : Fld := ⟨GLOBAL_CHIP_ID, 16, 16⟩
def GLOBAL_CHIP_ID_CHANNELS : Fld := ⟨GLOBAL_CHIP_ID, 8, 8⟩
def GLOBAL_CHIP_ID_STEP_LETTER : Fld := ⟨GLOBAL_CHIP_ID, 4, 4⟩
def GLOBAL_CHIP_ID_STEP_NUM : Fld := ⟨GLOBAL_CHIP_ID, 0, 4⟩
/-- Global page, ch. 19. -/
def GLOBAL_ACC_ERR : Nat := 0x44
def GLOBAL_ACC_ERR_VALID : Fld := ⟨GLOBAL_ACC_ERR, 31, 1⟩
def GLOBAL_ACC_ERR_WRITE : Fld := ⟨GLOBAL_ACC_ERR, 30, 1⟩
def GLOBAL_ACC_ERR_CAUSE : Fld := ⟨GLOBAL_ACC_ERR, 28, 2⟩
def GLOBAL_ACC_ERR_OFFSET : Fld := ⟨GLOBAL_ACC_ERR, 0, 24⟩
/-- Global page, ch. 01. -/
def GLOBAL_TALLY_LO : Nat := 0x80
def GLOBAL_TALLY_LO_TALLY : Fld := ⟨GLOBAL_TALLY_LO, 0, 32⟩
/-- Global page, ch. 01. -/
def GLOBAL_TALLY_HI : Nat := 0x84
def GLOBAL_TALLY_HI_TALLY : Fld := ⟨GLOBAL_TALLY_HI, 0, 16⟩
/-- Global page, ch. 01. -/
def GLOBAL_SYNC_FENCE : Nat := 0x88
def GLOBAL_SYNC_FENCE_BAR2_PENDING : Fld := ⟨GLOBAL_SYNC_FENCE, 1, 1⟩
def GLOBAL_SYNC_FENCE_BAR0_PENDING : Fld := ⟨GLOBAL_SYNC_FENCE, 0, 1⟩
/-- Global page, ch. 03. -/
def GLOBAL_TABLE_WIN : Nat := 0x90
def GLOBAL_TABLE_WIN_KIND : Fld := ⟨GLOBAL_TABLE_WIN, 31, 1⟩
def GLOBAL_TABLE_WIN_SPINDLE : Fld := ⟨GLOBAL_TABLE_WIN, 16, 5⟩
def GLOBAL_TABLE_WIN_BANK : Fld := ⟨GLOBAL_TABLE_WIN, 0, 1⟩
/-- Global page, ch. 03. -/
def GLOBAL_PROF_CTRL : Nat := 0x94
def GLOBAL_PROF_CTRL_PUBLISH : Fld := ⟨GLOBAL_PROF_CTRL, 31, 1⟩
def GLOBAL_PROF_CTRL_STAGED : Fld := ⟨GLOBAL_PROF_CTRL, 24, 1⟩
def GLOBAL_PROF_CTRL_OLD_USERS : Fld := ⟨GLOBAL_PROF_CTRL, 0, 24⟩
/-- Global page, ch. 03. -/
def GLOBAL_TABLE_ERR : Nat := 0x98
def GLOBAL_TABLE_ERR_VALID : Fld := ⟨GLOBAL_TABLE_ERR, 31, 1⟩
def GLOBAL_TABLE_ERR_CAUSE : Fld := ⟨GLOBAL_TABLE_ERR, 24, 2⟩
def GLOBAL_TABLE_ERR_OFFSET : Fld := ⟨GLOBAL_TABLE_ERR, 0, 22⟩
/-- Global page, ch. 18. -/
def GLOBAL_PWR_TOL : Nat := 0x100
def GLOBAL_PWR_TOL_WAKE_TOLERANCE : Fld := ⟨GLOBAL_PWR_TOL, 0, 32⟩
/-- Global page, ch. 18. -/
def GLOBAL_PWR_CTRL : Nat := 0x104
def GLOBAL_PWR_CTRL_IDLE_HOLD_MS : Fld := ⟨GLOBAL_PWR_CTRL, 24, 8⟩
def GLOBAL_PWR_CTRL_ALLOW : Fld := ⟨GLOBAL_PWR_CTRL, 0, 3⟩
/-- Global page, ch. 18. -/
def GLOBAL_PWR_STAT : Nat := 0x108
def GLOBAL_PWR_STAT_TRANSITION : Fld := ⟨GLOBAL_PWR_STAT, 31, 1⟩
def GLOBAL_PWR_STAT_ARMED : Fld := ⟨GLOBAL_PWR_STAT, 30, 1⟩
def GLOBAL_PWR_STAT_WAKE_LATE : Fld := ⟨GLOBAL_PWR_STAT, 29, 1⟩
def GLOBAL_PWR_STAT_TARGET : Fld := ⟨GLOBAL_PWR_STAT, 4, 3⟩
def GLOBAL_PWR_STAT_STATE : Fld := ⟨GLOBAL_PWR_STAT, 0, 3⟩
/-- Global page, ch. 18. -/
def GLOBAL_RST_CTRL : Nat := 0x10C
def GLOBAL_RST_CTRL_PERST_FULL : Fld := ⟨GLOBAL_RST_CTRL, 0, 1⟩
/-- Global page, ch. 18. -/
def GLOBAL_RST_CMD : Nat := 0x110
def GLOBAL_RST_CMD_CHIP_RESET : Fld := ⟨GLOBAL_RST_CMD, 0, 1⟩
/-- Global page, ch. 18. -/
def GLOBAL_RST_STAT : Nat := 0x114
def GLOBAL_RST_STAT_CHIP_RESET_REFUSED : Fld := ⟨GLOBAL_RST_STAT, 31, 1⟩
def GLOBAL_RST_STAT_WARM_PERST : Fld := ⟨GLOBAL_RST_STAT, 8, 8⟩
def GLOBAL_RST_STAT_CAUSE : Fld := ⟨GLOBAL_RST_STAT, 0, 4⟩
/-- Global page, ch. 18. -/
def GLOBAL_START_CFG : Nat := 0x118
def GLOBAL_START_CFG_START_WAIT_MS : Fld := ⟨GLOBAL_START_CFG, 0, 16⟩
/-- Global page, ch. 18. -/
def GLOBAL_START_STAT : Nat := 0x11C
def GLOBAL_START_STAT_ALL_MS : Fld := ⟨GLOBAL_START_STAT, 16, 16⟩
def GLOBAL_START_STAT_ALL_DONE : Fld := ⟨GLOBAL_START_STAT, 7, 1⟩
def GLOBAL_START_STAT_AUX_DONE : Fld := ⟨GLOBAL_START_STAT, 6, 1⟩
def GLOBAL_START_STAT_HL_DONE : Fld := ⟨GLOBAL_START_STAT, 5, 1⟩
def GLOBAL_START_STAT_ROLES_DONE : Fld := ⟨GLOBAL_START_STAT, 4, 1⟩
def GLOBAL_START_STAT_TWIN_DONE : Fld := ⟨GLOBAL_START_STAT, 3, 1⟩
def GLOBAL_START_STAT_MC_DONE : Fld := ⟨GLOBAL_START_STAT, 2, 1⟩
def GLOBAL_START_STAT_PCIE_DONE : Fld := ⟨GLOBAL_START_STAT, 1, 1⟩
def GLOBAL_START_STAT_BOOT_DONE : Fld := ⟨GLOBAL_START_STAT, 0, 1⟩
/-- Global page, ch. 18. -/
def GLOBAL_BRK_CTRL : Nat := 0x120
def GLOBAL_BRK_CTRL_MISMATCH_US : Fld := ⟨GLOBAL_BRK_CTRL, 16, 16⟩
def GLOBAL_BRK_CTRL_IN_FILTER : Fld := ⟨GLOBAL_BRK_CTRL, 0, 6⟩
/-- Global page, ch. 18. -/
def GLOBAL_BRK_CMD : Nat := 0x124
def GLOBAL_BRK_CMD_RELEASE : Fld := ⟨GLOBAL_BRK_CMD, 1, 1⟩
def GLOBAL_BRK_CMD_ENGAGE : Fld := ⟨GLOBAL_BRK_CMD, 0, 1⟩
/-- Global page, ch. 18. -/
def GLOBAL_BRK_STAT : Nat := 0x128
def GLOBAL_BRK_STAT_ENGAGED : Fld := ⟨GLOBAL_BRK_STAT, 31, 1⟩
def GLOBAL_BRK_STAT_RELEASE_REFUSED : Fld := ⟨GLOBAL_BRK_STAT, 30, 1⟩
def GLOBAL_BRK_STAT_IN_MISMATCH : Fld := ⟨GLOBAL_BRK_STAT, 29, 1⟩
def GLOBAL_BRK_STAT_IN_STATE : Fld := ⟨GLOBAL_BRK_STAT, 27, 2⟩
def GLOBAL_BRK_STAT_LEVELS : Fld := ⟨GLOBAL_BRK_STAT, 0, 16⟩
/-- Global page, ch. 18. -/
def GLOBAL_BRK_CAUSE : Nat := 0x12C
def GLOBAL_BRK_CAUSE_CAUSE : Fld := ⟨GLOBAL_BRK_CAUSE, 0, 16⟩
/-- Global page, ch. 11. -/
def GLOBAL_BAR2_WIN_LO : Nat := 0x200
def GLOBAL_BAR2_WIN_LO_BASE : Fld := ⟨GLOBAL_BAR2_WIN_LO, 20, 12⟩
/-- Global page, ch. 11. -/
def GLOBAL_BAR2_WIN_HI : Nat := 0x204
def GLOBAL_BAR2_WIN_HI_BASE : Fld := ⟨GLOBAL_BAR2_WIN_HI, 0, 8⟩
/-- Global page, ch. 11. -/
def GLOBAL_BAR2_ERR : Nat := 0x208
def GLOBAL_BAR2_ERR_VALID : Fld := ⟨GLOBAL_BAR2_ERR, 31, 1⟩
def GLOBAL_BAR2_ERR_WRITE : Fld := ⟨GLOBAL_BAR2_ERR, 30, 1⟩
def GLOBAL_BAR2_ERR_CAUSE : Fld := ⟨GLOBAL_BAR2_ERR, 28, 2⟩
def GLOBAL_BAR2_ERR_OFFSET : Fld := ⟨GLOBAL_BAR2_ERR, 0, 28⟩
/-- Global page, ch. 11. -/
def GLOBAL_HP_STAT : Nat := 0x20C
def GLOBAL_HP_STAT_PTM_EN : Fld := ⟨GLOBAL_HP_STAT, 28, 1⟩
def GLOBAL_HP_STAT_WIDTH : Fld := ⟨GLOBAL_HP_STAT, 24, 4⟩
def GLOBAL_HP_STAT_RATE : Fld := ⟨GLOBAL_HP_STAT, 20, 4⟩
def GLOBAL_HP_STAT_LINK_DOWNS : Fld := ⟨GLOBAL_HP_STAT, 8, 8⟩
def GLOBAL_HP_STAT_FLRS : Fld := ⟨GLOBAL_HP_STAT, 0, 8⟩
/-- Global page, ch. 11. -/
def GLOBAL_LDR_RING_LO : Nat := 0x220
def GLOBAL_LDR_RING_LO_ADDR : Fld := ⟨GLOBAL_LDR_RING_LO, 12, 20⟩
/-- Global page, ch. 11. -/
def GLOBAL_LDR_RING_HI : Nat := 0x224
def GLOBAL_LDR_RING_HI_ADDR : Fld := ⟨GLOBAL_LDR_RING_HI, 0, 32⟩
/-- Global page, ch. 11. -/
def GLOBAL_LDR_CPL_LO : Nat := 0x228
def GLOBAL_LDR_CPL_LO_ADDR : Fld := ⟨GLOBAL_LDR_CPL_LO, 12, 20⟩
/-- Global page, ch. 11. -/
def GLOBAL_LDR_CPL_HI : Nat := 0x22C
def GLOBAL_LDR_CPL_HI_ADDR : Fld := ⟨GLOBAL_LDR_CPL_HI, 0, 32⟩
/-- Global page, ch. 11. -/
def GLOBAL_LDR_CFG : Nat := 0x230
def GLOBAL_LDR_CFG_EN : Fld := ⟨GLOBAL_LDR_CFG, 31, 1⟩
def GLOBAL_LDR_CFG_SIZE_LOG2 : Fld := ⟨GLOBAL_LDR_CFG, 0, 4⟩
/-- Global page, ch. 11. -/
def GLOBAL_LDR_DB : Nat := 0x234
def GLOBAL_LDR_DB_TAIL : Fld := ⟨GLOBAL_LDR_DB, 0, 12⟩
/-- Global page, ch. 11. -/
def GLOBAL_LDR_PTRS : Nat := 0x238
def GLOBAL_LDR_PTRS_TAIL : Fld := ⟨GLOBAL_LDR_PTRS, 16, 12⟩
def GLOBAL_LDR_PTRS_HEAD : Fld := ⟨GLOBAL_LDR_PTRS, 0, 12⟩
/-- Global page, ch. 11. -/
def GLOBAL_LDR_STAT : Nat := 0x23C
def GLOBAL_LDR_STAT_HALTED : Fld := ⟨GLOBAL_LDR_STAT, 31, 1⟩
def GLOBAL_LDR_STAT_BUSY : Fld := ⟨GLOBAL_LDR_STAT, 30, 1⟩
def GLOBAL_LDR_STAT_LAST_ERR : Fld := ⟨GLOBAL_LDR_STAT, 0, 4⟩
/-- Global page, ch. 11. -/
def GLOBAL_LDR_CMD : Nat := 0x240
def GLOBAL_LDR_CMD_ABORT : Fld := ⟨GLOBAL_LDR_CMD, 1, 1⟩
def GLOBAL_LDR_CMD_RESUME : Fld := ⟨GLOBAL_LDR_CMD, 0, 1⟩
/-- Global page, ch. 11. -/
def GLOBAL_LOG_RING_LO : Nat := 0x250
def GLOBAL_LOG_RING_LO_ADDR : Fld := ⟨GLOBAL_LOG_RING_LO, 12, 20⟩
/-- Global page, ch. 11. -/
def GLOBAL_LOG_RING_HI : Nat := 0x254
def GLOBAL_LOG_RING_HI_ADDR : Fld := ⟨GLOBAL_LOG_RING_HI, 0, 32⟩
/-- Global page, ch. 11. -/
def GLOBAL_LOG_WB_LO : Nat := 0x258
def GLOBAL_LOG_WB_LO_ADDR : Fld := ⟨GLOBAL_LOG_WB_LO, 4, 28⟩
/-- Global page, ch. 11. -/
def GLOBAL_LOG_WB_HI : Nat := 0x25C
def GLOBAL_LOG_WB_HI_ADDR : Fld := ⟨GLOBAL_LOG_WB_HI, 0, 32⟩
/-- Global page, ch. 11. -/
def GLOBAL_LOG_CFG : Nat := 0x260
def GLOBAL_LOG_CFG_EN : Fld := ⟨GLOBAL_LOG_CFG, 31, 1⟩
def GLOBAL_LOG_CFG_SIZE_LOG2 : Fld := ⟨GLOBAL_LOG_CFG, 16, 5⟩
def GLOBAL_LOG_CFG_WB_UNITS : Fld := ⟨GLOBAL_LOG_CFG, 0, 16⟩
/-- Global page, ch. 11. -/
def GLOBAL_LOG_RD : Nat := 0x264
def GLOBAL_LOG_RD_INDEX : Fld := ⟨GLOBAL_LOG_RD, 0, 25⟩
/-- Global page, ch. 11. -/
def GLOBAL_LOG_WR : Nat := 0x268
def GLOBAL_LOG_WR_INDEX : Fld := ⟨GLOBAL_LOG_WR, 0, 25⟩
/-- Global page, ch. 11. -/
def GLOBAL_LOG_CNT : Nat := 0x26C
def GLOBAL_LOG_CNT_RECORDS : Fld := ⟨GLOBAL_LOG_CNT, 16, 16⟩
def GLOBAL_LOG_CNT_DROPPED : Fld := ⟨GLOBAL_LOG_CNT, 0, 16⟩
/-- Global page, ch. 11. -/
def GLOBAL_PTM_CTRL : Nat := 0x280
def GLOBAL_PTM_CTRL_EN : Fld := ⟨GLOBAL_PTM_CTRL, 31, 1⟩
def GLOBAL_PTM_CTRL_PERIOD_MS : Fld := ⟨GLOBAL_PTM_CTRL, 16, 8⟩
def GLOBAL_PTM_CTRL_STEP_US : Fld := ⟨GLOBAL_PTM_CTRL, 0, 16⟩
/-- Global page, ch. 11. -/
def GLOBAL_PTM_STAT : Nat := 0x284
def GLOBAL_PTM_STAT_VALID : Fld := ⟨GLOBAL_PTM_STAT, 31, 1⟩
def GLOBAL_PTM_STAT_FAIL : Fld := ⟨GLOBAL_PTM_STAT, 30, 1⟩
def GLOBAL_PTM_STAT_DELAY_NS : Fld := ⟨GLOBAL_PTM_STAT, 0, 16⟩
/-- Global page, ch. 11. -/
def GLOBAL_WALL_LO : Nat := 0x288
def GLOBAL_WALL_LO_NS : Fld := ⟨GLOBAL_WALL_LO, 0, 32⟩
/-- Global page, ch. 11. -/
def GLOBAL_WALL_HI : Nat := 0x28C
def GLOBAL_WALL_HI_NS : Fld := ⟨GLOBAL_WALL_HI, 0, 32⟩
/-- Global page, ch. 11. -/
def GLOBAL_WALL_SET_LO : Nat := 0x290
def GLOBAL_WALL_SET_LO_NS : Fld := ⟨GLOBAL_WALL_SET_LO, 0, 32⟩
/-- Global page, ch. 11. -/
def GLOBAL_WALL_SET_HI : Nat := 0x294
def GLOBAL_WALL_SET_HI_NS : Fld := ⟨GLOBAL_WALL_SET_HI, 0, 32⟩
/-- Global page, ch. 11. -/
def GLOBAL_EPOCH : Nat := 0x298
def GLOBAL_EPOCH_EPOCH : Fld := ⟨GLOBAL_EPOCH, 0, 16⟩
/-- Global page, ch. 11. -/
def GLOBAL_HP_EVT : Nat := 0x2A0
def GLOBAL_HP_EVT_PTM_FAIL : Fld := ⟨GLOBAL_HP_EVT, 5, 1⟩
def GLOBAL_HP_EVT_FLR : Fld := ⟨GLOBAL_HP_EVT, 4, 1⟩
def GLOBAL_HP_EVT_LINK_DOWN : Fld := ⟨GLOBAL_HP_EVT, 3, 1⟩
def GLOBAL_HP_EVT_BAR2_ERR : Fld := ⟨GLOBAL_HP_EVT, 2, 1⟩
def GLOBAL_HP_EVT_LOG_DROP : Fld := ⟨GLOBAL_HP_EVT, 1, 1⟩
def GLOBAL_HP_EVT_LDR_HALT : Fld := ⟨GLOBAL_HP_EVT, 0, 1⟩
/-- Global page, ch. 11. -/
def GLOBAL_HP_EVT_EN : Nat := 0x2A4
def GLOBAL_HP_EVT_EN_ENABLE : Fld := ⟨GLOBAL_HP_EVT_EN, 0, 6⟩
/-- Sluice page, ch. 12. -/
def SLUICE_SW_PEND : Nat := 0x10040
def SLUICE_SW_PEND_CLEAR : Fld := ⟨SLUICE_SW_PEND, 8, 1⟩
def SLUICE_SW_PEND_SOURCE : Fld := ⟨SLUICE_SW_PEND, 0, 8⟩
/-- Sluice page, ch. 12. -/
def SLUICE_ERR : Nat := 0x10044
def SLUICE_ERR_VALID : Fld := ⟨SLUICE_ERR, 31, 1⟩
def SLUICE_ERR_CAUSE : Fld := ⟨SLUICE_ERR, 28, 3⟩
def SLUICE_ERR_CONTEXT : Fld := ⟨SLUICE_ERR, 8, 3⟩
def SLUICE_ERR_SOURCE : Fld := ⟨SLUICE_ERR, 0, 8⟩
/-- Sluice page, ch. 12. -/
def SLUICE_CTX_THRESH (c : Nat) : Nat := 0x10080 + 0x4 * c
def SLUICE_CTX_THRESH_THRESHOLD (c : Nat) : Fld := ⟨SLUICE_CTX_THRESH c, 0, 4⟩
/-- Sluice page, ch. 12. -/
def SLUICE_CTX_CLAIM (c : Nat) : Nat := 0x100A0 + 0x4 * c
def SLUICE_CTX_CLAIM_VALID (c : Nat) : Fld := ⟨SLUICE_CTX_CLAIM c, 31, 1⟩
def SLUICE_CTX_CLAIM_PRIO (c : Nat) : Fld := ⟨SLUICE_CTX_CLAIM c, 8, 4⟩
def SLUICE_CTX_CLAIM_SOURCE (c : Nat) : Fld := ⟨SLUICE_CTX_CLAIM c, 0, 8⟩
/-- Sluice page, ch. 12. -/
def SLUICE_CTX_COMPLETE (c : Nat) : Nat := 0x100C0 + 0x4 * c
def SLUICE_CTX_COMPLETE_FLUSH (c : Nat) : Fld := ⟨SLUICE_CTX_COMPLETE c, 31, 1⟩
def SLUICE_CTX_COMPLETE_SOURCE (c : Nat) : Fld := ⟨SLUICE_CTX_COMPLETE c, 0, 8⟩
/-- Sluice page, ch. 12. -/
def SLUICE_CTX_RUN (c : Nat) : Nat := 0x100E0 + 0x4 * c
def SLUICE_CTX_RUN_DEPTH (c : Nat) : Fld := ⟨SLUICE_CTX_RUN c, 16, 4⟩
def SLUICE_CTX_RUN_TOP_SOURCE (c : Nat) : Fld := ⟨SLUICE_CTX_RUN c, 8, 8⟩
def SLUICE_CTX_RUN_RPRI (c : Nat) : Fld := ⟨SLUICE_CTX_RUN c, 0, 4⟩
/-- Sluice page, ch. 12. -/
def SLUICE_CTX_EN_LO (c : Nat) : Nat := 0x10100 + 0x8 * c
def SLUICE_CTX_EN_LO_ENABLE (c : Nat) : Fld := ⟨SLUICE_CTX_EN_LO c, 0, 32⟩
/-- Sluice page, ch. 12. -/
def SLUICE_CTX_EN_HI (c : Nat) : Nat := 0x10104 + 0x8 * c
def SLUICE_CTX_EN_HI_ENABLE (c : Nat) : Fld := ⟨SLUICE_CTX_EN_HI c, 0, 32⟩
/-- Sluice page, ch. 12. -/
def SLUICE_SCAN_PEND (g : Nat) : Nat := 0x10140 + 0x4 * g
def SLUICE_SCAN_PEND_PENDING (g : Nat) : Fld := ⟨SLUICE_SCAN_PEND g, 0, 24⟩
/-- Sluice page, ch. 12. -/
def SLUICE_SCAN_ACK (g : Nat) : Nat := 0x10160 + 0x4 * g
def SLUICE_SCAN_ACK_ACK (g : Nat) : Fld := ⟨SLUICE_SCAN_ACK g, 0, 24⟩
/-- Sluice page, ch. 12. -/
def SLUICE_SCAN_EN (g : Nat) : Nat := 0x10180 + 0x4 * g
def SLUICE_SCAN_EN_ENABLE (g : Nat) : Fld := ⟨SLUICE_SCAN_EN g, 0, 24⟩
/-- Sluice page, ch. 12. -/
def SLUICE_COAL (v : Nat) : Nat := 0x101C0 + 0x4 * v
def SLUICE_COAL_COUNT (v : Nat) : Fld := ⟨SLUICE_COAL v, 24, 8⟩
def SLUICE_COAL_TIME_US (v : Nat) : Fld := ⟨SLUICE_COAL v, 0, 16⟩
/-- Sluice page, ch. 12. -/
def SLUICE_SRC_CFG (s : Nat) : Nat := 0x10400 + 0x4 * s
def SLUICE_SRC_CFG_FILTER (s : Nat) : Fld := ⟨SLUICE_SRC_CFG s, 16, 10⟩
def SLUICE_SRC_CFG_INVERT (s : Nat) : Fld := ⟨SLUICE_SRC_CFG s, 14, 1⟩
def SLUICE_SRC_CFG_MODE (s : Nat) : Fld := ⟨SLUICE_SRC_CFG s, 12, 2⟩
def SLUICE_SRC_CFG_PRIO (s : Nat) : Fld := ⟨SLUICE_SRC_CFG s, 0, 4⟩
/-- Sluice page, ch. 12. -/
def SLUICE_SRC_STAT (s : Nat) : Nat := 0x10800 + 0x4 * s
def SLUICE_SRC_STAT_PENDING (s : Nat) : Fld := ⟨SLUICE_SRC_STAT s, 31, 1⟩
def SLUICE_SRC_STAT_CLAIMED (s : Nat) : Fld := ⟨SLUICE_SRC_STAT s, 30, 1⟩
def SLUICE_SRC_STAT_FILTERED (s : Nat) : Fld := ⟨SLUICE_SRC_STAT s, 29, 1⟩
def SLUICE_SRC_STAT_RAW (s : Nat) : Fld := ⟨SLUICE_SRC_STAT s, 28, 1⟩
def SLUICE_SRC_STAT_OVERFLOW (s : Nat) : Fld := ⟨SLUICE_SRC_STAT s, 27, 1⟩
def SLUICE_SRC_STAT_SW_LATCH (s : Nat) : Fld := ⟨SLUICE_SRC_STAT s, 26, 1⟩
def SLUICE_SRC_STAT_COUNT (s : Nat) : Fld := ⟨SLUICE_SRC_STAT s, 0, 8⟩
/-- Millrace page, ch. 10. -/
def MC_CFG (m : Nat) : Nat := 0x20040 + 0x1000 * m
def MC_CFG_RDIMM (m : Nat) : Fld := ⟨MC_CFG m, 31, 1⟩
def MC_CFG_RANKS (m : Nat) : Fld := ⟨MC_CFG m, 30, 1⟩
def MC_CFG_DENSITY (m : Nat) : Fld := ⟨MC_CFG m, 29, 1⟩
def MC_CFG_REF_MODE (m : Nat) : Fld := ⟨MC_CFG m, 28, 1⟩
/-- Millrace page, ch. 10. -/
def MC_CTRL (m : Nat) : Nat := 0x20044 + 0x1000 * m
def MC_CTRL_RETRAIN (m : Nat) : Fld := ⟨MC_CTRL m, 31, 1⟩
def MC_CTRL_RATE (m : Nat) : Fld := ⟨MC_CTRL m, 29, 2⟩
def MC_CTRL_SCRUB_EN (m : Nat) : Fld := ⟨MC_CTRL m, 28, 1⟩
def MC_CTRL_NRR_EN (m : Nat) : Fld := ⟨MC_CTRL m, 27, 1⟩
def MC_CTRL_NRR_K (m : Nat) : Fld := ⟨MC_CTRL m, 16, 5⟩
def MC_CTRL_SCRUB_HOURS (m : Nat) : Fld := ⟨MC_CTRL m, 8, 8⟩
def MC_CTRL_PAGE_IDLE (m : Nat) : Fld := ⟨MC_CTRL m, 0, 8⟩
/-- Millrace page, ch. 10. -/
def MC_WQ (m : Nat) : Nat := 0x20048 + 0x1000 * m
def MC_WQ_HIGH_WM (m : Nat) : Fld := ⟨MC_WQ m, 16, 6⟩
def MC_WQ_LOW_WM (m : Nat) : Fld := ⟨MC_WQ m, 8, 6⟩
def MC_WQ_BATCH (m : Nat) : Fld := ⟨MC_WQ m, 0, 5⟩
/-- Millrace page, ch. 10. -/
def MC_MAP (m : Nat) : Nat := 0x2004C + 0x1000 * m
def MC_MAP_INTERLEAVE (m : Nat) : Fld := ⟨MC_MAP m, 31, 1⟩
def MC_MAP_MAP_ERR (m : Nat) : Fld := ⟨MC_MAP m, 30, 1⟩
/-- Millrace page, ch. 10. -/
def MC_STAT (m : Nat) : Nat := 0x20050 + 0x1000 * m
def MC_STAT_RATE_PENDING (m : Nat) : Fld := ⟨MC_STAT m, 31, 1⟩
def MC_STAT_RATE_NOW (m : Nat) : Fld := ⟨MC_STAT m, 29, 2⟩
def MC_STAT_HOT (m : Nat) : Fld := ⟨MC_STAT m, 28, 1⟩
def MC_STAT_RETRAIN_REFUSED (m : Nat) : Fld := ⟨MC_STAT m, 27, 1⟩
def MC_STAT_FAIL_CAUSE (m : Nat) : Fld := ⟨MC_STAT m, 20, 4⟩
def MC_STAT_TRAIN_STEP (m : Nat) : Fld := ⟨MC_STAT m, 16, 4⟩
def MC_STAT_ATTEMPT (m : Nat) : Fld := ⟨MC_STAT m, 8, 2⟩
def MC_STAT_STATE (m : Nat) : Fld := ⟨MC_STAT m, 0, 3⟩
/-- Millrace page, ch. 10. -/
def MC_CAPACITY (m : Nat) : Nat := 0x20054 + 0x1000 * m
def MC_CAPACITY_GIB (m : Nat) : Fld := ⟨MC_CAPACITY m, 0, 7⟩
/-- Millrace page, ch. 10. -/
def MC_REFRESH (m : Nat) : Nat := 0x20058 + 0x1000 * m
def MC_REFRESH_FORCED (m : Nat) : Fld := ⟨MC_REFRESH m, 16, 16⟩
def MC_REFRESH_DEBT_MAX (m : Nat) : Fld := ⟨MC_REFRESH m, 0, 4⟩
/-- Millrace page, ch. 10. -/
def MC_RT_LAT (m : Nat) : Nat := 0x2005C + 0x1000 * m
def MC_RT_LAT_MAX_NS (m : Nat) : Fld := ⟨MC_RT_LAT m, 16, 16⟩
def MC_RT_LAT_BOUND_NS (m : Nat) : Fld := ⟨MC_RT_LAT m, 0, 16⟩
/-- Millrace page, ch. 10. -/
def MC_ECC_CNT (m : Nat) : Nat := 0x20060 + 0x1000 * m
def MC_ECC_CNT_CE (m : Nat) : Fld := ⟨MC_ECC_CNT m, 16, 16⟩
def MC_ECC_CNT_UE (m : Nat) : Fld := ⟨MC_ECC_CNT m, 0, 16⟩
/-- Millrace page, ch. 10. -/
def MC_ECC_ADDR_LO (m : Nat) : Nat := 0x20064 + 0x1000 * m
def MC_ECC_ADDR_LO_ADDR (m : Nat) : Fld := ⟨MC_ECC_ADDR_LO m, 7, 25⟩
/-- Millrace page, ch. 10. -/
def MC_ECC_ADDR_HI (m : Nat) : Nat := 0x20068 + 0x1000 * m
def MC_ECC_ADDR_HI_VALID (m : Nat) : Fld := ⟨MC_ECC_ADDR_HI m, 31, 1⟩
def MC_ECC_ADDR_HI_UE (m : Nat) : Fld := ⟨MC_ECC_ADDR_HI m, 30, 1⟩
def MC_ECC_ADDR_HI_SYMBOL (m : Nat) : Fld := ⟨MC_ECC_ADDR_HI m, 16, 5⟩
def MC_ECC_ADDR_HI_ADDR (m : Nat) : Fld := ⟨MC_ECC_ADDR_HI m, 0, 8⟩
/-- Millrace page, ch. 10. -/
def MC_CNT0 (m : Nat) : Nat := 0x2006C + 0x1000 * m
def MC_CNT0_NRR (m : Nat) : Fld := ⟨MC_CNT0 m, 16, 16⟩
def MC_CNT0_WQ_FULL (m : Nat) : Fld := ⟨MC_CNT0 m, 0, 16⟩
/-- Millrace page, ch. 10. -/
def MC_CNT1 (m : Nat) : Nat := 0x20070 + 0x1000 * m
def MC_CNT1_MERGED (m : Nat) : Fld := ⟨MC_CNT1 m, 16, 16⟩
def MC_CNT1_PARTIAL (m : Nat) : Fld := ⟨MC_CNT1 m, 0, 16⟩
/-- Millrace page, ch. 10. -/
def MC_SCRUB (m : Nat) : Nat := 0x20074 + 0x1000 * m
def MC_SCRUB_PASSES (m : Nat) : Fld := ⟨MC_SCRUB m, 16, 16⟩
def MC_SCRUB_PROGRESS (m : Nat) : Fld := ⟨MC_SCRUB m, 0, 16⟩
/-- Hopper page, ch. 02. -/
def HOPPER_DOORBELL : Nat := 0x40040
def HOPPER_DOORBELL_STREAM : Fld := ⟨HOPPER_DOORBELL, 25, 7⟩
def HOPPER_DOORBELL_TAIL : Fld := ⟨HOPPER_DOORBELL, 0, 25⟩
/-- Hopper page, ch. 02. -/
def HOPPER_DOORBELL_ORD : Nat := 0x40044
def HOPPER_DOORBELL_ORD_STREAM : Fld := ⟨HOPPER_DOORBELL_ORD, 25, 7⟩
def HOPPER_DOORBELL_ORD_TAIL : Fld := ⟨HOPPER_DOORBELL_ORD, 0, 25⟩
/-- Hopper page, ch. 02. -/
def HOPPER_CTRL : Nat := 0x40048
def HOPPER_CTRL_SHARE_DEPTH : Fld := ⟨HOPPER_CTRL, 0, 4⟩
/-- Hopper page, ch. 02. -/
def HOPPER_FENCE_TIMEOUT : Nat := 0x4004C
def HOPPER_FENCE_TIMEOUT_TICKS : Fld := ⟨HOPPER_FENCE_TIMEOUT, 0, 32⟩
/-- Hopper page, ch. 02. -/
def HOPPER_FENCE_CTRL : Nat := 0x40050
def HOPPER_FENCE_CTRL_TIMEOUT_ACTION : Fld := ⟨HOPPER_FENCE_CTRL, 0, 2⟩
/-- Hopper page, ch. 02. -/
def HOPPER_FENCE_WAIT : Nat := 0x40054
def HOPPER_FENCE_WAIT_WAITING : Fld := ⟨HOPPER_FENCE_WAIT, 0, 24⟩
/-- Hopper page, ch. 02. -/
def HOPPER_FENCE_FAULT : Nat := 0x40058
def HOPPER_FENCE_FAULT_FAULT : Fld := ⟨HOPPER_FENCE_FAULT, 0, 24⟩
/-- Hopper page, ch. 02. -/
def HOPPER_LAYER_PASSED : Nat := 0x4005C
def HOPPER_LAYER_PASSED_PASSED : Fld := ⟨HOPPER_LAYER_PASSED, 0, 24⟩
/-- Hopper page, ch. 02. -/
def HOPPER_DB_ERR : Nat := 0x40060
def HOPPER_DB_ERR_VALID : Fld := ⟨HOPPER_DB_ERR, 31, 1⟩
def HOPPER_DB_ERR_CAUSE : Fld := ⟨HOPPER_DB_ERR, 0, 2⟩
/-- Hopper page, ch. 02. -/
def HOPPER_DB_ERR_WORD : Nat := 0x40064
def HOPPER_DB_ERR_WORD_WORD : Fld := ⟨HOPPER_DB_ERR_WORD, 0, 32⟩
/-- Hopper page, ch. 02. -/
def HOPPER_LAYER_COUNT : Nat := 0x40068
def HOPPER_LAYER_COUNT_LAYERS : Fld := ⟨HOPPER_LAYER_COUNT, 0, 32⟩
/-- Hopper page, ch. 02. -/
def HOPPER_SHARE_MASK (g : Nat) : Nat := 0x40100 + 0x4 * g
def HOPPER_SHARE_MASK_MEMBERS (g : Nat) : Fld := ⟨HOPPER_SHARE_MASK g, 0, 24⟩
/-- Stream contexts page, ch. 02. -/
def CTX_CTRL (n : Nat) : Nat := ctxBase n + 0x0
def CTX_CTRL_ENABLE (n : Nat) : Fld := ⟨CTX_CTRL n, 31, 1⟩
def CTX_CTRL_KIND (n : Nat) : Fld := ⟨CTX_CTRL n, 30, 1⟩
def CTX_CTRL_BIND (n : Nat) : Fld := ⟨CTX_CTRL n, 16, 6⟩
def CTX_CTRL_SHARE_ON_IDLE (n : Nat) : Fld := ⟨CTX_CTRL n, 7, 1⟩
def CTX_CTRL_LAYER_STOP (n : Nat) : Fld := ⟨CTX_CTRL n, 6, 1⟩
def CTX_CTRL_MAL_ACTION (n : Nat) : Fld := ⟨CTX_CTRL n, 5, 1⟩
def CTX_CTRL_CRC_CHECK (n : Nat) : Fld := ⟨CTX_CTRL n, 4, 1⟩
/-- Stream contexts page, ch. 02. -/
def CTX_BASE_LO (n : Nat) : Nat := ctxBase n + 0x4
def CTX_BASE_LO_BASE (n : Nat) : Fld := ⟨CTX_BASE_LO n, 12, 20⟩
/-- Stream contexts page, ch. 02. -/
def CTX_BASE_HI (n : Nat) : Nat := ctxBase n + 0x8
def CTX_BASE_HI_BASE (n : Nat) : Fld := ⟨CTX_BASE_HI n, 0, 8⟩
/-- Stream contexts page, ch. 02. -/
def CTX_SIZE (n : Nat) : Nat := ctxBase n + 0xC
def CTX_SIZE_SIZE_LOG2 (n : Nat) : Fld := ⟨CTX_SIZE n, 0, 5⟩
/-- Stream contexts page, ch. 02. -/
def CTX_HEAD (n : Nat) : Nat := ctxBase n + 0x10
def CTX_HEAD_INDEX (n : Nat) : Fld := ⟨CTX_HEAD n, 0, 25⟩
/-- Stream contexts page, ch. 02. -/
def CTX_FETCH (n : Nat) : Nat := ctxBase n + 0x14
def CTX_FETCH_INDEX (n : Nat) : Fld := ⟨CTX_FETCH n, 0, 25⟩
/-- Stream contexts page, ch. 02. -/
def CTX_TAIL (n : Nat) : Nat := ctxBase n + 0x18
def CTX_TAIL_INDEX (n : Nat) : Fld := ⟨CTX_TAIL n, 0, 25⟩
/-- Stream contexts page, ch. 02. -/
def CTX_STAT (n : Nat) : Nat := ctxBase n + 0x1C
def CTX_STAT_ERR_CODE (n : Nat) : Fld := ⟨CTX_STAT n, 16, 4⟩
def CTX_STAT_HALT_CAUSE (n : Nat) : Fld := ⟨CTX_STAT n, 12, 4⟩
def CTX_STAT_ENABLE_ERR (n : Nat) : Fld := ⟨CTX_STAT n, 8, 4⟩
def CTX_STAT_STATE (n : Nat) : Fld := ⟨CTX_STAT n, 0, 3⟩
/-- Stream contexts page, ch. 02. -/
def CTX_ACTION (n : Nat) : Nat := ctxBase n + 0x20
def CTX_ACTION_SKIP (n : Nat) : Fld := ⟨CTX_ACTION n, 1, 1⟩
def CTX_ACTION_RESUME (n : Nat) : Fld := ⟨CTX_ACTION n, 0, 1⟩
/-- Stream contexts page, ch. 02. -/
def CTX_ERR_INDEX (n : Nat) : Nat := ctxBase n + 0x24
def CTX_ERR_INDEX_INDEX (n : Nat) : Fld := ⟨CTX_ERR_INDEX n, 0, 25⟩
/-- Stream contexts page, ch. 02. -/
def CTX_WB_LO (n : Nat) : Nat := ctxBase n + 0x28
def CTX_WB_LO_ADDR (n : Nat) : Fld := ⟨CTX_WB_LO n, 4, 28⟩
/-- Stream contexts page, ch. 02. -/
def CTX_WB_HI (n : Nat) : Nat := ctxBase n + 0x2C
def CTX_WB_HI_ADDR (n : Nat) : Fld := ⟨CTX_WB_HI n, 0, 32⟩
/-- Stream contexts page, ch. 02. -/
def CTX_WB_CFG (n : Nat) : Nat := ctxBase n + 0x30
def CTX_WB_CFG_WB_EN (n : Nat) : Fld := ⟨CTX_WB_CFG n, 31, 1⟩
def CTX_WB_CFG_INTERVAL (n : Nat) : Fld := ⟨CTX_WB_CFG n, 0, 16⟩
/-- Stream contexts page, ch. 02. -/
def CTX_MARKER (n : Nat) : Nat := ctxBase n + 0x34
def CTX_MARKER_VALUE (n : Nat) : Fld := ⟨CTX_MARKER n, 0, 32⟩
/-- Stream contexts page, ch. 02. -/
def CTX_CNT0 (n : Nat) : Nat := ctxBase n + 0x38
def CTX_CNT0_ZERO_SKIPPED (n : Nat) : Fld := ⟨CTX_CNT0 n, 16, 16⟩
def CTX_CNT0_CLAMPED (n : Nat) : Fld := ⟨CTX_CNT0 n, 0, 16⟩
/-- Stream contexts page, ch. 02. -/
def CTX_CNT1 (n : Nat) : Nat := ctxBase n + 0x3C
def CTX_CNT1_MALFORMED (n : Nat) : Fld := ⟨CTX_CNT1 n, 16, 16⟩
def CTX_CNT1_UNDERRUN (n : Nat) : Fld := ⟨CTX_CNT1 n, 8, 8⟩
def CTX_CNT1_DRY (n : Nat) : Fld := ⟨CTX_CNT1 n, 0, 8⟩
/-- Spindle page, ch. 03. -/
def SPINDLE_TRAJ_CTRL (n : Nat) : Nat := 0x80040 + 0x1000 * n
def SPINDLE_TRAJ_CTRL_TRACK_BRAKE (n : Nat) : Fld := ⟨SPINDLE_TRAJ_CTRL n, 9, 1⟩
def SPINDLE_TRAJ_CTRL_GRID_EN (n : Nat) : Fld := ⟨SPINDLE_TRAJ_CTRL n, 8, 1⟩
def SPINDLE_TRAJ_CTRL_LOOKAHEAD (n : Nat) : Fld := ⟨SPINDLE_TRAJ_CTRL n, 0, 6⟩
/-- Spindle page, ch. 03. -/
def SPINDLE_STAT (n : Nat) : Nat := 0x80044 + 0x1000 * n
def SPINDLE_STAT_CFG_ERR (n : Nat) : Fld := ⟨SPINDLE_STAT n, 8, 4⟩
def SPINDLE_STAT_PROF_COPY (n : Nat) : Fld := ⟨SPINDLE_STAT n, 7, 1⟩
def SPINDLE_STAT_BANK (n : Nat) : Fld := ⟨SPINDLE_STAT n, 6, 1⟩
def SPINDLE_STAT_STATE (n : Nat) : Fld := ⟨SPINDLE_STAT n, 0, 3⟩
/-- Spindle page, ch. 03. -/
def SPINDLE_CMD (n : Nat) : Nat := 0x80048 + 0x1000 * n
def SPINDLE_CMD_BRAKE_RESUME (n : Nat) : Fld := ⟨SPINDLE_CMD n, 1, 1⟩
def SPINDLE_CMD_GRID_SWAP (n : Nat) : Fld := ⟨SPINDLE_CMD n, 0, 1⟩
/-- Spindle page, ch. 03. -/
def SPINDLE_FIELD_X0 (n : Nat) : Nat := 0x8004C + 0x1000 * n
def SPINDLE_FIELD_X0_ORIGIN (n : Nat) : Fld := ⟨SPINDLE_FIELD_X0 n, 0, 32⟩
/-- Spindle page, ch. 03. -/
def SPINDLE_FIELD_Y0 (n : Nat) : Nat := 0x80050 + 0x1000 * n
def SPINDLE_FIELD_Y0_ORIGIN (n : Nat) : Fld := ⟨SPINDLE_FIELD_Y0 n, 0, 32⟩
/-- Spindle page, ch. 03. -/
def SPINDLE_GRID_PITCH (n : Nat) : Nat := 0x80054 + 0x1000 * n
def SPINDLE_GRID_PITCH_PITCH (n : Nat) : Fld := ⟨SPINDLE_GRID_PITCH n, 0, 24⟩
/-- Spindle page, ch. 03. -/
def SPINDLE_AXIS_SCALE_X (n : Nat) : Nat := 0x80058 + 0x1000 * n
def SPINDLE_AXIS_SCALE_X_SCALE (n : Nat) : Fld := ⟨SPINDLE_AXIS_SCALE_X n, 0, 24⟩
/-- Spindle page, ch. 03. -/
def SPINDLE_AXIS_SCALE_Y (n : Nat) : Nat := 0x8005C + 0x1000 * n
def SPINDLE_AXIS_SCALE_Y_SCALE (n : Nat) : Fld := ⟨SPINDLE_AXIS_SCALE_Y n, 0, 24⟩
/-- Spindle page, ch. 03. -/
def SPINDLE_FOCUS (n : Nat) : Nat := 0x80060 + 0x1000 * n
def SPINDLE_FOCUS_FOCUS_SLEW (n : Nat) : Fld := ⟨SPINDLE_FOCUS n, 16, 16⟩
def SPINDLE_FOCUS_FOCUS_SCALE (n : Nat) : Fld := ⟨SPINDLE_FOCUS n, 0, 16⟩
/-- Spindle page, ch. 03. -/
def SPINDLE_TRACK (n : Nat) : Nat := 0x80064 + 0x1000 * n
def SPINDLE_TRACK_TRACK_HOLD (n : Nat) : Fld := ⟨SPINDLE_TRACK n, 16, 16⟩
def SPINDLE_TRACK_TRACK_LIMIT (n : Nat) : Fld := ⟨SPINDLE_TRACK n, 0, 16⟩
/-- Spindle page, ch. 03. -/
def SPINDLE_POS_X (n : Nat) : Nat := 0x80068 + 0x1000 * n
def SPINDLE_POS_X_COORD (n : Nat) : Fld := ⟨SPINDLE_POS_X n, 0, 32⟩
/-- Spindle page, ch. 03. -/
def SPINDLE_POS_Y (n : Nat) : Nat := 0x8006C + 0x1000 * n
def SPINDLE_POS_Y_COORD (n : Nat) : Fld := ⟨SPINDLE_POS_Y n, 0, 32⟩
/-- Spindle page, ch. 03. -/
def SPINDLE_CUR_TAG (n : Nat) : Nat := 0x80070 + 0x1000 * n
def SPINDLE_CUR_TAG_TAG (n : Nat) : Fld := ⟨SPINDLE_CUR_TAG n, 0, 24⟩
/-- Spindle page, ch. 03. -/
def SPINDLE_BRAKE_X (n : Nat) : Nat := 0x80074 + 0x1000 * n
def SPINDLE_BRAKE_X_COORD (n : Nat) : Fld := ⟨SPINDLE_BRAKE_X n, 0, 32⟩
/-- Spindle page, ch. 03. -/
def SPINDLE_BRAKE_Y (n : Nat) : Nat := 0x80078 + 0x1000 * n
def SPINDLE_BRAKE_Y_COORD (n : Nat) : Fld := ⟨SPINDLE_BRAKE_Y n, 0, 32⟩
/-- Spindle page, ch. 03. -/
def SPINDLE_BRAKE_TAG (n : Nat) : Nat := 0x8007C + 0x1000 * n
def SPINDLE_BRAKE_TAG_TAG (n : Nat) : Fld := ⟨SPINDLE_BRAKE_TAG n, 0, 24⟩
/-- Spindle page, ch. 03. -/
def SPINDLE_FACTORS (n : Nat) : Nat := 0x80080 + 0x1000 * n
def SPINDLE_FACTORS_CEILING (n : Nat) : Fld := ⟨SPINDLE_FACTORS n, 16, 16⟩
def SPINDLE_FACTORS_FEEDFWD (n : Nat) : Fld := ⟨SPINDLE_FACTORS n, 0, 16⟩
/-- Spindle page, ch. 03. -/
def SPINDLE_CNT0 (n : Nat) : Nat := 0x80084 + 0x1000 * n
def SPINDLE_CNT0_OUT_OF_FIELD (n : Nat) : Fld := ⟨SPINDLE_CNT0 n, 16, 16⟩
def SPINDLE_CNT0_STRETCHED (n : Nat) : Fld := ⟨SPINDLE_CNT0 n, 0, 16⟩
/-- Spindle page, ch. 03. -/
def SPINDLE_CNT1 (n : Nat) : Nat := 0x80088 + 0x1000 * n
def SPINDLE_CNT1_IMPLICIT_JUMP (n : Nat) : Fld := ⟨SPINDLE_CNT1 n, 16, 16⟩
def SPINDLE_CNT1_BROKEN_CHAIN (n : Nat) : Fld := ⟨SPINDLE_CNT1 n, 8, 8⟩
def SPINDLE_CNT1_SKY_CLIPPED (n : Nat) : Fld := ⟨SPINDLE_CNT1 n, 0, 8⟩
/-- Spindle page, ch. 03. -/
def SPINDLE_CNT2 (n : Nat) : Nat := 0x8008C + 0x1000 * n
def SPINDLE_CNT2_PLAN_LIMITED (n : Nat) : Fld := ⟨SPINDLE_CNT2 n, 16, 16⟩
def SPINDLE_CNT2_TRACK_EXCEED (n : Nat) : Fld := ⟨SPINDLE_CNT2 n, 0, 16⟩
/-- Spindle page, ch. 05. -/
def SPINDLE_TENT_CTRL (n : Nat) : Nat := 0x80100 + 0x1000 * n
def SPINDLE_TENT_CTRL_EN (n : Nat) : Fld := ⟨SPINDLE_TENT_CTRL n, 31, 1⟩
def SPINDLE_TENT_CTRL_LOSS_ACTION (n : Nat) : Fld := ⟨SPINDLE_TENT_CTRL n, 29, 2⟩
def SPINDLE_TENT_CTRL_RECOVER_COUNT (n : Nat) : Fld := ⟨SPINDLE_TENT_CTRL n, 16, 8⟩
def SPINDLE_TENT_CTRL_LOSS_LIMIT (n : Nat) : Fld := ⟨SPINDLE_TENT_CTRL n, 8, 8⟩
def SPINDLE_TENT_CTRL_KEEPER (n : Nat) : Fld := ⟨SPINDLE_TENT_CTRL n, 0, 8⟩
/-- Spindle page, ch. 05. -/
def SPINDLE_TENT_OFFSET_AB (n : Nat) : Nat := 0x80104 + 0x1000 * n
def SPINDLE_TENT_OFFSET_AB_OFFSET_B (n : Nat) : Fld := ⟨SPINDLE_TENT_OFFSET_AB n, 16, 16⟩
def SPINDLE_TENT_OFFSET_AB_OFFSET_A (n : Nat) : Fld := ⟨SPINDLE_TENT_OFFSET_AB n, 0, 16⟩
/-- Spindle page, ch. 05. -/
def SPINDLE_TENT_OFFSET_R (n : Nat) : Nat := 0x80108 + 0x1000 * n
def SPINDLE_TENT_OFFSET_R_OFFSET_R (n : Nat) : Fld := ⟨SPINDLE_TENT_OFFSET_R n, 0, 16⟩
/-- Spindle page, ch. 05. -/
def SPINDLE_TENT_GAIN_AB (n : Nat) : Nat := 0x8010C + 0x1000 * n
def SPINDLE_TENT_GAIN_AB_GAIN_B (n : Nat) : Fld := ⟨SPINDLE_TENT_GAIN_AB n, 16, 16⟩
def SPINDLE_TENT_GAIN_AB_GAIN_A (n : Nat) : Fld := ⟨SPINDLE_TENT_GAIN_AB n, 0, 16⟩
/-- Spindle page, ch. 05. -/
def SPINDLE_TENT_GAIN_R (n : Nat) : Nat := 0x80110 + 0x1000 * n
def SPINDLE_TENT_GAIN_R_GAIN_R (n : Nat) : Fld := ⟨SPINDLE_TENT_GAIN_R n, 0, 16⟩
/-- Spindle page, ch. 05. -/
def SPINDLE_TENT_EXC (n : Nat) : Nat := 0x80114 + 0x1000 * n
def SPINDLE_TENT_EXC_HOLD (n : Nat) : Fld := ⟨SPINDLE_TENT_EXC n, 16, 8⟩
def SPINDLE_TENT_EXC_BAND (n : Nat) : Fld := ⟨SPINDLE_TENT_EXC n, 0, 16⟩
/-- Spindle page, ch. 05. -/
def SPINDLE_TENT_STAT (n : Nat) : Nat := 0x80118 + 0x1000 * n
def SPINDLE_TENT_STAT_FACTOR (n : Nat) : Fld := ⟨SPINDLE_TENT_STAT n, 16, 16⟩
def SPINDLE_TENT_STAT_BAD_CAUSE (n : Nat) : Fld := ⟨SPINDLE_TENT_STAT n, 8, 4⟩
def SPINDLE_TENT_STAT_FALLBACK (n : Nat) : Fld := ⟨SPINDLE_TENT_STAT n, 7, 1⟩
def SPINDLE_TENT_STAT_SENSOR_LOST (n : Nat) : Fld := ⟨SPINDLE_TENT_STAT n, 6, 1⟩
def SPINDLE_TENT_STAT_SATURATED (n : Nat) : Fld := ⟨SPINDLE_TENT_STAT n, 5, 1⟩
def SPINDLE_TENT_STAT_EXCURSION (n : Nat) : Fld := ⟨SPINDLE_TENT_STAT n, 4, 1⟩
def SPINDLE_TENT_STAT_STATE (n : Nat) : Fld := ⟨SPINDLE_TENT_STAT n, 0, 3⟩
/-- Spindle page, ch. 05. -/
def SPINDLE_TENT_INDEX (n : Nat) : Nat := 0x8011C + 0x1000 * n
def SPINDLE_TENT_INDEX_SETPOINT (n : Nat) : Fld := ⟨SPINDLE_TENT_INDEX n, 16, 16⟩
def SPINDLE_TENT_INDEX_INDEX (n : Nat) : Fld := ⟨SPINDLE_TENT_INDEX n, 0, 16⟩
/-- Spindle page, ch. 05. -/
def SPINDLE_TENT_RAW_AB (n : Nat) : Nat := 0x80120 + 0x1000 * n
def SPINDLE_TENT_RAW_AB_PD_B (n : Nat) : Fld := ⟨SPINDLE_TENT_RAW_AB n, 16, 16⟩
def SPINDLE_TENT_RAW_AB_PD_A (n : Nat) : Fld := ⟨SPINDLE_TENT_RAW_AB n, 0, 16⟩
/-- Spindle page, ch. 05. -/
def SPINDLE_TENT_RAW_R (n : Nat) : Nat := 0x80124 + 0x1000 * n
def SPINDLE_TENT_RAW_R_BR (n : Nat) : Fld := ⟨SPINDLE_TENT_RAW_R n, 0, 16⟩
/-- Spindle page, ch. 05. -/
def SPINDLE_TENT_CNT0 (n : Nat) : Nat := 0x80128 + 0x1000 * n
def SPINDLE_TENT_CNT0_BLOCKS_SENT (n : Nat) : Fld := ⟨SPINDLE_TENT_CNT0 n, 16, 16⟩
def SPINDLE_TENT_CNT0_BAD (n : Nat) : Fld := ⟨SPINDLE_TENT_CNT0 n, 0, 16⟩
/-- Spindle page, ch. 05. -/
def SPINDLE_TENT_CNT1 (n : Nat) : Nat := 0x8012C + 0x1000 * n
def SPINDLE_TENT_CNT1_EXCURSIONS (n : Nat) : Fld := ⟨SPINDLE_TENT_CNT1 n, 16, 16⟩
def SPINDLE_TENT_CNT1_LOSSES (n : Nat) : Fld := ⟨SPINDLE_TENT_CNT1 n, 8, 8⟩
def SPINDLE_TENT_CNT1_SATURATIONS (n : Nat) : Fld := ⟨SPINDLE_TENT_CNT1 n, 0, 8⟩
/-- Spindle page, ch. 05. -/
def SPINDLE_TENT_CNT2 (n : Nat) : Nat := 0x80130 + 0x1000 * n
def SPINDLE_TENT_CNT2_CEIL_LIMITED (n : Nat) : Fld := ⟨SPINDLE_TENT_CNT2 n, 16, 16⟩
def SPINDLE_TENT_CNT2_STALE (n : Nat) : Fld := ⟨SPINDLE_TENT_CNT2 n, 0, 16⟩
/-- Spindle page, ch. 05. -/
def SPINDLE_TENT_EVT (n : Nat) : Nat := 0x80134 + 0x1000 * n
def SPINDLE_TENT_EVT_SATURATED (n : Nat) : Fld := ⟨SPINDLE_TENT_EVT n, 2, 1⟩
def SPINDLE_TENT_EVT_EXCURSION (n : Nat) : Fld := ⟨SPINDLE_TENT_EVT n, 1, 1⟩
def SPINDLE_TENT_EVT_SENSOR_LOST (n : Nat) : Fld := ⟨SPINDLE_TENT_EVT n, 0, 1⟩
/-- Spindle page, ch. 05. -/
def SPINDLE_TENT_EVT_EN (n : Nat) : Nat := 0x80138 + 0x1000 * n
def SPINDLE_TENT_EVT_EN_ENABLE (n : Nat) : Fld := ⟨SPINDLE_TENT_EVT_EN n, 0, 3⟩
/-- Fantail page, ch. 04. -/
def FANTAIL_FAN_CTRL : Nat := 0xA0040
def FANTAIL_FAN_CTRL_KEEP_EN : Fld := ⟨FANTAIL_FAN_CTRL, 31, 1⟩
def FANTAIL_FAN_CTRL_TERR_EN : Fld := ⟨FANTAIL_FAN_CTRL, 30, 1⟩
def FANTAIL_FAN_CTRL_IN_FLIGHT_ACTION : Fld := ⟨FANTAIL_FAN_CTRL, 28, 2⟩
def FANTAIL_FAN_CTRL_TERR_ACTION : Fld := ⟨FANTAIL_FAN_CTRL, 26, 2⟩
def FANTAIL_FAN_CTRL_SPLIT_EN : Fld := ⟨FANTAIL_FAN_CTRL, 25, 1⟩
def FANTAIL_FAN_CTRL_FLOW_OK_EN : Fld := ⟨FANTAIL_FAN_CTRL, 24, 1⟩
def FANTAIL_FAN_CTRL_FLOW_BRAKE : Fld := ⟨FANTAIL_FAN_CTRL, 23, 1⟩
def FANTAIL_FAN_CTRL_FLOW_OK_INPUT : Fld := ⟨FANTAIL_FAN_CTRL, 16, 5⟩
/-- Fantail page, ch. 04. -/
def FANTAIL_FLOW : Nat := 0xA0044
def FANTAIL_FLOW_ANGLE : Fld := ⟨FANTAIL_FLOW, 0, 16⟩
/-- Fantail page, ch. 04. -/
def FANTAIL_FLOW_TRIG : Nat := 0xA0048
def FANTAIL_FLOW_TRIG_SIN : Fld := ⟨FANTAIL_FLOW_TRIG, 16, 16⟩
def FANTAIL_FLOW_TRIG_COS : Fld := ⟨FANTAIL_FLOW_TRIG, 0, 16⟩
/-- Fantail page, ch. 04. -/
def FANTAIL_KEEP_A : Nat := 0xA004C
def FANTAIL_KEEP_A_KEEP_WIND : Fld := ⟨FANTAIL_KEEP_A, 16, 16⟩
def FANTAIL_KEEP_A_KEEP_MIN : Fld := ⟨FANTAIL_KEEP_A, 0, 16⟩
/-- Fantail page, ch. 04. -/
def FANTAIL_KEEP_B : Nat := 0xA0050
def FANTAIL_KEEP_B_GRANT_MARGIN : Fld := ⟨FANTAIL_KEEP_B, 16, 16⟩
def FANTAIL_KEEP_B_KEEP_HALF : Fld := ⟨FANTAIL_KEEP_B, 0, 16⟩
/-- Fantail page, ch. 04. -/
def FANTAIL_STITCH : Nat := 0xA0054
def FANTAIL_STITCH_STITCH_LEN : Fld := ⟨FANTAIL_STITCH, 16, 16⟩
def FANTAIL_STITCH_STITCH_MIN : Fld := ⟨FANTAIL_STITCH, 0, 16⟩
/-- Fantail page, ch. 04. -/
def FANTAIL_HANDOFF : Nat := 0xA0058
def FANTAIL_HANDOFF_QUEUE_PENALTY : Fld := ⟨FANTAIL_HANDOFF, 0, 16⟩
/-- Fantail page, ch. 04. -/
def FANTAIL_WAIT_LIMIT : Nat := 0xA005C
def FANTAIL_WAIT_LIMIT_TICKS : Fld := ⟨FANTAIL_WAIT_LIMIT, 0, 32⟩
/-- Fantail page, ch. 04. -/
def FANTAIL_TERR_BASE_LO : Nat := 0xA0060
def FANTAIL_TERR_BASE_LO_BASE : Fld := ⟨FANTAIL_TERR_BASE_LO, 12, 20⟩
/-- Fantail page, ch. 04. -/
def FANTAIL_TERR_BASE_HI : Nat := 0xA0064
def FANTAIL_TERR_BASE_HI_BASE : Fld := ⟨FANTAIL_TERR_BASE_HI, 0, 8⟩
/-- Fantail page, ch. 04. -/
def FANTAIL_TERR_X0 : Nat := 0xA0068
def FANTAIL_TERR_X0_ORIGIN : Fld := ⟨FANTAIL_TERR_X0, 0, 32⟩
/-- Fantail page, ch. 04. -/
def FANTAIL_TERR_Y0 : Nat := 0xA006C
def FANTAIL_TERR_Y0_ORIGIN : Fld := ⟨FANTAIL_TERR_Y0, 0, 32⟩
/-- Fantail page, ch. 04. -/
def FANTAIL_TERR_GEOM : Nat := 0xA0070
def FANTAIL_TERR_GEOM_PITCH : Fld := ⟨FANTAIL_TERR_GEOM, 0, 3⟩
/-- Fantail page, ch. 04. -/
def FANTAIL_GRANTED : Nat := 0xA0074
def FANTAIL_GRANTED_SPINDLES : Fld := ⟨FANTAIL_GRANTED, 0, 24⟩
/-- Fantail page, ch. 04. -/
def FANTAIL_WAITING : Nat := 0xA0078
def FANTAIL_WAITING_SPINDLES : Fld := ⟨FANTAIL_WAITING, 0, 24⟩
/-- Fantail page, ch. 04. -/
def FANTAIL_CUT_X : Nat := 0xA007C
def FANTAIL_CUT_X_COORD : Fld := ⟨FANTAIL_CUT_X, 0, 32⟩
/-- Fantail page, ch. 04. -/
def FANTAIL_CUT_Y : Nat := 0xA0080
def FANTAIL_CUT_Y_COORD : Fld := ⟨FANTAIL_CUT_Y, 0, 32⟩
/-- Fantail page, ch. 04. -/
def FANTAIL_CUT_INFO : Nat := 0xA0084
def FANTAIL_CUT_INFO_VALID : Fld := ⟨FANTAIL_CUT_INFO, 31, 1⟩
def FANTAIL_CUT_INFO_PLUME : Fld := ⟨FANTAIL_CUT_INFO, 30, 1⟩
def FANTAIL_CUT_INFO_WINNER : Fld := ⟨FANTAIL_CUT_INFO, 16, 5⟩
def FANTAIL_CUT_INFO_CUT : Fld := ⟨FANTAIL_CUT_INFO, 0, 5⟩
/-- Fantail page, ch. 04. -/
def FANTAIL_CNT0 : Nat := 0xA0088
def FANTAIL_CNT0_CUTS : Fld := ⟨FANTAIL_CNT0, 16, 16⟩
def FANTAIL_CNT0_INFLIGHT_LOGGED : Fld := ⟨FANTAIL_CNT0, 0, 16⟩
/-- Fantail page, ch. 04. -/
def FANTAIL_CNT1 : Nat := 0xA008C
def FANTAIL_CNT1_TERR_VIOL : Fld := ⟨FANTAIL_CNT1, 16, 16⟩
def FANTAIL_CNT1_SPLITS : Fld := ⟨FANTAIL_CNT1, 0, 16⟩
/-- Fantail page, ch. 04. -/
def FANTAIL_CNT2 : Nat := 0xA0090
def FANTAIL_CNT2_HANDOFFS : Fld := ⟨FANTAIL_CNT2, 16, 16⟩
def FANTAIL_CNT2_ORPHANS : Fld := ⟨FANTAIL_CNT2, 8, 8⟩
def FANTAIL_CNT2_FLOW_LOSSES : Fld := ⟨FANTAIL_CNT2, 0, 8⟩
/-- Fantail page, ch. 04. -/
def FANTAIL_WAIT_TICKS (n : Nat) : Nat := 0xA0100 + 0x4 * n
def FANTAIL_WAIT_TICKS_TICKS (n : Nat) : Fld := ⟨FANTAIL_WAIT_TICKS n, 0, 32⟩
/-- Heat ledger page, ch. 06. -/
def LEDGER_CTRL : Nat := 0xC0040
def LEDGER_CTRL_HALT_EN : Fld := ⟨LEDGER_CTRL, 31, 1⟩
def LEDGER_CTRL_FLOOR_HALT_EN : Fld := ⟨LEDGER_CTRL, 30, 1⟩
def LEDGER_CTRL_THR_EN : Fld := ⟨LEDGER_CTRL, 29, 1⟩
def LEDGER_CTRL_FF_EN : Fld := ⟨LEDGER_CTRL, 28, 1⟩
def LEDGER_CTRL_MP_LOSS_LIMIT : Fld := ⟨LEDGER_CTRL, 16, 8⟩
def LEDGER_CTRL_MP_RECOVER : Fld := ⟨LEDGER_CTRL, 8, 8⟩
/-- Heat ledger page, ch. 06. -/
def LEDGER_GRID_BASE_LO : Nat := 0xC0044
def LEDGER_GRID_BASE_LO_BASE : Fld := ⟨LEDGER_GRID_BASE_LO, 12, 20⟩
/-- Heat ledger page, ch. 06. -/
def LEDGER_GRID_BASE_HI : Nat := 0xC0048
def LEDGER_GRID_BASE_HI_BASE : Fld := ⟨LEDGER_GRID_BASE_HI, 0, 8⟩
/-- Heat ledger page, ch. 06. -/
def LEDGER_GRID_X0 : Nat := 0xC004C
def LEDGER_GRID_X0_ORIGIN : Fld := ⟨LEDGER_GRID_X0, 0, 32⟩
/-- Heat ledger page, ch. 06. -/
def LEDGER_GRID_Y0 : Nat := 0xC0050
def LEDGER_GRID_Y0_ORIGIN : Fld := ⟨LEDGER_GRID_Y0, 0, 32⟩
/-- Heat ledger page, ch. 06. -/
def LEDGER_GRID_GEOM : Nat := 0xC0054
def LEDGER_GRID_GEOM_PITCH : Fld := ⟨LEDGER_GRID_GEOM, 28, 3⟩
def LEDGER_GRID_GEOM_NY_M1 : Fld := ⟨LEDGER_GRID_GEOM, 16, 12⟩
def LEDGER_GRID_GEOM_NX_M1 : Fld := ⟨LEDGER_GRID_GEOM, 0, 12⟩
/-- Heat ledger page, ch. 06. -/
def LEDGER_DECAY : Nat := 0xC0058
def LEDGER_DECAY_TAU_US : Fld := ⟨LEDGER_DECAY, 0, 26⟩
/-- Heat ledger page, ch. 06. -/
def LEDGER_KERNEL : Nat := 0xC005C
def LEDGER_KERNEL_W_EDGE : Fld := ⟨LEDGER_KERNEL, 8, 8⟩
def LEDGER_KERNEL_W_CORNER : Fld := ⟨LEDGER_KERNEL, 0, 8⟩
/-- Heat ledger page, ch. 06. -/
def LEDGER_RECOAT : Nat := 0xC0060
def LEDGER_RECOAT_KEEP : Fld := ⟨LEDGER_RECOAT, 0, 16⟩
/-- Heat ledger page, ch. 06. -/
def LEDGER_RISE_TH : Nat := 0xC0064
def LEDGER_RISE_TH_RISE_HI : Fld := ⟨LEDGER_RISE_TH, 16, 16⟩
def LEDGER_RISE_TH_RISE_LO : Fld := ⟨LEDGER_RISE_TH, 0, 16⟩
/-- Heat ledger page, ch. 06. -/
def LEDGER_THR_CFG : Nat := 0xC0068
def LEDGER_THR_CFG_UP_HOLD : Fld := ⟨LEDGER_THR_CFG, 16, 8⟩
def LEDGER_THR_CFG_UP_INTERVAL : Fld := ⟨LEDGER_THR_CFG, 8, 8⟩
def LEDGER_THR_CFG_FLOOR : Fld := ⟨LEDGER_THR_CFG, 0, 6⟩
/-- Heat ledger page, ch. 06. -/
def LEDGER_TEMP_TH : Nat := 0xC006C
def LEDGER_TEMP_TH_T_HALT : Fld := ⟨LEDGER_TEMP_TH, 16, 16⟩
def LEDGER_TEMP_TH_T_WARN : Fld := ⟨LEDGER_TEMP_TH, 0, 16⟩
/-- Heat ledger page, ch. 06. -/
def LEDGER_HOLD_CFG : Nat := 0xC0070
def LEDGER_HOLD_CFG_TEMP_HOLD : Fld := ⟨LEDGER_HOLD_CFG, 16, 8⟩
def LEDGER_HOLD_CFG_FLOOR_HOLD : Fld := ⟨LEDGER_HOLD_CFG, 8, 8⟩
def LEDGER_HOLD_CFG_T_HYST : Fld := ⟨LEDGER_HOLD_CFG, 0, 8⟩
/-- Heat ledger page, ch. 06. -/
def LEDGER_CURVE_CFG : Nat := 0xC0074
def LEDGER_CURVE_CFG_STEP_LOG2 : Fld := ⟨LEDGER_CURVE_CFG, 0, 4⟩
/-- Heat ledger page, ch. 06. -/
def LEDGER_STAT : Nat := 0xC0078
def LEDGER_STAT_READY : Fld := ⟨LEDGER_STAT, 31, 1⟩
def LEDGER_STAT_FILLING : Fld := ⟨LEDGER_STAT, 30, 1⟩
def LEDGER_STAT_CFG_ERR : Fld := ⟨LEDGER_STAT, 0, 4⟩
/-- Heat ledger page, ch. 06. -/
def LEDGER_CMD : Nat := 0xC007C
def LEDGER_CMD_CHANNEL : Fld := ⟨LEDGER_CMD, 16, 5⟩
def LEDGER_CMD_MP_CLEAR : Fld := ⟨LEDGER_CMD, 1, 1⟩
def LEDGER_CMD_HALT_CLEAR : Fld := ⟨LEDGER_CMD, 0, 1⟩
/-- Heat ledger page, ch. 06. -/
def LEDGER_MP_FAILED : Nat := 0xC0080
def LEDGER_MP_FAILED_FAILED : Fld := ⟨LEDGER_MP_FAILED, 0, 24⟩
/-- Heat ledger page, ch. 06. -/
def LEDGER_MP_FAULT : Nat := 0xC0084
def LEDGER_MP_FAULT_FAULT : Fld := ⟨LEDGER_MP_FAULT, 0, 24⟩
/-- Heat ledger page, ch. 06. -/
def LEDGER_THROTTLED : Nat := 0xC0088
def LEDGER_THROTTLED_LEVEL_NZ : Fld := ⟨LEDGER_THROTTLED, 0, 24⟩
/-- Heat ledger page, ch. 06. -/
def LEDGER_FROZEN : Nat := 0xC008C
def LEDGER_FROZEN_FROZEN : Fld := ⟨LEDGER_FROZEN, 0, 24⟩
/-- Heat ledger page, ch. 06. -/
def LEDGER_HALT_STAT : Nat := 0xC0090
def LEDGER_HALT_STAT_HALTED : Fld := ⟨LEDGER_HALT_STAT, 31, 1⟩
def LEDGER_HALT_STAT_CLEAR_REFUSED : Fld := ⟨LEDGER_HALT_STAT, 30, 1⟩
def LEDGER_HALT_STAT_CAUSE : Fld := ⟨LEDGER_HALT_STAT, 24, 2⟩
def LEDGER_HALT_STAT_CHANNELS : Fld := ⟨LEDGER_HALT_STAT, 0, 24⟩
/-- Heat ledger page, ch. 06. -/
def LEDGER_HALT_CELL : Nat := 0xC0094
def LEDGER_HALT_CELL_J : Fld := ⟨LEDGER_HALT_CELL, 16, 12⟩
def LEDGER_HALT_CELL_I : Fld := ⟨LEDGER_HALT_CELL, 0, 12⟩
/-- Heat ledger page, ch. 06. -/
def LEDGER_NV_HALTS : Nat := 0xC0098
def LEDGER_NV_HALTS_LAST_SEQ : Fld := ⟨LEDGER_NV_HALTS, 16, 16⟩
def LEDGER_NV_HALTS_COUNT : Fld := ⟨LEDGER_NV_HALTS, 0, 16⟩
/-- Heat ledger page, ch. 06. -/
def LEDGER_CNT0 : Nat := 0xC009C
def LEDGER_CNT0_CELL_ERR : Fld := ⟨LEDGER_CNT0, 16, 16⟩
def LEDGER_CNT0_OUTSIDE : Fld := ⟨LEDGER_CNT0, 0, 16⟩
/-- Heat ledger page, ch. 06. -/
def LEDGER_CNT1 : Nat := 0xC00A0
def LEDGER_CNT1_RISE_EVENTS : Fld := ⟨LEDGER_CNT1, 16, 16⟩
def LEDGER_CNT1_WARN_EVENTS : Fld := ⟨LEDGER_CNT1, 0, 16⟩
/-- Heat ledger page, ch. 06. -/
def LEDGER_CNT2 : Nat := 0xC00A4
def LEDGER_CNT2_FF_LATE : Fld := ⟨LEDGER_CNT2, 16, 16⟩
def LEDGER_CNT2_HALTS : Fld := ⟨LEDGER_CNT2, 8, 8⟩
def LEDGER_CNT2_MP_FAILS : Fld := ⟨LEDGER_CNT2, 0, 8⟩
/-- Heat ledger page, ch. 06. -/
def LEDGER_CH_TEMP (n : Nat) : Nat := 0xC0100 + 0x10 * n
def LEDGER_CH_TEMP_T_FF (n : Nat) : Fld := ⟨LEDGER_CH_TEMP n, 16, 16⟩
def LEDGER_CH_TEMP_T_SPOT (n : Nat) : Fld := ⟨LEDGER_CH_TEMP n, 0, 16⟩
/-- Heat ledger page, ch. 06. -/
def LEDGER_CH_RISE (n : Nat) : Nat := 0xC0104 + 0x10 * n
def LEDGER_CH_RISE_RISE (n : Nat) : Fld := ⟨LEDGER_CH_RISE n, 0, 16⟩
/-- Heat ledger page, ch. 06. -/
def LEDGER_CH_THR (n : Nat) : Nat := 0xC0108 + 0x10 * n
def LEDGER_CH_THR_LEVEL (n : Nat) : Fld := ⟨LEDGER_CH_THR n, 16, 6⟩
def LEDGER_CH_THR_CEILING (n : Nat) : Fld := ⟨LEDGER_CH_THR n, 0, 16⟩
/-- Heat ledger page, ch. 06. -/
def LEDGER_CH_MP (n : Nat) : Nat := 0xC010C + 0x10 * n
def LEDGER_CH_MP_FAILED (n : Nat) : Fld := ⟨LEDGER_CH_MP n, 31, 1⟩
def LEDGER_CH_MP_FROZEN (n : Nat) : Fld := ⟨LEDGER_CH_MP n, 30, 1⟩
def LEDGER_CH_MP_MEASURED (n : Nat) : Fld := ⟨LEDGER_CH_MP n, 0, 16⟩
/-- Heat ledger page, ch. 06. -/
def LEDGER_DEP_GAIN (n : Nat) : Nat := 0xC0300 + 0x4 * n
def LEDGER_DEP_GAIN_GAIN (n : Nat) : Fld := ⟨LEDGER_DEP_GAIN n, 0, 24⟩
/-- Heat ledger page, ch. 06. -/
def LEDGER_CURVE (c k : Nat) : Nat := 0xC0400 + 0x80 * c + 0x4 * k
def LEDGER_CURVE_E_HI (c k : Nat) : Fld := ⟨LEDGER_CURVE c k, 16, 16⟩
def LEDGER_CURVE_E_LO (c k : Nat) : Fld := ⟨LEDGER_CURVE c k, 0, 16⟩
/-- Lane page, ch. 07. -/
def LANE_CTRL (k : Nat) : Nat := 0xD0040 + 0x400 * k
def LANE_CTRL_TX_INVERT (k : Nat) : Fld := ⟨LANE_CTRL k, 3, 1⟩
def LANE_CTRL_RATE (k : Nat) : Fld := ⟨LANE_CTRL k, 2, 1⟩
def LANE_CTRL_FALLBACK_EN (k : Nat) : Fld := ⟨LANE_CTRL k, 1, 1⟩
def LANE_CTRL_RX_INVERT (k : Nat) : Fld := ⟨LANE_CTRL k, 0, 1⟩
/-- Lane page, ch. 07. -/
def LANE_CMD (k : Nat) : Nat := 0xD0044 + 0x400 * k
def LANE_CMD_RETRAIN (k : Nat) : Fld := ⟨LANE_CMD k, 1, 1⟩
def LANE_CMD_START (k : Nat) : Fld := ⟨LANE_CMD k, 0, 1⟩
/-- Lane page, ch. 07. -/
def LANE_STAT (k : Nat) : Nat := 0xD0048 + 0x400 * k
def LANE_STAT_RATE_PENDING (k : Nat) : Fld := ⟨LANE_STAT k, 31, 1⟩
def LANE_STAT_RATE_NOW (k : Nat) : Fld := ⟨LANE_STAT k, 30, 1⟩
def LANE_STAT_BLOCK_LOCK (k : Nat) : Fld := ⟨LANE_STAT k, 29, 1⟩
def LANE_STAT_SIGNAL (k : Nat) : Fld := ⟨LANE_STAT k, 28, 1⟩
def LANE_STAT_ADAPT_FROZEN (k : Nat) : Fld := ⟨LANE_STAT k, 27, 1⟩
def LANE_STAT_FOM_LOW (k : Nat) : Fld := ⟨LANE_STAT k, 26, 1⟩
def LANE_STAT_ATTEMPT (k : Nat) : Fld := ⟨LANE_STAT k, 20, 3⟩
def LANE_STAT_FAIL_CAUSE (k : Nat) : Fld := ⟨LANE_STAT k, 16, 4⟩
def LANE_STAT_TRAIN_STEP (k : Nat) : Fld := ⟨LANE_STAT k, 12, 4⟩
def LANE_STAT_STATE (k : Nat) : Fld := ⟨LANE_STAT k, 0, 4⟩
/-- Lane page, ch. 07. -/
def LANE_TIMEOUT (k : Nat) : Nat := 0xD004C + 0x400 * k
def LANE_TIMEOUT_DETECT_MS (k : Nat) : Fld := ⟨LANE_TIMEOUT k, 24, 8⟩
def LANE_TIMEOUT_TRAIN_MS (k : Nat) : Fld := ⟨LANE_TIMEOUT k, 16, 8⟩
def LANE_TIMEOUT_LOCK_MS (k : Nat) : Fld := ⟨LANE_TIMEOUT k, 8, 8⟩
def LANE_TIMEOUT_EXCH_MS (k : Nat) : Fld := ⟨LANE_TIMEOUT k, 0, 8⟩
/-- Lane page, ch. 07. -/
def LANE_RETRY (k : Nat) : Nat := 0xD0050 + 0x400 * k
def LANE_RETRY_BACKOFF_MS (k : Nat) : Fld := ⟨LANE_RETRY k, 8, 8⟩
def LANE_RETRY_RETRIES (k : Nat) : Fld := ⟨LANE_RETRY k, 0, 2⟩
/-- Lane page, ch. 07. -/
def LANE_TX_EQ (k : Nat) : Nat := 0xD0054 + 0x400 * k
def LANE_TX_EQ_SWING (k : Nat) : Fld := ⟨LANE_TX_EQ k, 16, 6⟩
def LANE_TX_EQ_POST (k : Nat) : Fld := ⟨LANE_TX_EQ k, 8, 5⟩
def LANE_TX_EQ_PRE (k : Nat) : Fld := ⟨LANE_TX_EQ k, 0, 4⟩
/-- Lane page, ch. 07. -/
def LANE_TX_OVR (k : Nat) : Nat := 0xD0058 + 0x400 * k
def LANE_TX_OVR_EN (k : Nat) : Fld := ⟨LANE_TX_OVR k, 31, 1⟩
def LANE_TX_OVR_SWING (k : Nat) : Fld := ⟨LANE_TX_OVR k, 16, 6⟩
def LANE_TX_OVR_POST (k : Nat) : Fld := ⟨LANE_TX_OVR k, 8, 5⟩
def LANE_TX_OVR_PRE (k : Nat) : Fld := ⟨LANE_TX_OVR k, 0, 4⟩
/-- Lane page, ch. 07. -/
def LANE_RX_EQ (k : Nat) : Nat := 0xD005C + 0x400 * k
def LANE_RX_EQ_CTLE (k : Nat) : Fld := ⟨LANE_RX_EQ k, 28, 4⟩
def LANE_RX_EQ_DFE1 (k : Nat) : Fld := ⟨LANE_RX_EQ k, 21, 7⟩
def LANE_RX_EQ_DFE2 (k : Nat) : Fld := ⟨LANE_RX_EQ k, 16, 5⟩
def LANE_RX_EQ_DFE3 (k : Nat) : Fld := ⟨LANE_RX_EQ k, 11, 5⟩
def LANE_RX_EQ_DFE4 (k : Nat) : Fld := ⟨LANE_RX_EQ k, 6, 5⟩
def LANE_RX_EQ_DFE5 (k : Nat) : Fld := ⟨LANE_RX_EQ k, 1, 5⟩
/-- Lane page, ch. 07. -/
def LANE_ADAPT (k : Nat) : Nat := 0xD0060 + 0x400 * k
def LANE_ADAPT_ADAPT_EN (k : Nat) : Fld := ⟨LANE_ADAPT k, 31, 1⟩
def LANE_ADAPT_FAIL_RETRAIN (k : Nat) : Fld := ⟨LANE_ADAPT k, 30, 1⟩
def LANE_ADAPT_FAIL_WINDOWS (k : Nat) : Fld := ⟨LANE_ADAPT k, 24, 4⟩
def LANE_ADAPT_FOM_WARN (k : Nat) : Fld := ⟨LANE_ADAPT k, 16, 8⟩
def LANE_ADAPT_FOM_FAIL (k : Nat) : Fld := ⟨LANE_ADAPT k, 8, 8⟩
def LANE_ADAPT_HYST (k : Nat) : Fld := ⟨LANE_ADAPT k, 0, 4⟩
/-- Lane page, ch. 07. -/
def LANE_FOM (k : Nat) : Nat := 0xD0064 + 0x400 * k
def LANE_FOM_FOM (k : Nat) : Fld := ⟨LANE_FOM k, 24, 8⟩
def LANE_FOM_FOM_MIN (k : Nat) : Fld := ⟨LANE_FOM k, 16, 8⟩
def LANE_FOM_WINDOWS (k : Nat) : Fld := ⟨LANE_FOM k, 0, 16⟩
/-- Lane page, ch. 07. -/
def LANE_CNT0 (k : Nat) : Nat := 0xD0068 + 0x400 * k
def LANE_CNT0_HDR_ERR (k : Nat) : Fld := ⟨LANE_CNT0 k, 16, 16⟩
def LANE_CNT0_CHECK_ERR (k : Nat) : Fld := ⟨LANE_CNT0 k, 0, 16⟩
/-- Lane page, ch. 07. -/
def LANE_CNT1 (k : Nat) : Nat := 0xD006C + 0x400 * k
def LANE_CNT1_LOCK_LOSS (k : Nat) : Fld := ⟨LANE_CNT1 k, 24, 8⟩
def LANE_CNT1_RETRAINS (k : Nat) : Fld := ⟨LANE_CNT1 k, 16, 8⟩
def LANE_CNT1_UNKNOWN_TYPE (k : Nat) : Fld := ⟨LANE_CNT1 k, 0, 16⟩
/-- Lane page, ch. 07. -/
def LANE_CNT2 (k : Nat) : Nat := 0xD0070 + 0x400 * k
def LANE_CNT2_OOS_SENT (k : Nat) : Fld := ⟨LANE_CNT2 k, 16, 16⟩
def LANE_CNT2_KEEPER_ERR (k : Nat) : Fld := ⟨LANE_CNT2 k, 0, 16⟩
/-- Lane page, ch. 07. -/
def LANE_TEST (k : Nat) : Nat := 0xD0074 + 0x400 * k
def LANE_TEST_MODE (k : Nat) : Fld := ⟨LANE_TEST k, 30, 2⟩
def LANE_TEST_PG_PATTERN (k : Nat) : Fld := ⟨LANE_TEST k, 24, 4⟩
def LANE_TEST_PG_SCRAMBLE (k : Nat) : Fld := ⟨LANE_TEST k, 23, 1⟩
def LANE_TEST_PC_PATTERN (k : Nat) : Fld := ⟨LANE_TEST k, 16, 4⟩
def LANE_TEST_PC_DESCRAMBLE (k : Nat) : Fld := ⟨LANE_TEST k, 15, 1⟩
/-- Lane page, ch. 07. -/
def LANE_PG_USER_LO (k : Nat) : Nat := 0xD0078 + 0x400 * k
def LANE_PG_USER_LO_PATTERN (k : Nat) : Fld := ⟨LANE_PG_USER_LO k, 0, 32⟩
/-- Lane page, ch. 07. -/
def LANE_PG_USER_HI (k : Nat) : Nat := 0xD007C + 0x400 * k
def LANE_PG_USER_HI_PATTERN (k : Nat) : Fld := ⟨LANE_PG_USER_HI k, 0, 32⟩
/-- Lane page, ch. 07. -/
def LANE_TEST_STAT (k : Nat) : Nat := 0xD0080 + 0x400 * k
def LANE_TEST_STAT_SYNC (k : Nat) : Fld := ⟨LANE_TEST_STAT k, 31, 1⟩
def LANE_TEST_STAT_TEST_REFUSED (k : Nat) : Fld := ⟨LANE_TEST_STAT k, 30, 1⟩
def LANE_TEST_STAT_INJ_REFUSED (k : Nat) : Fld := ⟨LANE_TEST_STAT k, 29, 1⟩
def LANE_TEST_STAT_SLIPS (k : Nat) : Fld := ⟨LANE_TEST_STAT k, 8, 8⟩
def LANE_TEST_STAT_SYNC_LOSS (k : Nat) : Fld := ⟨LANE_TEST_STAT k, 0, 8⟩
/-- Lane page, ch. 07. -/
def LANE_PC_BITS_LO (k : Nat) : Nat := 0xD0084 + 0x400 * k
def LANE_PC_BITS_LO_BITS (k : Nat) : Fld := ⟨LANE_PC_BITS_LO k, 0, 32⟩
/-- Lane page, ch. 07. -/
def LANE_PC_BITS_HI (k : Nat) : Nat := 0xD0088 + 0x400 * k
def LANE_PC_BITS_HI_BITS (k : Nat) : Fld := ⟨LANE_PC_BITS_HI k, 0, 16⟩
/-- Lane page, ch. 07. -/
def LANE_PC_ERRS (k : Nat) : Nat := 0xD008C + 0x400 * k
def LANE_PC_ERRS_ERRORS (k : Nat) : Fld := ⟨LANE_PC_ERRS k, 0, 32⟩
/-- Lane page, ch. 07. -/
def LANE_INJ_CFG (k : Nat) : Nat := 0xD0090 + 0x400 * k
def LANE_INJ_CFG_KIND (k : Nat) : Fld := ⟨LANE_INJ_CFG k, 30, 2⟩
def LANE_INJ_CFG_LIVE (k : Nat) : Fld := ⟨LANE_INJ_CFG k, 29, 1⟩
def LANE_INJ_CFG_BIT (k : Nat) : Fld := ⟨LANE_INJ_CFG k, 23, 6⟩
def LANE_INJ_CFG_BURST (k : Nat) : Fld := ⟨LANE_INJ_CFG k, 17, 6⟩
def LANE_INJ_CFG_INTERVAL (k : Nat) : Fld := ⟨LANE_INJ_CFG k, 0, 16⟩
/-- Lane page, ch. 07. -/
def LANE_INJ_CTL (k : Nat) : Nat := 0xD0094 + 0x400 * k
def LANE_INJ_CTL_GO (k : Nat) : Fld := ⟨LANE_INJ_CTL k, 31, 1⟩
def LANE_INJ_CTL_STOP (k : Nat) : Fld := ⟨LANE_INJ_CTL k, 30, 1⟩
def LANE_INJ_CTL_COUNT (k : Nat) : Fld := ⟨LANE_INJ_CTL k, 8, 8⟩
def LANE_INJ_CTL_DONE (k : Nat) : Fld := ⟨LANE_INJ_CTL k, 0, 8⟩
/-- Lane page, ch. 07. -/
def LANE_PEER (k : Nat) : Nat := 0xD0098 + 0x400 * k
def LANE_PEER_PEER_ID (k : Nat) : Fld := ⟨LANE_PEER k, 16, 16⟩
def LANE_PEER_PORT (k : Nat) : Fld := ⟨LANE_PEER k, 15, 1⟩
def LANE_PEER_ROLE (k : Nat) : Fld := ⟨LANE_PEER k, 8, 4⟩
def LANE_PEER_LANE (k : Nat) : Fld := ⟨LANE_PEER k, 0, 6⟩
/-- Lane page, ch. 08. -/
def PROTO_CTRL (k : Nat) : Nat := 0xD0100 + 0x400 * k
def PROTO_CTRL_LOSS_BRAKE (k : Nat) : Fld := ⟨PROTO_CTRL k, 0, 1⟩
/-- Lane page, ch. 08. -/
def PROTO_STAT (k : Nat) : Nat := 0xD0104 + 0x400 * k
def PROTO_STAT_CAP_VALID (k : Nat) : Fld := ⟨PROTO_STAT k, 31, 1⟩
def PROTO_STAT_CAP_FAULT (k : Nat) : Fld := ⟨PROTO_STAT k, 30, 1⟩
def PROTO_STAT_COMPAT (k : Nat) : Fld := ⟨PROTO_STAT k, 29, 1⟩
def PROTO_STAT_FAULT_CAUSE (k : Nat) : Fld := ⟨PROTO_STAT k, 24, 4⟩
def PROTO_STAT_BSEQ_ECHO (k : Nat) : Fld := ⟨PROTO_STAT k, 16, 8⟩
def PROTO_STAT_CSEQ_ECHO (k : Nat) : Fld := ⟨PROTO_STAT k, 8, 8⟩
/-- Lane page, ch. 08. -/
def CAP0 (k : Nat) : Nat := 0xD0108 + 0x400 * k
def CAP0_WORD (k : Nat) : Fld := ⟨CAP0 k, 0, 32⟩
/-- Lane page, ch. 08. -/
def CAP1 (k : Nat) : Nat := 0xD010C + 0x400 * k
def CAP1_WORD (k : Nat) : Fld := ⟨CAP1 k, 0, 32⟩
/-- Lane page, ch. 08. -/
def CAP2 (k : Nat) : Nat := 0xD0110 + 0x400 * k
def CAP2_WORD (k : Nat) : Fld := ⟨CAP2 k, 0, 32⟩
/-- Lane page, ch. 08. -/
def CAP3 (k : Nat) : Nat := 0xD0114 + 0x400 * k
def CAP3_WORD (k : Nat) : Fld := ⟨CAP3 k, 0, 32⟩
/-- Lane page, ch. 08. -/
def PROTO_CNT0 (k : Nat) : Nat := 0xD0118 + 0x400 * k
def PROTO_CNT0_CHK_ERR (k : Nat) : Fld := ⟨PROTO_CNT0 k, 16, 16⟩
def PROTO_CNT0_TICK_MARK_SKIP (k : Nat) : Fld := ⟨PROTO_CNT0 k, 0, 16⟩
/-- Lane page, ch. 08. -/
def PROTO_CNT1 (k : Nat) : Nat := 0xD011C + 0x400 * k
def PROTO_CNT1_BUF_UNDER (k : Nat) : Fld := ⟨PROTO_CNT1 k, 16, 16⟩
def PROTO_CNT1_CSEQ_GAP (k : Nat) : Fld := ⟨PROTO_CNT1 k, 8, 8⟩
def PROTO_CNT1_MGMT_RETRY (k : Nat) : Fld := ⟨PROTO_CNT1 k, 0, 8⟩
/-- Lane page, ch. 08. -/
def MGMT_CMD (k : Nat) : Nat := 0xD0120 + 0x400 * k
def MGMT_CMD_GO (k : Nat) : Fld := ⟨MGMT_CMD k, 31, 1⟩
def MGMT_CMD_WRITE (k : Nat) : Fld := ⟨MGMT_CMD k, 30, 1⟩
def MGMT_CMD_ADDR (k : Nat) : Fld := ⟨MGMT_CMD k, 0, 15⟩
/-- Lane page, ch. 08. -/
def MGMT_WDATA (k : Nat) : Nat := 0xD0124 + 0x400 * k
def MGMT_WDATA_DATA (k : Nat) : Fld := ⟨MGMT_WDATA k, 0, 32⟩
/-- Lane page, ch. 08. -/
def MGMT_RDATA (k : Nat) : Nat := 0xD0128 + 0x400 * k
def MGMT_RDATA_DATA (k : Nat) : Fld := ⟨MGMT_RDATA k, 0, 32⟩
/-- Lane page, ch. 08. -/
def MGMT_STAT (k : Nat) : Nat := 0xD012C + 0x400 * k
def MGMT_STAT_DONE (k : Nat) : Fld := ⟨MGMT_STAT k, 31, 1⟩
def MGMT_STAT_FAILED (k : Nat) : Fld := ⟨MGMT_STAT k, 30, 1⟩
def MGMT_STAT_RSTAT (k : Nat) : Fld := ⟨MGMT_STAT k, 0, 4⟩
/-- Lane page, ch. 08. -/
def PROTO_EVT (k : Nat) : Nat := 0xD0130 + 0x400 * k
def PROTO_EVT_CAM_DAMAGED (k : Nat) : Fld := ⟨PROTO_EVT k, 7, 1⟩
def PROTO_EVT_CAM_FRAME (k : Nat) : Fld := ⟨PROTO_EVT k, 6, 1⟩
def PROTO_EVT_LANE_LOSS (k : Nat) : Fld := ⟨PROTO_EVT k, 5, 1⟩
def PROTO_EVT_PARTNER_FAULT (k : Nat) : Fld := ⟨PROTO_EVT k, 4, 1⟩
def PROTO_EVT_BRAKE_ECHO (k : Nat) : Fld := ⟨PROTO_EVT k, 3, 1⟩
def PROTO_EVT_MGMT_DONE (k : Nat) : Fld := ⟨PROTO_EVT k, 2, 1⟩
def PROTO_EVT_CAP_FAULT (k : Nat) : Fld := ⟨PROTO_EVT k, 1, 1⟩
def PROTO_EVT_CAP_DONE (k : Nat) : Fld := ⟨PROTO_EVT k, 0, 1⟩
/-- Lane page, ch. 08. -/
def PROTO_EVT_EN (k : Nat) : Nat := 0xD0134 + 0x400 * k
def PROTO_EVT_EN_ENABLE (k : Nat) : Fld := ⟨PROTO_EVT_EN k, 0, 8⟩
/-- Lane page, ch. 08. -/
def CAM_CTRL (k : Nat) : Nat := 0xD0140 + 0x400 * k
def CAM_CTRL_EN (k : Nat) : Fld := ⟨CAM_CTRL k, 31, 1⟩
def CAM_CTRL_SIZE_ERR (k : Nat) : Fld := ⟨CAM_CTRL k, 30, 1⟩
def CAM_CTRL_SIZE_LOG2 (k : Nat) : Fld := ⟨CAM_CTRL k, 0, 5⟩
/-- Lane page, ch. 08. -/
def CAM_BASE_LO (k : Nat) : Nat := 0xD0144 + 0x400 * k
def CAM_BASE_LO_BASE (k : Nat) : Fld := ⟨CAM_BASE_LO k, 12, 20⟩
/-- Lane page, ch. 08. -/
def CAM_BASE_HI (k : Nat) : Nat := 0xD0148 + 0x400 * k
def CAM_BASE_HI_BASE (k : Nat) : Fld := ⟨CAM_BASE_HI k, 0, 8⟩
/-- Lane page, ch. 08. -/
def CAM_WR (k : Nat) : Nat := 0xD014C + 0x400 * k
def CAM_WR_INDEX (k : Nat) : Fld := ⟨CAM_WR k, 0, 25⟩
/-- Lane page, ch. 08. -/
def CAM_RD (k : Nat) : Nat := 0xD0150 + 0x400 * k
def CAM_RD_INDEX (k : Nat) : Fld := ⟨CAM_RD k, 0, 25⟩
/-- Lane page, ch. 08. -/
def CAM_CNT (k : Nat) : Nat := 0xD0154 + 0x400 * k
def CAM_CNT_FRAMES (k : Nat) : Fld := ⟨CAM_CNT k, 16, 16⟩
def CAM_CNT_DAMAGED (k : Nat) : Fld := ⟨CAM_CNT k, 8, 8⟩
def CAM_CNT_OVERRUN (k : Nat) : Fld := ⟨CAM_CNT k, 0, 8⟩
/-- Lane page, ch. 08. -/
def XY2_CTRL (k : Nat) : Nat := 0xD0180 + 0x400 * k
def XY2_CTRL_EN (k : Nat) : Fld := ⟨XY2_CTRL k, 31, 1⟩
def XY2_CTRL_ERR (k : Nat) : Fld := ⟨XY2_CTRL k, 30, 1⟩
def XY2_CTRL_SPINDLE (k : Nat) : Fld := ⟨XY2_CTRL k, 16, 5⟩
def XY2_CTRL_HEAD_DELAY (k : Nat) : Fld := ⟨XY2_CTRL k, 0, 8⟩
/-- Twin page, ch. 09. -/
def TWIN_CTRL : Nat := 0x100040
def TWIN_CTRL_EN : Fld := ⟨TWIN_CTRL, 31, 1⟩
def TWIN_CTRL_MODE : Fld := ⟨TWIN_CTRL, 30, 1⟩
def TWIN_CTRL_PREFER : Fld := ⟨TWIN_CTRL, 29, 1⟩
def TWIN_CTRL_AUTO_RESUME : Fld := ⟨TWIN_CTRL, 28, 1⟩
def TWIN_CTRL_DUP_BRAKE : Fld := ⟨TWIN_CTRL, 27, 1⟩
def TWIN_CTRL_HANDOVER_MASK : Fld := ⟨TWIN_CTRL, 0, 15⟩
/-- Twin page, ch. 09. -/
def TWIN_STAT : Nat := 0x100044
def TWIN_STAT_READY : Fld := ⟨TWIN_STAT, 31, 1⟩
def TWIN_STAT_HANDOVER_REFUSED : Fld := ⟨TWIN_STAT, 30, 1⟩
def TWIN_STAT_SOLO_REFUSED : Fld := ⟨TWIN_STAT, 29, 1⟩
def TWIN_STAT_PAIR_ERR : Fld := ⟨TWIN_STAT, 20, 4⟩
def TWIN_STAT_LINK_LANES : Fld := ⟨TWIN_STAT, 16, 4⟩
def TWIN_STAT_PARTNER_ROLE : Fld := ⟨TWIN_STAT, 8, 4⟩
def TWIN_STAT_ROLE : Fld := ⟨TWIN_STAT, 0, 4⟩
/-- Twin page, ch. 09. -/
def TWIN_HEALTH : Nat := 0x100048
def TWIN_HEALTH_WORD : Fld := ⟨TWIN_HEALTH, 0, 32⟩
/-- Twin page, ch. 09. -/
def TWIN_PEER_HEALTH : Nat := 0x10004C
def TWIN_PEER_HEALTH_WORD : Fld := ⟨TWIN_PEER_HEALTH, 0, 32⟩
/-- Twin page, ch. 09. -/
def TWIN_CMD : Nat := 0x100050
def TWIN_CMD_SOLO : Fld := ⟨TWIN_CMD, 1, 1⟩
def TWIN_CMD_HANDOVER : Fld := ⟨TWIN_CMD, 0, 1⟩
/-- Twin page, ch. 09. -/
def TWIN_TIMING : Nat := 0x100054
def TWIN_TIMING_BEACON_LOSS : Fld := ⟨TWIN_TIMING, 24, 8⟩
def TWIN_TIMING_ALIVE_SILENT : Fld := ⟨TWIN_TIMING, 16, 8⟩
def TWIN_TIMING_REJOIN_CYCLES : Fld := ⟨TWIN_TIMING, 0, 16⟩
/-- Twin page, ch. 09. -/
def TWIN_TIMING2 : Nat := 0x100058
def TWIN_TIMING2_DUP_RELOCK : Fld := ⟨TWIN_TIMING2, 16, 16⟩
def TWIN_TIMING2_PAIR_TIMEOUT : Fld := ⟨TWIN_TIMING2, 0, 8⟩
/-- Twin page, ch. 09. -/
def TWIN_PEER_UID_LO : Nat := 0x10005C
def TWIN_PEER_UID_LO_UID : Fld := ⟨TWIN_PEER_UID_LO, 0, 32⟩
/-- Twin page, ch. 09. -/
def TWIN_PEER_UID_HI : Nat := 0x100060
def TWIN_PEER_UID_HI_UID : Fld := ⟨TWIN_PEER_UID_HI, 0, 32⟩
/-- Twin page, ch. 09. -/
def TWIN_LAST_F_LO : Nat := 0x100064
def TWIN_LAST_F_LO_TALLY : Fld := ⟨TWIN_LAST_F_LO, 0, 32⟩
/-- Twin page, ch. 09. -/
def TWIN_LAST_F_HI : Nat := 0x100068
def TWIN_LAST_F_HI_TALLY : Fld := ⟨TWIN_LAST_F_HI, 0, 16⟩
/-- Twin page, ch. 09. -/
def TWIN_LAST_S_LO : Nat := 0x10006C
def TWIN_LAST_S_LO_TALLY : Fld := ⟨TWIN_LAST_S_LO, 0, 32⟩
/-- Twin page, ch. 09. -/
def TWIN_LAST_S_HI : Nat := 0x100070
def TWIN_LAST_S_HI_TALLY : Fld := ⟨TWIN_LAST_S_HI, 0, 16⟩
/-- Twin page, ch. 09. -/
def TWIN_DIVERGED : Nat := 0x100074
def TWIN_DIVERGED_CHANNELS : Fld := ⟨TWIN_DIVERGED, 0, 24⟩
/-- Twin page, ch. 09. -/
def TWIN_CNT0 : Nat := 0x100078
def TWIN_CNT0_RESYNCS : Fld := ⟨TWIN_CNT0, 16, 16⟩
def TWIN_CNT0_RECORD_ERR : Fld := ⟨TWIN_CNT0, 8, 8⟩
def TWIN_CNT0_LINK_ERR : Fld := ⟨TWIN_CNT0, 0, 8⟩
/-- Twin page, ch. 09. -/
def TWIN_CNT1 : Nat := 0x10007C
def TWIN_CNT1_REPAIRS : Fld := ⟨TWIN_CNT1, 16, 16⟩
def TWIN_CNT1_PWR_REPAIRED : Fld := ⟨TWIN_CNT1, 8, 8⟩
def TWIN_CNT1_FEED_LAG : Fld := ⟨TWIN_CNT1, 0, 8⟩
/-- Twin page, ch. 09. -/
def TWIN_CNT2 : Nat := 0x100080
def TWIN_CNT2_SWITCHOVERS : Fld := ⟨TWIN_CNT2, 24, 8⟩
def TWIN_CNT2_SEAMS : Fld := ⟨TWIN_CNT2, 16, 8⟩
def TWIN_CNT2_SELFTEST_FAILS : Fld := ⟨TWIN_CNT2, 8, 8⟩
def TWIN_CNT2_STEP_DOWN : Fld := ⟨TWIN_CNT2, 4, 4⟩
def TWIN_CNT2_SHADOW_BRAKE : Fld := ⟨TWIN_CNT2, 0, 4⟩
/-- Recorder page, ch. 15. -/
def REC_CTRL : Nat := 0x110040
def REC_CTRL_WEAR_EN : Fld := ⟨REC_CTRL, 31, 1⟩
def REC_CTRL_WARN_DAYS : Fld := ⟨REC_CTRL, 16, 8⟩
def REC_CTRL_LIFE_HOURS : Fld := ⟨REC_CTRL, 0, 8⟩
/-- Recorder page, ch. 15. -/
def REC_CMD : Nat := 0x110044
def REC_CMD_BUILD_CLOSE : Fld := ⟨REC_CMD, 1, 1⟩
def REC_CMD_BUILD_OPEN : Fld := ⟨REC_CMD, 0, 1⟩
/-- Recorder page, ch. 15. -/
def REC_STAT : Nat := 0x110048
def REC_STAT_STORE_FAULT : Fld := ⟨REC_STAT, 31, 1⟩
def REC_STAT_NVM_DEAD : Fld := ⟨REC_STAT, 30, 1⟩
def REC_STAT_FROZEN : Fld := ⟨REC_STAT, 29, 1⟩
def REC_STAT_FREEZE_EXPIRED : Fld := ⟨REC_STAT, 28, 1⟩
def REC_STAT_BUILD_OPEN : Fld := ⟨REC_STAT, 27, 1⟩
def REC_STAT_CFG_ERR : Fld := ⟨REC_STAT, 26, 1⟩
def REC_STAT_STORE_CAUSE : Fld := ⟨REC_STAT, 20, 4⟩
def REC_STAT_FB_COUNT : Fld := ⟨REC_STAT, 0, 7⟩
/-- Recorder page, ch. 15. -/
def REC_SEQ : Nat := 0x11004C
def REC_SEQ_NEXT : Fld := ⟨REC_SEQ, 0, 32⟩
/-- Recorder page, ch. 15. -/
def REC_NV : Nat := 0x110050
def REC_NV_SUPPRESSED : Fld := ⟨REC_NV, 16, 16⟩
def REC_NV_TOKENS : Fld := ⟨REC_NV, 0, 7⟩
/-- Recorder page, ch. 15. -/
def REC_FB : Nat := 0x110054
def REC_FB_LOST : Fld := ⟨REC_FB, 16, 16⟩
def REC_FB_SEL : Fld := ⟨REC_FB, 0, 6⟩
/-- Recorder page, ch. 15. -/
def REC_HSEL : Nat := 0x110060
def REC_HSEL_SCOPE : Fld := ⟨REC_HSEL, 24, 2⟩
def REC_HSEL_METRIC : Fld := ⟨REC_HSEL, 0, 7⟩
/-- Recorder page, ch. 15. -/
def REC_H_MIN : Nat := 0x110064
def REC_H_MIN_VALUE : Fld := ⟨REC_H_MIN, 0, 32⟩
/-- Recorder page, ch. 15. -/
def REC_H_MAX : Nat := 0x110068
def REC_H_MAX_VALUE : Fld := ⟨REC_H_MAX, 0, 32⟩
/-- Recorder page, ch. 15. -/
def REC_H_SUM_LO : Nat := 0x11006C
def REC_H_SUM_LO_VALUE : Fld := ⟨REC_H_SUM_LO, 0, 32⟩
/-- Recorder page, ch. 15. -/
def REC_H_SUM_HI : Nat := 0x110070
def REC_H_SUM_HI_VALUE : Fld := ⟨REC_H_SUM_HI, 0, 32⟩
/-- Recorder page, ch. 15. -/
def REC_H_CNT_LO : Nat := 0x110074
def REC_H_CNT_LO_VALUE : Fld := ⟨REC_H_CNT_LO, 0, 32⟩
/-- Recorder page, ch. 15. -/
def REC_H_CNT_HI : Nat := 0x110078
def REC_H_CNT_HI_VALUE : Fld := ⟨REC_H_CNT_HI, 0, 32⟩
/-- Recorder page, ch. 15. -/
def REC_H_INFO : Nat := 0x11007C
def REC_H_INFO_SCALE : Fld := ⟨REC_H_INFO, 24, 8⟩
def REC_H_INFO_LAYER_TAG : Fld := ⟨REC_H_INFO, 0, 16⟩
/-- Recorder page, ch. 15. -/
def REC_WEAR_CLK : Nat := 0x110080
def REC_WEAR_CLK_INTERVALS : Fld := ⟨REC_WEAR_CLK, 16, 16⟩
def REC_WEAR_CLK_SECONDS : Fld := ⟨REC_WEAR_CLK, 0, 16⟩
/-- Recorder page, ch. 15. -/
def REC_BIN (k : Nat) : Nat := 0x110100 + 0x4 * k
def REC_BIN_COUNT (k : Nat) : Fld := ⟨REC_BIN k, 0, 32⟩
/-- Recorder page, ch. 15. -/
def REC_FB_WORD (j : Nat) : Nat := 0x110200 + 0x4 * j
def REC_FB_WORD_WORD (j : Nat) : Fld := ⟨REC_FB_WORD j, 0, 32⟩
/-- Recorder page, ch. 15. -/
def REC_MLO (m : Nat) : Nat := 0x110400 + 0x8 * m
def REC_MLO_LO (m : Nat) : Fld := ⟨REC_MLO m, 0, 32⟩
/-- Recorder page, ch. 15. -/
def REC_MW (m : Nat) : Nat := 0x110404 + 0x8 * m
def REC_MW_W (m : Nat) : Fld := ⟨REC_MW m, 0, 32⟩
/-- Recorder page, ch. 15. -/
def WEAR_CFG (i : Nat) : Nat := 0x110800 + 0x10 * i
def WEAR_CFG_EN (i : Nat) : Fld := ⟨WEAR_CFG i, 31, 1⟩
def WEAR_CFG_DIR (i : Nat) : Fld := ⟨WEAR_CFG i, 30, 1⟩
def WEAR_CFG_SOURCE (i : Nat) : Fld := ⟨WEAR_CFG i, 16, 8⟩
def WEAR_CFG_POINTS (i : Nat) : Fld := ⟨WEAR_CFG i, 0, 6⟩
/-- Recorder page, ch. 15. -/
def WEAR_LIMIT (i : Nat) : Nat := 0x110804 + 0x10 * i
def WEAR_LIMIT_LIMIT (i : Nat) : Fld := ⟨WEAR_LIMIT i, 0, 32⟩
/-- Recorder page, ch. 15. -/
def WEAR_SLOPE (i : Nat) : Nat := 0x110808 + 0x10 * i
def WEAR_SLOPE_SLOPE (i : Nat) : Fld := ⟨WEAR_SLOPE i, 0, 32⟩
/-- Recorder page, ch. 15. -/
def WEAR_LIFE (i : Nat) : Nat := 0x11080C + 0x10 * i
def WEAR_LIFE_HOURS (i : Nat) : Fld := ⟨WEAR_LIFE i, 0, 32⟩
/-- Axes page, ch. 13. -/
def GPI_STATE : Nat := 0x120040
def GPI_STATE_STATE : Fld := ⟨GPI_STATE, 0, 32⟩
/-- Axes page, ch. 13. -/
def GPI_RAW : Nat := 0x120044
def GPI_RAW_RAW : Fld := ⟨GPI_RAW, 0, 32⟩
/-- Axes page, ch. 13. -/
def GPI_CFG (i : Nat) : Nat := 0x120080 + 0x4 * i
def GPI_CFG_FILTER (i : Nat) : Fld := ⟨GPI_CFG i, 16, 10⟩
def GPI_CFG_INVERT (i : Nat) : Fld := ⟨GPI_CFG i, 14, 1⟩
/-- Axes page, ch. 13. -/
def ENC_CFG (e : Nat) : Nat := 0x120100 + 0x20 * e
def ENC_CFG_EN (e : Nat) : Fld := ⟨ENC_CFG e, 31, 1⟩
def ENC_CFG_INVERT (e : Nat) : Fld := ⟨ENC_CFG e, 30, 1⟩
def ENC_CFG_FILTER (e : Nat) : Fld := ⟨ENC_CFG e, 0, 2⟩
/-- Axes page, ch. 13. -/
def ENC_COUNT (e : Nat) : Nat := 0x120104 + 0x20 * e
def ENC_COUNT_COUNT (e : Nat) : Fld := ⟨ENC_COUNT e, 0, 32⟩
/-- Axes page, ch. 13. -/
def ENC_SET (e : Nat) : Nat := 0x120108 + 0x20 * e
def ENC_SET_VALUE (e : Nat) : Fld := ⟨ENC_SET e, 0, 32⟩
/-- Axes page, ch. 13. -/
def ENC_ZLATCH (e : Nat) : Nat := 0x12010C + 0x20 * e
def ENC_ZLATCH_COUNT (e : Nat) : Fld := ⟨ENC_ZLATCH e, 0, 32⟩
/-- Axes page, ch. 13. -/
def ENC_STAT (e : Nat) : Nat := 0x120110 + 0x20 * e
def ENC_STAT_Z_SEEN (e : Nat) : Fld := ⟨ENC_STAT e, 31, 1⟩
def ENC_STAT_SET_REFUSED (e : Nat) : Fld := ⟨ENC_STAT e, 30, 1⟩
def ENC_STAT_ERRORS (e : Nat) : Fld := ⟨ENC_STAT e, 0, 16⟩
/-- Axes page, ch. 13. -/
def AX_CTRL (a : Nat) : Nat := 0x120200 + 0x80 * a
def AX_CTRL_ENABLE (a : Nat) : Fld := ⟨AX_CTRL a, 31, 1⟩
def AX_CTRL_OUT_MODE (a : Nat) : Fld := ⟨AX_CTRL a, 30, 1⟩
def AX_CTRL_STANDSTILL (a : Nat) : Fld := ⟨AX_CTRL a, 28, 2⟩
def AX_CTRL_LIMIT_STOP (a : Nat) : Fld := ⟨AX_CTRL a, 27, 1⟩
def AX_CTRL_BRAKE_STOP (a : Nat) : Fld := ⟨AX_CTRL a, 26, 1⟩
def AX_CTRL_INVERT_DIR (a : Nat) : Fld := ⟨AX_CTRL a, 25, 1⟩
def AX_CTRL_ENC_EN (a : Nat) : Fld := ⟨AX_CTRL a, 24, 1⟩
def AX_CTRL_ENC_SEL (a : Nat) : Fld := ⟨AX_CTRL a, 22, 2⟩
def AX_CTRL_STEP_DIV (a : Nat) : Fld := ⟨AX_CTRL a, 16, 4⟩
/-- Axes page, ch. 13. -/
def AX_INPUTS (a : Nat) : Nat := 0x120204 + 0x80 * a
def AX_INPUTS_LIM_NEG_EN (a : Nat) : Fld := ⟨AX_INPUTS a, 31, 1⟩
def AX_INPUTS_LIM_NEG (a : Nat) : Fld := ⟨AX_INPUTS a, 24, 5⟩
def AX_INPUTS_LIM_POS_EN (a : Nat) : Fld := ⟨AX_INPUTS a, 23, 1⟩
def AX_INPUTS_LIM_POS (a : Nat) : Fld := ⟨AX_INPUTS a, 16, 5⟩
def AX_INPUTS_HOME_EN (a : Nat) : Fld := ⟨AX_INPUTS a, 15, 1⟩
def AX_INPUTS_HOME_DIR (a : Nat) : Fld := ⟨AX_INPUTS a, 14, 1⟩
def AX_INPUTS_HOME_Z (a : Nat) : Fld := ⟨AX_INPUTS a, 13, 1⟩
def AX_INPUTS_HOME_IN (a : Nat) : Fld := ⟨AX_INPUTS a, 8, 5⟩
/-- Axes page, ch. 13. -/
def AX_VMAX (a : Nat) : Nat := 0x120208 + 0x80 * a
def AX_VMAX_VALUE (a : Nat) : Fld := ⟨AX_VMAX a, 0, 32⟩
/-- Axes page, ch. 13. -/
def AX_ACCEL (a : Nat) : Nat := 0x12020C + 0x80 * a
def AX_ACCEL_VALUE (a : Nat) : Fld := ⟨AX_ACCEL a, 0, 32⟩
/-- Axes page, ch. 13. -/
def AX_DECEL (a : Nat) : Nat := 0x120210 + 0x80 * a
def AX_DECEL_VALUE (a : Nat) : Fld := ⟨AX_DECEL a, 0, 32⟩
/-- Axes page, ch. 13. -/
def AX_QDECEL (a : Nat) : Nat := 0x120214 + 0x80 * a
def AX_QDECEL_VALUE (a : Nat) : Fld := ⟨AX_QDECEL a, 0, 32⟩
/-- Axes page, ch. 13. -/
def AX_JERK (a : Nat) : Nat := 0x120218 + 0x80 * a
def AX_JERK_VALUE (a : Nat) : Fld := ⟨AX_JERK a, 0, 32⟩
/-- Axes page, ch. 13. -/
def AX_STARTV (a : Nat) : Nat := 0x12021C + 0x80 * a
def AX_STARTV_VALUE (a : Nat) : Fld := ⟨AX_STARTV a, 0, 32⟩
/-- Axes page, ch. 13. -/
def AX_TARGET (a : Nat) : Nat := 0x120220 + 0x80 * a
def AX_TARGET_VALUE (a : Nat) : Fld := ⟨AX_TARGET a, 0, 32⟩
/-- Axes page, ch. 13. -/
def AX_VJOG (a : Nat) : Nat := 0x120224 + 0x80 * a
def AX_VJOG_VALUE (a : Nat) : Fld := ⟨AX_VJOG a, 0, 32⟩
/-- Axes page, ch. 13. -/
def AX_CMD (a : Nat) : Nat := 0x120228 + 0x80 * a
def AX_CMD_OP (a : Nat) : Fld := ⟨AX_CMD a, 0, 4⟩
/-- Axes page, ch. 13. -/
def AX_POS (a : Nat) : Nat := 0x12022C + 0x80 * a
def AX_POS_POS (a : Nat) : Fld := ⟨AX_POS a, 0, 32⟩
/-- Axes page, ch. 13. -/
def AX_VEL (a : Nat) : Nat := 0x120230 + 0x80 * a
def AX_VEL_VEL (a : Nat) : Fld := ⟨AX_VEL a, 0, 32⟩
/-- Axes page, ch. 13. -/
def AX_STAT (a : Nat) : Nat := 0x120234 + 0x80 * a
def AX_STAT_CMD_ERR (a : Nat) : Fld := ⟨AX_STAT a, 28, 4⟩
def AX_STAT_BRIDGE (a : Nat) : Fld := ⟨AX_STAT a, 22, 2⟩
def AX_STAT_WAKING (a : Nat) : Fld := ⟨AX_STAT a, 21, 1⟩
def AX_STAT_RATIO_ARMED (a : Nat) : Fld := ⟨AX_STAT a, 20, 1⟩
def AX_STAT_AT_LIM_POS (a : Nat) : Fld := ⟨AX_STAT a, 19, 1⟩
def AX_STAT_AT_LIM_NEG (a : Nat) : Fld := ⟨AX_STAT a, 18, 1⟩
def AX_STAT_HOMED (a : Nat) : Fld := ⟨AX_STAT a, 17, 1⟩
def AX_STAT_POS_LOST (a : Nat) : Fld := ⟨AX_STAT a, 16, 1⟩
def AX_STAT_REVERSING (a : Nat) : Fld := ⟨AX_STAT a, 15, 1⟩
def AX_STAT_MOVING (a : Nat) : Fld := ⟨AX_STAT a, 14, 1⟩
def AX_STAT_HOME_PHASE (a : Nat) : Fld := ⟨AX_STAT a, 11, 3⟩
def AX_STAT_STATE (a : Nat) : Fld := ⟨AX_STAT a, 0, 4⟩
/-- Axes page, ch. 13. -/
def AX_CUR (a : Nat) : Nat := 0x120238 + 0x80 * a
def AX_CUR_STILL_MS (a : Nat) : Fld := ⟨AX_CUR a, 24, 8⟩
def AX_CUR_WAKE_MS (a : Nat) : Fld := ⟨AX_CUR a, 16, 8⟩
def AX_CUR_I_RUN (a : Nat) : Fld := ⟨AX_CUR a, 8, 8⟩
def AX_CUR_I_HOLD (a : Nat) : Fld := ⟨AX_CUR a, 0, 8⟩
/-- Axes page, ch. 13. -/
def AX_STEP (a : Nat) : Nat := 0x12023C + 0x80 * a
def AX_STEP_DIR_SETUP (a : Nat) : Fld := ⟨AX_STEP a, 16, 6⟩
def AX_STEP_STEP_PW (a : Nat) : Fld := ⟨AX_STEP a, 0, 6⟩
/-- Axes page, ch. 13. -/
def AX_HOME_V1 (a : Nat) : Nat := 0x120240 + 0x80 * a
def AX_HOME_V1_VALUE (a : Nat) : Fld := ⟨AX_HOME_V1 a, 0, 32⟩
/-- Axes page, ch. 13. -/
def AX_HOME_V2 (a : Nat) : Nat := 0x120244 + 0x80 * a
def AX_HOME_V2_VALUE (a : Nat) : Fld := ⟨AX_HOME_V2 a, 0, 32⟩
/-- Axes page, ch. 13. -/
def AX_HOME_REARM (a : Nat) : Nat := 0x120248 + 0x80 * a
def AX_HOME_REARM_VALUE (a : Nat) : Fld := ⟨AX_HOME_REARM a, 0, 32⟩
/-- Axes page, ch. 13. -/
def AX_HOME_MAX (a : Nat) : Nat := 0x12024C + 0x80 * a
def AX_HOME_MAX_VALUE (a : Nat) : Fld := ⟨AX_HOME_MAX a, 0, 32⟩
/-- Axes page, ch. 13. -/
def AX_HOME_OFFSET (a : Nat) : Nat := 0x120250 + 0x80 * a
def AX_HOME_OFFSET_VALUE (a : Nat) : Fld := ⟨AX_HOME_OFFSET a, 0, 32⟩
/-- Axes page, ch. 13. -/
def AX_HOME_LATCH (a : Nat) : Nat := 0x120254 + 0x80 * a
def AX_HOME_LATCH_VALUE (a : Nat) : Fld := ⟨AX_HOME_LATCH a, 0, 32⟩
/-- Axes page, ch. 13. -/
def AX_GEAR_NUM (a : Nat) : Nat := 0x120258 + 0x80 * a
def AX_GEAR_NUM_VALUE (a : Nat) : Fld := ⟨AX_GEAR_NUM a, 0, 32⟩
/-- Axes page, ch. 13. -/
def AX_GEAR_DEN (a : Nat) : Nat := 0x12025C + 0x80 * a
def AX_GEAR_DEN_VALUE (a : Nat) : Fld := ⟨AX_GEAR_DEN a, 0, 32⟩
/-- Axes page, ch. 13. -/
def AX_GEAR_NUM2 (a : Nat) : Nat := 0x120260 + 0x80 * a
def AX_GEAR_NUM2_VALUE (a : Nat) : Fld := ⟨AX_GEAR_NUM2 a, 0, 32⟩
/-- Axes page, ch. 13. -/
def AX_GEAR_DEN2 (a : Nat) : Nat := 0x120264 + 0x80 * a
def AX_GEAR_DEN2_VALUE (a : Nat) : Fld := ⟨AX_GEAR_DEN2 a, 0, 32⟩
/-- Axes page, ch. 13. -/
def AX_GEAR_SWITCH (a : Nat) : Nat := 0x120268 + 0x80 * a
def AX_GEAR_SWITCH_VALUE (a : Nat) : Fld := ⟨AX_GEAR_SWITCH a, 0, 32⟩
/-- Axes page, ch. 13. -/
def AX_FOLLOW (a : Nat) : Nat := 0x12026C + 0x80 * a
def AX_FOLLOW_LAG (a : Nat) : Fld := ⟨AX_FOLLOW a, 16, 16⟩
def AX_FOLLOW_FOLLOW_LIMIT (a : Nat) : Fld := ⟨AX_FOLLOW a, 0, 16⟩
/-- Axes page, ch. 13. -/
def AX_EVT (a : Nat) : Nat := 0x120270 + 0x80 * a
def AX_EVT_EVENTS (a : Nat) : Fld := ⟨AX_EVT a, 0, 9⟩
/-- Axes page, ch. 13. -/
def SINE (k : Nat) : Nat := 0x120800 + 0x4 * k
def SINE_S_HI (k : Nat) : Fld := ⟨SINE k, 16, 12⟩
def SINE_S_LO (k : Nat) : Fld := ⟨SINE k, 0, 12⟩
/-- Bed lighting page, ch. 14. -/
def LIGHT_CTRL : Nat := 0x130040
def LIGHT_CTRL_MASTER : Fld := ⟨LIGHT_CTRL, 16, 16⟩
def LIGHT_CTRL_DIAG_DARK : Fld := ⟨LIGHT_CTRL, 7, 1⟩
def LIGHT_CTRL_DIAG_EN : Fld := ⟨LIGHT_CTRL, 6, 1⟩
def LIGHT_CTRL_CAM_EN : Fld := ⟨LIGHT_CTRL, 4, 1⟩
def LIGHT_CTRL_FRAME_SYNC : Fld := ⟨LIGHT_CTRL, 3, 1⟩
def LIGHT_CTRL_SWAP_MODE : Fld := ⟨LIGHT_CTRL, 2, 1⟩
def LIGHT_CTRL_CURVE : Fld := ⟨LIGHT_CTRL, 0, 2⟩
/-- Bed lighting page, ch. 14. -/
def LIGHT_CAM_CFG : Nat := 0x130044
def LIGHT_CAM_CFG_FILTER : Fld := ⟨LIGHT_CAM_CFG, 16, 10⟩
def LIGHT_CAM_CFG_INVERT : Fld := ⟨LIGHT_CAM_CFG, 0, 1⟩
/-- Bed lighting page, ch. 14. -/
def LIGHT_CMD : Nat := 0x130048
def LIGHT_CMD_SHORT_TEST : Fld := ⟨LIGHT_CMD, 2, 1⟩
def LIGHT_CMD_PAT_CLEAR : Fld := ⟨LIGHT_CMD, 1, 1⟩
def LIGHT_CMD_SWAP : Fld := ⟨LIGHT_CMD, 0, 1⟩
/-- Bed lighting page, ch. 14. -/
def LIGHT_PAT : Nat := 0x13004C
def LIGHT_PAT_PAT_EN : Fld := ⟨LIGHT_PAT, 31, 1⟩
def LIGHT_PAT_PAT_SEL : Fld := ⟨LIGHT_PAT, 28, 3⟩
def LIGHT_PAT_RECOV_EN : Fld := ⟨LIGHT_PAT, 27, 1⟩
def LIGHT_PAT_RECOV_SEL : Fld := ⟨LIGHT_PAT, 24, 3⟩
def LIGHT_PAT_LEVEL : Fld := ⟨LIGHT_PAT, 16, 8⟩
def LIGHT_PAT_STEP : Fld := ⟨LIGHT_PAT, 0, 16⟩
/-- Bed lighting page, ch. 14. -/
def LIGHT_PAT_BOOT : Nat := 0x130050
def LIGHT_PAT_BOOT_BOOT_FRAMES : Fld := ⟨LIGHT_PAT_BOOT, 16, 16⟩
def LIGHT_PAT_BOOT_BOOT_SEL : Fld := ⟨LIGHT_PAT_BOOT, 0, 3⟩
/-- Bed lighting page, ch. 14. -/
def LIGHT_STAT : Nat := 0x130054
def LIGHT_STAT_SWAP_PENDING : Fld := ⟨LIGHT_STAT, 31, 1⟩
def LIGHT_STAT_FRONT : Fld := ⟨LIGHT_STAT, 30, 1⟩
def LIGHT_STAT_CAM : Fld := ⟨LIGHT_STAT, 29, 1⟩
def LIGHT_STAT_SOURCE : Fld := ⟨LIGHT_STAT, 27, 2⟩
def LIGHT_STAT_PAT_NOW : Fld := ⟨LIGHT_STAT, 24, 3⟩
def LIGHT_STAT_ROW : Fld := ⟨LIGHT_STAT, 0, 4⟩
/-- Bed lighting page, ch. 14. -/
def LIGHT_FRAME : Nat := 0x130058
def LIGHT_FRAME_FRAMES : Fld := ⟨LIGHT_FRAME, 0, 32⟩
/-- Bed lighting page, ch. 14. -/
def LIGHT_SHORTS : Nat := 0x13005C
def LIGHT_SHORTS_PINS : Fld := ⟨LIGHT_SHORTS, 0, 21⟩
/-- Bed lighting page, ch. 14. -/
def LIGHT_COL_STUCK : Nat := 0x130060
def LIGHT_COL_STUCK_COLUMNS : Fld := ⟨LIGHT_COL_STUCK, 0, 16⟩
/-- Bed lighting page, ch. 14. -/
def LIGHT_DIAG_CNT : Nat := 0x130064
def LIGHT_DIAG_CNT_UNMEASURED : Fld := ⟨LIGHT_DIAG_CNT, 16, 16⟩
def LIGHT_DIAG_CNT_OPEN_EVENTS : Fld := ⟨LIGHT_DIAG_CNT, 0, 16⟩
/-- Bed lighting page, ch. 14. -/
def LIGHT_LAMP_STAT (r : Nat) : Nat := 0x130080 + 0x4 * r
def LIGHT_LAMP_STAT_STATUS (r : Nat) : Fld := ⟨LIGHT_LAMP_STAT r, 0, 32⟩
/-- Bed lighting page, ch. 14. -/
def LIGHT_FB0 (w : Nat) : Nat := 0x130200 + 0x4 * w
def LIGHT_FB0_VALUES (w : Nat) : Fld := ⟨LIGHT_FB0 w, 0, 32⟩
/-- Bed lighting page, ch. 14. -/
def LIGHT_FB1 (w : Nat) : Nat := 0x130300 + 0x4 * w
def LIGHT_FB1_VALUES (w : Nat) : Fld := ⟨LIGHT_FB1 w, 0, 32⟩
/-- Trim page, ch. 17. -/
def TRIM_CTRL : Nat := 0x140040
def TRIM_CTRL_PERMIT_IN : Fld := ⟨TRIM_CTRL, 0, 5⟩
/-- Trim page, ch. 17. -/
def TRIM_LIMIT : Nat := 0x140044
def TRIM_LIMIT_DARK_MAX : Fld := ⟨TRIM_LIMIT, 16, 16⟩
def TRIM_LIMIT_DARK_DRIFT : Fld := ⟨TRIM_LIMIT, 0, 16⟩
/-- Trim page, ch. 17. -/
def TRIM_CH : Nat := 0x140048
def TRIM_CH_CHANNELS : Fld := ⟨TRIM_CH, 0, 24⟩
/-- Trim page, ch. 17. -/
def TRIM_CMD : Nat := 0x14004C
def TRIM_CMD_APPLY : Fld := ⟨TRIM_CMD, 1, 1⟩
def TRIM_CMD_RUN : Fld := ⟨TRIM_CMD, 0, 1⟩
/-- Trim page, ch. 17. -/
def TRIM_STAT : Nat := 0x140050
def TRIM_STAT_RESULT : Fld := ⟨TRIM_STAT, 30, 2⟩
def TRIM_STAT_SLOT : Fld := ⟨TRIM_STAT, 28, 2⟩
def TRIM_STAT_CAUSE : Fld := ⟨TRIM_STAT, 24, 4⟩
/-- Trim page, ch. 17. -/
def TRIM_SEQ : Nat := 0x140054
def TRIM_SEQ_SEQ : Fld := ⟨TRIM_SEQ, 0, 32⟩
/-- Trim page, ch. 17. -/
def TRIM_FAIL_CH : Nat := 0x140058
def TRIM_FAIL_CH_CHANNELS : Fld := ⟨TRIM_FAIL_CH, 0, 24⟩
/-- Trim page, ch. 17. -/
def TRIM_BRK_DLY (b : Nat) : Nat := 0x140060 + 0x4 * b
def TRIM_BRK_DLY_COARSE (b : Nat) : Fld := ⟨TRIM_BRK_DLY b, 8, 8⟩
def TRIM_BRK_DLY_FINE (b : Nat) : Fld := ⟨TRIM_BRK_DLY b, 0, 6⟩
/-- Trim page, ch. 17. -/
def TRIM_DARK_AB (n : Nat) : Nat := 0x140100 + 0x8 * n
def TRIM_DARK_AB_OFFSET_B (n : Nat) : Fld := ⟨TRIM_DARK_AB n, 16, 16⟩
def TRIM_DARK_AB_OFFSET_A (n : Nat) : Fld := ⟨TRIM_DARK_AB n, 0, 16⟩
/-- Trim page, ch. 17. -/
def TRIM_DARK_R (n : Nat) : Nat := 0x140104 + 0x8 * n
def TRIM_DARK_R_OFFSET_R (n : Nat) : Fld := ⟨TRIM_DARK_R n, 0, 16⟩
/-- Trim page, ch. 17. -/
def TRIM_LANE (k : Nat) : Nat := 0x140200 + 0x4 * k
def TRIM_LANE_DESKEW (k : Nat) : Fld := ⟨TRIM_LANE k, 8, 6⟩
def TRIM_LANE_SD_THRESH (k : Nat) : Fld := ⟨TRIM_LANE k, 0, 5⟩
/-- Identity page, ch. 16. -/
def ID_UID_LO : Nat := 0x150040
def ID_UID_LO_UID : Fld := ⟨ID_UID_LO, 0, 32⟩
/-- Identity page, ch. 16. -/
def ID_UID_HI : Nat := 0x150044
def ID_UID_HI_UID : Fld := ⟨ID_UID_HI, 0, 32⟩
/-- Identity page, ch. 16. -/
def ID_STAT : Nat := 0x150048
def ID_STAT_RECOVERY : Fld := ⟨ID_STAT, 31, 1⟩
def ID_STAT_SLOT : Fld := ⟨ID_STAT, 30, 1⟩
def ID_STAT_BAD_A : Fld := ⟨ID_STAT, 29, 1⟩
def ID_STAT_BAD_B : Fld := ⟨ID_STAT, 28, 1⟩
def ID_STAT_INT_PRESENT : Fld := ⟨ID_STAT, 27, 1⟩
def ID_STAT_BUSY : Fld := ⟨ID_STAT, 26, 1⟩
def ID_STAT_INT_ERR : Fld := ⟨ID_STAT, 20, 4⟩
def ID_STAT_BOOT_CAUSE : Fld := ⟨ID_STAT, 16, 4⟩
def ID_STAT_STORED_SVN : Fld := ⟨ID_STAT, 8, 6⟩
def ID_STAT_RUN_SVN : Fld := ⟨ID_STAT, 0, 6⟩
/-- Identity page, ch. 16. -/
def ID_CMD : Nat := 0x15004C
def ID_CMD_COMMIT_SVN : Fld := ⟨ID_CMD, 2, 1⟩
def ID_CMD_INT_ERASE : Fld := ⟨ID_CMD, 1, 1⟩
def ID_CMD_INT_INSTALL : Fld := ⟨ID_CMD, 0, 1⟩
/-- Identity page, ch. 16. -/
def ID_FW : Nat := 0x150050
def ID_FW_VERSION : Fld := ⟨ID_FW, 0, 32⟩
/-- Identity page, ch. 16. -/
def ID_WIN_SEL : Nat := 0x150054
def ID_WIN_SEL_LEN : Fld := ⟨ID_WIN_SEL, 16, 12⟩
def ID_WIN_SEL_OBJECT : Fld := ⟨ID_WIN_SEL, 0, 3⟩
/-- Identity page, ch. 16. -/
def NG_CTRL : Nat := 0x150060
def NG_CTRL_EN : Fld := ⟨NG_CTRL, 31, 1⟩
def NG_CTRL_SIZE_LOG2 : Fld := ⟨NG_CTRL, 0, 5⟩
/-- Identity page, ch. 16. -/
def NG_BASE_LO : Nat := 0x150064
def NG_BASE_LO_BASE : Fld := ⟨NG_BASE_LO, 12, 20⟩
/-- Identity page, ch. 16. -/
def NG_BASE_HI : Nat := 0x150068
def NG_BASE_HI_BASE : Fld := ⟨NG_BASE_HI, 0, 8⟩
/-- Identity page, ch. 16. -/
def NG_WR : Nat := 0x15006C
def NG_WR_INDEX : Fld := ⟨NG_WR, 0, 25⟩
/-- Identity page, ch. 16. -/
def NG_RD : Nat := 0x150070
def NG_RD_INDEX : Fld := ⟨NG_RD, 0, 25⟩
/-- Identity page, ch. 16. -/
def NG_CNT : Nat := 0x150074
def NG_CNT_ENTRIES : Fld := ⟨NG_CNT, 16, 16⟩
def NG_CNT_LOST : Fld := ⟨NG_CNT, 0, 16⟩
/-- Identity page, ch. 16. -/
def ID_FLASH_ADDR : Nat := 0x150078
def ID_FLASH_ADDR_ADDR : Fld := ⟨ID_FLASH_ADDR, 0, 32⟩
/-- Identity page, ch. 16. -/
def ID_FLASH_CMD : Nat := 0x15007C
def ID_FLASH_CMD_PROGRAM : Fld := ⟨ID_FLASH_CMD, 1, 1⟩
def ID_FLASH_CMD_ERASE : Fld := ⟨ID_FLASH_CMD, 0, 1⟩
/-- Identity page, ch. 16. -/
def ID_WIN (k : Nat) : Nat := 0x150400 + 0x4 * k
def ID_WIN_DATA (k : Nat) : Fld := ⟨ID_WIN k, 0, 32⟩
/-- Die thermal and power page, ch. 18. -/
def DT_CTRL : Nat := 0x160040
def DT_CTRL_WARN_C : Fld := ⟨DT_CTRL, 0, 8⟩
/-- Die thermal and power page, ch. 18. -/
def DT_STAT : Nat := 0x160044
def DT_STAT_WARN : Fld := ⟨DT_STAT, 31, 1⟩
def DT_STAT_CRIT : Fld := ⟨DT_STAT, 30, 1⟩
def DT_STAT_SHUTDOWN : Fld := ⟨DT_STAT, 29, 1⟩
def DT_STAT_HOT_DIODE : Fld := ⟨DT_STAT, 16, 3⟩
def DT_STAT_T_MAX : Fld := ⟨DT_STAT, 0, 16⟩
/-- Die thermal and power page, ch. 18. -/
def DT_PEAK : Nat := 0x160048
def DT_PEAK_PEAK : Fld := ⟨DT_PEAK, 0, 16⟩
/-- Die thermal and power page, ch. 18. -/
def DT_CNT : Nat := 0x16004C
def DT_CNT_WARN_EVENTS : Fld := ⟨DT_CNT, 16, 16⟩
/-- Die thermal and power page, ch. 18. -/
def DT_TEMP (d : Nat) : Nat := 0x160060 + 0x4 * d
def DT_TEMP_TEMP (d : Nat) : Fld := ⟨DT_TEMP d, 0, 16⟩
/-- Die thermal and power page, ch. 18. -/
def RAIL_MV (r : Nat) : Nat := 0x160080 + 0x4 * r
def RAIL_MV_WARN (r : Nat) : Fld := ⟨RAIL_MV r, 31, 1⟩
def RAIL_MV_MV (r : Nat) : Fld := ⟨RAIL_MV r, 0, 16⟩
/-- Die thermal and power page, ch. 18. -/
def RAIL_WARN : Nat := 0x1600A0
def RAIL_WARN_RAILS : Fld := ⟨RAIL_WARN, 0, 7⟩
end R

/-- The Global page's registers (R694); the last five rows are the MSI-X table and pending bits (R480), laid out as the
standard does, every vector masked at reset (PRESUMED, log entry 14). -/
def rowsGlobal : List RegRow :=
  [⟨0x40, 0, 1, 0, 1, 0x0, 0x0, 0x0, 0x24001811⟩,
   ⟨0x44, 0, 1, 0, 1, 0x0, 0x0, 0x80000000, 0x0⟩,
   ⟨0x80, 0, 1, 0, 1, 0x0, 0x0, 0x0, 0x0⟩,
   ⟨0x84, 0, 1, 0, 1, 0x0, 0x0, 0x0, 0x0⟩,
   ⟨0x88, 0, 1, 0, 1, 0x0, 0x0, 0x0, 0x0⟩,
   ⟨0x90, 0, 1, 0, 1, 0x801F0001, 0x0, 0x0, 0x0⟩,
   ⟨0x94, 0, 1, 0, 1, 0x0, 0x0, 0x0, 0x1000000⟩,
   ⟨0x98, 0, 1, 0, 1, 0x0, 0x0, 0x80000000, 0x0⟩,
   ⟨0x100, 0, 1, 0, 1, 0xFFFFFFFF, 0x0, 0x0, 0x0⟩,
   ⟨0x104, 0, 1, 0, 1, 0xFF000007, 0x0, 0x0, 0x64000007⟩,
   ⟨0x108, 0, 1, 0, 1, 0x0, 0x0, 0x20000000, 0x0⟩,
   ⟨0x10C, 0, 1, 0, 1, 0x1, 0x0, 0x0, 0x0⟩,
   ⟨0x110, 0, 1, 0, 1, 0x0, 0x0, 0x0, 0x0⟩,
   ⟨0x114, 0, 1, 0, 1, 0x0, 0x0, 0x80000000, 0x1⟩,
   ⟨0x118, 0, 1, 0, 1, 0xFFFF, 0x0, 0x0, 0x12C⟩,
   ⟨0x11C, 0, 1, 0, 1, 0x0, 0x0, 0x0, 0x0⟩] ++
  [⟨0x120, 0, 1, 0, 1, 0xFFFF003F, 0x0, 0x0, 0x3E80008⟩,
   ⟨0x124, 0, 1, 0, 1, 0x0, 0x0, 0x0, 0x0⟩,
   ⟨0x128, 0, 1, 0, 1, 0x0, 0x0, 0x60000000, 0x80000006⟩,
   ⟨0x12C, 0, 1, 0, 1, 0x0, 0x0, 0x0, 0x7⟩,
   ⟨0x200, 0, 1, 0, 1, 0xFFF00000, 0x0, 0x0, 0x0⟩,
   ⟨0x204, 0, 1, 0, 1, 0xFF, 0x0, 0x0, 0x0⟩,
   ⟨0x208, 0, 1, 0, 1, 0x0, 0x0, 0x80000000, 0x0⟩,
   ⟨0x20C, 0, 1, 0, 1, 0x0, 0x0, 0x0, 0x0⟩,
   ⟨0x220, 0, 1, 0, 1, 0x0, 0xFFFFF000, 0x0, 0x0⟩,
   ⟨0x224, 0, 1, 0, 1, 0x0, 0xFFFFFFFF, 0x0, 0x0⟩,
   ⟨0x228, 0, 1, 0, 1, 0x0, 0xFFFFF000, 0x0, 0x0⟩,
   ⟨0x22C, 0, 1, 0, 1, 0x0, 0xFFFFFFFF, 0x0, 0x0⟩,
   ⟨0x230, 0, 1, 0, 1, 0x80000000, 0xF, 0x0, 0x0⟩,
   ⟨0x234, 0, 1, 0, 1, 0x0, 0x0, 0x0, 0x0⟩,
   ⟨0x238, 0, 1, 0, 1, 0x0, 0x0, 0x0, 0x0⟩,
   ⟨0x23C, 0, 1, 0, 1, 0x0, 0x0, 0x0, 0x0⟩] ++
  [⟨0x240, 0, 1, 0, 1, 0x0, 0x0, 0x0, 0x0⟩,
   ⟨0x250, 0, 1, 0, 1, 0x0, 0xFFFFF000, 0x0, 0x0⟩,
   ⟨0x254, 0, 1, 0, 1, 0x0, 0xFFFFFFFF, 0x0, 0x0⟩,
   ⟨0x258, 0, 1, 0, 1, 0x0, 0xFFFFFFF0, 0x0, 0x0⟩,
   ⟨0x25C, 0, 1, 0, 1, 0x0, 0xFFFFFFFF, 0x0, 0x0⟩,
   ⟨0x260, 0, 1, 0, 1, 0x8000FFFF, 0x1F0000, 0x0, 0x40⟩,
   ⟨0x264, 0, 1, 0, 1, 0x1FFFFFF, 0x0, 0x0, 0x0⟩,
   ⟨0x268, 0, 1, 0, 1, 0x0, 0x0, 0x0, 0x0⟩,
   ⟨0x26C, 0, 1, 0, 1, 0x0, 0x0, 0x0, 0x0⟩,
   ⟨0x280, 0, 1, 0, 1, 0x80FFFFFF, 0x0, 0x0, 0x800A03E8⟩,
   ⟨0x284, 0, 1, 0, 1, 0x0, 0x0, 0x0, 0x0⟩,
   ⟨0x288, 0, 1, 0, 1, 0x0, 0x0, 0x0, 0x0⟩,
   ⟨0x28C, 0, 1, 0, 1, 0x0, 0x0, 0x0, 0x0⟩,
   ⟨0x290, 0, 1, 0, 1, 0x0, 0x0, 0x0, 0x0⟩,
   ⟨0x294, 0, 1, 0, 1, 0x0, 0x0, 0x0, 0x0⟩,
   ⟨0x298, 0, 1, 0, 1, 0x0, 0x0, 0x0, 0x0⟩] ++
  [⟨0x2A0, 0, 1, 0, 1, 0x0, 0x0, 0x3F, 0x0⟩,
   ⟨0x2A4, 0, 1, 0, 1, 0x3F, 0x0, 0x0, 0x0⟩] ++
  [⟨0xC00, 16, 32, 0, 1, 0xFFFFFFFC, 0x0, 0x0, 0x0⟩,
   ⟨0xC04, 16, 32, 0, 1, 0xFFFFFFFF, 0x0, 0x0, 0x0⟩,
   ⟨0xC08, 16, 32, 0, 1, 0xFFFFFFFF, 0x0, 0x0, 0x0⟩,
   ⟨0xC0C, 16, 32, 0, 1, 0x1, 0x0, 0x0, 0x1⟩,
   ⟨0xE00, 4, 2, 0, 1, 0x0, 0x0, 0x0, 0x0⟩]

/-- The Sluice page's registers (R694). -/
def rowsSluice : List RegRow :=
  [⟨0x40, 0, 1, 0, 1, 0x0, 0x0, 0x0, 0x0⟩,
   ⟨0x44, 0, 1, 0, 1, 0x0, 0x0, 0x80000000, 0x0⟩,
   ⟨0x80, 4, 8, 0, 1, 0xF, 0x0, 0x0, 0x0⟩,
   ⟨0xA0, 4, 8, 0, 1, 0x0, 0x0, 0x0, 0x0⟩,
   ⟨0xC0, 4, 8, 0, 1, 0x0, 0x0, 0x0, 0x0⟩,
   ⟨0xE0, 4, 8, 0, 1, 0x0, 0x0, 0x0, 0x0⟩,
   ⟨0x100, 8, 8, 0, 1, 0xFFFFFFFF, 0x0, 0x0, 0x0⟩,
   ⟨0x104, 8, 8, 0, 1, 0xFFFFFFFF, 0x0, 0x0, 0x0⟩,
   ⟨0x140, 4, 8, 0, 1, 0x0, 0x0, 0x0, 0x0⟩,
   ⟨0x160, 4, 8, 0, 1, 0x0, 0x0, 0x0, 0x0⟩,
   ⟨0x180, 4, 8, 0, 1, 0xFFFFFF, 0x0, 0x0, 0x0⟩,
   ⟨0x1C0, 4, 16, 0, 1, 0xFF00FFFF, 0x0, 0x0, 0x0⟩,
   ⟨0x400, 4, 256, 0, 1, 0xF, 0x3FF7000, 0x0, 0x0⟩,
   ⟨0x800, 4, 256, 0, 1, 0x0, 0x0, 0x8000000, 0x0⟩]

/-- The Millrace page's registers (R694). -/
def rowsMillrace : List RegRow :=
  [⟨0x40, 0, 1, 0, 1, 0x0, 0xF0000000, 0x0, 0x0⟩,
   ⟨0x44, 0, 1, 0, 1, 0x781FFFFF, 0x0, 0x0, 0x180A1820⟩,
   ⟨0x48, 0, 1, 0, 1, 0x3F3F1F, 0x0, 0x0, 0x301010⟩,
   ⟨0x4C, 0, 1, 0, 1, 0x0, 0x80000000, 0x0, 0x80000000⟩,
   ⟨0x50, 0, 1, 0, 1, 0x0, 0x0, 0x8000000, 0x0⟩,
   ⟨0x54, 0, 1, 0, 1, 0x0, 0x0, 0x0, 0x0⟩,
   ⟨0x58, 0, 1, 0, 1, 0x0, 0x0, 0x0, 0x0⟩,
   ⟨0x5C, 0, 1, 0, 1, 0x0, 0x0, 0x0, 0x640⟩,
   ⟨0x60, 0, 1, 0, 1, 0x0, 0x0, 0x0, 0x0⟩,
   ⟨0x64, 0, 1, 0, 1, 0x0, 0x0, 0x0, 0x0⟩,
   ⟨0x68, 0, 1, 0, 1, 0x0, 0x0, 0x80000000, 0x0⟩,
   ⟨0x6C, 0, 1, 0, 1, 0x0, 0x0, 0x0, 0x0⟩,
   ⟨0x70, 0, 1, 0, 1, 0x0, 0x0, 0x0, 0x0⟩,
   ⟨0x74, 0, 1, 0, 1, 0x0, 0x0, 0x0, 0x0⟩]

/-- The Hopper page's registers (R694). -/
def rowsHopper : List RegRow :=
  [⟨0x40, 0, 1, 0, 1, 0x0, 0x0, 0x0, 0x0⟩,
   ⟨0x44, 0, 1, 0, 1, 0x0, 0x0, 0x0, 0x0⟩,
   ⟨0x48, 0, 1, 0, 1, 0xF, 0x0, 0x0, 0x2⟩,
   ⟨0x4C, 0, 1, 0, 1, 0xFFFFFFFF, 0x0, 0x0, 0x1E8480⟩,
   ⟨0x50, 0, 1, 0, 1, 0x3, 0x0, 0x0, 0x0⟩,
   ⟨0x54, 0, 1, 0, 1, 0x0, 0x0, 0x0, 0x0⟩,
   ⟨0x58, 0, 1, 0, 1, 0x0, 0x0, 0xFFFFFF, 0x0⟩,
   ⟨0x5C, 0, 1, 0, 1, 0x0, 0x0, 0x0, 0x0⟩,
   ⟨0x60, 0, 1, 0, 1, 0x0, 0x0, 0x80000000, 0x0⟩,
   ⟨0x64, 0, 1, 0, 1, 0x0, 0x0, 0x0, 0x0⟩,
   ⟨0x68, 0, 1, 0, 1, 0x0, 0x0, 0x0, 0x0⟩,
   ⟨0x100, 4, 64, 0, 1, 0x0, 0xFFFFFF, 0x0, 0x0⟩]

/-- The Stream contexts page's registers (R694). -/
def rowsCtx : List RegRow :=
  [⟨0x0, 0, 1, 0, 1, 0x800000E0, 0x403F0010, 0x0, 0x70⟩,
   ⟨0x4, 0, 1, 0, 1, 0x0, 0xFFFFF000, 0x0, 0x0⟩,
   ⟨0x8, 0, 1, 0, 1, 0x0, 0xFF, 0x0, 0x0⟩,
   ⟨0xC, 0, 1, 0, 1, 0x0, 0x1F, 0x0, 0x0⟩,
   ⟨0x10, 0, 1, 0, 1, 0x0, 0x0, 0x0, 0x0⟩,
   ⟨0x14, 0, 1, 0, 1, 0x0, 0x0, 0x0, 0x0⟩,
   ⟨0x18, 0, 1, 0, 1, 0x0, 0x0, 0x0, 0x0⟩,
   ⟨0x1C, 0, 1, 0, 1, 0x0, 0x0, 0x0, 0x0⟩,
   ⟨0x20, 0, 1, 0, 1, 0x0, 0x0, 0x0, 0x0⟩,
   ⟨0x24, 0, 1, 0, 1, 0x0, 0x0, 0x0, 0x0⟩,
   ⟨0x28, 0, 1, 0, 1, 0xFFFFFFF0, 0x0, 0x0, 0x0⟩,
   ⟨0x2C, 0, 1, 0, 1, 0xFFFFFFFF, 0x0, 0x0, 0x0⟩,
   ⟨0x30, 0, 1, 0, 1, 0x8000FFFF, 0x0, 0x0, 0x0⟩,
   ⟨0x34, 0, 1, 0, 1, 0x0, 0x0, 0x0, 0x0⟩,
   ⟨0x38, 0, 1, 0, 1, 0x0, 0x0, 0x0, 0x0⟩,
   ⟨0x3C, 0, 1, 0, 1, 0x0, 0x0, 0x0, 0x0⟩]

/-- The Spindle page's registers (R694). -/
def rowsSpindle : List RegRow :=
  [⟨0x40, 0, 1, 0, 1, 0x200, 0x100, 0x0, 0x120⟩,
   ⟨0x44, 0, 1, 0, 1, 0x0, 0x0, 0x0, 0x0⟩,
   ⟨0x48, 0, 1, 0, 1, 0x0, 0x0, 0x0, 0x0⟩,
   ⟨0x4C, 0, 1, 0, 1, 0x0, 0xFFFFFFFF, 0x0, 0x0⟩,
   ⟨0x50, 0, 1, 0, 1, 0x0, 0xFFFFFFFF, 0x0, 0x0⟩,
   ⟨0x54, 0, 1, 0, 1, 0x0, 0xFFFFFF, 0x0, 0x3D0900⟩,
   ⟨0x58, 0, 1, 0, 1, 0x0, 0xFFFFFF, 0x0, 0x0⟩,
   ⟨0x5C, 0, 1, 0, 1, 0x0, 0xFFFFFF, 0x0, 0x0⟩,
   ⟨0x60, 0, 1, 0, 1, 0xFFFF0000, 0xFFFF, 0x0, 0x100⟩,
   ⟨0x64, 0, 1, 0, 1, 0xFFFFFFFF, 0x0, 0x0, 0x100000⟩,
   ⟨0x68, 0, 1, 0, 1, 0x0, 0x0, 0x0, 0x0⟩,
   ⟨0x6C, 0, 1, 0, 1, 0x0, 0x0, 0x0, 0x0⟩,
   ⟨0x70, 0, 1, 0, 1, 0x0, 0x0, 0x0, 0x0⟩,
   ⟨0x74, 0, 1, 0, 1, 0x0, 0x0, 0x0, 0x0⟩,
   ⟨0x78, 0, 1, 0, 1, 0x0, 0x0, 0x0, 0x0⟩,
   ⟨0x7C, 0, 1, 0, 1, 0x0, 0x0, 0x0, 0x0⟩] ++
  [⟨0x80, 0, 1, 0, 1, 0x0, 0x0, 0x0, 0xFFFF8000⟩,
   ⟨0x84, 0, 1, 0, 1, 0x0, 0x0, 0x0, 0x0⟩,
   ⟨0x88, 0, 1, 0, 1, 0x0, 0x0, 0x0, 0x0⟩,
   ⟨0x8C, 0, 1, 0, 1, 0x0, 0x0, 0x0, 0x0⟩,
   ⟨0x100, 0, 1, 0, 1, 0xE0FFFFFF, 0x0, 0x0, 0x100840⟩,
   ⟨0x104, 0, 1, 0, 1, 0xFFFFFFFF, 0x0, 0x0, 0x0⟩,
   ⟨0x108, 0, 1, 0, 1, 0xFFFF, 0x0, 0x0, 0x0⟩,
   ⟨0x10C, 0, 1, 0, 1, 0xFFFFFFFF, 0x0, 0x0, 0x40004000⟩,
   ⟨0x110, 0, 1, 0, 1, 0xFFFF, 0x0, 0x0, 0x4000⟩,
   ⟨0x114, 0, 1, 0, 1, 0xFFFFFF, 0x0, 0x0, 0x101000⟩,
   ⟨0x118, 0, 1, 0, 1, 0x0, 0x0, 0x0, 0x80000000⟩,
   ⟨0x11C, 0, 1, 0, 1, 0x0, 0x0, 0x0, 0x0⟩,
   ⟨0x120, 0, 1, 0, 1, 0x0, 0x0, 0x0, 0x0⟩,
   ⟨0x124, 0, 1, 0, 1, 0x0, 0x0, 0x0, 0x0⟩,
   ⟨0x128, 0, 1, 0, 1, 0x0, 0x0, 0x0, 0x0⟩,
   ⟨0x12C, 0, 1, 0, 1, 0x0, 0x0, 0x0, 0x0⟩] ++
  [⟨0x130, 0, 1, 0, 1, 0x0, 0x0, 0x0, 0x0⟩,
   ⟨0x134, 0, 1, 0, 1, 0x0, 0x0, 0x7, 0x0⟩,
   ⟨0x138, 0, 1, 0, 1, 0x7, 0x0, 0x0, 0x0⟩]

/-- The Fantail page's registers (R694). -/
def rowsFantail : List RegRow :=
  [⟨0x40, 0, 1, 0, 1, 0xBF9F0000, 0x40000000, 0x0, 0x96000000⟩,
   ⟨0x44, 0, 1, 0, 1, 0xFFFF, 0x0, 0x0, 0x0⟩,
   ⟨0x48, 0, 1, 0, 1, 0x0, 0x0, 0x0, 0x4000⟩,
   ⟨0x4C, 0, 1, 0, 1, 0xFFFFFFFF, 0x0, 0x0, 0x61A81770⟩,
   ⟨0x50, 0, 1, 0, 1, 0xFFFFFFFF, 0x0, 0x0, 0x7D01F40⟩,
   ⟨0x54, 0, 1, 0, 1, 0xFFFFFFFF, 0x0, 0x0, 0x7D001F4⟩,
   ⟨0x58, 0, 1, 0, 1, 0xFFFF, 0x0, 0x0, 0x1388⟩,
   ⟨0x5C, 0, 1, 0, 1, 0xFFFFFFFF, 0x0, 0x0, 0x4E20⟩,
   ⟨0x60, 0, 1, 0, 1, 0x0, 0xFFFFF000, 0x0, 0x0⟩,
   ⟨0x64, 0, 1, 0, 1, 0x0, 0xFF, 0x0, 0x0⟩,
   ⟨0x68, 0, 1, 0, 1, 0x0, 0xFFFFFFFF, 0x0, 0x0⟩,
   ⟨0x6C, 0, 1, 0, 1, 0x0, 0xFFFFFFFF, 0x0, 0x0⟩,
   ⟨0x70, 0, 1, 0, 1, 0x0, 0x7, 0x0, 0x2⟩,
   ⟨0x74, 0, 1, 0, 1, 0x0, 0x0, 0x0, 0x0⟩,
   ⟨0x78, 0, 1, 0, 1, 0x0, 0x0, 0x0, 0x0⟩,
   ⟨0x7C, 0, 1, 0, 1, 0x0, 0x0, 0x0, 0x0⟩] ++
  [⟨0x80, 0, 1, 0, 1, 0x0, 0x0, 0x0, 0x0⟩,
   ⟨0x84, 0, 1, 0, 1, 0x0, 0x0, 0x80000000, 0x0⟩,
   ⟨0x88, 0, 1, 0, 1, 0x0, 0x0, 0x0, 0x0⟩,
   ⟨0x8C, 0, 1, 0, 1, 0x0, 0x0, 0x0, 0x0⟩,
   ⟨0x90, 0, 1, 0, 1, 0x0, 0x0, 0x0, 0x0⟩,
   ⟨0x100, 4, 24, 0, 1, 0x0, 0x0, 0x0, 0x0⟩]

/-- The Heat ledger page's registers (R694). -/
def rowsLedger : List RegRow :=
  [⟨0x40, 0, 1, 0, 1, 0xF0FFFF00, 0x0, 0x0, 0xF0041000⟩,
   ⟨0x44, 0, 1, 0, 1, 0x0, 0xFFFFF000, 0x0, 0x0⟩,
   ⟨0x48, 0, 1, 0, 1, 0x0, 0xFF, 0x0, 0x0⟩,
   ⟨0x4C, 0, 1, 0, 1, 0x0, 0xFFFFFFFF, 0x0, 0x0⟩,
   ⟨0x50, 0, 1, 0, 1, 0x0, 0xFFFFFFFF, 0x0, 0x0⟩,
   ⟨0x54, 0, 1, 0, 1, 0x0, 0x7FFF0FFF, 0x0, 0x1FFF0FFF⟩,
   ⟨0x58, 0, 1, 0, 1, 0x0, 0x3FFFFFF, 0x0, 0x7A120⟩,
   ⟨0x5C, 0, 1, 0, 1, 0x0, 0xFFFF, 0x0, 0x1808⟩,
   ⟨0x60, 0, 1, 0, 1, 0xFFFF, 0x0, 0x0, 0x8000⟩,
   ⟨0x64, 0, 1, 0, 1, 0xFFFFFFFF, 0x0, 0x0, 0xBB805DC⟩,
   ⟨0x68, 0, 1, 0, 1, 0xFFFF3F, 0x0, 0x0, 0x190A10⟩,
   ⟨0x6C, 0, 1, 0, 1, 0xFFFFFFFF, 0x0, 0x0, 0x3E802580⟩,
   ⟨0x70, 0, 1, 0, 1, 0xFFFFFF, 0x0, 0x0, 0x51914⟩,
   ⟨0x74, 0, 1, 0, 1, 0xF, 0x0, 0x0, 0x8⟩,
   ⟨0x78, 0, 1, 0, 1, 0x0, 0x0, 0x0, 0x0⟩,
   ⟨0x7C, 0, 1, 0, 1, 0x0, 0x0, 0x0, 0x0⟩] ++
  [⟨0x80, 0, 1, 0, 1, 0x0, 0x0, 0x0, 0x0⟩,
   ⟨0x84, 0, 1, 0, 1, 0x0, 0x0, 0xFFFFFF, 0x0⟩,
   ⟨0x88, 0, 1, 0, 1, 0x0, 0x0, 0x0, 0x0⟩,
   ⟨0x8C, 0, 1, 0, 1, 0x0, 0x0, 0x0, 0x0⟩,
   ⟨0x90, 0, 1, 0, 1, 0x0, 0x0, 0x40000000, 0x0⟩,
   ⟨0x94, 0, 1, 0, 1, 0x0, 0x0, 0x0, 0x0⟩,
   ⟨0x98, 0, 1, 0, 1, 0x0, 0x0, 0x0, 0x0⟩,
   ⟨0x9C, 0, 1, 0, 1, 0x0, 0x0, 0x0, 0x0⟩,
   ⟨0xA0, 0, 1, 0, 1, 0x0, 0x0, 0x0, 0x0⟩,
   ⟨0xA4, 0, 1, 0, 1, 0x0, 0x0, 0x0, 0x0⟩,
   ⟨0x100, 16, 24, 0, 1, 0x0, 0x0, 0x0, 0x0⟩,
   ⟨0x104, 16, 24, 0, 1, 0x0, 0x0, 0x0, 0x0⟩,
   ⟨0x108, 16, 24, 0, 1, 0x0, 0x0, 0x0, 0xFFFF⟩,
   ⟨0x10C, 16, 24, 0, 1, 0x0, 0x0, 0x0, 0x0⟩,
   ⟨0x300, 4, 24, 0, 1, 0xFFFFFF, 0x0, 0x0, 0x0⟩,
   ⟨0x400, 128, 16, 4, 16, 0xFFFFFFFF, 0x0, 0x0, 0x80008000⟩,
   ⟨0x440, 128, 16, 0, 1, 0xFFFF, 0x0, 0x0, 0x8000⟩]

/-- The Lane page's registers (R694). -/
def rowsLane : List RegRow :=
  [⟨0x40, 0, 1, 0, 1, 0x6, 0x9, 0x0, 0x2⟩,
   ⟨0x44, 0, 1, 0, 1, 0x0, 0x0, 0x0, 0x0⟩,
   ⟨0x48, 0, 1, 0, 1, 0x0, 0x0, 0x0, 0x0⟩,
   ⟨0x4C, 0, 1, 0, 1, 0xFFFFFFFF, 0x0, 0x0, 0x1432050A⟩,
   ⟨0x50, 0, 1, 0, 1, 0xFF03, 0x0, 0x0, 0xA03⟩,
   ⟨0x54, 0, 1, 0, 1, 0x0, 0x0, 0x0, 0x280000⟩,
   ⟨0x58, 0, 1, 0, 1, 0x0, 0x803F1F0F, 0x0, 0x280000⟩,
   ⟨0x5C, 0, 1, 0, 1, 0x0, 0x0, 0x0, 0x0⟩,
   ⟨0x60, 0, 1, 0, 1, 0xCFFFFF0F, 0x0, 0x0, 0x84301802⟩,
   ⟨0x64, 0, 1, 0, 1, 0x0, 0x0, 0x0, 0xFF0000⟩,
   ⟨0x68, 0, 1, 0, 1, 0x0, 0x0, 0x0, 0x0⟩,
   ⟨0x6C, 0, 1, 0, 1, 0x0, 0x0, 0x0, 0x0⟩,
   ⟨0x70, 0, 1, 0, 1, 0x0, 0x0, 0x0, 0x0⟩,
   ⟨0x74, 0, 1, 0, 1, 0xCF8F8000, 0x0, 0x0, 0x808000⟩,
   ⟨0x78, 0, 1, 0, 1, 0xFFFFFFFF, 0x0, 0x0, 0x0⟩,
   ⟨0x7C, 0, 1, 0, 1, 0xFFFFFFFF, 0x0, 0x0, 0x0⟩] ++
  [⟨0x80, 0, 1, 0, 1, 0x0, 0x0, 0x60000000, 0x0⟩,
   ⟨0x84, 0, 1, 0, 1, 0x0, 0x0, 0x0, 0x0⟩,
   ⟨0x88, 0, 1, 0, 1, 0x0, 0x0, 0x0, 0x0⟩,
   ⟨0x8C, 0, 1, 0, 1, 0x0, 0x0, 0x0, 0x0⟩,
   ⟨0x90, 0, 1, 0, 1, 0xFFFEFFFF, 0x0, 0x0, 0x1⟩,
   ⟨0x94, 0, 1, 0, 1, 0xFF00, 0x0, 0x0, 0x100⟩,
   ⟨0x98, 0, 1, 0, 1, 0x0, 0x0, 0x0, 0x0⟩,
   ⟨0x100, 0, 1, 0, 1, 0x1, 0x0, 0x0, 0x1⟩,
   ⟨0x104, 0, 1, 0, 1, 0x0, 0x0, 0x0, 0x0⟩,
   ⟨0x108, 0, 1, 0, 1, 0x0, 0x0, 0x0, 0x0⟩,
   ⟨0x10C, 0, 1, 0, 1, 0x0, 0x0, 0x0, 0x0⟩,
   ⟨0x110, 0, 1, 0, 1, 0x0, 0x0, 0x0, 0x0⟩,
   ⟨0x114, 0, 1, 0, 1, 0x0, 0x0, 0x0, 0x0⟩,
   ⟨0x118, 0, 1, 0, 1, 0x0, 0x0, 0x0, 0x0⟩,
   ⟨0x11C, 0, 1, 0, 1, 0x0, 0x0, 0x0, 0x0⟩,
   ⟨0x120, 0, 1, 0, 1, 0x40007FFF, 0x0, 0x0, 0x0⟩] ++
  [⟨0x124, 0, 1, 0, 1, 0xFFFFFFFF, 0x0, 0x0, 0x0⟩,
   ⟨0x128, 0, 1, 0, 1, 0x0, 0x0, 0x0, 0x0⟩,
   ⟨0x12C, 0, 1, 0, 1, 0x0, 0x0, 0xC0000000, 0x0⟩,
   ⟨0x130, 0, 1, 0, 1, 0x0, 0x0, 0xFF, 0x0⟩,
   ⟨0x134, 0, 1, 0, 1, 0xFF, 0x0, 0x0, 0x0⟩,
   ⟨0x140, 0, 1, 0, 1, 0x80000000, 0x1F, 0x0, 0x0⟩,
   ⟨0x144, 0, 1, 0, 1, 0x0, 0xFFFFF000, 0x0, 0x0⟩,
   ⟨0x148, 0, 1, 0, 1, 0x0, 0xFF, 0x0, 0x0⟩,
   ⟨0x14C, 0, 1, 0, 1, 0x0, 0x0, 0x0, 0x0⟩,
   ⟨0x150, 0, 1, 0, 1, 0x1FFFFFF, 0x0, 0x0, 0x0⟩,
   ⟨0x154, 0, 1, 0, 1, 0x0, 0x0, 0x0, 0x0⟩,
   ⟨0x180, 0, 1, 0, 1, 0x0, 0x801F00FF, 0x0, 0x0⟩]

/-- The Twin page's registers (R694). -/
def rowsTwin : List RegRow :=
  [⟨0x40, 0, 1, 0, 1, 0x18007FFF, 0xE0000000, 0x0, 0x1800400D⟩,
   ⟨0x44, 0, 1, 0, 1, 0x0, 0x0, 0x60000000, 0x0⟩,
   ⟨0x48, 0, 1, 0, 1, 0x0, 0x0, 0x0, 0x0⟩,
   ⟨0x4C, 0, 1, 0, 1, 0x0, 0x0, 0x0, 0x0⟩,
   ⟨0x50, 0, 1, 0, 1, 0x0, 0x0, 0x0, 0x0⟩,
   ⟨0x54, 0, 1, 0, 1, 0xFFFFFFFF, 0x0, 0x0, 0x42803E8⟩,
   ⟨0x58, 0, 1, 0, 1, 0xFFFF00FF, 0x0, 0x0, 0x7D00032⟩,
   ⟨0x5C, 0, 1, 0, 1, 0x0, 0x0, 0x0, 0x0⟩,
   ⟨0x60, 0, 1, 0, 1, 0x0, 0x0, 0x0, 0x0⟩,
   ⟨0x64, 0, 1, 0, 1, 0x0, 0x0, 0x0, 0x0⟩,
   ⟨0x68, 0, 1, 0, 1, 0x0, 0x0, 0x0, 0x0⟩,
   ⟨0x6C, 0, 1, 0, 1, 0x0, 0x0, 0x0, 0x0⟩,
   ⟨0x70, 0, 1, 0, 1, 0x0, 0x0, 0x0, 0x0⟩,
   ⟨0x74, 0, 1, 0, 1, 0x0, 0x0, 0xFFFFFF, 0x0⟩,
   ⟨0x78, 0, 1, 0, 1, 0x0, 0x0, 0x0, 0x0⟩,
   ⟨0x7C, 0, 1, 0, 1, 0x0, 0x0, 0x0, 0x0⟩] ++
  [⟨0x80, 0, 1, 0, 1, 0x0, 0x0, 0x0, 0x0⟩]

/-- The Recorder page's registers (R694). -/
def rowsRecorder : List RegRow :=
  [⟨0x40, 0, 1, 0, 1, 0x80FF00FF, 0x0, 0x0, 0x801E0001⟩,
   ⟨0x44, 0, 1, 0, 1, 0x0, 0x0, 0x0, 0x0⟩,
   ⟨0x48, 0, 1, 0, 1, 0x0, 0x0, 0x14000000, 0x0⟩,
   ⟨0x4C, 0, 1, 0, 1, 0x0, 0x0, 0x0, 0x0⟩,
   ⟨0x50, 0, 1, 0, 1, 0x0, 0x0, 0x0, 0x40⟩,
   ⟨0x54, 0, 1, 0, 1, 0x3F, 0x0, 0x0, 0x0⟩,
   ⟨0x60, 0, 1, 0, 1, 0x300007F, 0x0, 0x0, 0x0⟩,
   ⟨0x64, 0, 1, 0, 1, 0x0, 0x0, 0x0, 0x0⟩,
   ⟨0x68, 0, 1, 0, 1, 0x0, 0x0, 0x0, 0x0⟩,
   ⟨0x6C, 0, 1, 0, 1, 0x0, 0x0, 0x0, 0x0⟩,
   ⟨0x70, 0, 1, 0, 1, 0x0, 0x0, 0x0, 0x0⟩,
   ⟨0x74, 0, 1, 0, 1, 0x0, 0x0, 0x0, 0x0⟩,
   ⟨0x78, 0, 1, 0, 1, 0x0, 0x0, 0x0, 0x0⟩,
   ⟨0x7C, 0, 1, 0, 1, 0x0, 0x0, 0x0, 0x0⟩,
   ⟨0x80, 0, 1, 0, 1, 0x0, 0x0, 0x0, 0x0⟩,
   ⟨0x100, 4, 64, 0, 1, 0x0, 0x0, 0x0, 0x0⟩] ++
  [⟨0x200, 4, 16, 0, 1, 0x0, 0x0, 0x0, 0x0⟩,
   ⟨0x400, 8, 96, 0, 1, 0xFFFFFFFF, 0x0, 0x0, 0x0⟩,
   ⟨0x404, 8, 96, 0, 1, 0xFFFFFFFF, 0x0, 0x0, 0x0⟩,
   ⟨0x800, 16, 80, 0, 1, 0xC0FF0000, 0x0, 0x0, 0x0⟩,
   ⟨0x804, 16, 80, 0, 1, 0xFFFFFFFF, 0x0, 0x0, 0x0⟩,
   ⟨0x808, 16, 80, 0, 1, 0x0, 0x0, 0x0, 0x0⟩,
   ⟨0x80C, 16, 80, 0, 1, 0x0, 0x0, 0x0, 0xFFFFFFFF⟩]

/-- The Axes page's registers (R694). -/
def rowsAxes : List RegRow :=
  [⟨0x40, 0, 1, 0, 1, 0x0, 0x0, 0x0, 0x0⟩,
   ⟨0x44, 0, 1, 0, 1, 0x0, 0x0, 0x0, 0x0⟩,
   ⟨0x80, 4, 32, 0, 1, 0x3FF4000, 0x0, 0x0, 0x640000⟩,
   ⟨0x100, 32, 4, 0, 1, 0x80000000, 0x40000003, 0x0, 0x1⟩,
   ⟨0x104, 32, 4, 0, 1, 0x0, 0x0, 0x0, 0x0⟩,
   ⟨0x108, 32, 4, 0, 1, 0x0, 0x0, 0x0, 0x0⟩,
   ⟨0x10C, 32, 4, 0, 1, 0x0, 0x0, 0x0, 0x0⟩,
   ⟨0x110, 32, 4, 0, 1, 0x0, 0x0, 0xC0000000, 0x0⟩,
   ⟨0x200, 128, 8, 0, 1, 0xBC000000, 0x43CF0000, 0x0, 0x20000000⟩,
   ⟨0x204, 128, 8, 0, 1, 0x0, 0x9F9FFF00, 0x0, 0x0⟩,
   ⟨0x208, 128, 8, 0, 1, 0xFFFFFFFF, 0x0, 0x0, 0x19000⟩,
   ⟨0x20C, 128, 8, 0, 1, 0xFFFFFFFF, 0x0, 0x0, 0xFA000⟩,
   ⟨0x210, 128, 8, 0, 1, 0xFFFFFFFF, 0x0, 0x0, 0xFA000⟩,
   ⟨0x214, 128, 8, 0, 1, 0xFFFFFFFF, 0x0, 0x0, 0x3E8000⟩,
   ⟨0x218, 128, 8, 0, 1, 0xFFFFFFFF, 0x0, 0x0, 0x0⟩,
   ⟨0x21C, 128, 8, 0, 1, 0xFFFFFFFF, 0x0, 0x0, 0xC800⟩] ++
  [⟨0x220, 128, 8, 0, 1, 0xFFFFFFFF, 0x0, 0x0, 0x0⟩,
   ⟨0x224, 128, 8, 0, 1, 0xFFFFFFFF, 0x0, 0x0, 0x0⟩,
   ⟨0x228, 128, 8, 0, 1, 0x0, 0x0, 0x0, 0x0⟩,
   ⟨0x22C, 128, 8, 0, 1, 0x0, 0x0, 0x0, 0x0⟩,
   ⟨0x230, 128, 8, 0, 1, 0x0, 0x0, 0x0, 0x0⟩,
   ⟨0x234, 128, 8, 0, 1, 0x0, 0x0, 0x0, 0x10000⟩,
   ⟨0x238, 128, 8, 0, 1, 0xFFFFFFFF, 0x0, 0x0, 0x64058040⟩,
   ⟨0x23C, 128, 8, 0, 1, 0x0, 0x3F003F, 0x0, 0xA0019⟩,
   ⟨0x240, 128, 8, 0, 1, 0xFFFFFFFF, 0x0, 0x0, 0x6400⟩,
   ⟨0x244, 128, 8, 0, 1, 0xFFFFFFFF, 0x0, 0x0, 0xA00⟩,
   ⟨0x248, 128, 8, 0, 1, 0xFFFFFFFF, 0x0, 0x0, 0x400⟩,
   ⟨0x24C, 128, 8, 0, 1, 0xFFFFFFFF, 0x0, 0x0, 0x0⟩,
   ⟨0x250, 128, 8, 0, 1, 0xFFFFFFFF, 0x0, 0x0, 0x0⟩,
   ⟨0x254, 128, 8, 0, 1, 0x0, 0x0, 0x0, 0x0⟩,
   ⟨0x258, 128, 8, 0, 1, 0xFFFFFFFF, 0x0, 0x0, 0x1⟩,
   ⟨0x25C, 128, 8, 0, 1, 0xFFFFFFFF, 0x0, 0x0, 0x1⟩] ++
  [⟨0x260, 128, 8, 0, 1, 0xFFFFFFFF, 0x0, 0x0, 0x1⟩,
   ⟨0x264, 128, 8, 0, 1, 0xFFFFFFFF, 0x0, 0x0, 0x1⟩,
   ⟨0x268, 128, 8, 0, 1, 0xFFFFFFFF, 0x0, 0x0, 0x0⟩,
   ⟨0x26C, 128, 8, 0, 1, 0xFFFF, 0x0, 0x0, 0x0⟩,
   ⟨0x270, 128, 8, 0, 1, 0x0, 0x0, 0x1FF, 0x0⟩,
   ⟨0x800, 4, 128, 0, 1, 0xFFF0FFF, 0x0, 0x0, 0x0⟩]

/-- The Bed lighting page's registers (R694). -/
def rowsLight : List RegRow :=
  [⟨0x40, 0, 1, 0, 1, 0xFFFF00CF, 0x10, 0x0, 0x80000045⟩,
   ⟨0x44, 0, 1, 0, 1, 0x0, 0x3FF0001, 0x0, 0x190000⟩,
   ⟨0x48, 0, 1, 0, 1, 0x0, 0x0, 0x0, 0x0⟩,
   ⟨0x4C, 0, 1, 0, 1, 0xFFFFFFFF, 0x0, 0x0, 0x8800019⟩,
   ⟨0x50, 0, 1, 0, 1, 0x0, 0xFFFF0007, 0x0, 0x9C40007⟩,
   ⟨0x54, 0, 1, 0, 1, 0x0, 0x0, 0x0, 0x0⟩,
   ⟨0x58, 0, 1, 0, 1, 0x0, 0x0, 0x0, 0x0⟩,
   ⟨0x5C, 0, 1, 0, 1, 0x0, 0x0, 0x1FFFFF, 0x0⟩,
   ⟨0x60, 0, 1, 0, 1, 0x0, 0x0, 0xFFFF, 0x0⟩,
   ⟨0x64, 0, 1, 0, 1, 0x0, 0x0, 0x0, 0x0⟩,
   ⟨0x80, 4, 16, 0, 1, 0x0, 0x0, 0x0, 0x0⟩,
   ⟨0x200, 4, 64, 0, 1, 0xFFFFFFFF, 0x0, 0x0, 0x0⟩,
   ⟨0x300, 4, 64, 0, 1, 0xFFFFFFFF, 0x0, 0x0, 0x0⟩]

/-- The Trim page's registers (R694). -/
def rowsTrim : List RegRow :=
  [⟨0x40, 0, 1, 0, 1, 0x1F, 0x0, 0x0, 0x0⟩,
   ⟨0x44, 0, 1, 0, 1, 0xFFFFFFFF, 0x0, 0x0, 0x10000040⟩,
   ⟨0x48, 0, 1, 0, 1, 0xFFFFFF, 0x0, 0x0, 0x0⟩,
   ⟨0x4C, 0, 1, 0, 1, 0x0, 0x0, 0x0, 0x0⟩,
   ⟨0x50, 0, 1, 0, 1, 0x0, 0x0, 0x0, 0x0⟩,
   ⟨0x54, 0, 1, 0, 1, 0x0, 0x0, 0x0, 0x0⟩,
   ⟨0x58, 0, 1, 0, 1, 0x0, 0x0, 0x0, 0x0⟩,
   ⟨0x60, 4, 4, 0, 1, 0xFF3F, 0x0, 0x0, 0x0⟩,
   ⟨0x100, 8, 24, 0, 1, 0x0, 0x0, 0x0, 0x0⟩,
   ⟨0x104, 8, 24, 0, 1, 0x0, 0x0, 0x0, 0x0⟩,
   ⟨0x200, 4, 64, 0, 1, 0x0, 0x0, 0x0, 0x0⟩]

/-- The Identity page's registers (R694). -/
def rowsIdentity : List RegRow :=
  [⟨0x40, 0, 1, 0, 1, 0x0, 0x0, 0x0, 0x0⟩,
   ⟨0x44, 0, 1, 0, 1, 0x0, 0x0, 0x0, 0x0⟩,
   ⟨0x48, 0, 1, 0, 1, 0x0, 0x0, 0x0, 0x0⟩,
   ⟨0x4C, 0, 1, 0, 1, 0x0, 0x0, 0x0, 0x0⟩,
   ⟨0x50, 0, 1, 0, 1, 0x0, 0x0, 0x0, 0x0⟩,
   ⟨0x54, 0, 1, 0, 1, 0x7, 0x0, 0x0, 0x0⟩,
   ⟨0x60, 0, 1, 0, 1, 0x80000000, 0x1F, 0x0, 0x0⟩,
   ⟨0x64, 0, 1, 0, 1, 0x0, 0xFFFFF000, 0x0, 0x0⟩,
   ⟨0x68, 0, 1, 0, 1, 0x0, 0xFF, 0x0, 0x0⟩,
   ⟨0x6C, 0, 1, 0, 1, 0x0, 0x0, 0x0, 0x0⟩,
   ⟨0x70, 0, 1, 0, 1, 0x1FFFFFF, 0x0, 0x0, 0x0⟩,
   ⟨0x74, 0, 1, 0, 1, 0x0, 0x0, 0x0, 0x0⟩,
   ⟨0x78, 0, 1, 0, 1, 0xFFFFFFFF, 0x0, 0x0, 0x0⟩,
   ⟨0x7C, 0, 1, 0, 1, 0x0, 0x0, 0x0, 0x0⟩,
   ⟨0x400, 4, 512, 0, 1, 0xFFFFFFFF, 0x0, 0x0, 0x0⟩]

/-- The Die thermal and power page's registers (R694). -/
def rowsThermal : List RegRow :=
  [⟨0x40, 0, 1, 0, 1, 0xFF, 0x0, 0x0, 0x64⟩,
   ⟨0x44, 0, 1, 0, 1, 0x0, 0x0, 0x0, 0x0⟩,
   ⟨0x48, 0, 1, 0, 1, 0x0, 0x0, 0x0, 0x0⟩,
   ⟨0x4C, 0, 1, 0, 1, 0x0, 0x0, 0x0, 0x0⟩,
   ⟨0x60, 4, 8, 0, 1, 0x0, 0x0, 0x0, 0x0⟩,
   ⟨0x80, 4, 7, 0, 1, 0x0, 0x0, 0x0, 0x0⟩,
   ⟨0xA0, 0, 1, 0, 1, 0x0, 0x0, 0x7F, 0x0⟩]

end Sys2Proof.Machine
end

