-- ==== Sys2Proof/Machine/State.lean ====
section
/-! DEFINITION. The state of the LMN-2400 (INVENTORY.md, State): the register words of BAR0 in one sparse store, the
state no register shows block by block, the device DRAM, and the queue of waiting commands. Plain data throughout.
Every structure's default is its value at reset (R24 and log entry 1). -/

namespace Sys2Proof.Machine

/-! ### Event recorder (R576 to R606) -/

/-- One histogram of R585: bins by number, extremes, sum, count, scale. -/
structure Hist where
  bins : Table Nat := []
  mn : Int := 0
  mx : Int := 0
  sum : Int := 0
  count : Nat := 0
  scale : Nat := 0
  deriving DecidableEq, Repr

/-- One scope of R586 with what its summary reports (R591). -/
structure Scope where
  isOpen : Bool := false
  hists : Table Hist := []
  /-- the LO and W words in force at the opening, where they differ from R584's reset words -/
  cfg : Table Word := []
  tag : Nat := 0
  opened : Nat := 0
  closed : Nat := 0
  layerLo : Nat := 0
  layerHi : Nat := 0
  layers : Nat := 0
  flags : Nat := 0
  firstSeq : Option Nat := none
  lastSeq : Nat := 0
  codes : Table Nat := []
  lastF : Nat := 0
  lastS : Nat := 0
  deriving DecidableEq, Repr

/-- A record of R576: its header's fields and the bytes between header and trailer. -/
structure Rec where
  tally : Nat
  epoch : Nat
  wall : Nat
  typ : Nat
  flags : Nat
  seq : Nat := 0
  code : Nat := 0
  chan : Nat := 0xFF
  body : List Byte
  deriving DecidableEq, Repr

/-- A scope number shown while frozen (R589): the four scopes as they stood. -/
structure Frozen where
  at_ : Nat
  scopes : List Scope
  deriving DecidableEq, Repr

/-- The recorder's state that no register holds. -/
structure RecSt where
  /-- records recognised in the present tick, without SEQ as yet (R579) -/
  tick : List Rec := []
  /-- the layer close waiting for its summary: lowest and highest LAYER_NUMBER, tick of the close (R39, R70) -/
  closing : Option (Nat × Nat × Nat) := none
  booted : Bool := false
  layer : Scope := { isOpen := true }
  last : Scope := {}
  build : Scope := {}
  life : Scope := {}
  frozen : Option Frozen := none
  /-- records that the staging buffer could not take, to be dropped, oldest first (R489) -/
  handed : List Rec := []
  /-- formed records waiting for the log ring (R489), oldest first -/
  staged : List Rec := []
  /-- records waiting for the NVM (R581, R598), oldest first -/
  nvQueue : List Rec := []
  /-- fallback ring of R599, oldest first -/
  fallback : List (List Byte) := []
  fbLost : Nat := 0
  /-- units written to the log since the last writeback, drops since enable (R490) -/
  wbUnits : Nat := 0
  logDrops : Nat := 0
  lifeSince : Nat := 0
  /-- partial sums of the wear sources: source, sum, samples (R602) -/
  wearAcc : Table (Int × Nat) := []
  wearFrom : Nat := 0
  /-- nothing more goes to the NVM before the next reset (R599) -/
  divert : Bool := false
  /-- the fault found by the boot check (R601) -/
  bootFault : Option Nat := none
  /-- the build number (R588) and the wear histories by item (R603), as they stand since the boot restored them -/
  buildNum : Nat := 0
  wearHist : Table (List Int) := []
  deriving DecidableEq, Repr

/-! ### Contents that outlive a reset: NVM and flash (R595 to R601, R607 to R631) -/

/-- The on-die NVM, the flash, the fuses and the trim slots. -/
structure NvSt where
  eventLog : List Rec := []
  lifeSlots : List Rec := []
  /-- event-log sectors begun and LIFETIME records programmed, ever (R596) -/
  logSectors : Nat := 0
  lifeCount : Nat := 0
  lifeScope : Scope := {}
  /-- the wear histories as stored last, and how often they were (R596) -/
  wearHist : Table (List Int) := []
  wearStores : Nat := 0
  wearSaved : Table (Int × Nat) := []
  wearPos : Nat := 0
  halts : List (List Byte) := []
  /-- sequence number of the newest thermal-halt record (R307); records ever programmed into their sectors -/
  haltCount : Nat := 0
  haltPos : Nat := 0
  erases : Table Nat := []
  mark : Bool := false
  bootCount : Nat := 0
  /-- the build number of the newest LIFETIME record (R588, R591) -/
  buildNo : Nat := 0
  topSeq : Option Nat := none
  topEpoch : Option Nat := none
  svn : Nat := 0
  /-- the TRIM_LANE words of the factory record (R626, R627), by lane -/
  factory : Table Nat := []
  /-- the current integrator certificate, the one in the other slot, the current slot (R611) -/
  intCert : Option (List Byte) := none
  intOther : Option (List Byte) := none
  intSlot : Nat := 0
  flash : Table (List Byte) := []
  ngSeq : Nat := 0
  ngHead : List Byte := []
  /-- the machine trim slots' 2,048 bytes (R628, R629), empty when erased -/
  trimA : List Byte := []
  trimB : List Byte := []
  uid : Nat := 0
  deriving DecidableEq, Repr

/-! ### Host port (R472 to R498) and sluice (R499 to R521) -/

/-- What the device sends upstream: posted writes (with their Relaxed Ordering attribute, R59), MSI-X messages,
memory reads and PTM requests. -/
inductive HostTx where
  | write (addr : Nat) (data : List Byte) (ro : Bool)
  | msix (vector : Nat)
  | read (addr len : Nat)
  | ptm (t1 : Nat)
  | completion (data : List Byte) (poisoned : Bool)
  | retry
  deriving DecidableEq, Repr

/-- One loader descriptor in hand (R482) and how far its copy has come. -/
structure LdrDesc where
  src : Nat
  dst : Nat
  flags : Nat
  len : Nat
  dbWord : Nat
  cookie : Nat
  /-- its copy has started; bytes asked for and bytes returned -/
  started : Bool := false
  asked : Nat := 0
  written : Nat := 0
  /-- STATUS once known: 0 OK when all bytes are written (R483) -/
  status : Option Nat := none
  deriving DecidableEq, Repr

/-- A write of BAR0 that waits (R49): address, word, and for HOPPER.DOORBELL_ORD the BAR2 writes still to become
visible (R53). -/
structure Held where
  addr : Nat
  word : Word
  bar2 : Nat := 0
  deriving DecidableEq, Repr

/-- The host port's state that no register holds. -/
structure HostSt where
  /-- writes of BAR0 that wait behind an earlier write of their page (R49), oldest first -/
  held : List Held := []
  /-- most significant words captured by R21, by their addresses -/
  captured : Table Word := []
  /-- more significant words staged by R22 -/
  stagedHi : Table Word := []
  /-- the data of the last host read of BAR0 -/
  lastRead : Word := 0
  /-- upstream traffic, newest first -/
  out : List HostTx := []
  /-- loader descriptors read and not completed, in ring order -/
  ldr : List LdrDesc := []
  /-- next descriptor to ask for, descriptors asked for and not returned, descriptors not read yet that ABORT names -/
  ldrRead : Nat := 0
  ldrAsk : Nat := 0
  ldrAbort : Nat := 0
  ldrPhase : Nat := 1
  /-- Max Read Request Size, Max Payload Size, 10-bit tags, D3hot (R472), the base addresses of the BARs (R474) -/
  mrrs : Nat := 512
  mps : Nat := 128
  tag10 : Bool := false
  d3 : Bool := false
  bar0 : Nat := 0
  bar2 : Nat := 0
  /-- a poisoned completion reported through AER (R478): offset and bytes of the first request since it was cleared -/
  aer : Option (Nat × Nat) := none
  cfgOpen : Bool := false
  msixOn : Bool := false
  fnMask : Bool := false
  msixPend : Nat := 0
  /-- vectors whose message the sluice has asked for (R509, R514, R516), oldest first -/
  msgs : List Nat := []
  ptmBusy : Option Nat := none
  ptmFails : Nat := 0
  ptmLast : Nat := 0
  /-- a dialogue has succeeded since the enable (R494) -/
  ptmSynced : Bool := false
  /-- wall time in units of 25 ps (R494, R712), and what is left of a slew -/
  wall40 : Nat := 0
  slew : Int := 0
  /-- FLR and link-down events waiting for the function to be re-enabled (R475) -/
  flrWait : Nat := 0
  downWait : Nat := 0
  relaxed : Bool := true
  /-- the last SMBus response, and SMB_ADDR[1:0] as sampled at reset -/
  smbResp : List Byte := []
  smbAddr : Nat := 0
  pcieState : Nat := 0
  deriving DecidableEq, Repr

/-- The sluice: masks over the 256 sources, event counts, claim stacks (source, priority; top first), arming and
held messages (vector, new pendings, tally of the request). -/
structure SluSt where
  pending : Nat := 0
  claimed : Nat := 0
  latch : Nat := 0
  filtered : Nat := 0
  counts : Table Nat := []
  claims : Table (List (Nat × Nat)) := []
  armedCtx : Nat := 0
  armedGrp : Nat := 0
  held : Table (Nat × Nat) := []
  deriving DecidableEq, Repr

/-! ### Power, reset, brake, monitors (R642 to R681) -/

/-- The brake, the power states and the monitors beside their registers. -/
structure PwrSt where
  inReset : Bool := false
  /-- PERST_N has been released once since power-on (R644) -/
  released : Bool := true
  step3End : Option Nat := none
  steps : Nat := 0
  /-- tally from which each state's conditions have held (R654) -/
  idleFrom : List (Option Nat) := [none, none, none]
  exitFrom : Option Nat := none
  /-- arming writes held in Lane-idle (R656): address and word -/
  heldWrites : List (Nat × Word) := []
  warnRun : Nat := 0
  coolRun : Nat := 0
  critRun : Nat := 0
  critAt : Option Nat := none
  stopped : Bool := false
  railLow : Table Nat := []
  railOk : Table Nat := []
  /-- brake: release waiting for the tick edge (R679), BSEQ (R371) -/
  release : Bool := false
  bseq : Nat := 0
  /-- tally bits [31:0] of the last change of the brake (R371) -/
  changeLo : Nat := 0
  /-- BRAKE_OUT[3:0] as driven: 0 engaged (R671) -/
  brakeOut : Nat := 0
  /-- soft resets in progress (R690): base of the page, tick in which SRST_BUSY falls -/
  srst : Table Nat := []
  /-- changes of BRAKE_OUT still delayed (R640): whole ticks left, pin, level; oldest first -/
  brakeOutDue : List (Nat × Nat × Bool) := []
  mismatchFrom : Option Nat := none
  deriving DecidableEq, Repr

/-! ### Identity (R607 to R625), trim (R626 to R641), bed lighting (R560 to R575) -/

/-- One Ngabenor entry: its 288 bytes once signed, 224 before (R620). -/
structure NgEntry where
  bytes : List Byte
  deriving DecidableEq, Repr

/-- The identity engine beside its registers. -/
structure IdSt where
  /-- entries formed and not yet signed, oldest first (R622) -/
  forming : List NgEntry := []
  /-- signed entries waiting for the ring, oldest first, at most 16 -/
  queue : List NgEntry := []
  newest : List Byte := []
  lost : Bool := false
  build : Nat := 0
  index : Nat := 0
  link : List Byte := []
  opened : Bool := false
  /-- flash or certificate command in progress: 0 none, 1 install, 2 erase sector, 3 program, 4 INT_ERASE -/
  busy : Nat := 0
  fwVersion : Nat := 0
  runSvn : Nat := 0
  /-- the flash address and the staging object of the command in progress -/
  cmdAddr : Nat := 0
  cmdObj : List Byte := []
  deriving DecidableEq, Repr

/-- A trim run in progress (R633 to R638): phase 0 first reads, 1 settle, 2 measurement, 3 last reads, 4 store; tick of
the phase's beginning; channels; first tick of the measurement; sums of A, B, R and the measurements per channel * 512
+ block; channels with a bad measurement. -/
structure TrimRun where
  phase : Nat
  at_ : Nat
  chans : Nat
  from_ : Nat := 0
  blocks : Table (List Nat) := []
  bad : Nat := 0
  deriving DecidableEq, Repr

/-- The trim engine beside its registers: heads whose word 0x0010 is still awaited, heads that reported TRIM, the
record to be stored. -/
structure TrimSt where
  run : Option TrimRun := none
  waiting : Nat := 0
  heads : Nat := 0
  record : List Byte := []
  deriving DecidableEq, Repr

/-- The lamp array beside its registers. -/
structure LightSt where
  residual : Table Nat := []
  recovery : Bool := false
  bootLeft : Nat := 0
  shortDue : Bool := false
  shortSlot : Bool := false
  /-- the row slot run last: ROW_SEL before it, the clock at which it ended, whether it was the short test (R560, R573) -/
  slotFrom : Nat := 0
  slotEnd : Nat := 6250
  slotTest : Bool := false
  diagFrame : Bool := false
  camFilt : Bool := false
  /-- the row slot to run next; 16 frames the boundary -/
  next : Nat := 0
  /-- clocks for which each COL_PWM was high in the last row slot (R560, R563, R571) -/
  pulses : List Nat := List.replicate 16 0
  deriving DecidableEq, Repr

/-! ### Millraces and DRAM (R438 to R471) -/

/-- An entry of a write queue (R450): the granule's base address in the device's map, the bytes it holds (offset in
the granule, byte), tally of its arrival. Poison under a partial entry (R454) stays in Mem.poisoned. -/
structure WqEntry where
  granule : Nat
  bytes : Table Byte
  at_ : Nat := 0
  deriving DecidableEq, Repr

/-- What a read of DRAM is for (R447): no requester of the model, the hopper or BAR2 by the number of the read, the ledger or the
fantail by the key of its cell. -/
inductive Asker where
  | other
  | hopper (id : Nat)
  | bar2 (id : Nat)
  | ledger (key : Nat)
  | fantail (key : Nat)
  deriving DecidableEq, Repr

/-- A read in progress: class (0 RT-short, 1 RT-bulk, 2 bulk), requester as RT_READ numbers it, address, bytes, tally of its
arrival, for a bulk read the bit errors it meets, what it is for, and its bytes, each with poison, once a write after it or
its service has fixed them (R452). -/
structure McRead where
  cls : Nat
  who : Nat
  addr : Nat
  len : Nat
  at_ : Nat
  errs : List SymbolError := []
  asker : Asker := .other
  data : Option (List (Byte × Bool)) := none
  deriving DecidableEq, Repr

/-- A BAR2 read not answered (R477 to R479): offset, address under the window of its arrival, byte enables, BAR2 writes before it
still to become visible, its number, and whether its millraces have it. -/
structure Bar2Read where
  off : Nat
  addr : Nat
  en : List Bool
  left : Nat
  id : Nat
  asked : Bool := false
  deriving DecidableEq, Repr

/-- DRAM: bytes committed, granules holding poison, the two write queues, writes waiting for a full queue
(R455), BAR2 writes received and not yet accepted (address, bytes, none where not enabled; oldest first; R51, R53). -/
structure Mem where
  dram : List Host.Cell := []
  poisoned : List Nat := []
  wq0 : List WqEntry := []
  wq1 : List WqEntry := []
  waiting : List (Nat × List Byte) := []
  bar2 : List (Nat × List (Option Byte)) := []
  /-- BAR2 reads that are not answered, oldest first, and the number of the next -/
  bar2Reads : List Bar2Read := []
  bar2Next : Nat := 0
  /-- the oldest BAR2 write has been counted as waiting for a full queue (R455) -/
  bar2Full : Bool := false
  deriving DecidableEq, Repr

/-- One millrace beside its registers. -/
structure McSt where
  reads : List McRead := []
  /-- reads served whose requester has not taken them -/
  served : List McRead := []
  /-- open rows: bank (rank, bank group, bank), row and tick of its last hit -/
  rows : Table (Nat × Nat) := []
  /-- refresh debt per rank * 4 + bank index (R458) -/
  debt : Table Nat := []
  /-- the ticks in which intervals fell due last, by rank * 4 + bank index (R457) -/
  dueAt : Table Nat := []
  draining : Bool := false
  draws : Nat := 0
  nrrDue : List (Nat × Nat) := []
  scrubAt : Nat := 0
  /-- tick in which the patrol's pass began (R462) -/
  scrubFrom : Option Nat := none
  /-- SELF_REFRESH is being left: steps 4 and 5 are repeated (R469) -/
  leaving : Bool := false
  failAt : Nat := 0
  /-- tick since which the oldest RT-bulk read is the oldest (R449), and the RT-short reads that it has yielded to (R448) -/
  bulkFrom : Nat := 0
  yielded : Nat := 0
  first : Bool := true
  deriving DecidableEq, Repr

/-! ### Axes, encoders, general inputs (R522 to R559) -/

/-- One encoder beside its registers: filtered A, B and Z. -/
structure EncSt where
  a : Bool := false
  b : Bool := false
  z : Bool := false
  deriving DecidableEq, Repr

/-- One axis beside its registers: p in 2^-32 microsteps, v in 2^-48 per update, a and jerk in 2^-64 (R528, log
entry 15); the parameters latched by R531. -/
structure AxSt where
  p : Int := 0
  v : Int := 0
  a : Int := 0
  vmax : Nat := 0
  accel : Nat := 0
  decel : Nat := 0
  qdecel : Nat := 0
  jerk : Nat := 0
  target : Int := 0
  vjog : Int := 0
  /-- VMAX, ACCEL, DECEL and JERK as programmed, and the updates left of a move from rest (R533) -/
  progV : Nat := 0
  progA : Nat := 0
  progD : Nat := 0
  progJ : Nat := 0
  due : Option Nat := none
  /-- the stop in progress uses QDECEL -/
  quick : Bool := false
  gearNum : Int := 1
  gearDen : Nat := 1
  baseC : Nat := 0
  baseP : Int := 0
  lastC : Nat := 0
  num2 : Int := 1
  den2 : Nat := 1
  switchC : Nat := 0
  followExc : Bool := false
  /-- homing: latches of SEARCH, APPROACH and INDEX, start of the phase's travel, home input seen last, first edge
  still armed, last latch for the re-arm distance, point where the input went inactive in CLEAR -/
  latch1 : Int := 0
  latch2 : Int := 0
  latchZ : Int := 0
  latched : Bool := false
  travelFrom : Int := 0
  homeSeen : Bool := false
  reArm : Option Int := none
  clearAt : Option Int := none
  homeFail : Bool := false
  homeVel : Int := 0
  /-- updates at rest; updates left to wake -/
  rest : Nat := 0
  wake : Nat := 0
  /-- at standstill: the mode that STANDSTILL selects has been entered (R543) -/
  still : Bool := false
  /-- outputs: DIR level, STEP pulses in the last update, phase references, sigma-delta accumulators and ones -/
  dir : Bool := false
  step : Bool := false
  irefA : Int := 0
  irefB : Int := 0
  accA : Int := 0
  accB : Int := 0
  onesA : Nat := 0
  onesB : Nat := 0
  deriving DecidableEq, Repr

/-! ### Spindles (R125 to R194) -/

/-- A piece of a motion segment: its duration in ticks, the distance (nm), speed and acceleration at its start, and
its jerk. -/
structure Piece where
  t : Rat
  s : Rat
  v : Rat
  a : Rat
  j : Rat
  deriving DecidableEq, Repr

/-- A motion segment (R135): its pieces over the continuous duration `time`, stretched over `n` samples, along a
path of points in 2^-16 nm (R134). -/
structure Move where
  pieces : List Piece
  time : Rat
  n : Nat
  path : List (Int × Int)
  deriving DecidableEq, Repr

/-- The stitch end of a part record (R230 to R232): part A or B, s1 and s2 in micrometres from the whole mark's
start, and how far the part's start lies from it. -/
structure Stitch where
  isA : Bool
  s1 : Int
  s2 : Int
  off : Int
  deriving DecidableEq, Repr

/-- A vector record in a buffer: its 32 bytes, its stream and index, whether it is a share record, the malformed
code it stops at (R79), its stitch, and whether it retired before a brake (R162). -/
structure Item where
  bytes : List Byte
  stream : Nat := 0
  idx : Nat := 0
  share : Bool := false
  mal : Option Nat := none
  stitch : Option Stitch := none
  retired : Bool := false
  /-- FOCUS_BASE (R171) and the profile copy (R183) in force when the record was taken up -/
  base : Option Int := none
  copy : Option Nat := none
  deriving DecidableEq, Repr

/-- Where a record is taken up again (R163): from its beginning, from a distance along its mark with the point and
whether its chain's head is skywritten, or with ticks of its exposure or dwell done. -/
inductive From where
  | start
  | along (s : Rat) (x y : Int) (sky : Bool)
  | after (ticks : Nat)
  deriving DecidableEq, Repr

/-- What a sample belongs to (R163's rows). -/
inductive Cat where
  | idle | pre | lit | jump | point | dwell | post | stop
  deriving DecidableEq, Repr

/-- A planned point with the sample formed from it: the tick in which it acts is `tick` + 32. -/
structure PlanPt where
  tick : Nat
  x : Int
  y : Int
  tag : Nat
  cat : Cat := .idle
  item : Option Item := none
  /-- distance from the mark start in nm, or ticks of the exposure or dwell done -/
  s : Rat := 0
  lit : Bool := false
  /-- PRE 0 by a cut, a territory action or the brake -/
  pre : Nat := 0
  ceil : Nat := 0xFFFF
  ff : Nat := 0x8000
  tentEn : Bool := true
  xc : Int := 0
  yc : Int := 0
  zc : Int := 0
  sky : Bool := false
  /-- the lit sample's number in its run, and the run's number (0: none) -/
  k : Nat := 0
  run : Nat := 0
  /-- ramp and speed factors r and s of R184, and the profile copy (R183) -/
  rf : Nat := 0
  sf : Nat := 0
  copy : Nat := 0
  /-- from where the record was being executed (R163) -/
  frm : From := .start
  deriving DecidableEq, Repr

/-- The phases of a record. -/
inductive PhKind where
  | jump | settle | grant | runin | main | runout | pad | expose | dwell | stop
  deriving DecidableEq, Repr

/-- A phase: its samples (0: as long as the grant takes), its segment if it moves, and the distance from the mark
start at which it begins. -/
structure Phase where
  kind : PhKind
  n : Nat
  move : Option Move := none
  s0 : Rat := 0
  deriving DecidableEq, Repr

/-- The record in execution: phases left (the first in progress), samples formed in it and in the record. -/
structure Exec where
  item : Item
  phases : List Phase
  k : Nat := 0
  formed : Nat := 0
  /-- commanded speed; whether R157 lowered it -/
  vc : Rat := 0
  limited : Bool := false
  /-- run-out or run-in shortened under R150 -/
  clipped : Bool := false
  /-- the chain is cut at the mark's end (R152); the record has been counted as stretched (R136) -/
  cut : Bool := false
  stretched : Bool := false
  /-- it has been counted in PLAN_LIMITED -/
  slowed : Bool := false
  /-- ticks of the exposure or dwell done before a restart; lowest lit distance -/
  base : Nat := 0
  lo : Rat := 0
  frm : From := .start
  deriving DecidableEq, Repr

/-- A run in progress (R197): number, lit samples formed, K and whether it is fixed (R158), CONTINUE successors the
plan counts on. -/
structure Run where
  no : Nat := 0
  k : Nat := 0
  total : Nat := 0
  committed : Bool := false
  succ : Nat := 0
  sky : Bool := false
  prof : Nat := 0
  cls : Nat := 0
  active : Bool := false
  deriving DecidableEq, Repr

/-- A cut whose restart has not exposed past it (R163, R213): the record, from where it is taken up again, and the tick
in which the cut point was formed. -/
structure CutPt where
  item : Item
  frm : From
  tick : Nat
  deriving DecidableEq, Repr

/-- One spindle beside its registers. -/
structure SpinSt where
  buf : List Item := []
  redo : List (Item × From) := []
  exec : Option Exec := none
  run : Run := {}
  /-- the spot's place in 2^-16 nm, its speed and acceleration along the path per tick -/
  px : Int := 0
  py : Int := 0
  v : Rat := 0
  a : Rat := 0
  /-- direction of the last motion as a vector -/
  dx : Int := 1
  dy : Int := 0
  /-- the same after the sample of the tick before (R161) -/
  ox : Int := 0
  oy : Int := 0
  ov : Rat := 0
  oa : Rat := 0
  oz : Int := 0
  /-- the way to rest in progress: its segment and samples formed (R161, R213) -/
  stop : Option (Move × Nat) := none
  focus : Int := 0
  z : Int := 0
  /-- the record before in its stream, for R144 -/
  prev : Option Item := none
  /-- the sample formed in the present tick, and those of the ticks before, newest first -/
  sample : Option PlanPt := none
  hist : List PlanPt := []
  /-- the messages formed of late for its head and its laser (R409): tick, payloads, newest first -/
  msgs : List (Nat × List Nat × List Nat) := []
  /-- mark-start request of the present tick (bed nm) and the grant held (R195, R197) -/
  req : Option (Int × Int) := none
  grant : Option (Int × Int) := none
  waited : Nat := 0
  alarmed : Bool := false
  cutNow : Bool := false
  /-- the last lit sample of the run has been formed in this tick (R197) -/
  runEnd : Bool := false
  /-- a cut whose restart has not exposed past it (R163, R213) -/
  cut : Option CutPt := none
  viol : Bool := false
  /-- braking: state held before, stop finished in tick, stop begun in tick, disable asked, in restart after a brake -/
  heldState : Nat := 0
  stopEnd : Option Nat := none
  stopFrom : Nat := 0
  disabling : Bool := false
  resuming : Bool := false
  /-- the brake point lay in the lit portion of a mark: a seam is logged at the restart (R163) -/
  seamDue : Bool := false
  trackRun : Nat := 0
  trackAt : Nat := 0
  trackErr : Bool := false
  /-- the fence waited at: its record, tick of arrival, whether it completed (passes next tick) and how -/
  fence : Option (Item × Nat) := none
  fencePass : Bool := false
  /-- the tick in which it passed its last fence (R115) -/
  passedAt : Option Nat := none
  absentOk : Nat := 0
  timedOut : Bool := false
  /-- the LAYER_END it has arrived at in the open layer (R109, R113) -/
  layerEnd : Option Item := none
  lastTag : Nat := 0
  deriving DecidableEq, Repr

/-- Field grids, profiles and the ledger factors in force. Grid nodes by (spindle * 2 + bank) * 16,641 + node;
profile entries by copy * 1,024 + index. -/
structure TabSt where
  grid : Table (Int × Int × Int) := []
  prof : Table (List Byte) := []
  /-- tick of OLD_USERS reaching 0 with a publish open (R181) -/
  copyFrom : Option Nat := none
  deriving DecidableEq, Repr

/-! ### Lanes and partners (R316 to R393) -/

/-- A block on the wire: lane, whether a control block, its 64-bit payload, and its 66 line bits, bit 0 sent first: the
header, then the payload as scrambled (R321, R322). -/
structure LaneTx where
  lane : Nat
  ctrl : Bool
  payload : Nat
  line : Nat
  deriving DecidableEq, Repr

/-- A management request (R374): capability word it reads, if any; tally sent; resends. Capability words 0 to 3 are read
under R378, word 16 (as number 4) by a trim run (R634). -/
structure MgmtReq where
  rseq : Nat := 0
  addr : Nat
  write : Bool
  data : Nat
  cap : Option Nat := none
  at_ : Nat := 0
  tries : Nat := 0
  deriving DecidableEq, Repr

/-- The head or laser behind a lane (R358 to R369, R372, R376, R715). -/
structure Partner where
  /-- its own capability word 0: PROTO_VER, DEPTH or LEAD, credits (R377) -/
  word0 : Nat := 0x01280010
  synced : Bool := false
  count : Nat := 0
  /-- samples held: tick, message type, payload -/
  held : List (Nat × Nat × Nat) := []
  port : Nat := 0
  /-- tick, by the device's tally, of the last sample with ACTIVE 1 on each port -/
  act0 : Option Nat := none
  act1 : Option Nat := none
  /-- ACT_P0 and ACT_P1 as it reports them -/
  actP0 : Bool := false
  actP1 : Bool := false
  braked : Bool := true
  /-- BSEQ of the engage held; none from its reset or the lane's entry to ACTIVE (R716) -/
  engaged : Option Nat := none
  bseq : Nat := 0
  factor : Nat := 32768
  cseq : Option Nat := none
  exempt : Bool := true
  slip : Bool := false
  under : Bool := false
  gap : Bool := false
  x : Int := 0
  y : Int := 0
  z : Int := 0
  out : Nat := 0
  /-- last executed management request and how many were executed (R376) -/
  execSeq : Option Nat := none
  execs : Nat := 0
  deriving DecidableEq, Repr

/-- A camera frame being received or waiting for its header to be visible (R384, R385). -/
structure CamFrame where
  at_ : Nat
  frame : Nat
  info : Nat
  unit : Nat
  bytes : Nat := 0
  status : Nat := 0
  units : Nat := 0
  deriving DecidableEq, Repr

/-- A camera stream beside its registers. -/
structure CamSt where
  credits : Nat := 0
  dseq : Option Nat := none
  opened : Option CamFrame := none
  /-- closed frames whose header is not yet visible, oldest first -/
  waiting : List CamFrame := []
  /-- unit at which the next record starts -/
  next : Nat := 0
  deriving DecidableEq, Repr

/-- One lane beside its registers. -/
structure LaneSt where
  at_ : Nat := 0
  relock : Bool := false
  attempt : Nat := 0
  /-- RATE has been written in DOWN, DETECT or BACKOFF since the last entry to TRAIN (R333) -/
  rateDue : Bool := false
  /-- attempts 1 and 2 of this sequence that ran at 12.5 Gb/s: bits 0 and 1 -/
  fast : Nat := 0
  retrain : Bool := false
  probeAt : Nat := 0
  /-- started by the start-up order (R648, R649) -/
  order : Bool := false
  /-- the line: last 58 bits sent and received, the last one in bit 57 (R322); consecutive valid headers, invalid ones
  among the last 64 (newest in bit 0), the next payload not yet descrambled (R326, R322); consecutive non-data blocks
  received and sent, a line keeper due (R340, R341) -/
  scr : Nat := 0x3FFFFFFFFFFFFFF
  rxScr : Nat := 0
  hdrRun : Nat := 0
  hdrBad : Nat := 0
  drop : Bool := false
  nonRx : Nat := 0
  nonTx : Nat := 0
  keepDue : Bool := false
  /-- training: FOM at the CTLE settings tried, request outstanding (0 none, 1 pre+, 2 pre-, 3 post+, 4 post-), whether it
  is being taken back, whether it is still to be sent, FOM before it, requests in a row without gain, DFE windows left,
  DONE reached here and there -/
  foms : Table Nat := []
  eqReq : Nat := 0
  eqBack : Bool := false
  eqDue : Bool := false
  eqFom : Nat := 0
  eqFail : Nat := 0
  dfeLeft : Nat := 0
  rxReady : Bool := false
  peerReady : Bool := false
  /-- training frames sent: COUNT, block of the frame, answers to the partner's requests, PRBS31 -/
  frames : Nat := 0
  txPos : Nat := 0
  ackTx : Nat := 0
  prbsTx : Nat := 0x7FFFFFFF
  /-- blocks in a row towards the lock criterion (R334) -/
  idles : Nat := 0
  offers : Nat := 0
  offerOk : Bool := false
  confirms : Nat := 0
  sent : Nat := 0
  reqAt : Option Nat := none
  rxIdle : Bool := false
  /-- tick of the last valid EI_ENTER, blocks received since (R345) -/
  eiAt : Option Nat := none
  eiBlocks : Nat := 0
  keepTx : Nat := 0x7FFFFFFF
  keepRx : Option Nat := none
  fomV : Nat := 0
  failRun : Nat := 0
  warned : Bool := false
  /-- trial of R339: windows to the next one, its number in the rotation, windows left, FOM sum, FOM before, setting
  to restore -/
  trialIn : Nat := 16
  trialNo : Nat := 0
  trialLeft : Nat := 0
  trialSum : Nat := 0
  trialFom : Nat := 0
  oldCtle : Nat := 0
  oldPhase : Int := 0
  phase : Int := 0
  /-- transmit: out-of-slot blocks for the next tick, those behind the TICK_MARK still to come in this tick, words used,
  BRAKE blocks to repeat with ticks to wait first and times, held retrain blocks, TRAIN behind a held one, FOM report
  due -/
  late : List Nat := []
  hold : Bool := false
  soon : List Nat := []
  marked : Bool := false
  used : Nat := 0
  reps : List (Nat × Nat × Nat) := []
  heldRt : List Nat := []
  trainDue : Bool := false
  fomRep : Bool := false
  creditDue : Nat := 0
  /-- management: waiting and outstanding requests, last RSEQ -/
  mq : List MgmtReq := []
  mout : List MgmtReq := []
  rseq : Nat := 0
  /-- capability words read in this entry to ACTIVE, reads that failed, the words of the entry before (R378) -/
  caps : List (Option Nat) := []
  capBad : Nat := 0
  capsOld : List Nat := []
  capOpen : Bool := false
  /-- tick of the BSEQ change awaiting its echo (R373) -/
  echo : Option (Nat × Nat) := none
  fault : Bool := false
  /-- port bits of the last uplink (R369, R423, R432) -/
  seen0 : Bool := false
  seen1 : Bool := false
  /-- first of the run of uplinks that report the other port silent (R401) -/
  quietFrom : Option Nat := none
  /-- switch-over: tick of forming of the next sample to send while catching up (R426), nothing else before the first
  sample (R427) -/
  catchUp : Option Nat := none
  mute : Bool := false
  /-- checker: PRBS state once seeded, next USER or pattern state of the generator; error raised since entry -/
  chk : Option Nat := none
  raised : Bool := false
  gen : Nat := 0x7FFFFFFF
  /-- words of the elastic buffer of FAR_PARALLEL, oldest first: whether a control block, none for an invalid header,
  and payload; it sends (R347) -/
  far : List (Option Bool × Nat) := []
  farOn : Bool := false
  /-- injection: blocks to the next one -/
  injIn : Nat := 0
  xyAt : Option Nat := none
  xyFrame : Nat := 0
  p : Partner := {}
  cam : CamSt := {}
  deriving DecidableEq, Repr

/-! ### Hopper (R80 to R124) and ledger (R280 to R315) -/

/-- A read in flight for a stream: ring index of its first record, records, its number, and the records once returned. -/
structure HopRead where
  first : Nat
  count : Nat
  id : Nat := 0
  got : Option (List Item) := none
  deriving DecidableEq, Repr

/-- One stream context beside its registers. -/
structure CtxSt where
  reads : List HopRead := []
  /-- reads whose records are not wanted any more and that have not returned (R105) -/
  gone : List HopRead := []
  /-- staging queue of a share stream (R102) -/
  staged : List Item := []
  focusBase : Int := 0
  wbSeq : Nat := 0
  wbCount : Nat := 0
  /-- the record a halt stands at -/
  faulty : Option Item := none
  /-- records of a share stream that were discarded with the buffer of a member (R89), by index -/
  lost : List Nat := []
  /-- read no further: a LAYER_END or a halting malformed record has been read (R79, R106) -/
  readStop : Bool := false
  /-- a share stream has reached its LAYER_END (R112) -/
  layerEnd : Option Nat := none
  deriving DecidableEq, Repr

/-- The hopper beside its registers. -/
structure HopSt where
  ctx : Table CtxSt := []
  /-- share offers for the next tick: stream, record (R110) -/
  offers : List (Nat × Item) := []
  /-- the number of the next read -/
  readNext : Nat := 0
  /-- spindles whose fence timeout expires in this tick (R121) -/
  expired : List Nat := []
  /-- doorbells waiting (R53, R55): word, BAR2 writes still to become visible -/
  ordDoorbells : List (Nat × Nat) := []
  /-- least and greatest LAYER_NUMBER passed in the open layer (R70) -/
  layerLo : Option Nat := none
  layerHi : Nat := 0
  /-- fences, by identifier and mask, for which FENCE_TIMEOUT has been raised (R121) -/
  timedOut : List (Nat × Nat) := []
  deriving DecidableEq, Repr

/-- A ledger cell in the neighbourhood cache (R286): excess in 2^-16 K, the tick it refers to, its layer tag. -/
structure Cell where
  value : Nat
  tick : Nat
  tag : Nat
  deriving DecidableEq, Repr

/-- One part of a deposit (R293, R295): cell, amount, tick of the deposit. -/
structure Deposit where
  key : Nat
  amount : Nat
  tick : Nat
  deriving DecidableEq, Repr

/-- A channel of the ledger beside its registers. -/
structure LedCh where
  /-- feedforward factor of the sample formed last and of the one before it, the last one counted as late (R298), ceiling in
  force (R313) -/
  ff : Nat := 0x8000
  ffOld : Nat := 0x8000
  late : Bool := false
  ceil : Nat := 0xFFFF
  level : Nat := 0
  below : Nat := 0
  armed : Bool := true
  /-- evaluations so far; the last lit ones: number, T_spot, oldest first (R300) -/
  evals : Nat := 0
  lits : List (Nat × Nat) := []
  tspot : Nat := 0
  rise : Int := 0
  cell : Option (Nat × Nat) := none
  warnCnt : Nat := 0
  warnOk : Bool := true
  haltCnt : Nat := 0
  floorCnt : Nat := 0
  meets : Bool := false
  /-- consecutive measured powers (R311, R312); ticks measured and missing, newest first -/
  bad : Nat := 0
  good : Nat := 0
  seen : List Nat := []
  missing : List Nat := []
  deriving DecidableEq, Repr

/-- The ledger beside its registers. Cells by j * 4,096 + i. -/
structure LedSt where
  ch : Table LedCh := []
  cache : Table Cell := []
  /-- cells asked for and not returned, oldest first -/
  fetch : List Nat := []
  /-- deposits of the tick before, and those waiting for their cells -/
  pend : List Deposit := []
  held : List Deposit := []
  /-- the cells before the parts of the tick before reached them, where they have done so in this tick (R294) -/
  prior : Option (Table Cell) := none
  /-- measured powers to deposit in the next tick: arrival, channel, tick, power; substitutes: channel, tick -/
  arrived : List (Nat × Nat × Nat × Nat) := []
  subs : List (Nat × Nat) := []
  /-- register words in force since the last tick boundary (R314), those of the tick before and its layer tag (R313) -/
  live : Table Word := []
  liveOld : Table Word := []
  tagOld : Nat := 0
  /-- MP_CLEAR by channel, and write-1-to-clear writes, for the next tick boundary (R314), oldest first -/
  mpClears : List Nat := []
  clears : List (Nat × Word) := []
  /-- ticks of late in which the brake was engaged (R310), newest first -/
  braked : List Nat := []
  /-- k of R289, tally and layer tag of the fill's start -/
  k : Nat := 0
  fillAt : Nat := 0
  fillTag : Nat := 0
  evalAt : Option Nat := none
  sweepAt : Nat := 0
  deriving DecidableEq, Repr

/-! ### Tentering loops (R238 to R279) -/

/-- A run start still to act (R257): tick in which its first lit sample acts, run, EN, TENT_EN, contiguous, profile
copy and index. -/
structure RunStart where
  t0 : Nat
  run : Nat
  en : Bool
  te : Bool
  contig : Bool
  copy : Nat
  prof : Nat
  deriving DecidableEq, Repr

/-- An excursion or a saturation in progress (R274, R275), and the consecutive measurements towards one. -/
structure Excursion where
  run : Nat := 0
  isOpen : Bool := false
  start : Nat := 0
  sign : Bool := false
  peak : Nat := 0
  x : Int := 0
  y : Int := 0
  tag : Nat := 0
  deriving DecidableEq, Repr

/-- One tentering loop beside its registers. -/
structure TentSt where
  /-- c_prev, acc, y and whether y waits for its first measurement (R246) -/
  cprev : Nat := 32768
  acc : Int := 0
  y : Int := 0
  yInit : Bool := true
  /-- slew limit of the profile in force (R250) -/
  slew : Nat := 0
  /-- the run started last, the runs contiguous with it, whether a run with TENT_EN = 1 is acting -/
  run : Nat := 0
  runs : List Nat := []
  inRun : Bool := false
  /-- EN at the start of the run being formed, whether it carries TENT_EN = 1, the run, last acting tick of a lit sample
  with TENT_EN = 1, last acting tick of each run -/
  formEn : Bool := false
  formTe : Bool := false
  formRun : Nat := 0
  litEnd : Option Nat := none
  ends : Table Nat := []
  starts : List RunStart := []
  /-- state held before HELD; measurements of the run in SETTLING -/
  preHeld : Nat := 3
  settled : Nat := 0
  /-- consecutive counts (R268); ticks measured and ticks counted MISSING, newest first -/
  bad : Nat := 0
  good : Nat := 0
  seen : List Nat := []
  missing : List Nat := []
  lostAt : Option Nat := none
  lastT : Nat := 0
  exc : Excursion := {}
  sat : Excursion := {}
  /-- blocks (R260 to R263): factor last sent, SEQ, tick of the last block, block waiting (reason, factor) -/
  sent : Nat := 32768
  seq : Nat := 0
  lastBlock : Nat := 0
  sentNow : Bool := false
  waiting : Option (Nat × Nat) := none
  /-- factor handed over by the start of each of the last ticks (R239), newest first -/
  handed : List (Nat × Nat) := []
  deriving DecidableEq, Repr

/-! ### Fantail (R195 to R237) -/

/-- The fantail beside its registers. Territory cells by j * 1,024 + i. -/
structure FanSt where
  cells : Table Nat := []
  /-- cells asked for and not returned, oldest first -/
  fetch : List Nat := []
  /-- words of FLOW, KEEP_A, KEEP_B in force since the last tick boundary (R217) -/
  live : Table Word := []
  /-- pairs in conflict in the tick before (R214): lower number, higher number -/
  exc : List (Nat × Nat) := []
  /-- a loss of gas flow has been raised (R216) -/
  lost : Bool := false
  /-- grants of the present tick (R208) -/
  granted : List (Nat × (Int × Int)) := []
  deriving DecidableEq, Repr

/-! ### Twin operation (R394 to R437) -/

/-- An uplink block kept for a replay (R414): tick, lane, 0 MEAS or 1 MPOWER, body, CHK. -/
structure UpLog where
  tick : Nat
  lane : Nat
  kind : Nat
  body : Nat
  chk : Nat
  deriving DecidableEq, Repr

/-- A forwarded command waiting for its tick (R411): tick, KIND, ARG; the host's own write (address, word) that it
carries out, if it is one of this device's. -/
structure Fwd where
  tick : Nat
  kind : Nat
  arg : Nat
  host : Option (Nat × Word) := none
  deriving DecidableEq, Repr

/-- A replay in progress (R414): boundary, tick of its start, channels, the record loaded, the device's own record of that
boundary and its state there. -/
structure Replay where
  boundary : Nat
  start : Nat
  chans : Nat
  record : List Byte
  own : List Byte := []
  spin : Table SpinSt := []
  tent : Table TentSt := []
  led : Table LedCh := []
  deriving DecidableEq, Repr

/-- The point at which a duplicate takeover leaves a lit channel (R436): place, tag. -/
structure GapPt where
  x : Int
  y : Int
  tag : Nat
  deriving DecidableEq, Repr

/-- The twin block beside its registers. -/
structure TwinSt where
  /-- the link is up (R402); a refused pair waits for the link to go down (R400) -/
  up : Bool := false
  refused : Bool := false
  /-- driving as R399 means it; tick of the entry to PAIRING; the partner's OFFER and UID bodies; whether this device
  takes ACTIVE; the partner's CONFIRM has come -/
  driving : Bool := false
  pairAt : Nat := 0
  offer : Option Nat := none
  uid : Option Nat := none
  takes : Option Bool := none
  confirm : Bool := false
  /-- the partner's tally less this device's, from its last ALIGN (R44) -/
  ahead : Int := 0
  /-- tick of the last valid BEACON, READY in it, and whether its TICK8 agreed (R419 slot 30) -/
  beaconAt : Nat := 0
  peerReady : Bool := false
  tickOk : Bool := true
  /-- TWIN_ALIVE: edge seen last on [1] and its silence; [0] as driven and tick of its last toggle -/
  edgeAt : Nat := 0
  silent : Bool := false
  aliveOut : Bool := false
  toggledAt : Nat := 0
  /-- next self-test slot, slots passed since the last failure -/
  slot : Nat := 0
  passed : Nat := 0
  /-- measured powers decided of late: channel, tick of the decision, tick measured, power, good (R408) -/
  powers : List (Nat × Nat × Nat × Nat × Bool) := []
  /-- the device's own record of the last boundary, and its state there: spindles, loops, ledger channels -/
  own : List Byte := []
  boundary : Nat := 0
  snapSpin : Table SpinSt := []
  snapTent : Table TentSt := []
  snapLed : Table LedCh := []
  /-- per lane the COUNT of its last ALIGN and the units received since; the tick of the first ALIGN of the record being
  received (R405); the boundary whose record was completed or found missing last (R407) -/
  rx : Table (Nat × List Nat) := []
  rxAt : Option Nat := none
  /-- HANDOVER units received, by lane (R403) -/
  hoRx : Table (List Nat) := []
  judged : Nat := 0
  /-- a complete record that waits for a replay (R415) -/
  waiting : Option (List Byte) := none
  /-- the last record passed and was compared; records left of a rejoin (R418) -/
  verified : Bool := false
  rejoin : Nat := 0
  replay : Option Replay := none
  log : List UpLog := []
  /-- cycle in which a repair last touched a channel (R414) -/
  repaired : Table Nat := []
  fwd : List Fwd := []
  /-- forwarded commands applied in the last 64 ticks (R414) -/
  done : List Fwd := []
  /-- what the host of a shadowing device wrote last to the registers of R411 (R52), by address -/
  wrote : Table Word := []
  /-- the standby's own accepted TAIL of a stream, and forwarded TAILs beyond it (R411, R412) -/
  ownTail : Table Nat := []
  lag : Table Nat := []
  /-- configuration digest (R417): layer tag and tick of a close not yet digested, own tag and digest, the partner's halves (tag,
  tick, bits) -/
  closed : Option (Nat × Nat) := none
  digest : Option (Nat × Nat) := none
  digLo : Option (Nat × Nat × Nat) := none
  digHi : Option (Nat × Nat × Nat) := none
  /-- to be sent: HANDOVER units, PAIR and FWD bodies (tick from which, TT, body), REC units; unit number, body -/
  txHo : List (Nat × Nat) := []
  txMsg : List (Nat × Nat × Nat) := []
  txRec : List (Nat × Nat) := []
  /-- CMD.HANDOVER accepted; the handover record received; first tick without a sample at a channel's laser (R428) -/
  asked : Bool := false
  handed : List Byte := []
  under : Table Nat := []
  /-- S of a duplicate takeover, lanes still without a valid uplink, points of lit channels (R436) -/
  dupAt : Nat := 0
  gaps : List Nat := []
  gapPts : Table GapPt := []
  /-- a seam awaits automatic resumption (R429): 1 the release, 2 the resumption -/
  seam : Nat := 0
  /-- newest LINK of a good record, and summaries emitted in shadow since, with their INDEX (R624) -/
  link : List Byte := []
  shadow : List (Nat × Rec) := []
  /-- the chain anchor in shadow (R621, R624): a build opened (1) or closed (0) whose LINK is awaited; LINK and what it is -/
  anchorDue : Option Nat := none
  anchor : Option (List Byte × Nat) := none
  deriving DecidableEq, Repr

/-! ### The whole -/

/-- Everything but the DRAM and the queue. -/
structure Ctl where
  /-- the BAR0 register words that differ from their reset words, by byte address (R694) -/
  regs : Table Word := []
  /-- R42 -/
  tally : BitVec 48 := 0
  /-- true on the LMN-1200 (R3) -/
  half : Bool := false
  rc : RecSt := {}
  nv : NvSt := {}
  host : HostSt := {}
  slu : SluSt := {}
  pwr : PwrSt := {}
  ident : IdSt := {}
  trim : TrimSt := {}
  light : LightSt := {}
  mc : Table McSt := []
  enc : Table EncSt := []
  ax : Table AxSt := []
  /-- axis updates so far, modulo 4 (R540) -/
  axPhase : Nat := 0
  /-- writes of AX_CMD that wait for the next update boundary (axis, OP), oldest first (R537) -/
  axCmds : List (Nat × Nat) := []
  spin : Table SpinSt := []
  tab : TabSt := {}
  lane : Table LaneSt := []
  /-- blocks sent on the lanes in the present tick, newest first -/
  wire : List LaneTx := []
  /-- blocks sent in the tick before the present one, newest first -/
  sent : List LaneTx := []
  hop : HopSt := {}
  led : LedSt := {}
  tent : Table TentSt := []
  fan : FanSt := {}
  tw : TwinSt := {}
  /-- SOLO accepted and the role still UNPAIRED (R401) -/
  soloOn : Bool := false
  /-- writes of the device waiting to reach a millrace (address, bytes in one granule), oldest first (R447, R451) -/
  memOut : List (Nat × List Byte) := []
  /-- tally of the last uncorrectable error on a real-time read (R420 bit 3) -/
  ueAt : Option Nat := none
  /-- MODEL'S OWN: free values drawn so far (log entry 8) -/
  drawn : Nat := 0
  deriving DecidableEq, Repr

/-- The machine: its control state, its DRAM, and the commands waiting, first in, first out. -/
structure State where
  ctl : Ctl := {}
  mem : Mem := {}
  pending : List Instr := []
  deriving DecidableEq, Repr

/-- Why the machine stops. -/
inductive Fault where
  /-- raised by `exec` for a command whose operands no sender can form (WellFormed.lean); safe -/
  | illFormed
  deriving DecidableEq, Repr

/-- Why a command has no meaning. -/
inductive Refusal where
  /-- raised by `exec` for a command that is not modelled; safe -/
  | notModelled (mnemonic : String)
  deriving DecidableEq, Repr

/-- The machine right after device reset is released (R42, R643, R644): every register at its reset word, the
tally 0, the brake engaged (R651), nothing waiting. -/
def State.reset : State := {}

end Sys2Proof.Machine
end

