-- ==== Sys2Proof/Machine/Ops.lean ====
section
/-! DEFINITION. The named operations over the register store, the interrupt bits, the recorder's events and metrics,
and the DRAM: every meaning is written over these. -/

namespace Sys2Proof.Machine

/-! ### Sparse tables -/

/-- The entry at key `k`, if listed. -/
def tget? {V : Type} : Table V → Nat → Option V
  | [], _ => none
  | (k', v) :: t, k => if k = k' then some v else tget? t k

/-- The entry at `k`, or `d`. -/
def tget {V : Type} (t : Table V) (k : Nat) (d : V) : V := (tget? t k).getD d

/-- Put `v` at key `k`, keeping rising keys. -/
def tput {V : Type} : Table V → Nat → V → Table V
  | [], k, v => [(k, v)]
  | (k', v') :: t, k, v =>
    if k = k' then (k, v) :: t
    else if k < k' then (k, v) :: (k', v') :: t
    else (k', v') :: tput t k v

/-- Drop the entry at `k`. -/
def tdel {V : Type} (t : Table V) (k : Nat) : Table V := t.filter (fun e => e.1 ≠ k)

/-- Change the entry at `k`, taken as `d` when unlisted. -/
def tmod {V : Type} (t : Table V) (k : Nat) (d : V) (f : V → V) : Table V := tput t k (f (tget t k d))

/-! ### Register words after reset (R24) -/

/-- 2^60 times sin(pi x / 512) for x from 0 to 256, by the series in fixed point. -/
def sinFix (x : Nat) : Int :=
  let one : Int := (2 ^ 60 : Nat)
  -- pi / 512 to 60 binary places
  let t : Int := ((3141592653589793238462643 : Int) * one / (1000000000000000000000000 : Int)) * x / 512
  let sq := t * t / one
  let go := (List.range 16).foldl (fun (acc : Int × Int) (i : Nat) =>
    let term := - (acc.2 * sq / one) / ((2 * (i : Int) + 2) * (2 * (i : Int) + 3))
    (acc.1 + term, term)) (t, t)
  go.1

/-- R539: the default sine table, S[r] = round(4,095 × sin(π × r ÷ 512)). -/
def sineDefault (r : Nat) : Nat := (roundDiv (4095 * sinFix r) ((2 ^ 60 : Nat))).toNat

/-- R584: the reset LO and W of a metric. -/
def metricReset (m : Nat) : Int × Nat :=
  if m < 72 then
    (match m % 3 with
     | 0 => (0, 1024)
     | 1 => (-31744, 1024)
     | _ => (8192, 800))
  else match m with
    | 72 | 73 => (0, 32)
    | 74 => (0, 8)
    | 75 => (0, 1000)
    | 76 => (0, 500)
    | 77 => (0, 1)
    | 78 => (0, 256)
    | 79 => (-1000, 125)
    | 80 => (8192, 400)
    | 81 => (0, 1060)
    | 82 => (0, 400)
    | 83 | 84 | 85 => (0, 4)
    | 86 => (0, 32)
    | 87 => (700, 2)
    | 88 => (0, 1)
    | 89 => (0, 4)
    | 90 => (0, 65536)
    | 91 => (0, 1)
    | 92 | 93 => (0, 16)
    | 94 => (0, 1)
    | _ => (-3100, 100)

/-- The row of a page whose registers include page offset `o`. -/
def findRow : List RegRow → Nat → Option RegRow
  | [], _ => none
  | r :: t, o =>
    let d := o - r.off
    let j := if r.n1 ≤ 1 then 0 else min (d / r.s1) (r.n1 - 1)
    let e := d - j * r.s1
    let k := if r.n2 ≤ 1 then 0 else min (e / r.s2) (r.n2 - 1)
    if r.off ≤ o ∧ e - k * r.s2 = 0 then some r else findRow t o

/-- The kinds of page of R682. -/
inductive Page where
  | global | sluice | millrace | hopper | ctx | spindle | fantail | ledger | lane | twin | recorder | axes | light
  | trim | identity | thermal
  deriving DecidableEq, Repr

/-- R682: the page a BAR0 address lies in, the instance, and the page's base; none outside every page and in the
table window. -/
def pageOf (a : Nat) : Option (Page × Nat × Nat) :=
  if a < 0x1000 then some (.global, 0, 0)
  else if a < 0x10000 then none
  else if a < 0x11000 then some (.sluice, 0, 0x10000)
  else if a < 0x20000 then none
  else if a < 0x22000 then some (.millrace, (a - 0x20000) / 0x1000, a / 0x1000 * 0x1000)
  else if a < 0x40000 then none
  else if a < 0x41000 then some (.hopper, 0, 0x40000)
  else if a < 0x45000 then some (.ctx, (a - 0x41000) / 0x1000, a / 0x1000 * 0x1000)
  else if a < 0x80000 then none
  else if a < 0x98000 then some (.spindle, (a - 0x80000) / 0x1000, a / 0x1000 * 0x1000)
  else if a < 0xA0000 then none
  else if a < 0xA1000 then some (.fantail, 0, 0xA0000)
  else if a < 0xC0000 then none
  else if a < 0xC1000 then some (.ledger, 0, 0xC0000)
  else if a < 0xD0000 then none
  else if a < 0xE0000 then some (.lane, (a - 0xD0000) / 0x400, a / 0x400 * 0x400)
  else if a < 0x100000 then none
  else if a < 0x101000 then some (.twin, 0, 0x100000)
  else if a < 0x110000 then none
  else if a < 0x111000 then some (.recorder, 0, 0x110000)
  else if a < 0x120000 then none
  else if a < 0x121000 then some (.axes, 0, 0x120000)
  else if a < 0x130000 then none
  else if a < 0x131000 then some (.light, 0, 0x130000)
  else if a < 0x140000 then none
  else if a < 0x141000 then some (.trim, 0, 0x140000)
  else if a < 0x150000 then none
  else if a < 0x151000 then some (.identity, 0, 0x150000)
  else if a < 0x160000 then none
  else if a < 0x161000 then some (.thermal, 0, 0x160000)
  else none

/-- The rows of a kind of page. -/
def Page.rows : Page → List RegRow
  | .global => rowsGlobal
  | .sluice => rowsSluice
  | .millrace => rowsMillrace
  | .hopper => rowsHopper
  | .ctx => rowsCtx
  | .spindle => rowsSpindle
  | .fantail => rowsFantail
  | .ledger => rowsLedger
  | .lane => rowsLane
  | .twin => rowsTwin
  | .recorder => rowsRecorder
  | .axes => rowsAxes
  | .light => rowsLight
  | .trim => rowsTrim
  | .identity => rowsIdentity
  | .thermal => rowsThermal

/-- R682: BLK_ID.KIND. -/
def Page.kind : Page → Nat
  | .global => 0x01
  | .sluice => 0x02
  | .millrace => 0x03
  | .hopper => 0x04
  | .ctx => 0x05
  | .spindle => 0x06
  | .fantail => 0x07
  | .ledger => 0x08
  | .lane => 0x09
  | .twin => 0x0A
  | .recorder => 0x0B
  | .axes => 0x0C
  | .light => 0x0D
  | .trim => 0x0E
  | .identity => 0x0F
  | .thermal => 0x10

/-- R682: pages whose ENABLE is fixed at 1. -/
def Page.fixed : Page → Bool
  | .global | .hopper | .ctx | .twin | .recorder | .trim | .identity | .thermal => true
  | _ => false

/-- R682: the reset value of ENABLE. -/
def Page.enableReset : Page → Bool
  | .sluice | .spindle | .ledger | .light => false
  | _ => true

/-- R682: the byte length of a page or sub-page. -/
def Page.size : Page → Nat
  | .lane => 0x400
  | _ => 0x1000

/-- R687: how many bits of BLK_IRQ_RAW, BLK_IRQ_EN and BLK_IRQ_STAT the chapter of a page assigns, from bit 0; the rest
are reserved. -/
def Page.irqBits : Page → Nat
  | .global | .hopper | .ledger | .lane | .millrace => 8
  | .sluice => 1
  | .ctx => 0
  | .spindle | .light => 5
  | .fantail | .recorder | .identity => 7
  | .twin => 9
  | .axes => 10
  | .trim => 3
  | .thermal => 4

/-- The row of the register map an address belongs to (R694), if any. -/
def regRow (a : Nat) : Option RegRow :=
  match pageOf a with
  | none => none
  | some (p, _, base) =>
    let o := a - base
    match p with
    | .ctx => if o < 0x40 ∨ 0x840 ≤ o then none else findRow rowsCtx ((o - 0x40) % 0x40)
    | _ => if o < 0x40 then none else findRow p.rows o

/-- A register's word after reset (R24, R682, R686). -/
def regReset (a : Nat) : Nat :=
  match pageOf a with
  | none => 0
  | some (p, inst, base) =>
    let o := a - base
    if o < 0x40 then
      match o with
      | 0x0 => p.kind * 2 ^ 24 + ((base / 2 ^ 16) % 256) * 2 ^ 16 + inst * 2 ^ 8
      | 0x4 => 0x01000000
      | 0x8 => if p = .ctx then 0 else b2n p.enableReset
      | 0xC => if p = .ctx then 0 else b2n p.fixed
      | _ => 0
    else match p with
      | .recorder =>
        if 0x400 ≤ o ∧ o < 0x700 then
          let mr := metricReset ((o - 0x400) / 8)
          if (o - 0x400) % 8 = 0 then code 32 mr.1 else mr.2
        else ((regRow a).map (·.rst)).getD 0
      | .axes =>
        if 0x800 ≤ o ∧ o < 0xA00 then
          sineDefault ((o - 0x800) / 4 * 2) + sineDefault ((o - 0x800) / 4 * 2 + 1) * 2 ^ 16
        else ((regRow a).map (·.rst)).getD 0
      | _ => ((regRow a).map (·.rst)).getD 0

/-! ### Register access from inside the device -/

/-- The word of the register at byte address `a`. -/
def Ctl.reg (c : Ctl) (a : Nat) : Nat :=
  match tget? c.regs a with
  | some w => w.toNat
  | none => regReset a

/-- Tick `t` less `n`. -/
def tickBack (t n : Nat) : Nat := (t + 2 ^ 48 - n) % 2 ^ 48

/-- Set the word at `a`. -/
def Ctl.setReg (c : Ctl) (a v : Nat) : Ctl := { c with regs := tput c.regs a (BitVec.ofNat 32 v) }

/-- A field's value. -/
def Ctl.get (c : Ctl) (f : Fld) : Nat := slice (c.reg f.addr) f.lo f.w

/-- A field's value as two's complement. -/
def Ctl.getS (c : Ctl) (f : Fld) : Int := sgn f.w (c.get f)

/-- A one-bit field as a Bool. -/
def Ctl.is (c : Ctl) (f : Fld) : Bool := c.get f != 0

/-- Set a field. -/
def Ctl.put (c : Ctl) (f : Fld) (v : Nat) : Ctl := c.setReg f.addr (splice (c.reg f.addr) f.lo f.w v)

/-- Set a field to a two's complement value. -/
def Ctl.putS (c : Ctl) (f : Fld) (v : Int) : Ctl := c.put f (code f.w v)

/-- Set a one-bit field. -/
def Ctl.flag (c : Ctl) (f : Fld) (b : Bool) : Ctl := c.put f (b2n b)

/-- Add to a saturating counter. -/
def Ctl.add (c : Ctl) (f : Fld) (n : Nat) : Ctl := c.put f (satAdd f.w (c.get f) n)

/-- Count one in a saturating counter. -/
def Ctl.inc (c : Ctl) (f : Fld) : Ctl := c.add f 1

/-- Set bits of a whole register word. -/
def Ctl.setBits (c : Ctl) (a m : Nat) : Ctl := c.setReg a (c.reg a ||| m)

/-- Clear bits of a whole register word. -/
def Ctl.clearBits (c : Ctl) (a m : Nat) : Ctl := c.setReg a (c.reg a &&& (0xFFFFFFFF ^^^ (m % 2 ^ 32)))

/-- Bit `k` of the register at `a`. -/
def Ctl.bit (c : Ctl) (a k : Nat) : Bool := bitOf (c.reg a) k

/-- The tally as a number. -/
def Ctl.now (c : Ctl) : Nat := c.tally.toNat

/-- Ticks since tally `t` (R46). -/
def Ctl.sinceT (c : Ctl) (t : Nat) : Nat := since c.now t

/-- Ticks in `n` milliseconds and in `n` microseconds (R42: a tick is 50 ns). -/
def msTicks (n : Nat) : Nat := n * 20000
def usTicks (n : Nat) : Nat := n * 20

/-- A conditional update. -/
def Ctl.when (c : Ctl) (b : Bool) (f : Ctl → Ctl) : Ctl := if b then f c else c

/-- An update for each number of a list, in order. -/
def Ctl.each (c : Ctl) (l : List Nat) (f : Nat → Ctl → Ctl) : Ctl := l.foldl (fun c i => f i c) c

/-- The numbers below `n`. -/
def upto (n : Nat) : List Nat := List.range n

/-- The spindles present: 12 on the LMN-1200 (R3). -/
def Ctl.nSpin (c : Ctl) : Nat := if c.half then 12 else 24

/-- R1 to R3: CHIP_ID names the part and its channels. -/
def Ctl.chipId (c : Ctl) : Nat :=
  splice (splice (c.reg R.GLOBAL_CHIP_ID) 16 16 (if c.half then 0x1200 else 0x2400)) 8 8 c.nSpin

/-- R3: a channel the part has. -/
def Ctl.hasChan (c : Ctl) (n : Nat) : Bool := decide (n < c.nSpin)

/-- R3: a lane the part has: not those of absent channels. -/
def Ctl.hasLane (c : Ctl) (k : Nat) : Bool :=
  if k < 24 then c.hasChan k else if k < 48 then c.hasChan (k - 24) else decide (k < 64)

/-! ### Page bases -/

def pgGlobal : Nat := 0
def pgSluice : Nat := 0x10000
def pgMillrace (m : Nat) : Nat := 0x20000 + 0x1000 * m
def pgHopper : Nat := 0x40000
def pgSpindle (n : Nat) : Nat := 0x80000 + 0x1000 * n
def pgFantail : Nat := 0xA0000
def pgLedger : Nat := 0xC0000
def pgLane (k : Nat) : Nat := 0xD0000 + 0x400 * k
def pgTwin : Nat := 0x100000
def pgRecorder : Nat := 0x110000
def pgAxes : Nat := 0x120000
def pgLight : Nat := 0x130000
def pgTrim : Nat := 0x140000
def pgIdentity : Nat := 0x150000
def pgThermal : Nat := 0x160000

/-! ### Interrupt bits (R686, R691) -/

/-- A pulse event: bit `k` of BLK_IRQ_STAT is set. -/
def Ctl.irq (c : Ctl) (page k : Nat) : Ctl := c.setBits (R.BLK_IRQ_STAT page) (2 ^ k)

/-- A level condition: bit `k` of BLK_IRQ_RAW follows it, and STAT is set while it holds. -/
def Ctl.level (c : Ctl) (page k : Nat) (b : Bool) : Ctl :=
  if b then (c.setBits (R.BLK_IRQ_RAW page) (2 ^ k)).irq page k
  else c.clearBits (R.BLK_IRQ_RAW page) (2 ^ k)

/-- R499: the block source of a page is asserted while an enabled STAT bit is set. -/
def Ctl.blockSource (c : Ctl) (page : Nat) : Bool :=
  (c.reg (R.BLK_IRQ_STAT page) &&& c.reg (R.BLK_IRQ_EN page)) != 0

/-- BLK_CTRL.ENABLE and BLK_STAT.ACTIVE of a page. -/
def Ctl.enabled (c : Ctl) (page : Nat) : Bool := c.is (R.BLK_CTRL_ENABLE page)
def Ctl.activePage (c : Ctl) (page : Nat) : Bool := c.is (R.BLK_STAT_ACTIVE page)
def Ctl.setActive (c : Ctl) (page : Nat) (b : Bool) : Ctl := c.flag (R.BLK_STAT_ACTIVE page) b

/-! ### Twin role (R398, R713) -/

/-- Role codes of TWIN_STAT.ROLE. -/
def Ctl.role (c : Ctl) : Nat := c.get R.TWIN_STAT_ROLE

/-- Set or clear a bit of the health word (R420). -/
def Ctl.health (c : Ctl) (k : Nat) (b : Bool) : Ctl := c.put ⟨R.TWIN_HEALTH, k, 1⟩ (b2n b)

/-! ### Events, metrics (R576 to R590) -/

/-- Wall time in ns (R494, R712). -/
def Ctl.wallNs (c : Ctl) : Nat := (c.host.wall40 / 40) % 2 ^ 64

/-- Codes marked NV in R583, for an event with its arguments. -/
def eventIsNv (code : Nat) (args : List Nat) : Bool :=
  code == 0x01 || code == 0x02 || code == 0x03 || code == 0x04 || code == 0x07 || code == 0x09 || code == 0x13 ||
  code == 0x15 || (code == 0x16 && args.getD 3 0 % 2 == 1) || code == 0x17 || code == 0x1A || code == 0x1B ||
  code == 0x1C || code == 0x1D

/-- R582: bytes 24 to 59 of an EVENT record. -/
def eventBody (page chan cd tag : Nat) (x y : Int) (args : List Nat) : List Byte :=
  leBytes 1 (page / 2 ^ 16) ++ leBytes 1 chan ++ leBytes 2 cd ++ leBytes 3 tag ++ [0#8] ++ leInt 4 x ++ leInt 4 y ++
  (upto 5).flatMap (fun i => leBytes 4 (args.getD i 0))

/-- R713: whether the device holds the active role, from the role and TWIN.CTRL.EN; `solo` after an accepted SOLO. -/
def holdsActive (role : Nat) (en solo : Bool) : Bool := role == 2 || (role == 0 && (!en || solo))

/-- R578: the FLAGS of a record formed now. -/
def Ctl.recFlags (c : Ctl) : Nat :=
  b2n (c.is R.GLOBAL_PTM_STAT_VALID) +
  2 * b2n (!holdsActive c.role (c.is R.TWIN_CTRL_EN) c.soloOn)

/-- A record recognised in this tick (R47, R579): it takes its SEQ at the end of the tick. -/
def Ctl.record (c : Ctl) (typ cd chan : Nat) (body : List Byte) : Ctl :=
  { c with rc := { c.rc with tick := c.rc.tick ++
      [{ tally := c.now, epoch := c.get R.GLOBAL_EPOCH_EPOCH, wall := c.wallNs, typ := typ, flags := c.recFlags,
         code := cd, chan := chan, body := body }] } }

/-- A change of every scope that is open: the layer's, an open build's and the lifetime's (R586, R591). -/
def Ctl.scopesMod (c : Ctl) (f : Scope → Scope) : Ctl :=
  { c with rc := { c.rc with layer := f c.rc.layer, build := if c.rc.build.isOpen then f c.rc.build else c.rc.build, life := f c.rc.life } }

/-- Mark a flag of the summaries (R591, bytes 34 to 35). -/
def Ctl.layerFlag (c : Ctl) (k : Nat) : Ctl := c.scopesMod (fun s => { s with flags := s.flags ||| 2 ^ k })

/-- R591: the summary flag that an event of code `cd` sets: seam, thermal halt, switch-over. -/
def eventFlag (cd : Nat) : Option Nat :=
  if cd = 0x09 then some 1 else if cd = 0x11 then some 2 else if cd = 0x17 then some 0 else none

/-- Emit an EVENT record (R582). -/
def Ctl.event (c : Ctl) (page cd chan tag : Nat) (x y : Int) (args : List Nat) : Ctl :=
  let c1 := match eventFlag cd with
    | some k => c.layerFlag k
    | none => c
  c1.record 1 cd chan (eventBody page chan cd tag x y args)

/-- The LO and W in force in a scope (R586): those of its opening, else the reset ones. -/
def Scope.loW (s : Scope) (m : Nat) : Int × Nat :=
  let d := metricReset m
  (match tget? s.cfg (R.REC_MLO m) with
    | some w => sgn 32 w.toNat
    | none => d.1,
   match tget? s.cfg (R.REC_MW m) with
    | some w => w.toNat
    | none => d.2)

/-- R585: one sample into a histogram. -/
def Hist.enter (h : Hist) (lo : Int) (w : Nat) (v : Int) : Hist :=
  let bin : Nat := if v < lo then 0 else min (((v - lo) / (max w 1 : Nat)).toNat + 1) 63
  let full := decide (2 ^ 32 - 1 ≤ tget h.bins bin 0)
  let bins := if full then h.bins.map (fun e => (e.1, e.2 / 2)) else h.bins
  { bins := tmod bins bin 0 (· + 1)
    mn := if h.count = 0 then satS 32 v else min h.mn (satS 32 v)
    mx := if h.count = 0 then satS 32 v else max h.mx (satS 32 v)
    sum := satS 64 (h.sum + v)
    count := (h.count + 1) % 2 ^ 64
    scale := if full then min (h.scale + 1) 255 else h.scale }

/-- R585: one sample into a scope. -/
def Scope.sample (s : Scope) (m : Nat) (v : Int) : Scope :=
  let lw := s.loW m
  { s with hists := tmod s.hists m {} (fun h => h.enter lw.1 lw.2 v) }

/-- One sample of metric `m` (R584, R593): the open layer, the build when one is open, and the lifetime. -/
def Ctl.metric (c : Ctl) (m : Nat) (v : Int) : Ctl :=
  { c with rc := { c.rc with
      layer := if c.rc.layer.isOpen then c.rc.layer.sample m v else c.rc.layer
      build := if c.rc.build.isOpen then c.rc.build.sample m v else c.rc.build
      life := c.rc.life.sample m v } }

/-- A share of a wear source's value in the present interval (R602): numerator and weight. -/
def Ctl.wearAcc (c : Ctl) (src : Nat) (num : Int) (den : Nat) : Ctl :=
  if c.is R.REC_CTRL_WEAR_EN then
    { c with rc := { c.rc with wearAcc := tmod c.rc.wearAcc src (0, 0) (fun e => (e.1 + num, e.2 + den)) } }
  else c

/-! ### Upstream traffic (R59) -/

/-- Something leaves for the host. -/
def Ctl.send (c : Ctl) (t : HostTx) : Ctl := { c with host := { c.host with out := t :: c.host.out } }

/-- A data write (Relaxed Ordering set unless host software cleared it, R59, R492). -/
def Ctl.postData (c : Ctl) (a : Nat) (l : List Byte) : Ctl := c.send (.write a l c.host.relaxed)

/-- A completion or writeback record: never relaxed (R59). -/
def Ctl.postRecord (c : Ctl) (a : Nat) (l : List Byte) : Ctl := c.send (.write a l false)

/-! ### Stream contexts -/

def csDisabled : Nat := 0
def csIdle : Nat := 1
def csActive : Nat := 2
def csLayerHold : Nat := 3
def csHalted : Nat := 4
def csDraining : Nat := 5

def Ctl.strm (c : Ctl) (x : Nat) : CtxSt := tget c.hop.ctx x {}
def Ctl.modStrm (c : Ctl) (x : Nat) (f : CtxSt → CtxSt) : Ctl :=
  { c with hop := { c.hop with ctx := tmod c.hop.ctx x {} f } }
def Ctl.cst (c : Ctl) (x : Nat) : Nat := c.get (R.CTX_STAT_STATE x)
/-- A share stream (R87). -/
def Ctl.isShare (c : Ctl) (x : Nat) : Bool := c.is (R.CTX_CTRL_KIND x)
def Ctl.bindOf (c : Ctl) (x : Nat) : Nat := c.get (R.CTX_CTRL_BIND x)
/-- R88: the spindle stream bound to spindle `n` that is not DISABLED. -/
def Ctl.streamOf (c : Ctl) (n : Nat) : Option Nat :=
  (upto 128).find? (fun x => c.cst x != csDisabled && !c.isShare x && c.bindOf x == n)

/-- Draw a free value (log entry 8). -/
def Ctl.draw (c : Ctl) : Nat × Ctl := (Config.freeNat c.drawn, { c with drawn := c.drawn + 1 })

end Sys2Proof.Machine
end

