-- ==== Sys2Proof/Machine/MemOps.lean ====
section
/-! DEFINITION. Device DRAM: the canonical cell list, the address map of R444 to R446, what a reader sees (R451,
R443), and the acceptance of writes into the write queues (R450, R455). -/

namespace Sys2Proof.Machine

/-! ### Cells -/

/-- What an unlisted DRAM byte reads as (log entry 2: DESIGN CHOICE, the spec gives no content after power-on). -/
def blankByte : Byte := 0

/-- The committed byte at `a`. -/
def cellGet : List Host.Cell → Nat → Byte
  | [], _ => blankByte
  | (k, b) :: t, a => if a = k then b else cellGet t a

/-- Write one byte, keeping rising addresses and no entry equal to `blankByte`. -/
def cellSet : List Host.Cell → Nat → Byte → List Host.Cell
  | [], a, b => if b = blankByte then [] else [(a, b)]
  | (k, v) :: t, a, b =>
    if a = k then (if b = blankByte then t else (a, b) :: t)
    else if a < k then (if b = blankByte then (k, v) :: t else (a, b) :: (k, v) :: t)
    else (k, v) :: cellSet t a b

/-- Write listed bytes at offsets from a base. -/
def cellSetAll (m : List Host.Cell) (base : Nat) (l : Table Byte) : List Host.Cell :=
  l.foldl (fun m e => cellSet m (base + e.1) e.2) m

/-- Every cell lies above `lo` and none holds `blankByte`, addresses strictly rising. -/
def cellsAbove (lo : Nat) : List Host.Cell → Bool
  | [] => true
  | (k, b) :: t => decide (lo ≤ k) && decide (b ≠ blankByte) && cellsAbove (k + 1) t

/-- The canonical form of DRAM. -/
def Mem.wf (m : Mem) : Bool := cellsAbove 0 m.dram

/-! ### The address map -/

/-- MC_CAPACITY in bytes. -/
def Ctl.mcCap (c : Ctl) (m : Nat) : Nat := c.get (R.MC_CAPACITY_GIB m) * 2 ^ 30

/-- State codes of R465. -/
def mcOff : Nat := 0
def mcInit : Nat := 1
def mcTrain : Nat := 2
def mcService : Nat := 3
def mcSelfRefresh : Nat := 4
def mcFault : Nat := 5

/-- A millrace in SERVICE. -/
def Ctl.inService (c : Ctl) (m : Nat) : Bool := c.get (R.MC_STAT_STATE m) == mcService

/-- R444: the interleaved map is in force. -/
def Ctl.interleaved (c : Ctl) : Bool :=
  c.is (R.MC_MAP_INTERLEAVE 0) && c.inService 0 && c.inService 1 && c.mcCap 0 == c.mcCap 1

/-- R444: millrace and millrace address of a device address below the end of the map; none beyond it, nor in
millrace 0's reserved 4 KiB (DEDUCED, log entry 13). -/
def Ctl.mapAddr (c : Ctl) (a : Nat) : Option (Nat × Nat) :=
  let c0 := c.mcCap 0
  let c1 := c.mcCap 1
  if c.interleaved then
    if a < 2 * c0 - 8192 then some ((a / 4096) % 2, (a / 8192) * 4096 + a % 4096) else none
  else
    if a < c0 - 4096 then some (0, a)
    else if c0 ≤ a ∧ a < c0 + c1 - 8192 then some (1, a - c0)
    else none

/-- R444: what the map depends on: interleave in force, and the two capacities. -/
def Ctl.mapOf (c : Ctl) : Bool × Nat × Nat := (c.interleaved, c.mcCap 0, c.mcCap 1)

/-- R444 over the whole capacity: millrace and millrace address of a device address, the reserved 4 KiB included, which lie
behind the installed addresses of the map. -/
def Ctl.place (c : Ctl) (a : Nat) : Option (Nat × Nat) :=
  let c0 := c.mcCap 0
  if c.interleaved then
    if a < 2 * c0 then some ((a / 4096) % 2, (a / 8192) * 4096 + a % 4096) else none
  else if a < c0 then some (0, a)
  else if a < c0 + c.mcCap 1 then some (1, a - c0)
  else none

/-- R444: the device address of millrace `m`'s address `p` over its whole capacity. -/
def Ctl.unplace (c : Ctl) (m p : Nat) : Option Nat :=
  if c.mcCap m ≤ p then none
  else if c.interleaved then some (p / 4096 * 8192 + m * 4096 + p % 4096)
  else some (if m = 0 then p else c.mcCap 0 + p)

/-- The device address under the map of `d` of the byte that lies at `a` under the map of `c`. -/
def moved (c d : Ctl) (a : Nat) : Option Nat := (c.place a).bind (fun e => d.unplace e.1 e.2)

/-- R444: whether the byte lies in installed device DRAM. -/
def Ctl.installed (c : Ctl) (a : Nat) : Bool :=
  match c.mapAddr a with
  | some (m, _) => c.interleaved || c.inService m
  | none => false

/-- The first address of `a`, … `a + n - 1` for which the test fails. -/
def firstBad (p : Nat → Bool) : Nat → Nat → Option Nat
  | 0, _ => none
  | n + 1, a => if p a then firstBad p n (a + 1) else some a

/-- The base of the granule of `a`. -/
def granule (a : Nat) : Nat := a / 128 * 128

/-! ### What a reader sees -/

/-- The queued entry of a granule, in either queue. -/
def Mem.entry? (m : Mem) (g : Nat) : Option WqEntry :=
  match m.wq0.find? (fun e => e.granule == g) with
  | some e => some e
  | none => m.wq1.find? (fun e => e.granule == g)

/-- R451 and R443: the newest byte, from the queue where it holds one, else DRAM, 0xFF in a poisoned granule; and
whether the reader is told of poison. -/
def Mem.byte (m : Mem) (a : Nat) : Byte × Bool :=
  let g := granule a
  match m.entry? g with
  | some e =>
    match tget? e.bytes (a - g) with
    | some b => (b, false)
    | none => if m.poisoned.contains g then (0xFF, true) else (cellGet m.dram a, false)
  | none => if m.poisoned.contains g then (0xFF, true) else (cellGet m.dram a, false)

/-- `n` bytes from `a`, as a reader sees them. -/
def Mem.read (m : Mem) (a n : Nat) : List Byte := (upto n).map (fun i => (m.byte (a + i)).1)

/-- Whether a read of `n` bytes at `a` meets a poisoned granule. -/
def Mem.poison (m : Mem) (a n : Nat) : Bool := (upto n).any (fun i => (m.byte (a + i)).2)

/-! ### Writes -/

/-- The write queue of a millrace. -/
def Mem.wq (m : Mem) (k : Nat) : List WqEntry := if k = 0 then m.wq0 else m.wq1

/-- Replace the write queue of a millrace. -/
def Mem.setWq (m : Mem) (k : Nat) (l : List WqEntry) : Mem :=
  if k = 0 then { m with wq0 := l } else { m with wq1 := l }

/-- Merge bytes into the entry of their granule, or add an entry in tick `t` (R450). -/
def wqMerge (t g : Nat) (l : Table Byte) : List WqEntry → List WqEntry
  | [] => [{ granule := g, bytes := l, at_ := t }]
  | e :: q =>
    if e.granule = g then { e with bytes := l.foldl (fun b x => tput b x.1 x.2) e.bytes } :: q
    else e :: wqMerge t g l q

/-- Offset and byte pairs of a write within its granule. -/
def inGranule (a : Nat) (l : List Byte) : Table Byte := (upto l.length).zip l |>.map (fun e => (a % 128 + e.1, e.2))

/-- The same for a write with byte enables. -/
def enabledIn (a : Nat) (l : List (Option Byte)) : Table Byte :=
  ((upto l.length).zip l).filterMap (fun e => e.2.map (fun b => (a % 128 + e.1, b)))

/-- Cut a write into parts that each lie in one granule. -/
def splitGranules {α : Type} : Nat → Nat → List α → List (Nat × List α)
  | 0, _, _ => []
  | n + 1, a, l =>
    match l with
    | [] => []
    | _ =>
      let k := 128 - a % 128
      (a, l.take k) :: splitGranules n (a + k) (l.drop k)

/-- The parts of a write, one per granule. -/
def granuleParts {α : Type} (a : Nat) (l : List α) : List (Nat × List α) := splitGranules (l.length / 128 + 2) a l

/-- The millrace that serves a device address (0 where there is none). -/
def Ctl.millOf (c : Ctl) (a : Nat) : Nat := ((c.place a).map (·.1)).getD 0

/-- A millrace in SERVICE holds the byte at `a`, in installed DRAM or in its reserved 4 KiB. -/
def Ctl.held (c : Ctl) (a : Nat) : Bool := (c.place a).any (fun e => c.inService e.1)

/-- Whether the millrace of a one-granule write can take it now (R450, R455). -/
def Mem.hasRoom (m : Mem) (k g : Nat) : Bool :=
  decide ((m.wq k).length < 64) || (m.wq k).any (fun e => e.granule == g)

/-- The bytes `l` of the granule at `g` enter their write queue in tick `t` and are visible from now on (R450, R451). -/
def Mem.enqueue (m : Mem) (t k g : Nat) (l : Table Byte) : Mem := m.setWq k (wqMerge t g l (m.wq k))

/-- The counters and the sample of an accepted write: MERGED, metric WQ_DEPTH (R584). -/
def Ctl.countAccept (c : Ctl) (m : Mem) (k g : Nat) : Ctl :=
  let merged := (m.wq k).any (fun e => e.granule == g)
  let c1 := if merged then c.inc (R.MC_CNT1_MERGED k) else c
  c1.metric 88 (if merged then (m.wq k).length else (m.wq k).length + 1 : Nat)

/-- R455: a write that meets a full queue is counted. -/
def Ctl.countFull (c : Ctl) (k : Nat) : Ctl := (c.inc (R.MC_CNT0_WQ_FULL k)).irq (pgMillrace k) 6

/-- R444: a change of the map: the bytes, the poison and the queued writes keep their place in their millrace and are
found at its device address under the new map. -/
def Mem.remap (c d : Ctl) (m : Mem) : Mem :=
  if c.mapOf = d.mapOf then m
  else
    let cells := fun (l : List Host.Cell) => l.foldl (fun l e =>
      match moved c d e.1 with
      | some a => cellSet l a e.2
      | none => l) []
    let queue := fun (q : List WqEntry) => q.foldl (fun l e =>
      match moved c d e.granule with
      | some a => wqMerge e.at_ (granule a) e.bytes l
      | none => l) []
    { m with dram := cells m.dram, poisoned := m.poisoned.filterMap (moved c d), wq0 := queue m.wq0, wq1 := queue m.wq1 }

/-- The millrace asks for a write of the corrected granule that it holds at `g` (R463): it waits for DRAM_WRITE. -/
def Ctl.wantFix (c : Ctl) (g : Nat) : Ctl := { c with memOut := c.memOut ++ [(g, [])] }

/-- The device asks for a write of its own (camera, ledger, Ngabenor ring, writebacks): it waits for DRAM_WRITE. -/
def Ctl.wantWrite (c : Ctl) (a : Nat) (l : List Byte) : Ctl :=
  { c with memOut := c.memOut ++ granuleParts a l }

end Sys2Proof.Machine
end

