-- ==== Sys2Proof/Machine/Ecc.lean ====
section
/-! DEFINITION. The ECC of a granule (R441, R442): eight codewords of RS(20,16) over GF(2^8), their symbols, and what a
read finds. Symbol 0 is the coefficient of x^19, symbol 19 that of x^0 (log entry 155). -/

namespace Sys2Proof.Machine

/-! ### The field and the code (R441) -/

/-- Times α in GF(2^8) modulo x^8 + x^4 + x^3 + x^2 + 1. -/
def gfDouble (a : Nat) : Nat := if 128 ≤ a then (2 * a) ^^^ 0x11D else 2 * a

def gfMul (a b : Nat) : Nat :=
  (upto 8).foldl (fun r i => gfDouble r ^^^ (if bitOf b (7 - i) then a else 0)) 0

/-- α^n. -/
def gfPow (n : Nat) : Nat := (upto n).foldl (fun r _ => gfDouble r) 1

/-- The generator polynomial without its leading 1, highest power first. -/
def rsGenerator : List Nat :=
  ((upto 4).foldl (fun (g : List Nat) i => List.zipWith (· ^^^ ·) (g ++ [0]) (0 :: g.map (gfMul (gfPow i)))) [1]).drop 1

/-- The four ECC symbols of 16 data symbols: the remainder of the data, shifted by x^4, divided by the generator. -/
def rsParity (data : List Nat) : List Nat :=
  data.foldl (fun r d =>
    let f := d ^^^ r.headD 0
    List.zipWith (· ^^^ ·) (r.drop 1 ++ [0]) (rsGenerator.map (gfMul f))) [0, 0, 0, 0]

/-- A codeword at α^i. -/
def rsSyndrome (w : List Nat) (i : Nat) : Nat := w.foldl (fun r s => gfMul r (gfPow i) ^^^ s) 0

/-- What a codeword shows. -/
inductive WordFinding where
  | clean
  | single (symbol value : Nat)
  | other
  deriving DecidableEq, Repr

/-- R442: a single symbol error of value e in symbol j gives the syndromes e α^(i (19 - j)). -/
def rsFind (w : List Nat) : WordFinding :=
  let s := (upto 4).map (rsSyndrome w)
  let e := s.headD 0
  if s = [0, 0, 0, 0] then .clean
  else match (upto 20).find? (fun j => e != 0 && (upto 4).all (fun i => s.getD i 0 == gfMul e (gfPow (i * (19 - j))))) with
    | some j => .single j e
    | none => .other

/-! ### The layout of a granule (R441) -/

/-- The four bits that device `d` of a subchannel carries in beat `b`. -/
def nibbleAt (l : List Byte) (sub b d : Nat) : Nat := slice (l.getD (64 * sub + 4 * b + d / 2) 0).toNat (4 * (d % 2)) 4

/-- The data symbols of codeword `m`. -/
def dataSymbols (l : List Byte) (m : Nat) : List Nat :=
  (upto 16).map (fun j => nibbleAt l (j / 8) (2 * m) (j % 8) + nibbleAt l (j / 8) (2 * m + 1) (j % 8) * 16)

/-- The codewords of a granule as written. -/
def codewords (l : List Byte) : List (List Nat) :=
  (upto 8).map (fun m => let d := dataSymbols l m; d ++ rsParity d)

/-- The bytes of the data symbols of eight codewords. -/
def granuleBytes (ws : List (List Nat)) : List Byte :=
  (upto 128).map (fun a =>
    let b := a % 64 / 4
    let nib := fun (d : Nat) => slice ((ws.getD (b / 2) []).getD (8 * (a / 64) + d) 0) (4 * (b % 2)) 4
    BitVec.ofNat 8 (nib (2 * (a % 4)) + nib (2 * (a % 4) + 1) * 16))

/-! ### A read (R442) -/

/-- A codeword with the bit errors that a read meets in it. -/
def withErrors (errs : List SymbolError) (m : Nat) (w : List Nat) : List Nat :=
  errs.foldl (fun w e => if e.word = m then w.set e.symbol (w.getD e.symbol 0 ^^^ e.bits) else w) w

/-- R442 over the findings of the codewords. -/
def findingOf (fs : List WordFinding) : EccFinding :=
  let at_ := fs.filterMap (fun f => match f with | .single j _ => some j | _ => none)
  if fs.contains .other then .uncorrectable
  else match at_ with
    | [] => .clean
    | j :: t => if t.all (· == j) then .corrected j else .uncorrectable

/-- A codeword as corrected. -/
def corrected (w : List Nat) : List Nat :=
  match rsFind w with
  | .single j e => w.set j (w.getD j 0 ^^^ e)
  | _ => w

/-- R442: what a read of a granule that holds `l` finds, and the bytes it returns, when it meets the errors `errs`. -/
def eccRead (l : List Byte) (errs : List SymbolError) : EccFinding × List Byte :=
  if errs.isEmpty then (.clean, l)
  else
    let ws := (codewords l).zipIdx.map (fun e => withErrors errs e.2 e.1)
    (findingOf (ws.map rsFind), granuleBytes (ws.map corrected))

end Sys2Proof.Machine
end

