-- ==== Sys2Proof/Machine/Millrace.lean ====
section
/-! DEFINITION. The millraces (chapter 10): enabling and training, real-time and bulk reads with their ECC findings,
the write queue and its batches, rows, refresh, neighbour-row refresh, scrub. -/

namespace Sys2Proof.Machine

/-- A millrace's state beside its registers. -/
def Ctl.mcSt (c : Ctl) (m : Nat) : McSt := tget c.mc m {}

/-- Change it. -/
def Ctl.mcMod (c : Ctl) (m : Nat) (f : McSt → McSt) : Ctl := { c with mc := tmod c.mc m {} f }

/-- R444: MAP_ERR: INTERLEAVE is 1 and its condition fails. -/
def mapErr (c : Ctl) : Ctl := c.flag (R.MC_MAP_MAP_ERR 0) (c.is (R.MC_MAP_INTERLEAVE 0) && !c.interleaved)

/-- Set MC_STAT.STATE; leaving OFF activates the page (R688), and MAP_ERR follows R444. -/
def Ctl.mcGo (c : Ctl) (m st : Nat) : Ctl := mapErr ((c.put (R.MC_STAT_STATE m) st).setActive (pgMillrace m) (st != mcOff))

/-- R449: the bound of a rate (code of RATE) and refresh mode, ns. -/
def rtBound (rate : Nat) (allBank : Bool) : Nat :=
  (match rate with
    | 1 => 1727
    | 2 => 1896
    | _ => 1600) + (if allBank then 440 else 0)

/-- The rate of R467 comes into force at an entry to TRAIN. -/
def Ctl.mcApplyRate (c : Ctl) (m : Nat) : Ctl :=
  let r := if c.get (R.MC_CTRL_RATE m) = 3 then 0 else c.get (R.MC_CTRL_RATE m)
  ((c.put (R.MC_STAT_RATE_NOW m) r).put (R.MC_STAT_RATE_PENDING m) 0).put (R.MC_RT_LAT_BOUND_NS m)
    (rtBound r (c.is (R.MC_CFG_REF_MODE m)))

/-- Entry to TRAIN at an attempt (R465, R466). -/
def Ctl.mcTrainAt (c : Ctl) (m att : Nat) : Ctl :=
  (((c.mcApplyRate m).mcGo m mcTrain).put (R.MC_STAT_ATTEMPT m) att).put (R.MC_STAT_TRAIN_STEP m) 1

/-- MILLRACE_ENABLE (R465, R688): 1 starts INIT from OFF where the start-up order permits, that is once boot image
verification has ended (R648 step 3); 0 turns it OFF. -/
def millraceEnable (m : Nat) (en : Bool) (c : Ctl) : Ctl :=
  let c := c.flag (R.BLK_CTRL_ENABLE (pgMillrace m)) en
  if en then
    if c.get (R.MC_STAT_STATE m) = mcOff ∧ c.is R.GLOBAL_START_STAT_BOOT_DONE then c.mcGo m mcInit else c
  else ((c.mcGo m mcOff).put (R.MC_CTRL_RETRAIN m) 0).mcMod m
      (fun s => { s with
        reads := [], served := [], rows := [], debt := [], dueAt := [], draining := false, nrrDue := [], failAt := 0
        yielded := 0, leaving := false, scrubAt := 0, scrubFrom := none })

/-- INIT_DONE (R465, R466, R439): capacity is reported and attempt 1 begins; 32 Gb with two ranks fails with cause 8. -/
def initDone (m : Nat) (c : Ctl) : Ctl :=
  if c.get (R.MC_STAT_STATE m) = mcInit then
    let two := c.is (R.MC_CFG_RANKS m)
    let big := c.is (R.MC_CFG_DENSITY m)
    if two && big then
      (((c.put (R.MC_STAT_FAIL_CAUSE m) 8).mcGo m mcFault).put (R.MC_CTRL_RETRAIN m) 0).irq (pgMillrace m) 3
    else (c.put (R.MC_CAPACITY_GIB m) (if two || big then 64 else 32)).mcTrainAt m 1
  else c

/-- TRAIN_STEP_DONE (R465 to R467, R469): the step in progress passed or failed. -/
def trainStepDone (m : Nat) (pass : Bool) (c : Ctl) : Ctl :=
  let st := c.get (R.MC_STAT_STATE m)
  let pg := pgMillrace m
  let step := c.get (R.MC_STAT_TRAIN_STEP m)
  if st = mcTrain ∧ (c.mcSt m).failAt ≠ 0 then c  -- R465: between the attempts no step is in progress
  else if st = mcTrain then
    if c.is (R.MC_STAT_RATE_PENDING m) then
      -- R467: the step completes, training restarts at step 1 at the new rate, the attempt unchanged
      (((c.mcApplyRate m).put (R.MC_STAT_TRAIN_STEP m) 1)).irq pg 4
    else if pass then
      if step < 7 then c.put (R.MC_STAT_TRAIN_STEP m) (step + 1)
      else (((c.mcGo m mcService).put (R.MC_CTRL_RETRAIN m) 0).irq pg 2).mcMod m (fun s => { s with first := false })
    else
      let c := c.put (R.MC_STAT_FAIL_CAUSE m) step
      if c.get (R.MC_STAT_ATTEMPT m) ≤ 1 then
        c.mcMod m (fun s => { s with failAt := c.now + 1 })
      else ((c.mcGo m mcFault).put (R.MC_CTRL_RETRAIN m) 0).irq pg 3
  else if st = mcSelfRefresh then
    -- R469: steps 4 and 5 repeated on leaving SELF_REFRESH; TRAIN_STEP holds the one in progress
    let left := c.mcMod m (fun s => { s with leaving := false })
    if ¬ (c.mcSt m).leaving then c
    else if pass then
      if step = 4 then c.put (R.MC_STAT_TRAIN_STEP m) 5
      else left.mcGo m mcService
    else ((left.put (R.MC_STAT_FAIL_CAUSE m) step).mcTrainAt m 1).irq pg 3
  else c

/-- TRAIN_RETRY (R465): 10 ms after a failed attempt 1, attempt 2, at the rate that waits (R467). -/
def trainRetry (m : Nat) (c : Ctl) : Ctl :=
  let s := c.mcSt m
  if c.get (R.MC_STAT_STATE m) = mcTrain ∧ s.failAt ≠ 0 ∧ msTicks 10 ≤ c.sinceT (s.failAt - 1) then
    let c1 := (c.mcMod m (fun s => { s with failAt := 0 })).mcTrainAt m 2
    if c.is (R.MC_STAT_RATE_PENDING m) then c1.irq (pgMillrace m) 4 else c1
  else c

/-- R468: an RT requester can reach a millrace. -/
def Ctl.rtReach (c : Ctl) : Bool :=
  (upto 128).any (fun n => c.get (R.CTX_STAT_STATE n) != 0) || c.activePage pgLedger ||
  c.is R.FANTAIL_FAN_CTRL_TERR_EN || !(c.role == 0 || c.role == 8)

/-- MC_RETRAIN (R465, R468, R20): the write of MC_CTRL.RETRAIN. -/
def mcRetrain (m : Nat) (c : Ctl) : Ctl :=
  let st := c.get (R.MC_STAT_STATE m)
  if c.is (R.MC_CTRL_RETRAIN m) then c
  else if st = mcService then
    if c.rtReach then c.put (R.MC_STAT_RETRAIN_REFUSED m) 1
    else (c.put (R.MC_CTRL_RETRAIN m) 1).mcTrainAt m 1
  else if st = mcFault then (c.put (R.MC_CTRL_RETRAIN m) 1).mcGo m mcInit
  else c

/-- MC_RATE_WRITE (R467). -/
def mcRateWrite (m rate : Nat) (c : Ctl) : Ctl :=
  let c := c.put (R.MC_CTRL_RATE m) rate
  let st := c.get (R.MC_STAT_STATE m)
  if st = mcTrain ∨ st = mcService ∨ st = mcSelfRefresh then c.put (R.MC_STAT_RATE_PENDING m) 1 else c

/-! ### Reads -/

/-- The findings of R442 over a granule read. -/
def Ctl.eccRecord (c : Ctl) (m a cls : Nat) (ue : Bool) (symbol : Nat) : Ctl :=
  let g := granule a
  let pg := pgMillrace m
  let c := if ue then (c.inc (R.MC_ECC_CNT_UE m)).irq pg 1 else (c.inc (R.MC_ECC_CNT_CE m)).irq pg 0
  let held := c.is (R.MC_ECC_ADDR_HI_VALID m) && c.is (R.MC_ECC_ADDR_HI_UE m)
  let c := if held then c else
    ((((c.setReg (R.MC_ECC_ADDR_LO m) (g % 2 ^ 32)).put (R.MC_ECC_ADDR_HI_ADDR m) (g / 2 ^ 32)).put
      (R.MC_ECC_ADDR_HI_SYMBOL m) (if ue then 0 else symbol)).flag (R.MC_ECC_ADDR_HI_UE m) ue).put
      (R.MC_ECC_ADDR_HI_VALID m) 1
  let c := if ue && decide (cls < 2) then { c.health 3 true with ueAt := some c.now } else c
  let c := c.wearAcc (0x70 + m) (b2n (!ue)) 0
  c.event pg 0x16 0xFF 0 0 0 [m, g % 2 ^ 32, g / 2 ^ 32, b2n ue + (if ue then 0 else symbol * 256), cls]

/-- R443, R463, R464: what follows a finding over the granule at `a`: a UE poisons it, a CE rewrites it. -/
def State.finding (s : State) (m a cls : Nat) (f : EccFinding) : State :=
  let g := granule a
  match f with
  | .clean => s
  | .corrected sym =>
    let c := s.ctl.eccRecord m a cls false sym
    if (s.mem.entry? g).isSome then { s with ctl := c }
    else { s with ctl := c.wantFix g }
  | .uncorrectable =>
    { s with ctl := s.ctl.eccRecord m a cls true 0
             mem := { s.mem with poisoned := if s.mem.poisoned.contains g then s.mem.poisoned
                                             else g :: s.mem.poisoned } }

/-- R442: a read of the granule at `a` that meets the errors `errs`: poison is found again by every read (R454), errors beyond
the code's reach leave what they decode to. -/
def readGranule (m a cls : Nat) (errs : List SymbolError) (s : State) : State :=
  let g := granule a
  if s.mem.poisoned.contains g then s.finding m a cls .uncorrectable
  else if errs.isEmpty then s
  else
    let l := (upto 128).map (fun i => cellGet s.mem.dram (g + i))
    let r := eccRead l errs
    let s1 := if r.1 = .uncorrectable ∨ r.2 = l then s
      else { s with mem := { s.mem with dram := cellSetAll s.mem.dram g ((upto 128).zip r.2) } }
    s1.finding m a cls r.1

/-- A read of `n` bytes from `a`, granule by granule. -/
def readGranules (m a n cls : Nat) (errs : List SymbolError) (s : State) : State :=
  (upto ((granule (a + n - 1) - granule a) / 128 + 1)).foldl (fun s i =>
    readGranule m (granule a + 128 * i) cls (errs.filter (fun e => e.granule == i)) s) s

/-- R445: bank number (rank, bank group, bank) and row of a millrace address. -/
def Ctl.bankRow (c : Ctl) (m p : Nat) : Nat × Nat :=
  let row := if c.is (R.MC_CFG_DENSITY m) then slice p 19 17 else slice p 19 16
  let rank := if c.is (R.MC_CFG_RANKS m) then slice p 35 1 else 0
  let bg := (slice p 14 3) ^^^ (row % 8)
  (rank * 32 + bg * 4 + slice p 17 2, row)

/-- R445: bank and row of millrace `m` where a device address lies. -/
def Ctl.rowAt (c : Ctl) (m a : Nat) : Option (Nat × Nat) := (c.place a).map (fun e => c.bankRow m e.2)

/-- NRR_K as R460's field reads it. -/
def Ctl.nrrK (c : Ctl) (m : Nat) : Nat := min (max (c.get (R.MC_CTRL_NRR_K m)) 6) 16

/-- Open the row of an access (R456); an activate draws a trigger (R460). -/
def Ctl.activate (c : Ctl) (m a : Nat) : Ctl :=
  match c.rowAt m a with
  | none => c
  | some br =>
    let s := c.mcSt m
    match tget? s.rows br.1 with
    | some e => if e.1 = br.2 then c.mcMod m (fun s => { s with rows := tput s.rows br.1 (br.2, c.now) })
                else hit c m br s
    | none => hit c m br s
where
  /-- an activate of a new row -/
  hit (c : Ctl) (m : Nat) (br : Nat × Nat) (s : McSt) : Ctl :=
    let d := (Config.nrrDraw m s.draws).toNat
    let trig := c.is (R.MC_CTRL_NRR_EN m) && d % 2 ^ c.nrrK m == 0
    c.mcMod m (fun s => { s with
      rows := tput s.rows br.1 (br.2, c.now)
      draws := s.draws + 1
      nrrDue := if trig then s.nrrDue ++ [br] else s.nrrDue })

/-- R446: a request of `n` bytes at `a` cut at a 4 KiB boundary under interleave, else where millrace 1 begins. -/
def Ctl.segments (c : Ctl) (a n : Nat) : List (Nat × Nat) :=
  let cut := if c.interleaved then (a / 4096 + 1) * 4096 else max a (c.mcCap 0)
  if a < cut ∧ cut < a + n then [(a, cut - a), (cut, a + n - cut)] else [(a, n)]

/-- R446: its parts, one for each millrace: millrace, address, bytes. -/
def Ctl.parts (c : Ctl) (a n : Nat) : List (Nat × Nat × Nat) :=
  (c.segments a n).filterMap (fun g => (c.place g.1).map (fun e => (e.1, g)))

/-- A read reaches millrace `m` and is accepted (R447). -/
def mcAsk (m : Nat) (r : McRead) (c : Ctl) : Ctl :=
  if c.inService m then c.mcMod m (fun s => { s with
    reads := s.reads ++ [r]
    bulkFrom := if r.cls = 1 ∧ s.reads.all (fun q => q.cls != 1) then c.now else s.bulkFrom })
  else c

/-- R446, R447: a read of class `cls` for `w` is asked of its millraces. -/
def queueRead (w : Asker) (cls who a n : Nat) (c : Ctl) : Ctl :=
  (c.parts a n).foldl (fun c p => mcAsk p.1
    { cls := cls, who := who, addr := p.2.1, len := p.2.2, at_ := c.now, asker := w } c) c

/-- RT_READ (R446 to R448): a real-time read of `len` bytes at `a` reaches millrace `m`, which takes the part that it serves; an
RT-short read is of one granule. -/
def rtRead (m who a len : Nat) (bulk : Bool) (c : Ctl) : Ctl :=
  let n := if bulk then len else min len (128 - a % 128)
  ((c.parts a n).filter (fun p => p.1 == m)).foldl (fun c p => mcAsk m
    { cls := b2n bulk, who := who, addr := p.2.1, len := p.2.2, at_ := c.now } c) c

/-- R105: the number by which a millrace knows the hopper as a requester for stream `x`. -/
def hopperWho (x : Nat) : Nat := 256 + x

/-- Remove the first read that satisfies `p`. -/
def takeFirst {α : Type} (p : α → Bool) : List α → Option (α × List α)
  | [] => none
  | x :: t => if p x then some (x, t) else (takeFirst p t).map (fun e => (e.1, x :: e.2))

/-- R456: a request to address `a` hits the row that is open in its bank. -/
def Ctl.rowHit (c : Ctl) (m a : Nat) : Bool :=
  (c.rowAt m a).any (fun br => (tget? (c.mcSt m).rows br.1).any (fun e => e.1 == br.2))

/-- R456: of the reads of a class the one served next, and the reads that stay: row hits before misses, but one that has waited
2 µs before any younger. -/
def Ctl.pickRead (c : Ctl) (m cls : Nat) : Option (McRead × List McRead) :=
  let l := (c.mcSt m).reads
  let mine := fun (r : McRead) => r.cls == cls
  match l.find? mine with
  | none => none
  | some o =>
    let hits := if 40 ≤ c.sinceT o.at_ then none else takeFirst (fun r => mine r && c.rowHit m r.addr) l
    hits.or (takeFirst mine l)

/-- R451, R452: the bytes of a read, each with poison: as fixed by then, else as a reader sees them now. -/
def State.readData (s : State) (r : McRead) : List (Byte × Bool) :=
  r.data.getD ((upto r.len).map (fun i => s.mem.byte (r.addr + i)))

/-- Millrace `m` serves the read `r`, which meets the errors `errs` (R442, R456): its requester may take it from now on. Bytes
fixed before are lost with a granule that is poisoned only by this read. -/
def serveRead (m : Nat) (errs : List SymbolError) (r : McRead) (s : State) : State :=
  let s1 := readGranules m r.addr r.len r.cls errs { s with ctl := s.ctl.activate m r.addr }
  let got := match r.data with
    | none => s1.readData r
    | some l => (upto l.length).zip l |>.map (fun e =>
        let g := granule (r.addr + e.1)
        if s1.mem.poisoned.contains g && !s.mem.poisoned.contains g then (0xFF, true) else e.2)
  if r.asker = .other then s1
  else { s1 with ctl := s1.ctl.mcMod m (fun t => { t with served := t.served ++ [{ r with data := some got }] }) }

/-- R448: bulk reads are served when no RT read waits and no write drain is under way. -/
def Ctl.bulkOpen (c : Ctl) (m : Nat) : Bool := !(c.mcSt m).draining && (c.mcSt m).reads.all (fun r => r.cls == 2)

/-- R448: the bulk reads that wait are served once they may be. -/
def serveBulkN : Nat → Nat → State → State
  | 0, _, s => s
  | fuel + 1, m, s =>
    if s.ctl.bulkOpen m then
      match s.ctl.pickRead m 2 with
      | none => s
      | some (r, rest) =>
        serveBulkN fuel m (serveRead m r.errs r { s with ctl := s.ctl.mcMod m (fun t => { t with reads := rest }) })
    else s

def serveBulk (m : Nat) (s : State) : State := serveBulkN (s.ctl.mcSt m).reads.length m s

/-- R448: the RT read that is served next and those that stay: an RT-short read, unless the oldest RT-bulk read has yielded to
96 of them. -/
def Ctl.rtNext (c : Ctl) (m : Nat) : Option (McRead × List McRead) :=
  let short := c.pickRead m 0
  let bulk := takeFirst (fun r : McRead => r.cls == 1) (c.mcSt m).reads
  if 96 ≤ (c.mcSt m).yielded then bulk.or short else short.or bulk

/-- Millrace `m` serves its next RT read. -/
def rtServe (m : Nat) (errs : List SymbolError) (s : State) : State :=
  match s.ctl.rtNext m with
  | none => s
  | some (r, rest) =>
    let y := if r.cls = 0 ∧ rest.any (fun q => q.cls == 1) then (s.ctl.mcSt m).yielded + 1 else 0
    serveRead m errs r { s with ctl := s.ctl.mcMod m (fun t => { t with
      reads := rest, yielded := y, bulkFrom := if r.cls = 1 then s.ctl.now else t.bulkFrom }) }

/-- R449, R471, R584: the latency of an RT read is measured, in ns. -/
def rtMeasured (m ns : Nat) (c : Ctl) : Ctl :=
  let c := c.put (R.MC_RT_LAT_MAX_NS m) (max (c.get (R.MC_RT_LAT_MAX_NS m)) (min ns 0xFFFF))
  let c := c.metric (72 + m) (ns : Nat)
  if c.get (R.MC_RT_LAT_BOUND_NS m) < ns then c.irq (pgMillrace m) 7 else c

/-- R449: the ns, in whole ticks, that an RT read has taken: since its request, an RT-bulk read since it became the oldest. -/
def Ctl.rtWaited (c : Ctl) (m : Nat) (r : McRead) : Nat :=
  50 * c.sinceT (if r.cls = 1 then (c.mcSt m).bulkFrom else r.at_)

/-- RT_READ_RETURN (R448, R449, R471): the RT read that is served next returns with measured latency `ns` and the bit
errors in its granules. -/
def rtReadReturn (m ns : Nat) (errs : List SymbolError) (s : State) : State :=
  if (s.ctl.rtNext m).isNone then s
  else
    serveBulk m (rtServe m errs { s with ctl := rtMeasured m ns s.ctl })

/-- R448: the RT reads that millrace `m` serves up to the last part of what `w` has asked for; what each took is measured in whole
ticks (log entry 195). -/
def serveUpTo (w : Asker) : Nat → Nat → State → State
  | 0, _, s => s
  | fuel + 1, m, s =>
    if (s.ctl.mcSt m).reads.any (fun r => r.asker == w) then
      match s.ctl.rtNext m with
      | none => s
      | some (r, _) => serveUpTo w fuel m (rtServe m [] { s with ctl := rtMeasured m (s.ctl.rtWaited m r) s.ctl })
    else s

/-- R446, R448: what `w` has asked for has returned: every part has been served, after what is served before it. -/
def serveFor (w : Asker) (s : State) : State :=
  (upto 2).foldl (fun s m => serveBulk m (serveUpTo w (s.ctl.mcSt m).reads.length m s)) s

/-- The parts served for `w`. -/
def Ctl.servedFor (c : Ctl) (w : Asker) : List McRead :=
  (upto 2).flatMap (fun m => (c.mcSt m).served.filter (fun r => r.asker == w))

/-- What was served for `w` has been taken. -/
def takeServed (w : Asker) (c : Ctl) : Ctl :=
  c.each ((upto 2).filter (fun m => (c.mcSt m).served.any (fun r => r.asker == w))) (fun m c =>
    c.mcMod m (fun t => { t with served := t.served.filter (fun r => !(r.asker == w)) }))

/-- The bytes, each with poison, of a read of `n` bytes at `a` for `w` that has returned; a read that no millrace took sees
DRAM as it is. -/
def State.fetched (s : State) (w : Asker) (a n : Nat) : List (Byte × Bool) :=
  let l := s.ctl.servedFor w
  if l.isEmpty then (upto n).map (fun i => s.mem.byte (a + i))
  else (l.filter (fun r => r.addr == a) ++ l.filter (fun r => r.addr != a)).flatMap (fun r => r.data.getD [])

/-- Requesters that want their reads no more: a millrace serves them for nobody. -/
def forgetReads (p : Asker → Bool) (c : Ctl) : Ctl :=
  c.each ((upto 2).filter (fun m => ((c.mcSt m).reads ++ (c.mcSt m).served).any (fun r => p r.asker))) (fun m c =>
    c.mcMod m (fun t => { t with
      reads := t.reads.map (fun r => if p r.asker then { r with asker := .other } else r)
      served := t.served.filter (fun r => !p r.asker) }))

/-- An RT-short read of `n` bytes at `a` for `w` returns, `ue`: with an uncorrectable error (R442, R443): its bytes, and whether
they are lost. -/
def shortReturn (w : Asker) (a n : Nat) (ue : Bool) (s : State) : State × List Byte × Bool :=
  let s1 := serveFor w s
  let got := s1.fetched w a n
  let lost := got.any (·.2)
  let s2 := if ue && !lost then s1.finding (s1.ctl.millOf a) a 0 .uncorrectable else s1
  ({ s2 with ctl := takeServed w s2.ctl }, got.map (·.1), ue || lost)

/-- BULK_READ (R448): a bulk read of one granule arrives; it waits while an RT read waits or writes drain. -/
def bulkRead (m a : Nat) (errs : List SymbolError) (s : State) : State :=
  serveBulk m { s with ctl := mcAsk m { cls := 2, who := 0, addr := a, len := 128, at_ := s.ctl.now, errs := errs } s.ctl }

/-! ### Writes -/

/-- R294: the ledger's cell fetches see its own write-backs. -/
def McRead.ofLedger (r : McRead) : Bool := match r.asker with
  | .ledger _ => true
  | _ => false

/-- The bytes `b` (offsets from `g`) take the place of a read's own where those are fixed. -/
def McRead.newer (g : Nat) (b : Table Byte) (r : McRead) : McRead :=
  { r with data := r.data.map (fun l => (upto l.length).zip l |>.map (fun e =>
      match (if g ≤ r.addr + e.1 then tget? b (r.addr + e.1 - g) else none) with
      | some x => (x, false)
      | none => e.2)) }

/-- R452: a write within the `n` bytes at `g` is accepted: the reads that were accepted before it keep the bytes that they see.
A write of the device's own, `own`, passes into a cell fetch of the ledger (R294). -/
def State.freeze (s : State) (g n : Nat) (own : Option (Table Byte)) : Ctl :=
  let meets := fun (r : McRead) => decide (r.addr < g + n) && decide (g < r.addr + r.len)
  let keep := fun (r : McRead) =>
    if !meets r then r
    else match own, r.ofLedger with
      | some b, true => r.newer g b
      | _, _ => { r with data := some (s.readData r) }
  s.ctl.each ((upto 2).filter (fun m => ((s.ctl.mcSt m).reads ++ (s.ctl.mcSt m).served).any meets)) (fun m c =>
    c.mcMod m (fun t => { t with reads := t.reads.map keep, served := t.served.map keep }))

/-- R463: a write of a corrected granule (one without bytes of its own) falls away when a newer write is queued, or the
granule is poisoned. -/
def Mem.staleFix (m : Mem) (a : Nat) (l : List Byte) : Bool :=
  l.isEmpty && ((m.entry? (granule a)).isSome || m.poisoned.contains (granule a))

/-- The bytes that a write carries; a corrected granule's are those that a reader sees. -/
def Mem.bytesOf (m : Mem) (a : Nat) (l : List Byte) : List Byte := if l.isEmpty then m.read a (128 - a % 128) else l

/-- R450, R451: the one-granule write of `b` at `a`, one of the device's own or one of the host, is accepted. -/
def acceptWrite (own : Bool) (a : Nat) (b : Table Byte) (s : State) : State :=
  let k := s.ctl.millOf a
  { s with ctl := (s.freeze (granule a) 128 (if own then some b else none)).countAccept s.mem k (granule a), mem := s.mem.enqueue s.ctl.now k (granule a) b }

/-- Room for the write at `a` (R455). -/
def State.roomFor (s : State) (a : Nat) : Bool := s.mem.hasRoom (s.ctl.millOf a) (granule a)

/-- DRAM_WRITE (R447, R451, R455): of the device's writes that met a full queue the oldest that has room is accepted; else the
next write is, or waits for room. A write to no millrace in SERVICE is lost. -/
def dramWrite (s : State) : State :=
  match takeFirst (fun w => s.mem.staleFix w.1 w.2 || s.roomFor w.1) s.mem.waiting with
  | some ((a, l), rest) =>
    let s1 : State := { s with mem := { s.mem with waiting := rest } }
    if s.mem.staleFix a l then s1 else acceptWrite true a (inGranule a (s.mem.bytesOf a l)) s1
  | none =>
    match s.ctl.memOut with
    | [] => s
    | (a, l) :: rest =>
      let s1 : State := { s with ctl := { s.ctl with memOut := rest } }
      if !(if l.isEmpty then s.ctl.held a else s.ctl.installed a) || s.mem.staleFix a l then s1
      else if s.roomFor a then acceptWrite true a (inGranule a (s.mem.bytesOf a l)) s1
      else { s1 with ctl := s1.ctl.countFull (s.ctl.millOf a), mem := { s.mem with waiting := s.mem.waiting ++ [(a, l)] } }

/-- BATCH, LOW_WM and HIGH_WM as their fields read them (R453). -/
def Ctl.wqBatch (c : Ctl) (m : Nat) : Nat := min (max (c.get (R.MC_WQ_BATCH m)) 1) 16
def Ctl.wqHigh (c : Ctl) (m : Nat) : Nat := c.get (R.MC_WQ_HIGH_WM m)
def Ctl.wqLow (c : Ctl) (m : Nat) : Nat := min (c.get (R.MC_WQ_LOW_WM m)) (c.wqHigh m - 1)

/-- Commit one entry: a partial entry over a poisoned granule stays poisoned (R454), any other leaves whole data. -/
def Mem.commit (m : Mem) (e : WqEntry) : Mem :=
  if e.bytes.length < 128 ∧ m.poisoned.contains e.granule then m
  else { m with dram := cellSetAll m.dram e.granule e.bytes, poisoned := m.poisoned.filter (· ≠ e.granule) }

/-- R456: the entries of a queue in the order of their service: those that have waited 2 µs, row hits, the others. -/
def Ctl.batchOrder (c : Ctl) (m : Nat) (q : List WqEntry) : List WqEntry :=
  let old := fun (e : WqEntry) => decide (40 ≤ c.sinceT e.at_)
  let hit := fun (e : WqEntry) => !old e && c.rowHit m e.granule
  q.filter old ++ q.filter hit ++ q.filter (fun e => !old e && !hit e)

/-- R453: a bulk read waits. -/
def Ctl.bulkWaits (c : Ctl) (m : Nat) : Bool := (c.mcSt m).reads.any (fun r => r.cls == 2)

/-- R453: a drain ends with the write queue at `n` entries. -/
def Ctl.drainEnds (c : Ctl) (m n : Nat) : Bool := decide (n = 0) || (decide (n ≤ c.wqLow m) && c.bulkWaits m)

/-- R454: the granules of the partial entries of a batch are read, as bulk reads that meet the errors `errs` (by the place of
the entry in the batch). -/
def readPartials (m : Nat) (errs : List SymbolError) (b : List WqEntry) (s : State) : State :=
  ((upto b.length).zip b).foldl (fun s e =>
    if e.2.bytes.length < 128 then
      readGranule m e.2.granule 2 (errs.filter (fun x => x.granule == e.1)) { s with ctl := (s.ctl.activate m e.2.granule).inc (R.MC_CNT1_PARTIAL m) }
    else { s with ctl := s.ctl.activate m e.2.granule }) s

/-- WRITE_BATCH (R453, R454): when no RT read waits, at most BATCH whole-granule writes are committed; partial entries are read
and merged first and counted. -/
def writeBatch (m : Nat) (errs : List SymbolError) (s : State) : State :=
  let c := s.ctl
  let q := s.mem.wq m
  if !c.inService m || q.isEmpty || (c.mcSt m).reads.any (fun r => r.cls != 2) then s
  else
    let start := (c.mcSt m).draining || decide (c.wqHigh m ≤ q.length) || !c.bulkWaits m
    if !start || c.drainEnds m q.length then
      serveBulk m { s with ctl := c.mcMod m (fun t => { t with draining := false }) }
    else
      let now := (c.batchOrder m q).take (c.wqBatch m)
      let rest := q.filter (fun e => !now.any (fun f => f.granule == e.granule))
      let s1 := readPartials m errs now s
      serveBulk m { s1 with
        ctl := s1.ctl.mcMod m (fun t => { t with draining := !c.drainEnds m rest.length })
        mem := (now.foldl Mem.commit s1.mem).setWq m rest }

/-! ### Rows, refresh, scrub -/

/-- R445: where a read of millrace `m` goes: bank and row. -/
def Ctl.readAt (c : Ctl) (m : Nat) (r : McRead) : Option (Nat × Nat) := c.rowAt m r.addr

/-- The controller clocks of a tick (R440). -/
def Ctl.mcClocks (c : Ctl) (m : Nat) : Nat :=
  match c.get (R.MC_STAT_RATE_NOW m) with
  | 1 => 70
  | 2 => 60
  | _ => 80

/-- ROW_CLOSE (R456): a row closes when a request of the class that is being served needs another row of its bank; a row that no
queued request hits, `q` being the write queue, when it has been idle for PAGE_IDLE clocks. -/
def rowClose (m bank : Nat) (q : List WqEntry) (c : Ctl) : Ctl :=
  let rs := (c.mcSt m).reads
  let served := if rs.any (fun r => r.cls != 2) then rs.filter (fun r => r.cls != 2) else if rs.isEmpty then [] else rs
  let at_ := fun (l : List (Option (Nat × Nat))) => (l.filterMap id).filter (fun b => b.1 == bank)
  match tget? (c.mcSt m).rows bank with
  | none => c
  | some e =>
    let writes := q.map (fun w => c.rowAt m w.granule)
    let now := at_ (if served.isEmpty then writes else served.map (c.readAt m))
    let all := at_ (rs.map (c.readAt m) ++ writes)
    let other := now.any (fun b => b.2 != e.1) && !now.any (fun b => b.2 == e.1)
    let idle := decide (c.get (R.MC_CTRL_PAGE_IDLE m) ≤ (c.sinceT e.2 + 1) * c.mcClocks m)
    if other ∨ (idle ∧ ¬ all.any (fun b => b.2 == e.1)) then c.mcMod m (fun s => { s with rows := tdel s.rows bank }) else c

/-- NRR (R460, R461): the oldest trigger is acted on: the rows below and above are activated and precharged. -/
def nrr (m : Nat) (c : Ctl) : Ctl :=
  match (c.mcSt m).nrrDue with
  | [] => c
  | br :: rest =>
    -- R461: an RT access to the row has not ended
    if (c.mcSt m).reads.any (fun r => r.cls != 2 && c.readAt m r == some br) then c
    else (c.inc (R.MC_CNT0_NRR m)).mcMod m (fun s => { s with nrrDue := rest, rows := tdel s.rows br.1 })

/-- R457: all-bank refresh. -/
def Ctl.allBank (c : Ctl) (m : Nat) : Bool := c.is (R.MC_CFG_REF_MODE m)

/-- R457: the bank indexes that a refresh command for index `idx` covers. -/
def Ctl.refIdx (c : Ctl) (m idx : Nat) : List Nat := if c.allBank m then upto 4 else [idx]

/-- Whether an RT read concerns a bank index of a rank that a refresh command covers (R458, R459). -/
def Ctl.rtOnIndex (c : Ctl) (m rank idx : Nat) : Bool :=
  (c.mcSt m).reads.any (fun r => r.cls != 2 &&
    (c.readAt m r).any (fun b => b.1 / 32 == rank && (c.refIdx m idx).contains (b.1 % 4)))

/-- The debt of the indexes covered changes by `f`; DEBT_MAX follows the highest. -/
def Ctl.debtBy (c : Ctl) (m rank idx : Nat) (f : Nat → Nat) : Ctl :=
  let c1 := c.mcMod m (fun s => { s with
    debt := (c.refIdx m idx).foldl (fun t i => tput t (rank * 4 + i) (f (tget t (rank * 4 + i) 0))) s.debt })
  c1.put (R.MC_REFRESH_DEBT_MAX m) (((c1.mcSt m).debt.map (·.2)).foldl max (c.get (R.MC_REFRESH_DEBT_MAX m)))

/-- R457: the ticks of a refresh interval. -/
def Ctl.refInterval (c : Ctl) (m : Nat) : Nat := if c.is (R.MC_STAT_HOT m) then 39 else 78

/-- REFRESH_DUE (R457, R458): an interval falls due for a bank index of a rank, in all-bank mode for the rank: forced with the
debt at 4, else postponed while an RT read concerns it, else paid at once. None falls due before the last has passed. -/
def refreshDue (m rank idx : Nat) (c : Ctl) : Ctl :=
  let k := rank * 4 + (if c.allBank m then 0 else idx)
  if (tget? (c.mcSt m).dueAt k).any (fun t => decide (c.sinceT t < c.refInterval m)) then c
  else
    let c1 := c.mcMod m (fun s => { s with dueAt := tput s.dueAt k c.now })
    if (c.refIdx m idx).any (fun i => decide (4 ≤ tget (c.mcSt m).debt (rank * 4 + i) 0)) then
      ((c1.debtBy m rank idx id).inc (R.MC_REFRESH_FORCED m)).irq (pgMillrace m) 5
    else if c.rtOnIndex m rank idx then c1.debtBy m rank idx (· + 1)
    else c1

/-- REFRESH_REPAY (R458, R459): one interval of debt is repaid when no RT read concerns what the command covers. -/
def refreshRepay (m rank idx : Nat) (c : Ctl) : Ctl :=
  if (c.refIdx m idx).all (fun i => tget (c.mcSt m).debt (rank * 4 + i) 0 == 0) || c.rtOnIndex m rank idx then c
  else c.debtBy m rank idx (· - 1)

/-- R458: MC_REFRESH as read: DEBT_MAX is at least the debt that stands. -/
def Ctl.refreshShown (c : Ctl) (m : Nat) : Ctl := c.debtBy m 0 0 id

/-- DRAM_TEMP_READ (R457): HOT follows the temperature reported, in degrees. -/
def dramTempRead (m : Nat) (degC : Int) (c : Ctl) : Ctl := c.flag (R.MC_STAT_HOT m) (decide (85 < degC))

/-- PERIODIC_CALIBRATION (R470): one step in SERVICE while no RT read waits; no register shows it. -/
def periodicCalibration (_m : Nat) (c : Ctl) : Ctl := c

/-- R462: the patrol may read its next granule: a pass takes SCRUB_HOURS hours. -/
def Ctl.scrubDue (c : Ctl) (m : Nat) : Bool :=
  let t := c.mcSt m
  let period := max 1 (c.get (R.MC_CTRL_SCRUB_HOURS m)) * msTicks 3600000
  match t.scrubFrom with
  | none => true
  | some f => decide ((if t.scrubAt = 0 then c.mcCap m else t.scrubAt) * period ≤ c.sinceT f * c.mcCap m)

/-- R462: the patrol goes on behind millrace `m`'s address `p`. -/
def scrubOn (m p : Nat) (c : Ctl) : Ctl :=
  let cap := c.mcCap m
  let n := p + 128
  let wrap := decide (cap ≤ n)
  let c1 := c.mcMod m (fun t => { t with
    scrubAt := if wrap then 0 else n
    scrubFrom := if p = 0 then some c.now else t.scrubFrom })
  let c2 := if wrap then c1.put (R.MC_SCRUB_PASSES m) ((c1.get (R.MC_SCRUB_PASSES m) + 1) % 2 ^ 16) else c1
  c2.put (R.MC_SCRUB_PROGRESS m) (if wrap then 0 else n * 65536 / max cap 1)

/-- SCRUB_READ (R462, R463): the next granule in ascending order of the millrace is read. -/
def scrubRead (m : Nat) (errs : List SymbolError) (s : State) : State :=
  let c := s.ctl
  if c.inService m && c.is (R.MC_CTRL_SCRUB_EN m) && c.bulkOpen m && c.scrubDue m then
    let p := (c.mcSt m).scrubAt
    match c.unplace m p with
    | none => { s with ctl := c.mcMod m (fun t => { t with scrubAt := 0 }) }
    | some a => readGranule m a 2 errs { s with ctl := (scrubOn m p c).activate m a }
  else s

end Sys2Proof.Machine
end

