-- ==== Sys2Proof/Machine/Sluice.lean ====
section
/-! DEFINITION. The sluice (chapter 12): sources, pending, claims and acknowledges, arming, coalescing; and the host
port's decision on each message (R517 to R519). -/

namespace Sys2Proof.Machine

/-- Change the sluice's state. -/
def Ctl.sluMod (c : Ctl) (f : SluSt → SluSt) : Ctl := { c with slu := f c.slu }

/-- Set or clear bit `s` of a mask. -/
def setMask (m s : Nat) (b : Bool) : Nat :=
  if b then m ||| 2 ^ s else if m.testBit s then m - 2 ^ s else m

/-- R499 to R501: whether source `s` exists on this part. -/
def Ctl.srcExists (c : Ctl) (s : Nat) : Bool :=
  if s < 64 then !(25 ≤ s && s < 32)
  else
    let g := (s - 64) / 24
    let i := (s - 64) % 24
    if g < 7 then c.hasChan i else decide (i < 16)

/-- The protocol source of a lane (R393): an enabled PROTO_EVT bit is set. -/
def Ctl.protoSource (c : Ctl) (k : Nat) : Bool := (c.reg (R.PROTO_EVT k) &&& c.reg (R.PROTO_EVT_EN k)) != 0

/-- R499, R500: the raw state of a source before INVERT. -/
def Ctl.srcInput (c : Ctl) (s : Nat) : Bool :=
  if s < 64 then
    match s with
    | 0 => c.blockSource pgGlobal
    | 1 => (c.reg R.GLOBAL_HP_EVT &&& c.reg R.GLOBAL_HP_EVT_EN) != 0
    | 2 => false
    | 3 => c.blockSource pgHopper
    | 4 => c.blockSource pgFantail
    | 5 => c.blockSource pgLedger
    | 6 => c.blockSource pgTwin
    | 7 => c.blockSource (pgMillrace 0)
    | 8 => c.blockSource (pgMillrace 1)
    | 9 => c.blockSource pgRecorder
    | 10 => c.blockSource pgAxes
    | 11 => c.blockSource pgLight
    | 12 => c.blockSource pgTrim
    | 13 => c.blockSource pgIdentity
    | 14 => c.blockSource pgThermal
    | 15 => c.is R.GLOBAL_BRK_STAT_ENGAGED
    | 24 => c.blockSource pgSluice
    | _ => if 32 ≤ s then c.bit R.GPI_STATE (s - 32) else false
  else
    let i := (s - 64) % 24
    match (s - 64) / 24 with
    | 0 => c.blockSource (pgSpindle i)
    | 1 => false
    | 2 => (c.reg (R.SPINDLE_TENT_EVT i) &&& c.reg (R.SPINDLE_TENT_EVT_EN i)) != 0
    | 3 => c.protoSource i
    | 4 => c.protoSource (24 + i)
    | 5 => c.blockSource (pgLane i)
    | 6 => c.blockSource (pgLane (24 + i))
    | _ => c.blockSource (pgLane (48 + i)) || c.protoSource (48 + i)

/-- The raw state after INVERT (SRC_STAT.RAW). -/
def Ctl.srcRaw (c : Ctl) (s : Nat) : Bool := c.srcInput s != c.is (R.SLUICE_SRC_CFG_INVERT s)

/-- MODE of a source: 0 LEVEL, 1 RISE, 2 FALL, 3 BOTH. -/
def Ctl.srcMode (c : Ctl) (s : Nat) : Nat := c.get (R.SLUICE_SRC_CFG_MODE s)

/-- R502: the filtered state; an open filter passes the raw state in the same clock. -/
def Ctl.srcFiltered (c : Ctl) (s : Nat) : Bool :=
  if c.get (R.SLUICE_SRC_CFG_FILTER s) = 0 then c.srcRaw s else c.slu.filtered.testBit s

/-- Whether a source is pending (R503, R504). -/
def Ctl.srcPending (c : Ctl) (s : Nat) : Bool :=
  if c.srcMode s = 0 then c.slu.pending.testBit s else tget c.slu.counts s 0 != 0

/-- R507: a claim source's priority. -/
def Ctl.srcPrio (c : Ctl) (s : Nat) : Nat := c.get (R.SLUICE_SRC_CFG_PRIO s)

/-- A context's claim stack, top first. -/
def Ctl.stack (c : Ctl) (x : Nat) : List (Nat × Nat) := tget c.slu.claims x []

/-- R508: the effective threshold. -/
def Ctl.effThresh (c : Ctl) (x : Nat) : Nat :=
  max (c.get (R.SLUICE_CTX_THRESH_THRESHOLD x)) (((c.stack x).head?.map (·.2)).getD 0)

/-- Whether claim source `s` is enabled in context `x`. -/
def Ctl.ctxEn (c : Ctl) (x s : Nat) : Bool :=
  if s < 32 then c.bit (R.SLUICE_CTX_EN_LO x) s else c.bit (R.SLUICE_CTX_EN_HI x) (s - 32)

/-- R508: deliverable to context `x`. -/
def Ctl.deliverable (c : Ctl) (x s : Nat) : Bool :=
  c.srcPending s && !c.slu.claimed.testBit s && c.ctxEn x s && decide (c.effThresh x < c.srcPrio s)

/-- R510: the deliverable source taken first: highest priority, then lowest number. -/
def Ctl.bestSource (c : Ctl) (x : Nat) : Option Nat :=
  (upto 64).foldl (fun b s =>
    if c.deliverable x s then
      match b with
      | none => some s
      | some t => if c.srcPrio t < c.srcPrio s then some s else some t
    else b) none

/-- R509, R514: a vector's message condition. -/
def Ctl.vecCond (c : Ctl) (v : Nat) : Bool :=
  if v < 8 then (upto 64).any (c.deliverable v)
  else (upto 24).any (fun i => c.bit (R.SLUICE_SCAN_EN (v - 8)) i && c.srcPending (64 + 24 * (v - 8) + i))

/-- Hand a message to the host port. -/
def Ctl.passMsg (c : Ctl) (v : Nat) : Ctl :=
  { c with host := { c.host with msgs := c.host.msgs ++ [v] }, slu := { c.slu with held := tdel c.slu.held v } }

/-- R509, R514, R516: request the message of vector `v` if it is armed and its condition holds. -/
def Ctl.askVec (c : Ctl) (v : Nat) : Ctl :=
  let armed := if v < 8 then c.slu.armedCtx.testBit v else c.slu.armedGrp.testBit (v - 8)
  if armed && c.vecCond v then
    let c := c.sluMod (fun s => if v < 8 then { s with armedCtx := setMask s.armedCtx v false }
                                else { s with armedGrp := setMask s.armedGrp (v - 8) false })
    if c.get (R.SLUICE_COAL_COUNT v) = 0 then c.passMsg v
    else c.sluMod (fun s => { s with held := tput s.held v (0, c.now) })
  else c

/-- R516: a deliverable source of priority 15 releases a claim context's held message at once. -/
def Ctl.urgentVec (c : Ctl) (v : Nat) : Ctl :=
  if decide (v < 8) && (tget? c.slu.held v).isSome && (upto 64).any (fun s => c.deliverable v s && c.srcPrio s == 15)
  then c.passMsg v else c

/-- Whether the sluice runs (R520). -/
def Ctl.sluOn (c : Ctl) : Bool := c.activePage pgSluice

/-- The message conditions after any change (R509, R514); nothing while MSI-X is disabled (R519). -/
def Ctl.sluEval (c : Ctl) : Ctl :=
  if c.sluOn && c.host.msixOn then (c.each (upto 16) (fun v c => (c.askVec v).urgentVec v)) else c

/-- R516: a new pending of source `s` counts on every held vector of which it is a source. -/
def Ctl.newPending (c : Ctl) (s : Nat) : Ctl :=
  c.each (upto 16) (fun v c =>
    let mine := if v < 8 then decide (s < 64) && c.ctxEn v s
                else decide (64 + 24 * (v - 8) ≤ s ∧ s < 88 + 24 * (v - 8)) &&
                  c.bit (R.SLUICE_SCAN_EN (v - 8)) ((s - 64) % 24)
    match tget? c.slu.held v with
    | some h =>
      if mine then
        if c.get (R.SLUICE_COAL_COUNT v) ≤ h.1 + 1 ∧ c.host.msixOn then c.passMsg v
        else c.sluMod (fun t => { t with held := tput t.held v (h.1 + 1, h.2) })
      else c
    | none => c)

/-- SLUICE.ERR (R504, R511); its interrupt condition holds while VALID is set (R521). -/
def Ctl.sluErr (c : Ctl) (cause ctx src : Nat) : Ctl :=
  ((((c.put R.SLUICE_ERR_CAUSE cause).put R.SLUICE_ERR_CONTEXT ctx).put R.SLUICE_ERR_SOURCE src).put
    R.SLUICE_ERR_VALID 1).level pgSluice 0 true

/-- R503: a LEVEL source's state is sampled: asserted and not claimed, it pends. -/
def Ctl.sampleLevel (c : Ctl) (s : Nat) : Ctl :=
  let on := c.slu.filtered.testBit s || c.slu.latch.testBit s
  if on && !c.slu.claimed.testBit s && !c.slu.pending.testBit s && c.srcExists s then
    (c.sluMod (fun t => { t with pending := setMask t.pending s true })).newPending s
  else c

/-- R504: one selected edge. -/
def Ctl.countEdge (c : Ctl) (s : Nat) : Ctl :=
  if !c.srcExists s then c
  else
    let n := tget c.slu.counts s 0
    if n = 255 then (c.put (R.SLUICE_SRC_STAT_OVERFLOW s) 1).sluErr 3 0 s
    else (c.sluMod (fun t => { t with counts := tput t.counts s (n + 1) })).newPending s

/-- SLUICE_ENABLE (R505, R509, R514, R520). -/
def sluiceEnable (en : Bool) (c : Ctl) : Ctl :=
  let c := (c.flag (R.BLK_CTRL_ENABLE pgSluice) en)
  if en then
    if c.sluOn then c
    else
      let f := maskOf ((upto 256).filter c.srcRaw)
      (({ c with slu := { filtered := f, armedCtx := 255, armedGrp := 255 } } : Ctl).setActive pgSluice true).sluEval
  else ({ c with slu := {} } : Ctl).setActive pgSluice false

/-- SOURCE_LEVEL (R502, R503): the filtered state of a LEVEL source follows its raw state and is sampled. -/
def sourceLevel (s : Nat) (c : Ctl) : Ctl :=
  if c.sluOn && c.srcMode s == 0 then
    ((c.sluMod (fun t => { t with filtered := setMask t.filtered s (c.srcRaw s) })).sampleLevel s).sluEval
  else c

/-- SOURCE_EDGE (R502, R504): the filtered state of an edge-mode source follows its raw state; a selected edge counts. -/
def sourceEdge (s : Nat) (c : Ctl) : Ctl :=
  if c.sluOn && c.srcMode s != 0 then
    let was := c.slu.filtered.testBit s
    let is := c.srcRaw s
    let c := c.sluMod (fun t => { t with filtered := setMask t.filtered s is })
    let sel := (is && !was && (c.srcMode s == 1 || c.srcMode s == 3)) ||
               (!is && was && (c.srcMode s == 2 || c.srcMode s == 3))
    if sel then (c.countEdge s).sluEval else c
  else c

/-- A source asserted for one clock (R65, R485): it passes only an open filter (R502). -/
def Ctl.pulseSource (s : Nat) (c : Ctl) : Ctl :=
  if c.sluOn && c.get (R.SLUICE_SRC_CFG_FILTER s) == 0 && c.srcExists s then
    (match c.srcMode s with
     | 0 => if c.slu.claimed.testBit s || c.slu.pending.testBit s then c
            else (c.sluMod (fun t => { t with pending := setMask t.pending s true })).newPending s
     | 3 => (c.countEdge s).countEdge s
     | _ => c.countEdge s).sluEval
  else c

/-- SW_PEND_SET (R506). -/
def swPendSet (s : Nat) (c : Ctl) : Ctl :=
  if c.sluOn && c.srcExists s then
    if c.srcMode s = 0 then ((c.sluMod (fun t => { t with latch := setMask t.latch s true })).sampleLevel s).sluEval
    else (c.countEdge s).sluEval
  else c

/-- SW_PEND_CLEAR (R506). -/
def swPendClear (s : Nat) (c : Ctl) : Ctl := c.sluMod (fun t => { t with latch := setMask t.latch s false })

/-- R503, R504, R506: a claim or an acknowledge takes one pending of the source. -/
def Ctl.takePending (c : Ctl) (s : Nat) (mark : Bool) : Ctl :=
  let lvl := c.srcMode s == 0
  c.sluMod (fun t => { t with
    latch := setMask t.latch s false
    pending := if lvl then setMask t.pending s false else t.pending
    counts := if lvl then t.counts else tput t.counts s (tget t.counts s 0 - 1)
    claimed := if mark then setMask t.claimed s true else t.claimed })

/-- R503: after a complete or an acknowledge the source's mark goes and its state is sampled again. -/
def Ctl.releaseSource (c : Ctl) (s : Nat) : Ctl :=
  let c := c.sluMod (fun t => { t with claimed := setMask t.claimed s false })
  if c.srcMode s = 0 then
    (c.sluMod (fun t => { t with filtered := setMask t.filtered s (c.srcFiltered s) })).sampleLevel s
  else c

/-- Arm a claim context. -/
def Ctl.armCtx (c : Ctl) (x : Nat) : Ctl := c.sluMod (fun t => { t with armedCtx := setMask t.armedCtx x true })

/-- CTX_CLAIM (R510): the read of CTX_CLAIM[x] and the word it returns. -/
def ctxClaim (x : Nat) (c : Ctl) : Ctl :=
  match c.bestSource x with
  | none => ({ c with host := { c.host with lastRead := 0 } } : Ctl).armCtx x |>.sluEval
  | some s =>
    let p := c.srcPrio s
    let w := 2 ^ 31 + p * 256 + s
    let c := c.takePending s true
    let c := c.sluMod (fun t => { t with claims := tput t.claims x ((s, p) :: tget t.claims x []) })
    ({ c with host := { c.host with lastRead := BitVec.ofNat 32 w } } : Ctl).armCtx x |>.sluEval

/-- CTX_COMPLETE (R511). -/
def ctxComplete (x s : Nat) (c : Ctl) : Ctl :=
  if !c.sluOn then c else
  match c.stack x with
  | [] => c.sluErr 2 x s
  | (t, _) :: rest =>
    if t = s then
      (((c.sluMod (fun u => { u with claims := tput u.claims x rest })).releaseSource s).armCtx x).sluEval
    else c.sluErr 1 x s

/-- CTX_COMPLETE_FLUSH (R512). -/
def ctxCompleteFlush (x : Nat) (c : Ctl) : Ctl :=
  if !c.sluOn then c else
  let st := c.stack x
  let c := c.sluMod (fun u => { u with claims := tput u.claims x [] })
  ((st.foldl (fun c e => c.releaseSource e.1) c).armCtx x).sluEval

/-- CTX_THRESH_WRITE (R509). -/
def ctxThreshWrite (x v : Nat) (c : Ctl) : Ctl :=
  let c := c.put (R.SLUICE_CTX_THRESH_THRESHOLD x) v
  if c.sluOn then (c.armCtx x).sluEval else c

/-- SCAN_ACK (R514, R515). -/
def scanAck (g mask : Nat) (c : Ctl) : Ctl :=
  if !c.sluOn then c else
  let c := c.each ((bitList 24 mask).map (fun i => 64 + 24 * g + i)) (fun s c =>
    if c.srcPending s then (c.takePending s false).releaseSource s else c)
  (c.sluMod (fun t => { t with armedGrp := setMask t.armedGrp g true })).sluEval

/-- COALESCE_RELEASE (R516): a held message leaves after COUNT pendings or TIME_US. -/
def coalesceRelease (v : Nat) (c : Ctl) : Ctl :=
  match tget? c.slu.held v with
  | none => c
  | some h =>
    let t := c.get (R.SLUICE_COAL_TIME_US v)
    if c.host.msixOn ∧ (c.get (R.SLUICE_COAL_COUNT v) ≤ h.1 ∨ (t ≠ 0 ∧ usTicks t ≤ c.sinceT h.2)) then c.passMsg v else c

/-! ### Delivery (R518, R519) -/

/-- The host port's decision on vector `v` at the moment it forms the write. -/
def Ctl.decideMsg (c : Ctl) (v : Nat) : Ctl :=
  let h := c.host
  if !c.vecCond v then { c with host := { h with msixPend := setMask h.msixPend v false } }
  else if h.fnMask || c.is (R.MSIX_MASK v) then { c with host := { h with msixPend := setMask h.msixPend v true } }
  else ({ c with host := { h with msixPend := setMask h.msixPend v false } } : Ctl).send (.msix v)

/-- MSIX_MESSAGE (R518): the message of a vector reaches the host port and is decided. -/
def msixMessage (v : Nat) (c : Ctl) : Ctl :=
  if c.host.msgs.contains v && c.host.msixOn then
    ({ c with host := { c.host with msgs := c.host.msgs.erase v } } : Ctl).decideMsg v
  else c

/-- R518: a vector unmasked with its pending bit set. -/
def Ctl.msixUnmask (c : Ctl) (v : Nat) : Ctl := if c.host.msixPend.testBit v then c.decideMsg v else c

/-- MSIX_ENABLE (R519): host software sets or clears MSI-X Enable and the Function Mask in configuration space. -/
def msixEnable (on mask : Bool) (c : Ctl) : Ctl :=
  if ¬ c.is R.GLOBAL_START_STAT_BOOT_DONE then c.send .retry else  -- R473
  let was := c.host.msixOn
  let c := { c with host := { c.host with msixOn := on, fnMask := mask } }
  if !on then { c with host := { c.host with msgs := [] } }
  else if was then (c.each (upto 16) (fun v c => if mask then c else c.msixUnmask v)).sluEval
  else
    let c := c.each (upto 16) (fun v c =>
      if c.sluOn && c.vecCond v then
        ((c.decideMsg v).sluMod (fun s => { s with held := tdel s.held v })).sluMod (fun s =>
          if v < 8 then { s with armedCtx := setMask s.armedCtx v false }
          else { s with armedGrp := setMask s.armedGrp (v - 8) false })
      else c)
    c.sluEval

end Sys2Proof.Machine
end

