-- ==== Sys2Proof/Machine/Motion.lean ====
section
/-! DEFINITION. Motion segments (R134 to R142, R145 to R148, R161): pieces of constant jerk over a continuous
duration, stretched to whole ticks (R135), along a path. Lengths in nm, times in ticks. -/

namespace Sys2Proof.Machine

/-- R63: 0.5 mm/s in nm per tick. -/
def speedLsb : Rat := mkRat 1 40
/-- R178: 1,000 mm/s² in nm per tick². -/
def accelLsb : Rat := mkRat 1 400000
/-- R178: 10^8 mm/s³ in nm per tick³. -/
def jerkLsb : Rat := mkRat 1 80000000

/-- The least whole number at or above a rational, at least 0. -/
def ceilNat (q : Rat) : Nat := (-(-q).floor).toNat

/-- A bed coordinate in nm as a rational from 2^-16 nm. -/
def fromFix (i : Int) : Rat := mkRat i 65536
/-- R134, R26: to 2^-16 nm. -/
def toFix (q : Rat) : Int := roundRat (q * 65536)
/-- R134: a fixed-point coordinate rounded to whole nanometres. -/
def toNm (i : Int) : Int := roundShift i 16

/-- Distance of two points in 2^-16 nm, in nm. -/
def dist (p q : Int × Int) : Rat :=
  let dx := q.1 - p.1
  let dy := q.2 - p.2
  if dx = 0 then fromFix dy.natAbs
  else if dy = 0 then fromFix dx.natAbs
  else rsqrt (mkRat (dx * dx + dy * dy) (65536 * 65536))

/-- The length of a path. -/
def pathLen : List (Int × Int) → Rat
  | p :: q :: t => dist p q + pathLen (q :: t)
  | _ => 0

/-- The point at distance `s` along a path, and the direction there. Beyond the end the path goes on straight. -/
def pathAt : List (Int × Int) → Rat → (Int × Int) × (Int × Int)
  | p :: q :: t, s =>
    let d := dist p q
    if s ≤ d ∨ t.isEmpty then
      let f := if d = 0 then 0 else s / d
      ((p.1 + roundRat (f * (q.1 - p.1 : Int)), p.2 + roundRat (f * (q.2 - p.2 : Int))), (q.1 - p.1, q.2 - p.2))
    else pathAt (q :: t) (s - d)
  | [p], _ => (p, (0, 0))
  | [], _ => ((0, 0), (0, 0))

/-- The last point of a path. -/
def pathEnd (l : List (Int × Int)) : Int × Int := l.getLast?.getD (0, 0)

/-! ### Pieces -/

/-- The end of a piece: distance, speed, acceleration. -/
def Piece.fin (p : Piece) : Rat × Rat × Rat :=
  (p.s + p.v * p.t + p.a * p.t * p.t / 2 + p.j * p.t * p.t * p.t / 6, p.v + p.a * p.t + p.j * p.t * p.t / 2,
   p.a + p.j * p.t)

/-- Chain pieces given as (duration, acceleration at start, jerk) from speed `v`. -/
def mkPieces : Rat → Rat → List (Rat × Rat × Rat) → List Piece
  | _, _, [] => []
  | s, v, (t, a, j) :: rest =>
    if t ≤ 0 then mkPieces s v rest
    else
      let p : Piece := ⟨t, s, v, a, j⟩
      p :: mkPieces p.fin.1 p.fin.2.1 rest

/-- Distance, speed and acceleration at time `t`. -/
def piecesAt : List Piece → Rat → Rat × Rat × Rat
  | [], _ => (0, 0, 0)
  | [p], t => ({ p with t := min t p.t } : Piece).fin
  | p :: rest, t => if t ≤ p.t then ({ p with t := t } : Piece).fin else piecesAt rest (t - p.t)

/-- R135: a segment over a path from pieces. -/
def mkMove (path : List (Int × Int)) (ps : List Piece) : Move :=
  let t := (ps.map (·.t)).sum
  ⟨ps, t, ceilNat t, path⟩

/-- R135: natural time of sample `k` of `n`. -/
def Move.timeOf (m : Move) (k : Nat) : Rat := if m.n = 0 then 0 else m.time * k / m.n

/-- The place of sample `k`: the last one lies exactly on the end (R135). -/
def Move.at (m : Move) (k : Nat) : (Int × Int) × (Int × Int) :=
  let p := pathAt m.path (piecesAt m.pieces (m.timeOf k)).1
  if m.n ≤ k then (pathEnd m.path, p.2) else p

/-- Distance along the segment at sample `k`. -/
def Move.distAt (m : Move) (k : Nat) : Rat :=
  if m.n ≤ k then pathLen m.path else floor40 (piecesAt m.pieces (m.timeOf k)).1

/-- Natural speed at sample `k` (R188 takes the quotient of speeds stretched alike). -/
def Move.speedAt (m : Move) (k : Nat) : Rat := (piecesAt m.pieces (m.timeOf k)).2.1

/-- Speed and acceleration of the spot after sample `k`, in the stretched time base. -/
def Move.stateAt (m : Move) (k : Nat) : Rat × Rat :=
  let q := piecesAt m.pieces (m.timeOf k)
  let r := if m.n = 0 then 1 else m.time / m.n
  (floor40 (q.2.1 * r), floor40 (q.2.2 * r * r))

/-- R136: stretch a segment to `n` samples. -/
def Move.stretch (m : Move) (n : Nat) : Move := { m with n := n }

/-! ### Speed profiles -/

/-- R145 to R151: from `v0` at most `vc` to at most `v1` over length `l` at acceleration `a`. -/
def trapezoid (l v0 vc v1 a : Rat) : List Piece :=
  if v0 * v0 + 2 * a * l ≤ v1 * v1 then
    let ve := rsqrt (v0 * v0 + 2 * a * l)
    mkPieces 0 v0 [((ve - v0) / a, a, 0)]
  else if v1 * v1 + 2 * a * l ≤ v0 * v0 then
    let ve := rsqrt (v0 * v0 - 2 * a * l)
    mkPieces 0 v0 [((v0 - ve) / a, -a, 0)]
  else
    let vp := max (max v0 v1) (min vc (rsqrt ((2 * a * l + v0 * v0 + v1 * v1) / 2)))
    let d1 := (vp * vp - v0 * v0) / (2 * a)
    let d2 := (vp * vp - v1 * v1) / (2 * a)
    mkPieces 0 v0 [((vp - v0) / a, a, 0), ((l - d1 - d2) / vp, 0, 0), ((vp - v1) / a, -a, 0)]

/-- The speed at the end of pieces. -/
def exitSpeed (ps : List Piece) : Rat := ((ps.getLast?.map (·.fin)).getD (0, 0, 0)).2.1

/-- The continuous time at which the last deceleration to the end begins, none without one. -/
def decelStart (ps : List Piece) : Option Rat :=
  match ps.reverse with
  | p :: rest => if p.a < 0 then some ((rest.map (·.t)).sum) else none
  | [] => none

/-- R140 and R142: a rest-to-rest jump of length `d` under speed `v`, acceleration `a` and jerk `j` (0: trapezoid). -/
def jumpPieces (d v a j : Rat) : List Piece :=
  if j = 0 then trapezoid d 0 v 0 a
  else
    let r := a * a / j
    let ta := if r ≤ v then v / a + a / j else 2 * rsqrt (v / j)
    let da := v * ta / 2
    let acc : Rat → List (Rat × Rat × Rat) := fun vp =>
      if r ≤ vp then [(a / j, 0, j), (vp / a - a / j, a, 0), (a / j, a, -j)]
      else
        let tj := rsqrt (vp / j)
        [(tj, 0, j), (tj, j * tj, -j)]
    let dec : Rat → List (Rat × Rat × Rat) := fun vp =>
      if r ≤ vp then [(a / j, 0, -j), (vp / a - a / j, -a, 0), (a / j, -a, j)]
      else
        let tj := rsqrt (vp / j)
        [(tj, 0, -j), (tj, -(j * tj), j)]
    if 2 * da ≤ d then mkPieces 0 0 (acc v ++ [((d - 2 * da) / v, 0, 0)] ++ dec v)
    else
      let vp := if 2 * a * r / j ≤ d then (rsqrt (r * r + 4 * a * d) - r) / 2 else rcbrt (d * d * j / 4)
      mkPieces 0 0 (acc vp ++ dec vp)

/-- R161: to rest from speed `v` and acceleration `a0` under deceleration `a` and jerk `j`; with jerk the
acceleration changes at ±`j` and never steps. -/
def stopPieces (v a0 a j : Rat) : List Piece :=
  if v ≤ 0 then []
  else if j = 0 then mkPieces 0 v [(v / a, -a, 0)]
  else if a0 < -a then
    -- harder than A already: ease to -A, hold, ease to 0
    let dv := (a0 * a0 - a * a) / (2 * j)
    let rest := v - dv
    if rest ≤ a * a / (2 * j) then
      let ta := -a0 / j
      if a0 * a0 / (2 * j) ≤ v then mkPieces 0 v [((v - a0 * a0 / (2 * j)) / (-a0), a0, 0), (ta, a0, j)]
      else mkPieces 0 v [(ta - rsqrt ((a0 * a0 - 2 * j * v) / (j * j)), a0, j)]
    else mkPieces 0 v [((-a0 - a) / j, a0, j), ((rest - a * a / (2 * j)) / a, -a, 0), (a / j, -a, j)]
  else
    let ap := rsqrt (j * v + a0 * a0 / 2)
    if ap ≤ a then
      if a0 < 0 ∧ ap < -a0 then
        -- what is left is less than easing off gives: ease at once, rest when the speed is 0
        mkPieces 0 v [((-a0 - rsqrt (a0 * a0 - 2 * j * v)) / j, a0, j)]
      else mkPieces 0 v [((a0 + ap) / j, a0, -j), (ap / j, -ap, j)]
    else mkPieces 0 v [((a0 + a) / j, a0, -j), ((v + (a0 * a0 - 2 * a * a) / (2 * j)) / a, -a, 0), (a / j, -a, j)]

/-- A jump segment between two points. -/
def jumpMove (p q : Int × Int) (v a j : Rat) : Move := mkMove [p, q] (jumpPieces (dist p q) v a j)

/-- R161: the stop segment: along `path` from its first point, straight on beyond its end (direction `dir` when the
path has no length). -/
def stopMove (path : List (Int × Int)) (dir : Int × Int) (v a0 a j : Rat) : Move :=
  let ps := stopPieces v a0 a j
  let l := match ps.getLast? with
    | some p => p.fin.1
    | none => 0
  let start := path.head?.getD (0, 0)
  let have_ := pathLen path
  let full := if have_ < l then
      let d := if have_ = 0 then dir else (pathAt path have_).2
      let n := dist (0, 0) d
      let e := pathEnd path
      let k := if n = 0 then 0 else (l - have_) / n
      path ++ [(e.1 + roundRat (k * (d.1 : Int)), e.2 + roundRat (k * (d.2 : Int)))]
    else path
  -- the path is cut at the place of rest
  let fin := (pathAt full l).1
  let rec cut : List (Int × Int) → Rat → List (Int × Int)
    | p :: q :: t, s => if s ≤ dist p q then [p, fin] else p :: cut (q :: t) (s - dist p q)
    | l, _ => l
  mkMove (if ps.isEmpty then [start, start] else cut full l) ps

/-! ### Corners and the field (R150, R152, R159) -/

/-- R152: cosine of whole degrees in 2^-60, 0 to 180. -/
def cosDeg (d : Nat) : Int :=
  -- cos d = sin(90 - d); series on pi/180
  let one : Int := (2 ^ 60 : Nat)
  let t : Int := ((3141592653589793238462643 : Int) * one / (1000000000000000000000000 : Int)) * (90 - (d : Int)) / 180
  let sq := t * t / one
  ((List.range 16).foldl (fun (acc : Int × Int) (i : Nat) =>
    let term := - (acc.2 * sq / one) / ((2 * (i : Int) + 2) * (2 * (i : Int) + 3))
    (acc.1 + term, term)) (t, t)).1

/-- R152: whether the deflection between directions `a` and `b` is at most `d` degrees: cos theta ≥ cos d, decided
on squares (log entry 22: cos d to 2^-60, exact at the multiples of 90). -/
def deflectionLe (a b : Int × Int) (d : Nat) : Bool :=
  let dot := a.1 * b.1 + a.2 * b.2
  let n2 := (a.1 * a.1 + a.2 * a.2) * (b.1 * b.1 + b.2 * b.2)
  let cross := a.1 * b.2 - a.2 * b.1
  if 180 ≤ d then true
  else if d = 0 then decide (cross = 0 ∧ 0 < dot)
  else if d = 90 then decide (0 ≤ dot)
  else if d = 45 then decide (0 < dot ∧ cross.natAbs ≤ dot.natAbs)
  else if d = 135 then decide (0 ≤ dot ∨ dot.natAbs ≤ cross.natAbs)
  else
    let c := cosDeg d
    let one : Int := (2 ^ 120 : Nat)
    if 0 ≤ dot then (if 0 ≤ c then decide (c * c * n2 ≤ dot * dot * one) else true)
    else (if 0 ≤ c then false else decide (dot * dot * one ≤ c * c * n2))

/-- Distance from a point along a direction (both in 2^-16 nm) to the edge of a rectangle. -/
def edgeDist (p d : Int × Int) (lo hi : Int × Int) : Rat :=
  let n := dist (0, 0) d
  let one : Int → Int → Int → Int → Option Rat := fun c dc l h =>
    if 0 < dc then some (mkRat (h - c) dc.natAbs) else if dc < 0 then some (mkRat (c - l) dc.natAbs) else none
  let t := match one p.1 d.1 lo.1 hi.1, one p.2 d.2 lo.2 hi.2 with
    | some a, some b => min a b
    | some a, none => a
    | none, some b => b
    | none, none => 0
  max 0 (t * n)

end Sys2Proof.Machine
end

