-- ==== Sys2Proof/Machine/Vrec.lean ====
section
/-! DEFINITION. Vector records (R63 to R76), profile entries (R178, R277), field correction (R159, R164 to R172) and
the power arithmetic (R184 to R188). -/

namespace Sys2Proof.Machine

/-! ### Record fields (R63 to R69) -/

def tNop : Nat := 0
def tMark : Nat := 1
def tJump : Nat := 2
def tPoint : Nat := 3
def tDwell : Nat := 4
def tFence : Nat := 5
def tParam : Nat := 6
def tLayerEnd : Nat := 7

def Item.typ (i : Item) : Nat := fieldAt i.bytes 0 2 % 16
/-- A TYPE_FLAGS bit (R65). -/
def Item.flag (i : Item) (k : Nat) : Bool := bitOf (fieldAt i.bytes 0 2) k
def Item.irq (i : Item) : Bool := i.flag 11
def Item.log (i : Item) : Bool := i.flag 10
def Item.focusAbs (i : Item) : Bool := i.flag 9
def Item.noFeedfwd (i : Item) : Bool := i.flag 8
def Item.openLoop (i : Item) : Bool := i.flag 7
def Item.cont (i : Item) : Bool := i.flag 6
def Item.skywrite (i : Item) : Bool := i.flag 5
def Item.sx (i : Item) : Int := sgn 32 (fieldAt i.bytes 2 4)
def Item.sy (i : Item) : Int := sgn 32 (fieldAt i.bytes 6 4)
def Item.ex (i : Item) : Int := sgn 32 (fieldAt i.bytes 10 4)
def Item.ey (i : Item) : Int := sgn 32 (fieldAt i.bytes 14 4)
def Item.speed (i : Item) : Nat := fieldAt i.bytes 18 2
def Item.power (i : Item) : Nat := fieldAt i.bytes 20 2
def Item.profIx (i : Item) : Nat := fieldAt i.bytes 22 1 + (fieldAt i.bytes 23 1 % 4) * 256
def Item.cls (i : Item) : Nat := fieldAt i.bytes 23 1 / 4
def Item.focus (i : Item) : Int := sgn 16 (fieldAt i.bytes 24 2)
/-- The types without a TAG of their own carry tag 0 in events (bytes 26 to 28 are ignored or reserved). -/
def Item.tag (i : Item) : Nat := if i.typ = tMark ∨ i.typ = tJump ∨ i.typ = tPoint then fieldAt i.bytes 26 3 else 0
def Item.shareByte (i : Item) : Nat := fieldAt i.bytes 29 1
def Item.splitOk (i : Item) : Bool := bitOf i.shareByte 6
def Item.prefer (i : Item) : Nat := i.shareByte % 32
/-- POINT: duration in END_X; DWELL: bytes 10 to 13. -/
def Item.dur (i : Item) : Nat := fieldAt i.bytes 10 4
def Item.fenceId (i : Item) : Nat := fieldAt i.bytes 2 2
def Item.mask (i : Item) : Nat := fieldAt i.bytes 4 3
def Item.actions (i : Item) : Nat := fieldAt i.bytes 7 1
def Item.timeoutMs (i : Item) : Nat := fieldAt i.bytes 8 2
def Item.paramId (i : Item) : Nat := fieldAt i.bytes 2 2
def Item.value (i : Item) : Nat := fieldAt i.bytes 4 4
def Item.layer (i : Item) : Nat := fieldAt i.bytes 2 4

/-- R73: a MARK whose start equals its end. -/
def Item.pointMark (i : Item) : Bool := i.typ == tMark && i.sx == i.ex && i.sy == i.ey
/-- A MARK with a line to draw. -/
def Item.lineMark (i : Item) : Bool := i.typ == tMark && !i.pointMark
/-- A point exposure (R153). -/
def Item.isPoint (i : Item) : Bool := i.typ == tPoint || i.pointMark
/-- R204: a record that begins a run unless it joins a chain. -/
def Item.isRun (i : Item) : Bool := i.typ == tMark || i.typ == tPoint
/-- A motion record (R224). -/
def Item.isMotion (i : Item) : Bool := i.typ == tMark || i.typ == tJump || i.typ == tPoint

/-- R231: a part's start or end is the stitch end. -/
def Item.stitchIn (i : Item) : Bool := i.stitch.any (fun s => !s.isA)
def Item.stitchOut (i : Item) : Bool := i.stitch.any (·.isA)
/-- The stitch ends of R231 count as skywritten. -/
def Item.skyIn (i : Item) : Bool := i.skywrite || i.stitchIn
def Item.skyOut (i : Item) : Bool := i.skywrite || i.stitchOut

/-- R67: the CRC of bytes 0 to 29 matches. -/
def crcOk (b : List Byte) : Bool := crc16 (b.take 30) == fieldAt b 30 2

/-- Bytes `i` to `j` of a record are 0. -/
def zeroFrom (b : List Byte) (i j : Nat) : Bool := ((b.drop i).take (j + 1 - i)).all (· == 0)

/-- R76: the first malformed condition in the order 2, 1, 3, 4, 5, 6, 7, for a spindle stream or the members of a
share group. -/
def malformed (crcCheck : Bool) (members : Option Nat) (b : List Byte) : Option Nat :=
  let i : Item := { bytes := b }
  let t := i.typ
  let bits := fieldAt b 0 2
  let geo := t == tMark || t == tJump || t == tPoint
  let allowed : Nat := 0xC0F + (if geo then 0x200 else 0) + (if t == tMark || t == tPoint then 0x180 else 0) +
    (if t == tMark then 0x60 else 0)
  if 8 ≤ t then some 2
  else if crcCheck ∧ ¬ crcOk b then some 1
  else if bits &&& (0xFFFF ^^^ allowed) ≠ 0 then some 3
  else if (t = tFence ∧ (¬ zeroFrom b 10 28 ∨ i.actions / 4 ≠ 0)) ∨ (t = tParam ∧ ¬ zeroFrom b 8 28) ∨
      (t = tLayerEnd ∧ ¬ zeroFrom b 6 28) then some 4
  else if t = tParam ∧ i.paramId ≠ 1 ∧ i.paramId ≠ 2 then some 5
  else match members with
    | none => if i.shareByte ≠ 0 then some 6 else none
    | some m =>
      if ¬ bitOf i.shareByte 7 ∨ bitOf i.shareByte 5 ∨ 25 ≤ i.prefer ∨
          (1 ≤ i.prefer ∧ ¬ bitOf m (i.prefer - 1)) then some 6
      else if t ≠ tMark ∧ t ≠ tPoint ∧ t ≠ tNop ∧ t ≠ tLayerEnd then some 7
      else none

/-- R230: the record with new start and end points. -/
def Item.withEnds (i : Item) (sx sy ex ey : Int) : Item :=
  { i with bytes := i.bytes.take 2 ++ leInt 4 sx ++ leInt 4 sy ++ leInt 4 ex ++ leInt 4 ey ++ i.bytes.drop 18 }

/-! ### Spindles in the store -/

def stDisabled : Nat := 0
def stStopped : Nat := 1
def stIdle : Nat := 2
def stRunning : Nat := 3
def stFenceWait : Nat := 4
def stLayerHold : Nat := 5
def stBraking : Nat := 6
def stBraked : Nat := 7

def Ctl.sp (c : Ctl) (n : Nat) : SpinSt := tget c.spin n {}
def Ctl.setSp (c : Ctl) (n : Nat) (s : SpinSt) : Ctl := { c with spin := tput c.spin n s }
def Ctl.modSp (c : Ctl) (n : Nat) (f : SpinSt → SpinSt) : Ctl := c.setSp n (f (c.sp n))
def Ctl.sst (c : Ctl) (n : Nat) : Nat := c.get (R.SPINDLE_STAT_STATE n)
def Ctl.setSst (c : Ctl) (n v : Nat) : Ctl := c.put (R.SPINDLE_STAT_STATE n) v

/-! ### Profiles (R178, R183) -/

/-- The 64 bytes of an entry of a copy; entries never written hold zeros (log entry 1). -/
def Ctl.profEntry (c : Ctl) (copy ix : Nat) : List Byte := tget c.tab.prof (copy * 1024 + ix) (zeros 64)

/-- R183: the copy a record of spindle `n` is planned with: the one in use when it was taken up. -/
def Ctl.copyOf (c : Ctl) (n : Nat) (i : Item) : Nat := i.copy.getD (c.get (R.SPINDLE_STAT_PROF_COPY n))

/-- The entry a record of spindle `n` uses. -/
def Ctl.profOf (c : Ctl) (n : Nat) (i : Item) : List Byte := c.profEntry (c.copyOf n i) i.profIx

abbrev Prof := List Byte

def pMarkSpeed (p : Prof) : Nat := fieldAt p 0 2
def pJumpSpeed (p : Prof) : Nat := fieldAt p 2 2
def pMarkAccel (p : Prof) : Rat := (max 1 (fieldAt p 4 2) : Nat) * accelLsb
def pJumpAccel (p : Prof) : Rat := (max 1 (fieldAt p 6 2) : Nat) * accelLsb
def pJumpJerk (p : Prof) : Rat := (fieldAt p 8 2 : Nat) * jerkLsb
def pSettle (p : Prof) : Nat := fieldAt p 10 2
def pRampUp (p : Prof) : Nat := fieldAt p 12 2
def pRampDown (p : Prof) : Nat := fieldAt p 14 2
def pUpShape (p : Prof) : Nat := fieldAt p 16 1 % 4
def pDownShape (p : Prof) : Nat := fieldAt p 16 1 / 4 % 4
def pScMode (p : Prof) : Nat := fieldAt p 17 1 % 4
def pScFloor (p : Prof) : Nat := min (fieldAt p 18 2) 32768
/-- In nm. -/
def pRunIn (p : Prof) : Rat := ((fieldAt p 20 2 * 1000 : Nat) : Rat)
def pRunOut (p : Prof) : Rat := ((fieldAt p 22 2 * 1000 : Nat) : Rat)
def pSkyCorner (p : Prof) : Nat := fieldAt p 24 1
def pBlend (p : Prof) : Nat := fieldAt p 25 1
def pCornerVmax (p : Prof) : Rat := (fieldAt p 26 2 : Nat) * speedLsb
def pDwell (p : Prof) : Nat := fieldAt p 28 4
def pLedgerCurve (p : Prof) : Nat := fieldAt p 48 1
def pPrio (p : Prof) : Nat := fieldAt p 49 1 % 16
def pQuiet (p : Prof) : Bool := bitOf (fieldAt p 49 1) 4

/-- R71, R72, R138: a MARK's commanded speed in nm per tick. -/
def markSpeed (i : Item) (p : Prof) : Rat :=
  let raw := if i.speed ≠ 0 then i.speed else if pMarkSpeed p = 0 then 100 else pMarkSpeed p
  (min (max raw 100) 24000 : Nat) * speedLsb

/-- R71, R72, R138: the speed of a jump under a profile, for a JUMP record or an implicit jump. -/
def jumpSpeed (raw : Nat) (p : Prof) : Rat :=
  let r := if raw ≠ 0 then raw else if pJumpSpeed p = 0 then 100 else pJumpSpeed p
  (min r 60000 : Nat) * speedLsb

/-- R72: a record whose own speed is clamped. -/
def clampedSpeed (i : Item) : Bool :=
  (i.typ == tMark && i.speed != 0 && (decide (i.speed < 100) || decide (24000 < i.speed))) ||
  (i.typ == tJump && decide (60000 < i.speed))

/-- R73, R153: the exposure of a point in ticks. -/
def exposure (i : Item) (p : Prof) : Nat :=
  if i.typ = tPoint ∧ i.dur ≠ 0 then i.dur else pDwell p

/-! ### The field (R159, R164 to R172) -/

def Ctl.fieldX0 (c : Ctl) (n : Nat) : Int := c.getS (R.SPINDLE_FIELD_X0_ORIGIN n)
def Ctl.fieldY0 (c : Ctl) (n : Nat) : Int := c.getS (R.SPINDLE_FIELD_Y0_ORIGIN n)
def Ctl.pitch (c : Ctl) (n : Nat) : Int := (c.get (R.SPINDLE_GRID_PITCH_PITCH n) : Nat)

/-- R159. -/
def Ctl.inExtent (c : Ctl) (n : Nat) (x y : Int) : Bool :=
  let w := 128 * c.pitch n
  decide (0 ≤ x - c.fieldX0 n) && decide (x - c.fieldX0 n ≤ w) && decide (0 ≤ y - c.fieldY0 n) &&
  decide (y - c.fieldY0 n ≤ w)

/-- R160: a record that uses a coordinate outside the extent. -/
def Ctl.outOfField (c : Ctl) (n : Nat) (i : Item) : Bool :=
  if i.typ = tMark then !(c.inExtent n i.sx i.sy && c.inExtent n i.ex i.ey)
  else if i.typ = tJump then !(c.inExtent n i.ex i.ey)
  else if i.typ = tPoint then !(c.inExtent n i.sx i.sy)
  else false

/-- R164: cell and UQ1.16 position in it. -/
def cellOf (d pitch : Int) : Int × Int :=
  let i := min (d.tdiv (max pitch 1)) 127
  (i, ((d - i * pitch) * 65536).tdiv (max pitch 1))

/-- R165, R166: the four weights in SQ2.14 for position u. -/
def weights (u : Int) : List Int :=
  let one : Int := 65536
  -- each weight is a cubic over 2 * 65536^3; SQ2.14 rounding of w * 2^14
  let den : Int := 2 * one * one * one
  let w0 := roundDiv ((-(u * u * u) + 2 * u * u * one - u * one * one) * 16384) den
  let w2 := roundDiv ((-3 * u * u * u + 4 * u * u * one + u * one * one) * 16384) den
  let w3 := roundDiv ((u * u * u - u * u * one) * 16384) den
  [w0, 16384 - w0 - w2 - w3, w2, w3]

/-- Node (i, j) of a bank; nodes never written hold zeros (log entry 1). -/
def Ctl.node (c : Ctl) (n bank : Nat) (i j : Int) : Int × Int × Int :=
  let ci := (clamp i 0 128).toNat
  let cj := (clamp j 0 128).toNat
  tget c.tab.grid ((n * 2 + bank) * 16641 + cj * 129 + ci) (0, 0, 0)

/-- R165 to R168: the corrections at a bed point; outside the extent, those of the nearest point (R161). -/
def Ctl.corr (c : Ctl) (n : Nat) (x y : Int) : Int × Int × Int :=
  if ¬ c.is (R.SPINDLE_TRAJ_CTRL_GRID_EN n) then (0, 0, 0)
  else
    let p := c.pitch n
    let cx := cellOf (clamp (x - c.fieldX0 n) 0 (128 * p)) p
    let cy := cellOf (clamp (y - c.fieldY0 n) 0 (128 * p)) p
    let wx := weights cx.2
    let wy := weights cy.2
    let bank := c.get (R.SPINDLE_STAT_BANK n)
    let sum := (upto 4).foldl (fun (acc : Int × Int × Int) j =>
      (upto 4).foldl (fun (acc : Int × Int × Int) i =>
        let w := wx.getD i 0 * wy.getD j 0
        let g := c.node n bank (cx.1 - 1 + i) (cy.1 - 1 + j)
        (acc.1 + w * g.1, acc.2.1 + w * g.2.1, acc.2.2 + w * g.2.2)) acc) (0, 0, 0)
    let fin := fun (v : Int) => clamp (roundShift v 28) (-524287) 524287
    (fin sum.1, fin sum.2.1, fin sum.2.2)

/-- R169: an axis command. -/
def axisCmd (x x0 pitch : Int) (scale : Nat) (corr : Int) : Int :=
  satS 24 (roundShift ((x - (x0 + 64 * pitch)) * scale) 24 + corr)

/-- R172: the Z command before its correction. -/
def Ctl.zTarget (c : Ctl) (n : Nat) (um corr : Int) : Int :=
  satS 24 (roundShift (um * (c.get (R.SPINDLE_FOCUS_FOCUS_SCALE n) : Nat)) 8 + corr)

/-! ### Power (R185, R187, R188) -/

/-- R185. -/
def mulK (a k : Nat) : Nat := min ((a * k + 16384) >>> 15) 262143

/-- Sine of pi * q / 2 in 2^-60, for q from 0 to 1. -/
def sinHalfPi (q : Rat) : Int :=
  let one : Int := (2 ^ 60 : Nat)
  let t : Int := (((3141592653589793238462643 : Int) * one / (2000000000000000000000000 : Int) : Int) * q).floor
  let sq := t * t / one
  ((List.range 16).foldl (fun (acc : Int × Int) (i : Nat) =>
    let term := - (acc.2 * sq / one) / ((2 * (i : Int) + 2) * (2 * (i : Int) + 3))
    (acc.1 + term, term)) (t, t)).1

/-- R187: a ramp's exact value at x = min(1, (k + 1) / ramp), as a rational. -/
def rampAt (ramp shape k : Nat) : Rat :=
  if ramp = 0 ∨ ramp ≤ k + 1 then 1
  else
    let x : Rat := mkRat (k + 1 : Nat) ramp
    if shape = 1 then
      -- (1 - cos(pi x)) / 2 = sin(pi x / 2)^2
      let s := sinHalfPi x
      mkRat (s * s) (2 ^ 120)
    else x

/-- R187: r in UQ1.15 for lit sample `k` of `total`. -/
def rampFactor (p : Prof) (k : Nat) (total : Option Nat) : Nat :=
  let up := rampAt (pRampUp p) (pUpShape p) k
  let dn := match total with
    | some t => rampAt (pRampDown p) (pDownShape p) (t - 1 - k)
    | none => 1
  (narrowU 16 15 (min up dn)).toNat

/-- R188: s in UQ1.15 from the quotient of planned and nominal speed. -/
def speedComp (p : Prof) (q : Rat) : Nat :=
  let v : Option Rat := match pScMode p with
    | 1 => some q
    | 2 => some (rsqrt q)
    | _ => none
  match v with
  | none => 32768
  | some r => (clamp (narrowU 17 15 r) (pScFloor p : Nat) 32768).toNat

/-- R232: the position ramp of a stitched part at `s` micrometres from the whole mark's start; none outside it. -/
def stitchRamp (st : Stitch) (s : Int) : Nat :=
  let p := (clamp (((s - st.s1) * 32768).tdiv (max (st.s2 - st.s1) 1)) 0 32768).toNat
  if st.isA then 32768 - p else p

/-- Ledger factors of a channel (R186). -/
def Ctl.ffOf (c : Ctl) (n : Nat) : Nat := (tget c.led.ch n {}).ff
def Ctl.ceilOf (c : Ctl) (n : Nat) : Nat := (tget c.led.ch n {}).ceil

end Sys2Proof.Machine
end

