-- ==== Sys2Proof/Machine/Stream.lean ====
section
/-! DEFINITION. Streams (R80, R81, R90, R93): their rings, HEAD, writebacks, and the start and the retirement of a
record. -/

namespace Sys2Proof.Machine

/-! ### Rings -/

/-- R80: records of the ring. -/
def Ctl.ringN (c : Ctl) (x : Nat) : Nat := 2 ^ (c.get (R.CTX_SIZE_SIZE_LOG2 x) - 5)
def Ctl.ringBase (c : Ctl) (x : Nat) : Nat := c.reg (R.CTX_BASE_LO x) + c.reg (R.CTX_BASE_HI x) * 2 ^ 32
def Ctl.headIx (c : Ctl) (x : Nat) : Nat := c.get (R.CTX_HEAD_INDEX x)
def Ctl.fetchIx (c : Ctl) (x : Nat) : Nat := c.get (R.CTX_FETCH_INDEX x)
def Ctl.tailIx (c : Ctl) (x : Nat) : Nat := c.get (R.CTX_TAIL_INDEX x)
/-- Records from index `a` to index `b` of a ring. -/
def Ctl.ringSub (c : Ctl) (x b a : Nat) : Nat := (b + c.ringN x - a % c.ringN x) % c.ringN x

/-- The members of a share stream's group. -/
def Ctl.members (c : Ctl) (x : Nat) : Nat := c.get (R.HOPPER_SHARE_MASK_MEMBERS (c.bindOf x))

/-! ### Writebacks and state changes (R90, R93) -/

/-- R93: the writeback record. -/
def ctxWriteback (x : Nat) (c : Ctl) : Ctl :=
  if c.is (R.CTX_WB_CFG_WB_EN x) then
    let s := c.strm x
    (c.modStrm x (fun s => { s with wbSeq := (s.wbSeq + 1) % 2 ^ 32 })).postRecord
      (c.reg (R.CTX_WB_LO x) + c.reg (R.CTX_WB_HI x) * 2 ^ 32)
      (leBytes 4 (c.headIx x + x * 2 ^ 25) ++ leBytes 6 c.now ++ leBytes 1 (c.cst x) ++ [0#8] ++ leBytes 4 s.wbSeq)
  else c

/-- R90: a change of state, with its writeback. -/
def setCst (x v : Nat) (c : Ctl) : Ctl :=
  if c.cst x = v then c else ctxWriteback x (c.put (R.CTX_STAT_STATE x) v)

/-- The records of stream `x` that a spindle holds and has not retired. -/
def SpinSt.holds (s : SpinSt) (x : Nat) : List Nat :=
  let own := fun (i : Item) => decide (i.stream = x) && !i.retired
  ((s.exec.map (·.item)).toList ++ (s.fence.map (·.1)).toList ++ s.layerEnd.toList ++ s.redo.map (·.1) ++ s.buf).filter own
    |>.map (·.idx)

/-- R81: HEAD is the first record in ring order that has not retired: it may be in a spindle, in staging, at a halt,
in a read, or not read yet. -/
def Ctl.headOf (c : Ctl) (x : Nat) : Nat :=
  let s := c.strm x
  let here := (upto 24).flatMap (fun n => (c.sp n).holds x)
  let all := here ++ s.lost ++ s.staged.map (·.idx) ++ (s.faulty.map (·.idx)).toList ++ s.reads.map (·.first) ++ [c.fetchIx x]
  let h := c.headIx x
  all.foldl (fun b i => if c.ringSub x i h < c.ringSub x b h then i else b) (c.fetchIx x)

/-- R81, R90: HEAD follows; at TAIL an ACTIVE stream is IDLE. -/
def advanceHead (x : Nat) (c : Ctl) : Ctl :=
  let c1 := c.put (R.CTX_HEAD_INDEX x) (c.headOf x)
  if c1.cst x = csActive ∧ c1.headIx x = c1.tailIx x then setCst x csIdle c1 else c1

/-! ### Starting and retiring (R65, R69, R73, R75, R93, R107) -/

/-- R65, R72: a record starts: its LOG event and its clamped speed, which a divided MARK counts with its part A. `n` is no
spindle for a share stream's record that goes to none (R112, R227). Of a divided MARK with LOG each part logs its start (log
entry 192). -/
def recordStarted (n : Nat) (i : Item) (c : Ctl) : Ctl :=
  let c1 := if i.log then c.event (if n < 24 then pgSpindle n else pgHopper) 0x05 n i.tag 0 0 [i.stream] else c
  if clampedSpeed i ∧ i.stitch.all (·.isA) then c1.inc (R.CTX_CNT0_CLAMPED i.stream) else c1

/-- R75: a record retires: the interrupt of its spindle, if one executed it, what a PARAM sets, HEAD, the writeback. -/
def recordRetired (n : Nat) (i : Item) (c : Ctl) : Ctl :=
  if i.retired then c
  else
    let x := i.stream
    let c1 := if i.irq ∧ n < 24 then (c.pulseSource (88 + n)).irq (pgSpindle n) 0 else c
    let c2 := if i.typ = tParam then
        (if i.paramId = 2 then c1.setReg (R.CTX_MARKER x) i.value
         else c1.modStrm x (fun s => { s with focusBase := sgn 32 i.value }))
      else c1
    let c3 := advanceHead x (c2.modStrm x (fun s => { s with wbCount := s.wbCount + 1 }))
    let k := c3.get (R.CTX_WB_CFG_INTERVAL x)
    if k ≠ 0 ∧ k ≤ (c3.strm x).wbCount then ctxWriteback x (c3.modStrm x (fun s => { s with wbCount := 0 })) else c3

end Sys2Proof.Machine
end

