-- ==== Sys2Proof/Machine/Planner.lean ====
section
/-! DEFINITION. The planner of a spindle (R134 to R158): what a record's phases are, the speeds of a chain over the
records in view, and when the chain's end is fixed. -/

namespace Sys2Proof.Machine

/-! ### Records in view (R156) -/

/-- A record the planner never looks across. -/
def Item.barrier (i : Item) : Bool := i.typ == tFence || i.typ == tLayerEnd || i.mal.isSome

/-- The records after the one in execution, at most 15, up to the first FENCE or LAYER_END. -/
def SpinSt.view (s : SpinSt) : List Item :=
  ((s.redo.map (·.1) ++ s.buf).take 15).takeWhile (fun i => !i.barrier)

/-- R144: a CONTINUE mark carries on the mark `p` before it in its stream; not at a stitch end (R231). -/
def Item.follows (i p : Item) : Bool :=
  p.lineMark && i.lineMark && i.cont && p.stream == i.stream && i.sx == p.ex && i.sy == p.ey && !i.stitchIn && !p.stitchOut

/-- R144: the CONTINUE successors of a mark among the records that follow it. -/
def Ctl.successors (c : Ctl) (n : Nat) : Item → List Item → List Item
  | p, i :: t =>
    if i.follows p && !(c.outOfField n i) then i :: c.successors n i t
    else []
  | _, [] => []

/-- A mark of a chain with what the planner needs of it: length, commanded speed, acceleration, direction. -/
structure MarkInfo where
  item : Item
  prof : Prof
  len : Rat
  vc : Rat
  acc : Rat
  dir : Int × Int
  deriving DecidableEq, Repr

/-- Start and end of a record in 2^-16 nm. -/
def Item.p0 (i : Item) : Int × Int := (i.sx * 65536, i.sy * 65536)
def Item.p1 (i : Item) : Int × Int := (i.ex * 65536, i.ey * 65536)

def Ctl.markInfo (c : Ctl) (n : Nat) (i : Item) : MarkInfo :=
  let p := c.profOf n i
  ⟨i, p, dist i.p0 i.p1, markSpeed i p, pMarkAccel p, ((i.ex - i.sx) * 65536, (i.ey - i.sy) * 65536)⟩

/-- R150: distance from a point (2^-16 nm) along a direction to the edge of the grid extent. -/
def Ctl.edge (c : Ctl) (n : Nat) (p d : Int × Int) : Rat :=
  let w := 128 * c.pitch n
  edgeDist p d (c.fieldX0 n * 65536, c.fieldY0 n * 65536) ((c.fieldX0 n + w) * 65536, (c.fieldY0 n + w) * 65536)

/-- R150: the square of the speed at which a skywritten mark end may be passed. -/
def Ctl.passSq (c : Ctl) (n : Nat) (m : MarkInfo) : Rat :=
  min (m.vc * m.vc) (2 * m.acc * c.edge n m.item.p1 m.dir)

/-- R152 at the vertex of `a` and `b`: whether the chain is cut there, and the speed it may be passed at. -/
def Ctl.corner (a b : MarkInfo) : Bool × Rat :=
  let lo := min a.vc b.vc
  let sky := pSkyCorner b.prof
  if deflectionLe a.dir b.dir (pBlend b.prof) then (false, lo)
  else if sky ≠ 0 ∧ b.item.skywrite ∧ (sky = 0 ∨ ¬ deflectionLe a.dir b.dir sky ∨ deflectionEq a.dir b.dir sky) then
    (true, lo)
  else (false, min lo (pCornerVmax b.prof))
where
  /-- The deflection is exactly `d` degrees: only multiples of 45 can be (log entry 22). -/
  deflectionEq (a b : Int × Int) (d : Nat) : Bool :=
    let dot := a.1 * b.1 + a.2 * b.2
    let cross := a.1 * b.2 - a.2 * b.1
    if d = 45 then decide (0 < dot ∧ cross.natAbs = dot.natAbs)
    else if d = 90 then decide (dot = 0)
    else if d = 135 then decide (dot < 0 ∧ cross.natAbs = dot.natAbs)
    else if d = 180 then decide (dot < 0 ∧ cross = 0)
    else false

/-- R151, R152, R157: for each mark of a chain the square of the speed at its end, the same without R157's limit, and
whether the chain is cut there. Squares, so that no root is rounded on the way back along the chain. -/
def Ctl.chainSq (c : Ctl) (n : Nat) : List MarkInfo → List (Rat × Rat × Bool)
  | [] => []
  | [m] => if m.item.skyOut then [(c.passSq n m, c.passSq n m, false)] else [(0, m.vc * m.vc, false)]
  | m :: b :: t =>
    let r := c.chainSq n (b :: t)
    let nx := r.headD (0, 0, false)
    let k := Ctl.corner m b
    if k.1 then (c.passSq n m, c.passSq n m, true) :: r
    else
      let back := fun (q : Rat) => min (k.2 * k.2) (q + 2 * b.acc * b.len)
      (back nx.1, back nx.2.1, false) :: r

/-! ### Segments of a mark -/

/-- R147, R150, R231: the run-in of a mark entered at `at_`, with at most the speed `cap` there: length, speed at its end,
whether shortened. -/
def Ctl.runIn (c : Ctl) (n : Nat) (m : MarkInfo) (at_ : Int × Int) (cap : Rat) : Rat × Rat × Bool :=
  let want := if pRunIn m.prof = 0 ∧ m.item.stitchIn then m.vc * m.vc / (2 * m.acc) else pRunIn m.prof
  let lim := c.edge n at_ (-m.dir.1, -m.dir.2)
  let r := min want lim
  (r, min cap (min m.vc (rsqrt (2 * m.acc * r))), decide (lim < want))

/-- The point `s` nm along a mark (negative: behind its start), in 2^-16 nm. -/
def MarkInfo.pt (m : MarkInfo) (s : Rat) : Int × Int :=
  if s = 0 then m.item.p0 else if s = m.len then m.item.p1
  else
    let f := if m.len = 0 then 0 else s / m.len
    (m.item.p0.1 + roundRat (f * (m.dir.1 : Int)), m.item.p0.2 + roundRat (f * (m.dir.2 : Int)))

/-- The main segment of a mark from distance `s` at speed `v` to its end at speed `out` (R145, R146, R151). -/
def MarkInfo.mainMove (m : MarkInfo) (s v out : Rat) : Move :=
  mkMove [m.pt s, m.item.p1] (trapezoid (m.len - s) v m.vc out m.acc)

/-- R147: the run-in to the point `s` nm along a mark that may be left there at `cap`: its segment, none without length,
and whether it is shortened. -/
def Ctl.runInMove (c : Ctl) (n : Nat) (m : MarkInfo) (s cap : Rat) : Option Move × Bool :=
  let ri := c.runIn n m (m.pt s) cap
  if 0 < ri.1 then
    let a := min m.acc (m.vc * m.vc / (2 * ri.1))
    (some (mkMove [m.pt (s - ri.1), m.pt s] (trapezoid ri.1 0 ri.2.1 ri.2.1 a)), ri.2.2)
  else (none, ri.2.2)

/-- R148, R150, R231: the run-out after a mark passed at speed `v` (at `vf` without the lowering of R150): its segment
and whether it is shortened. `sky` is false where a mark that can no longer stop at its end runs out for want of its
successors (log entry 147). -/
def Ctl.runOut (c : Ctl) (n : Nat) (m : MarkInfo) (sky : Bool) (v vf : Rat) : Option Move × Bool :=
  let lim := c.edge n m.item.p1 m.dir
  let ro := if ¬ sky then 0
    else if pRunOut m.prof = 0 ∧ m.item.stitchOut then m.vc * m.vc / (2 * m.acc) else pRunOut m.prof
  let clipped := sky && decide (0 < vf) && decide (lim < max ro (vf * vf / (2 * m.acc)))
  let d := min (max ro (v * v / (2 * m.acc))) lim
  if v ≤ 0 ∨ d ≤ 0 then (none, clipped)
  else
    let f := if m.len = 0 then 0 else d / m.len
    let e := (m.item.p1.1 + roundRat (f * (m.dir.1 : Int)), m.item.p1.2 + roundRat (f * (m.dir.2 : Int)))
    (some (mkMove [m.item.p1, e] (trapezoid d v v 0 (v * v / (2 * d)))), clipped)

/-- Samples of phases; a grant's wait counts none. -/
def phaseSum (l : List Phase) : Nat := (l.map (·.n)).sum

/-- R173: Z follows at a limited rate, and a settle may have to wait for it. -/
def Ctl.slews (c : Ctl) (n : Nat) : Bool := c.get (R.SPINDLE_FOCUS_FOCUS_SLEW n) != 0

/-- R141, R173: the settle after a jump. -/
def Ctl.settle (c : Ctl) (n : Nat) (p : Prof) : List Phase :=
  if pSettle p = 0 ∧ ¬ c.slews n then [] else [{ kind := .settle, n := pSettle p }]

/-- R143: the implicit jump and its settle to a point, none when the spot stands there. -/
def Ctl.implicitJump (c : Ctl) (n : Nat) (p : Prof) (here dest : Int × Int) : List Phase :=
  if here = dest then []
  else
    let mv := jumpMove here dest (jumpSpeed 0 p) (pJumpAccel p) (pJumpJerk p)
    { kind := .jump, n := mv.n, move := some mv } :: c.settle n p

/-- R136: samples by which a segment of `own` samples is lengthened, `others` belonging to the same record. -/
def lengthen (own others : Nat) : Nat := if own = 0 then 0 else 8 - (own + others)

/-- The samples of a segment that may be absent. -/
def moveN (m : Option Move) : Nat := (m.map (·.n)).getD 0

/-- What comes of the marks of a chain that follow the present one (R136, R152, R187): their lit samples and their path.
The first is entered at speed `v` or, where the chain is cut before it, from the place `here`. -/
def Ctl.ahead (c : Ctl) (n : Nat) : Rat → Bool → Int × Int → List MarkInfo → List (Rat × Rat × Bool) → Nat × List (Int × Int)
  | _, _, _, [], _ => (0, [])
  | v, cut, here, m :: t, sp =>
    let o := sp.headD (0, 0, false)
    let ri := if cut then (c.runInMove n m 0 (rsqrt (o.1 + 2 * m.acc * m.len))).1 else none
    let start := ((ri.map (·.path)).getD []).headD m.item.p0
    let v0 := match ri with
      | some r => exitSpeed r.pieces
      | none => if cut then 0 else v
    let mv := m.mainMove 0 v0 (rsqrt o.1)
    let out := if (t.isEmpty ∧ m.item.skyOut) ∨ o.2.2 then (c.runOut n m true (exitSpeed mv.pieces) 0).1 else none
    let mv1 := mv.stretch (mv.n + lengthen mv.n (phaseSum (c.implicitJump n m.prof here start) + moveN ri + moveN out))
    let stop := (out.map (fun r => pathEnd r.path)).toList
    let next := c.ahead n (mv1.stateAt mv1.n).1 o.2.2 (stop.headD m.item.p1) t sp.tail
    (b2n ri.isSome + mv1.n + next.1, start :: m.item.p1 :: stop ++ next.2)

/-- What a plan of a mark says: its main segment, the run-out if the chain ends or is cut at it, hold samples of R136,
whether R157 lowered its end's speed, the run-out is shortened, the chain is cut there, R136 lengthened the record; lit
samples of the whole chain from here. -/
structure MarkPlan where
  main : Move
  out : Option Move
  pad : Nat
  limited : Bool
  clipped : Bool
  cut : Bool
  stretched : Bool
  lit : Nat
  deriving DecidableEq, Repr

/-- Plan a mark from distance `s` at speed `v`, with its CONTINUE successors; `before` samples of the record come before
(8 where R136 is not to be applied yet). A mark that has nothing left to draw is followed by hold samples. -/
def Ctl.planMark (c : Ctl) (n : Nat) (i : Item) (succ : List Item) (s v : Rat) (before : Nat) : MarkPlan :=
  let m := c.markInfo n i
  let ms := succ.map (c.markInfo n)
  let sp := c.chainSq n (m :: ms)
  let o := sp.headD (0, 0, false)
  let mv := m.mainMove s v (rsqrt o.1)
  let ve := exitSpeed mv.pieces
  let sky := (succ.isEmpty && i.skyOut) || o.2.2
  let fast := succ.isEmpty && decide (2 * m.acc < ve * ve)
  let ro := if sky ∨ fast then c.runOut n m sky ve (exitSpeed (m.mainMove s v m.vc).pieces) else (none, false)
  let more := lengthen mv.n (before + moveN ro.1)
  let mv1 := mv.stretch (mv.n + more)
  let pad := if mv.n = 0 then 8 - (before + moveN ro.1) else 0
  let here := ((ro.1.map (fun r => pathEnd r.path)).toList).headD m.item.p1
  { main := mv1, out := ro.1, pad := pad, limited := !succ.isEmpty && decide (o.1 < o.2.1), clipped := ro.2, cut := o.2.2,
    stretched := decide (0 < more + pad), lit := mv1.n + (c.ahead n (mv1.stateAt mv1.n).1 o.2.2 here ms sp.tail).1 }

/-- The phases of a planned mark of length `len` from distance `s`. -/
def MarkPlan.phases (pl : MarkPlan) (s len : Rat) : List Phase :=
  { kind := .main, n := pl.main.n, move := some pl.main, s0 := s } ::
    (pl.out.map (fun o => ({ kind := .runout, n := o.n, move := some o, s0 := len } : Phase))).toList ++
    (if pl.pad = 0 then [] else [{ kind := .pad, n := pl.pad }])

/-- R157: the speed a mark may be entered at from distance `s`. -/
def Ctl.entryCap (c : Ctl) (n : Nat) (i : Item) (succ : List Item) (s : Rat) : Rat :=
  let m := c.markInfo n i
  let o := (c.chainSq n (m :: succ.map (c.markInfo n))).headD (0, 0, false)
  rsqrt (o.1 + 2 * m.acc * (m.len - s))

/-- The phases of a mark's run from distance `s` (R145, R147): the way there, wait for the grant, run-in, main, run-out;
with the plan, its lit samples those of the run-in included, and whether the run-in is shortened. -/
def Ctl.headPhases (c : Ctl) (n : Nat) (i : Item) (succ : List Item) (s : Rat) (sky : Bool) (here : Int × Int) :
    List Phase × MarkPlan × Bool :=
  let m := c.markInfo n i
  let ri := if sky then c.runInMove n m s (c.entryCap n i succ s) else (none, false)
  let start := ((ri.1.map (·.path)).getD []).headD (m.pt s)
  let v := (ri.1.map (fun r => exitSpeed r.pieces)).getD 0
  let pl := c.planMark n i succ s v 8
  let runin : List Phase := (ri.1.map (fun r => ({ kind := .runin, n := r.n, move := some r, s0 := s - pathLen r.path } : Phase))).toList
  (c.implicitJump n m.prof here start ++ [{ kind := .grant, n := 0 }] ++ runin ++ pl.phases s m.len,
   { pl with lit := pl.lit + b2n ri.1.isSome }, ri.2)

end Sys2Proof.Machine
end

