-- ==== Sys2Proof/Machine/Spindle.lean ====
section
/-! DEFINITION. Spindles (R125 to R163, R171 to R188): forming the sample of a tick, starting a motion record,
braking to rest, restarting, and the enable check of R132. -/

namespace Sys2Proof.Machine

/-! ### Absent channels (R3, R336, R379) -/

/-- R336, R379: spindle `n` counts as absent: no such channel, a lane ABSENT, no valid capability. -/
def Ctl.absent (c : Ctl) (n : Nat) : Bool :=
  !c.hasChan n || [n, 24 + n].any (fun k => c.get (R.LANE_STAT_STATE k) == 10 || !c.is (R.PROTO_STAT_CAP_VALID k) ||
    c.is (R.PROTO_STAT_CAP_FAULT k))

/-! ### Samples -/

/-- Whether the spindle sends samples: every state but DISABLED (R137). -/
def Ctl.sampling (c : Ctl) (n : Nat) : Bool := c.sst n != stDisabled

/-- R169, R172, R173, R186: put the sample of the present tick together from the spot's place. A sample that belongs to no
record shows the tag of the last MARK, JUMP or POINT (log entry 192). -/
def formSample (n : Nat) (cat : Cat) (item : Option Item) (dist_ : Rat) (lit : Bool) (pre : Nat) (k : Nat) (c : Ctl)
    (rs : Nat × Nat := (0, 0)) : Ctl :=
  let s := c.sp n
  let x := toNm s.px
  let y := toNm s.py
  let co := c.corr n x y
  let tgt := c.zTarget n s.focus co.2.2
  let slew : Int := (c.get (R.SPINDLE_FOCUS_FOCUS_SLEW n) : Nat)
  let z := if slew = 0 then tgt else clamp tgt (s.z - slew) (s.z + slew)
  let nf := match item with | some i => i.noFeedfwd | none => false
  let ff := if nf then 0x8000 else c.ffOf n
  let pt : PlanPt :=
    { tick := c.now, x := x, y := y, tag := (match item with | some i => i.tag | none => s.lastTag), cat := cat,
      item := item, s := dist_, lit := lit, pre := pre, ceil := c.ceilOf n, ff := ff,
      tentEn := (match item with | some i => !i.openLoop | none => true),
      xc := axisCmd x (c.fieldX0 n) (c.pitch n) (c.get (R.SPINDLE_AXIS_SCALE_X_SCALE n)) co.1,
      yc := axisCmd y (c.fieldY0 n) (c.pitch n) (c.get (R.SPINDLE_AXIS_SCALE_Y_SCALE n)) co.2.1,
      zc := z, sky := s.run.sky, k := k
      run := (match item with | some i => if i.isRun then s.run.no else 0 | none => 0)
      rf := rs.1, sf := rs.2
      copy := (match item with | some i => c.copyOf n i | none => c.get (R.SPINDLE_STAT_PROF_COPY n))
      frm := (match s.exec with | some e => e.frm | none => .start) }
  c.setSp n { s with sample := some pt, z := z }

/-- A sample that holds the spot where it is. -/
def holdSample (n : Nat) (cat : Cat) (item : Option Item) (dist_ : Rat) (c : Ctl) : Ctl :=
  (c.modSp n (fun s => { s with v := 0, a := 0 }) |> formSample n cat item dist_ false 0 0)

/-- R187, R232: the ramp factor of a lit sample; a stitched part takes the position ramp at its stitch end. -/
def litRamp (i : Item) (p : Prof) (k : Nat) (total : Option Nat) (along : Rat) : Nat :=
  match i.stitch with
  | none => rampFactor p k total
  | some st =>
    let pos := stitchRamp st (st.off + roundRat (along / 1000))
    if st.isA then min (rampFactor p k none) pos
    else min pos (match total with
      | some t => (narrowU 16 15 (rampAt (pRampDown p) (pDownShape p) (t - 1 - k))).toNat
      | none => 32768)

/-- R185 to R188: PRE of a lit sample from its ramp and speed factors and the feedforward factor. -/
def Ctl.litPre (c : Ctl) (n : Nat) (i : Item) (rs : Nat × Nat) : Nat :=
  mulK (mulK (mulK i.power rs.1) rs.2) (if i.noFeedfwd then 0x8000 else c.ffOf n)

/-- Move the spot to sample `k` of a segment. -/
def SpinSt.moveTo (s : SpinSt) (m : Move) (k : Nat) : SpinSt :=
  let at_ := m.at k
  let st := m.stateAt k
  let rest := decide (m.n ≤ k)
  { s with
    px := at_.1.1
    py := at_.1.2
    dx := if at_.2 = (0, 0) then s.dx else at_.2.1
    dy := if at_.2 = (0, 0) then s.dy else at_.2.2
    v := st.1
    a := if rest ∧ st.1 = 0 then 0 else st.2 }

/-! ### The chain's end (R157, R158) -/

/-- Where the main segment of the mark in execution goes on: distance, speed, and samples of the record before it (8 while
it waits for its grant). -/
def Ctl.mainFrom (c : Ctl) (n : Nat) (e : Exec) : Option (Rat × Rat × Nat) :=
  let pre := e.phases.takeWhile (fun p => decide (p.kind ≠ .main))
  let before := if pre.any (fun p => decide (p.kind = .grant)) then 8 else e.formed + (phaseSum pre - e.k)
  match e.phases.find? (fun p => decide (p.kind = .main)) with
  | none => none
  | some ph =>
    if ¬ pre.isEmpty then
      some (ph.s0, ((pre.find? (fun p => decide (p.kind = .runin))).bind (·.move)).elim 0 (fun m => exitSpeed m.pieces), before)
    else match ph.move with
      | none => none
      | some mv => some (ph.s0 + mv.distAt e.k, if e.k = 0 then (c.sp n).v else (mv.stateAt e.k).1, e.formed)

/-- A run-in that has not begun takes the speed that what follows allows (R147, R157). -/
def Ctl.rerun (c : Ctl) (n : Nat) (e : Exec) (succ : List Item) : Exec :=
  let begun := match e.phases with
    | ph :: _ => decide (ph.kind = PhKind.runin ∧ e.k ≠ 0)
    | [] => true
  if begun then e
  else { e with phases := e.phases.map (fun (p : Phase) =>
    if p.kind = PhKind.runin then
      let d := p.s0 + (p.move.map (fun (m : Move) => pathLen m.path)).getD 0
      match (c.runInMove n (c.markInfo n e.item) d (c.entryCap n e.item succ d)).1 with
      | some r => { p with n := r.n, move := some r }
      | none => p
    else p) }

/-- What is left of the mark in execution is planned again, with the successors `succ` (R89, R136, R150, R157, R158). -/
def replan (n : Nat) (succ : List Item) (c : Ctl) : Ctl :=
  let s := c.sp n
  match s.exec with
  | none => c
  | some e0 =>
    let e := c.rerun n e0 succ
    match c.mainFrom n e with
    | none => c
    | some (d, v, before) =>
      let pre := e.phases.takeWhile (fun p => decide (p.kind ≠ .main))
      let pl := c.planMark n e.item succ d v before
      let c1 := if pl.stretched ∧ ¬ e.stretched then c.inc (R.SPINDLE_CNT0_STRETCHED n) else c
      c1.setSp n { s with
        exec := some { e with
          phases := pre ++ pl.phases d (c.markInfo n e.item).len, k := if pre.isEmpty then 0 else e.k
          limited := pl.limited && !e.slowed, clipped := pl.clipped, cut := pl.cut, stretched := e.stretched || pl.stretched }
        run := { s.run with
          succ := succ.length
          total := s.run.k + pl.lit + b2n (pre.any (fun p => decide (p.kind = .runin))) } }

/-- The chain's end is fixed. -/
def commitEnd (n : Nat) (c : Ctl) : Ctl := c.modSp n (fun s => { s with run := { s.run with committed := true } })

/-- R158: the number in its main segment of the lit sample formed next, 0 for the end of a run-in; none when the sample
formed next is not lit. -/
def Exec.nextLit (e : Exec) : Option Nat :=
  match e.phases with
  | ph :: _ =>
    if ph.kind = .main then some (e.k + 1)
    else if ph.kind = .runin ∧ ph.n = e.k + 1 then some 0
    else none
  | [] => none

/-- R158: the treatment of the chain's end would begin before the next sample. -/
def Ctl.endDue (c : Ctl) (n : Nat) (e : Exec) : Bool :=
  let run := (c.sp n).run
  match e.nextLit, (e.phases.find? (fun p => decide (p.kind = .main))).bind (·.move) with
  | some j, some mv =>
    decide (run.total - run.k ≤ pRampDown (c.profOf n e.item)) ||
    (run.succ == 0 && (match decelStart mv.pieces with
      | some t => decide (t < mv.timeOf j)
      | none => decide (mv.n ≤ j)))
  | _, _ => false

/-- R158: before the next sample of a mark is formed, records that have come into view join the chain where the spot
can still pass the vertex, and the chain's end is fixed once its treatment begins. -/
def chainUpdate (n : Nat) (c : Ctl) : Ctl :=
  let s := c.sp n
  match s.exec with
  | none => c
  | some e =>
    if ¬ e.item.lineMark ∨ s.run.committed then c
    else
      let succ := c.successors n e.item s.view
      let c1 := if s.run.succ < succ.length then
          match c.mainFrom n (c.rerun n e succ) with
          | none => c
          | some (d, v, _) =>
            let m := c.markInfo n e.item
            let o := (c.chainSq n (m :: succ.map (c.markInfo n))).headD (0, 0, false)
            if v * v ≤ o.1 + 2 * m.acc * (m.len - d) then replan n succ c else commitEnd n c
        else c
      if (c1.sp n).exec.any (c1.endDue n) then commitEnd n c1 else c1

/-! ### Forming the samples of a record -/

/-- R149: the sample `k` of a phase is lit: the main segment, and the end of a run-in. -/
def Phase.lit (ph : Phase) (k : Nat) : Bool := decide (ph.kind = .main ∨ (ph.kind = .runin ∧ ph.n ≤ k))

/-- The sample formed by a phase at sample `k` (from 1) of it. -/
def formPhase (n : Nat) (e : Exec) (ph : Phase) (c : Ctl) : Ctl :=
  let s := c.sp n
  let k := e.k + 1
  let last := decide (ph.n ≤ k)
  let e1 : Exec := { e with k := k, formed := e.formed + 1 }
  match ph.kind with
  | .jump =>
    let cat : Cat := if e.item.typ = tJump then .jump else .pre
    match ph.move with
    | some mv => formSample n cat (some e.item) 0 false 0 0 (c.setSp n { s.moveTo mv k with exec := some e1 })
    | none => c
  | .settle =>
    holdSample n (if e.item.typ = tJump then .jump else .pre) (some e.item) 0 (c.setSp n { s with exec := some e1 })
  | .runin | .main | .runout =>
    match ph.move with
    | none => c
    | some mv =>
      let d := ph.s0 + mv.distAt k
      let lit := ph.lit k
      let cat : Cat := if lit then .lit else if ph.kind = .runin then .pre else .post
      let m := c.markInfo n e.item
      let q := if m.vc = 0 then 1 else mv.speedAt k / m.vc
      -- R197: the last lit sample of the mark, and of the run
      let mainLeft := (e.phases.tail.filter (fun p => decide (p.kind = .main))).any (fun p => decide (p.n ≠ 0))
      let runsOut := e.phases.any (fun p => decide (p.kind = .runout))
      let lastLit := lit && last && !mainLeft
      let ends := lastLit && (decide (s.run.succ = 0) || e.cut || runsOut)
      let c0 := if e.clipped ∧ ((k = 1 ∧ ph.kind = .runout) ∨ (lastLit ∧ ¬ runsOut)) then c.inc (R.SPINDLE_CNT1_SKY_CLIPPED n) else c
      let c1 := if e.limited ∧ ph.kind = .main then c0.inc (R.SPINDLE_CNT2_PLAN_LIMITED n) else c0
      let e2 := if e.limited ∧ ph.kind = .main then { e1 with limited := false, slowed := true } else e1
      let s1 := { s.moveTo mv k with exec := some e2 }
      if lit then
        let total := if s.run.committed then some s.run.total else none
        let pf := c.profOf n e.item
        let rs := (litRamp e.item pf s.run.k total d, speedComp pf q)
        let pre := c.litPre n e.item rs
        let s2 := { s1 with run := { s.run with k := s.run.k + 1 }, runEnd := ends }
        formSample n .lit (some e.item) d true pre s.run.k (c1.setSp n s2) rs |>.metric 82
          (roundRat (mv.speedAt k / speedLsb))
      else formSample n cat (some e.item) d false 0 0 (c1.setSp n s1)
  | .expose =>
    let p := c.profOf n e.item
    let rs := (rampFactor p e.k (some ph.n), 32768)
    let pre := c.litPre n e.item rs
    let s1 := { s with exec := some e1, v := 0, a := 0, runEnd := last, run := { s.run with k := s.run.k + 1 } }
    formSample n .point (some e.item) ((e.base + e.k : Nat) : Rat) true pre e.k (c.setSp n s1) rs
  | .dwell =>
    holdSample n .dwell (some e.item) ((e.base + e.k : Nat) : Rat) (c.setSp n { s with exec := some e1 })
  | .pad => holdSample n .post (some e.item) 0 (c.setSp n { s with exec := some e1 })
  | .grant => holdSample n .pre (some e.item) 0 (c.setSp n { s with exec := some { e with formed := e.formed + 1 } })
  | .stop => c

/-- R73, R74, R142, R160: a record that produces no sample for a spot at `here`. -/
def Ctl.noSampleAt (c : Ctl) (n : Nat) (here : Int × Int) (i : Item) : Bool :=
  if c.outOfField n i then true
  else if i.isPoint then exposure i (c.profOf n i) == 0
  else if i.typ = tJump then here == i.p1
  else if i.typ = tDwell then i.dur == 0
  else !i.lineMark

/-- The present place as a point. -/
def SpinSt.here (s : SpinSt) : Int × Int := (s.px, s.py)

/-- R173: the settle of a jump before a chain head or point waits until Z has reached its target. -/
def Ctl.zWaits (c : Ctl) (n : Nat) (e : Exec) : Bool :=
  let s := c.sp n
  c.slews n && s.z != c.zTarget n s.focus (c.corr n (toNm s.px) (toNm s.py)).2.2 &&
    (e.item.typ != tJump || ((s.view.find? (fun i => !(c.noSampleAt n s.here i))).any (·.isRun)))

/-- The phases left, and samples formed in the first, once those that have formed their last sample are passed; `wait`
holds a settle (R173). -/
def passPhases (wait : Bool) : Nat → List Phase → List Phase × Nat
  | k, ph :: rest =>
    if ph.kind = .grant ∨ k < ph.n ∨ (ph.kind = .settle ∧ wait) then (ph :: rest, k) else passPhases wait 0 rest
  | _, [] => ([], 0)

/-- The grant has come: what follows is planned with the samples the wait has taken (R136): a mark's main segment is
stretched, a point is followed by unlit hold samples. -/
def granted (n : Nat) (rest : List Phase) (c : Ctl) : Ctl :=
  let c1 := c.modSp n (fun s => { s with exec := s.exec.map (fun e => { e with phases := rest, k := 0 }) })
  let s := c1.sp n
  match s.exec with
  | none => c1
  | some e =>
    if e.item.lineMark then replan n ((c1.successors n e.item s.view).take s.run.succ) c1
    else
      let more := 8 - (e.formed + phaseSum rest)
      if more = 0 then c1
      else (c1.inc (R.SPINDLE_CNT0_STRETCHED n)).setSp n { s with
        exec := some { e with phases := rest ++ [{ kind := .pad, n := more }], stretched := true } }

/-- Form the next sample of the record in execution, passing phases that are over. -/
def formExec (n : Nat) (c : Ctl) : Ctl :=
  let s := c.sp n
  match s.exec with
  | none => holdSample n .idle none 0 c
  | some e =>
    let p := passPhases (c.zWaits n e) e.k e.phases
    let c1 := c.setSp n { s with exec := some { e with phases := p.1, k := p.2 } }
    let c2 := match p.1 with
      | ph :: rest =>
        if ph.kind = .grant ∧ s.grant.isSome then
          (granted n rest c1).modSp n (fun s => { s with exec := s.exec.map (fun e => { e with phases := (passPhases false 0 e.phases).1 }) })
        else c1
      | [] => c1
    let c3 := chainUpdate n c2
    match (c3.sp n).exec with
    | some e3 => match e3.phases with
      | ph :: _ => formPhase n e3 ph c3
      | [] => holdSample n .idle none 0 c3
    | none => c3

/-- A record all of whose phases have formed their last sample is over; a run that ends without a lit sample gives back
its grant (R197). -/
def settleExec (n : Nat) (c : Ctl) : Ctl :=
  let s := c.sp n
  match s.exec with
  | some e =>
    if e.phases.isEmpty ∨ ¬ (passPhases (c.zWaits n e) e.k e.phases).1.isEmpty then c
    else
      let ended := e.item.isRun && !s.runEnd && (s.run.succ == 0 || e.cut)
      c.setSp n { s with exec := some { e with phases := [], k := 0 }, grant := if ended then none else s.grant }
  | none => c

/-- R134, R137, R161: form the sample of the present tick. -/
def formNext (n : Nat) (c : Ctl) : Ctl :=
  let s := c.sp n
  let c0 := c.setSp n { s with ox := s.px, oy := s.py, ov := s.v, oa := s.a, oz := s.z, runEnd := false, cutNow := false }
  match s.stop with
  | some (mv, k) =>
    let s1 := (c0.sp n).moveTo mv (k + 1)
    let done := decide (mv.n ≤ k + 1)
    let s2 := { s1 with
      stop := if done then none else some (mv, k + 1)
      stopEnd := if done then some c.now else s1.stopEnd
      v := if done then 0 else s1.v
      a := if done then 0 else s1.a }
    formSample n .stop none 0 false 0 0 (c0.setSp n s2)
  | none => settleExec n (formExec n c0)

/-! ### Starting a motion record or a dwell (R143 to R154, R163) -/

/-- From the beginning. -/
def From.isStart : From → Bool
  | .start => true
  | _ => false

/-- R144: whether a mark joins the run in progress. -/
def SpinSt.joins (s : SpinSt) (i : Item) : Bool :=
  s.run.active && decide (0 < s.run.succ) && (match s.prev with | some p => i.follows p | none => false)

/-- R171: the focus of a motion record. -/
def Ctl.focusOf (c : Ctl) (i : Item) : Int :=
  if i.focusAbs then i.focus else i.base.getD (tget c.hop.ctx i.stream {}).focusBase + i.focus

/-- R171, R183: a record is taken up with the FOCUS_BASE and the profile copy in force; a restart goes on with them. -/
def Ctl.takenUp (c : Ctl) (n : Nat) (i : Item) : Item :=
  { i with base := some (tget c.hop.ctx i.stream {}).focusBase, copy := some (c.copyOf n i) }

/-- The record begins: its phases, with the run's state and the counts of R143, R144, R150, R171. A record begun `again`
(R163) is not counted in BROKEN_CHAIN a second time; STRETCHED, SKY_CLIPPED and PLAN_LIMITED count each beginning that is
lengthened, clipped or limited (log entry 192). -/
def beginMotion (n : Nat) (i : Item) (fr : From) (again : Bool) (c : Ctl) : Ctl :=
  let s := c.sp n
  let p := c.profOf n i
  let focus := if i.isMotion then c.focusOf i else s.focus
  let put := fun (phs : List Phase) (run : Run) (e : Exec) (c : Ctl) =>
    c.modSp n (fun s => { s with exec := some { e with phases := phs }, run := run, focus := focus, lastTag := if i.isMotion then i.tag else s.lastTag })
  let jumps := fun (phs : List Phase) (c : Ctl) =>
    if phs.any (fun q => q.kind = .jump) then c.inc (R.SPINDLE_CNT1_IMPLICIT_JUMP n) else c
  let broken := fun (c : Ctl) => if i.cont ∧ ¬ again then c.inc (R.SPINDLE_CNT1_BROKEN_CHAIN n) else c
  let e0 : Exec := { item := i, phases := [], frm := fr }
  if i.lineMark then
    let m := c.markInfo n i
    let joined := s.joins i && fr.isStart
    let cutHere := joined && (match s.prev with | some q => (Ctl.corner (c.markInfo n q) m).1 | none => false)
    let succ := (c.successors n i s.view)
    let succ1 := if s.run.committed ∧ joined then succ.take (s.run.succ - 1) else succ
    let c1 := if joined then c else broken c
    let plan := fun (pl : MarkPlan) => { e0 with
      vc := m.vc, limited := pl.limited, clipped := pl.clipped, cut := pl.cut, stretched := pl.stretched }
    if joined ∧ ¬ cutHere then
      let pl := c1.planMark n i succ1 0 s.v 0
      let c2 := if pl.stretched then c1.inc (R.SPINDLE_CNT0_STRETCHED n) else c1
      put (pl.phases 0 m.len) { s.run with
          succ := succ1.length, total := if s.run.committed then s.run.total else s.run.k + pl.lit, cls := i.cls, prof := i.profIx }
        (plan pl) c2
    else
      let from_ : Rat := match fr with | .along d _ _ _ => d | _ => 0
      let sky := match fr with
        | .along _ _ _ b => b
        | _ => i.skyIn
      let h := c1.headPhases n i succ1 from_ (cutHere || sky) s.here
      let c2 := jumps h.1 (if h.2.2 then c1.inc (R.SPINDLE_CNT1_SKY_CLIPPED n) else c1)
      let k0 := if cutHere then s.run.k else 0
      put h.1 { no := s.run.no + 1, k := k0, total := if cutHere ∧ s.run.committed then s.run.total else k0 + h.2.1.lit
                committed := cutHere && s.run.committed, succ := succ1.length, sky := if cutHere then s.run.sky else sky
                prof := i.profIx, cls := i.cls, active := true }
        { plan h.2.1 with lo := from_ } c2
  else if i.isPoint then
    let c1 := if i.typ = tMark then broken c else c
    let done := match fr with | .after t => t | _ => 0
    let d := exposure i p
    let j := c.implicitJump n p s.here i.p0
    let phs := j ++ [{ kind := .grant, n := 0 }, { kind := .expose, n := d - done }]
    put phs { no := s.run.no + 1, prof := i.profIx, cls := i.cls, active := true, committed := true, total := d - done }
      { e0 with base := done } (jumps j c1)
  else if i.typ = tJump then
    let mv := jumpMove s.here i.p1 (jumpSpeed i.speed p) (pJumpAccel p) (pJumpJerk p)
    let more := 8 - (mv.n + pSettle p)
    let c1 := if 0 < more then c.inc (R.SPINDLE_CNT0_STRETCHED n) else c
    put ({ kind := .jump, n := mv.n + more, move := some (mv.stretch (mv.n + more)) } :: c.settle n p)
      { s.run with active := false } e0 c1
  else
    let done := match fr with | .after t => t | _ => 0
    put [{ kind := .dwell, n := i.dur - done }] { s.run with active := false } { e0 with base := done } c

/-- A record that produces no sample where the spot stands. -/
def Ctl.noSample (c : Ctl) (n : Nat) (i : Item) : Bool := c.noSampleAt n (c.sp n).here i

/-- Replace the hold sample of the present tick by the first sample of the record just begun (R128). -/
def formFirst (n : Nat) (c : Ctl) : Ctl :=
  let s := c.sp n
  settleExec n (formExec n (c.setSp n { s with z := s.oz, runEnd := false }))

/-! ### Mark-start requests (R155, R195, R196, R204) -/

/-- The request of the record in execution: its next sample waits for the grant. -/
def Ctl.execRequest (c : Ctl) (n : Nat) (e : Exec) : Option ((Int × Int) × Item) :=
  match (passPhases (c.zWaits n e) e.k e.phases).1 with
  | [] => none
  | ph :: rest =>
    if ph.kind = .grant then
      let start : Option (Int × Int) := (rest.find? (fun q => decide (q.kind = .main))).bind (fun (q : Phase) =>
        q.move.map (fun (m : Move) => m.path.headD (0, 0)))
      some (match start with | some r => (toNm r.1, toNm r.2) | none => (e.item.sx, e.item.sy), e.item)
    else none

/-- The request of the next record that produces samples, when its run begins at the place where the spot stands: not of a
mark that joins the run, but where the chain is cut before it (R152, R197). -/
def Ctl.nextRequest (c : Ctl) (n : Nat) : Option ((Int × Int) × Item) :=
  let s := c.sp n
  let before := (s.exec.map (·.item)).or s.prev
  let next := (s.redo ++ s.buf.map (fun i => (i, From.start))).takeWhile (fun r => !r.1.barrier)
  match next.findIdx? (fun r => !(c.noSample n r.1)) with
  | none => none
  | some k =>
    match next[k]? with
    | none => none
    | some (i, fr) =>
      let joins : Bool := decide (k = 0) && fr.isStart && ({ s with prev := before } : SpinSt).joins i
      let cut : Bool := joins && before.any (fun p => (Ctl.corner (c.markInfo n p) (c.markInfo n i)).1)
      if ¬ i.isRun ∨ (joins ∧ ¬ cut) then none
      else
        let pt := match fr with | .along _ x y _ => (x, y) | _ => (i.sx, i.sy)
        let m := c.markInfo n i
        let d : Rat := match fr with | .along d _ _ _ => d | _ => 0
        let sky := i.lineMark && (cut || (match fr with | .along _ _ _ b => b | _ => i.skyIn))
        let first : Int × Int := if sky then m.pt (d - (c.runIn n m (m.pt d) m.vc).1) else if i.lineMark then m.pt d else i.p0
        if s.here = first then some (pt, i) else none

/-- R204: the request point (bed nm) that spindle `n` presents with the sample of this tick, with the record of the run;
with the last lit sample of a run, for the next one. -/
def Ctl.request (c : Ctl) (n : Nat) : Option ((Int × Int) × Item) :=
  let s := c.sp n
  if c.sst n ≠ stRunning ∨ s.stop.isSome ∨ (s.grant.isSome ∧ ¬ s.runEnd) then none
  else match s.exec with
    | some e => if e.phases.isEmpty then c.nextRequest n else c.execRequest n e
    | none => c.nextRequest n

/-! ### Braking and restart (R161 to R163, R213) -/

/-- R161: the profile in force. -/
def Ctl.brakeProf (c : Ctl) (n : Nat) : Prof :=
  let s := c.sp n
  match s.exec with
  | some e => c.profOf n e.item
  | none => match s.hist.findSome? (·.item) with
    | some i => c.profOf n i
    | none => zeros 64

/-- The path of records in view that follow a spot at `here` (R161): jumps, the ways to run-ins and starts, marks and
run-outs; the first `skip` records are passed over. -/
def Ctl.viewPath (c : Ctl) (n : Nat) : Nat → Int × Int → List Item → List (Int × Int)
  | _, _, [] => []
  | skip + 1, here, _ :: t => c.viewPath n skip here t
  | 0, here, i :: t =>
    if c.noSampleAt n here i then c.viewPath n 0 here t
    else if i.typ = tJump then i.p1 :: c.viewPath n 0 i.p1 t
    else if i.isPoint then i.p0 :: c.viewPath n 0 i.p0 t
    else if i.lineMark then
      let ms := (i :: c.successors n i t).map (c.markInfo n)
      let p := (c.ahead n 0 i.skyIn here ms (c.chainSq n ms)).2
      p ++ c.viewPath n (ms.length - 1) (p.getLast?.getD here) t
    else c.viewPath n 0 here t

/-- A path without repeated points. -/
def noRepeats : List (Int × Int) → List (Int × Int)
  | p :: q :: t => if p = q then noRepeats (q :: t) else p :: noRepeats (q :: t)
  | l => l

/-- R161: the planned path beyond a point: the segments left of the record in execution, run-out included, the marks that
join it, and the other records in view. -/
def Ctl.pathBeyond (c : Ctl) (n : Nat) (first : Int × Int) (s : SpinSt) : List (Int × Int) :=
  match s.exec with
  | none => noRepeats (first :: c.viewPath n 0 first s.view)
  | some e =>
    let own := first :: e.phases.flatMap (fun ph => match ph.move with
      | some m => m.path.tail
      | none => [])
    let here := pathEnd own
    let joined := if e.item.lineMark then s.view.take s.run.succ else []
    let ms := (e.item :: joined).map (c.markInfo n)
    let v := ((e.phases.find? (fun p => decide (p.kind = .main))).bind (·.move)).elim s.v (fun m => exitSpeed m.pieces)
    let ahead := (c.ahead n v e.cut here ms.tail (c.chainSq n ms).tail).2
    noRepeats (own ++ ahead ++ c.viewPath n joined.length (pathEnd (here :: ahead)) s.view)

/-- The tick of the first of the samples that hold the spot where it stands for no record, newest first; `now` when
the newest is a record's. -/
def restSince (now : Nat) (l : List PlanPt) : Nat :=
  (l.takeWhile (fun q => q.cat == .idle || q.cat == .stop)).getLast?.elim now (·.tick)

/-- Set the spot on its way to rest from `first` at speed `v` and acceleration `a`. -/
def beginStop (n : Nat) (first : Int × Int) (v a : Rat) (path : List (Int × Int)) (c : Ctl) : Ctl :=
  let s := c.sp n
  let p := c.brakeProf n
  let mv := stopMove path (s.dx, s.dy) v a (pJumpAccel p) (pJumpJerk p)
  c.setSp n { s with
    px := first.1
    py := first.2
    exec := none
    stop := if mv.n = 0 then none else some (mv, 0)
    stopEnd := if mv.n = 0 then some (restSince c.now s.hist) else none
    stopFrom := c.now
    v := v
    a := a }

/-- The sample of tick `t` has been sent. -/
def SpinSt.sentIn (s : SpinSt) (t : Nat) : Bool := s.hist.head?.any (fun p => p.tick == t)

/-- R161, R131: the way to rest begins at the last sample sent: at that of the tick before, in place of the sample of this
tick, or at that of this tick once it has been sent. -/
def haltMotion (n : Nat) (c : Ctl) : Ctl :=
  let s := c.sp n
  if s.sentIn c.now then beginStop n s.here s.v s.a (c.pathBeyond n s.here s) c
  else
    let first := (s.ox, s.oy)
    let path := c.pathBeyond n first s
    let path1 := match path with
      | f :: rest => if s.here = first then f :: rest else f :: s.here :: rest
      | [] => [first]
    beginStop n first s.ov s.oa (noRepeats path1) c

/-- The first sample of the way to rest takes the place of the sample of this tick that has not been sent. -/
def formStop (n : Nat) (c : Ctl) : Ctl := if (c.sp n).sentIn c.now then c else formNext n c

/-- R163: how the record of a planned point is taken up again; none when it is complete. Before the first lit sample
of a restart the record is taken up where that restart was to take it up. -/
def PlanPt.restart (p : PlanPt) : Option From :=
  match p.cat with
  | .lit => some (.along p.s p.x p.y p.sky)
  | .pre => some p.frm
  | .jump => some .start
  | .point | .dwell => some (.after p.s.floor.toNat)
  | .post | .idle | .stop => none

/-- How far along its record a restart begins: nm, or ticks of an exposure. -/
def From.reach : From → Rat
  | .start => 0
  | .along s _ _ _ => s
  | .after t => (t : Nat)

/-- Same record. -/
def Item.same (a b : Item) : Bool := a.stream == b.stream && a.idx == b.idx && a.bytes == b.bytes

/-- R163: the planned point `p` shows that the restart after the cut has exposed past the cut point, or that the record is
complete. -/
def CutPt.passed (k : CutPt) (p : PlanPt) : Bool :=
  decide (k.tick ≠ p.tick) && (match p.item with
    | some i => !(k.item.same i) || p.cat == .post || (p.lit && decide (k.frm.reach < p.s))
    | none => false)

/-- R163: the cut that decides where a spindle restarts after a brake at `bp`: one whose cut point was formed no later, with
no sample from there to `bp` past it. -/
def SpinSt.cutFor (s : SpinSt) (bp : PlanPt) : Option CutPt :=
  match s.cut with
  | none => none
  | some k =>
    let between := s.hist.filter (fun p => decide (k.tick ≤ p.tick ∧ p.tick ≤ bp.tick))
    if k.tick ≤ bp.tick ∧ ¬ between.any k.passed then some k else none

/-- R162, R163: what is to be done again after a brake at planned point `bp`: the record it lies in, the records whose
samples were in flight after it, then what was to be done again already. -/
def Ctl.redoAfter (c : Ctl) (n : Nat) (bp : PlanPt) : List (Item × From) :=
  let s := c.sp n
  let cut := s.cutFor bp
  let later := (s.hist.filter (fun q => decide (bp.tick ≤ q.tick))).reverse
  let isCur := fun (i : Item) => s.exec.any (fun e => e.item.same i)
  let known := fun (l : List PlanPt) (i : Item) => l.any (fun r => r.item.any i.same)
  let distinct := later.foldl (fun (acc : List PlanPt) q => match q.item with
    | some i => if known acc i then acc else acc ++ [q]
    | none => acc) []
  let here : List (Item × From) := distinct.filterMap (fun q => match q.item with
    | none => none
    | some i =>
      let fr : Option From := match cut with
        | some k => if k.item.same i then some k.frm else if bp.item.any i.same then bp.restart else some q.frm
        | none => if bp.item.any i.same then bp.restart else some q.frm
      let gone := match s.redo.find? (fun r => i.same r.1) with
        | some r => r.1.retired
        | none => !isCur i
      fr.map (fun f => ({ i with retired := i.retired || gone }, f)))
  let extra : List (Item × From) := match s.exec with
    | some e => if known distinct e.item then [] else [(e.item, e.frm)]
    | none => []
  let done := here ++ extra
  done ++ s.redo.filter (fun r => !(done.any (fun q => q.1.same r.1)))

/-- The planned point acting at the head in the present tick (R129). -/
def Ctl.atHead (c : Ctl) (n : Nat) : Option PlanPt :=
  (c.sp n).hist.find? (fun p => c.sinceT p.tick == 32)

/-- R161 to R163: the spindle stops (`halt`) with the brake point `bp` and goes to state `to_`, with `redo` to be done again;
a record whose last lit sample lies behind the brake point is complete. -/
def brakeAt (n : Nat) (bp : PlanPt) (redo : List (Item × From)) (to_ : Nat) (halt : Ctl → Ctl) (c : Ctl) : Ctl :=
  let s := c.sp n
  let st := c.sst n
  let c1 := c.put (R.SPINDLE_BRAKE_X_COORD n) (code 32 bp.x) |>.put (R.SPINDLE_BRAKE_Y_COORD n) (code 32 bp.y)
    |>.put (R.SPINDLE_BRAKE_TAG_TAG n) bp.tag
  let ended := s.exec.filter (fun e => bp.item.any e.item.same && bp.restart.isNone)
  let c2 := (ended.toList.map (·.item)).foldl (fun c i => recordRetired n i c) (halt c1)
  let lit := bp.cat == .lit && (match redo with | (_, .along _ _ _ _) :: _ => true | _ => false)
  let held := s.resuming || st == stBraking || st == stBraked
  let c3 := c2.modSp n (fun s => { s with
    redo := redo, heldState := if held then s.heldState else st, grant := none
    run := { s.run with active := false }, resuming := false, cut := s.cutFor bp, seamDue := lit })
  formStop n (c3.setSst n to_)

/-- R161: the brake engages in the present tick. -/
def spBrake (n : Nat) (c : Ctl) : Ctl :=
  let st := c.sst n
  if st = stIdle ∨ st = stRunning ∨ st = stFenceWait ∨ st = stLayerHold then
    let s := c.sp n
    -- before any sample is 32 ticks old: the place where the spot stands (log entry 148)
    let bp : PlanPt := (c.atHead n).getD { tick := c.now, x := toNm s.px, y := toNm s.py, tag := s.lastTag }
    brakeAt n bp (c.redoAfter n bp) stBraking (haltMotion n) c
  else c

/-- R180: a spindle entering DISABLED or STOPPED moves to the newest profile copy. -/
def toNewest (n : Nat) (c : Ctl) : Ctl :=
  let staged := c.get R.GLOBAL_PROF_CTRL_STAGED
  let newest := if c.is R.GLOBAL_PROF_CTRL_PUBLISH then staged else 1 - staged
  let users := c.get R.GLOBAL_PROF_CTRL_OLD_USERS
  let left := users &&& (0xFFFFFF ^^^ 2 ^ n)
  let c1 := c.put (R.SPINDLE_STAT_PROF_COPY n) newest |>.put R.GLOBAL_PROF_CTRL_OLD_USERS left
  if users ≠ 0 ∧ left = 0 ∧ c1.tab.copyFrom.isNone then { c1 with tab := { c1.tab with copyFrom := some c.now } } else c1

/-- R130: an IDLE spindle with a record in its buffer runs. -/
def spWake (n : Nat) (c : Ctl) : Ctl :=
  if c.sst n = stIdle ∧ ¬ (c.sp n).buf.isEmpty then c.setSst n stRunning else c

/-- R133, R130: the state to which a spindle comes back: the one held before, or where the brake has let pass what ends
it, the one after. -/
def Ctl.backState (c : Ctl) (n : Nat) : Nat :=
  let s := c.sp n
  let work := if s.buf.isEmpty then stIdle else stRunning
  if s.heldState = stIdle then work
  else if s.heldState = stStopped then (if (c.streamOf n).isSome then work else stStopped)
  else if s.heldState ≠ stLayerHold then s.heldState
  else if s.layerEnd.isSome then (if s.buf.isEmpty then stLayerHold else stRunning)
  else match c.streamOf n with
    | some x => if c.cst x = csLayerHold then stLayerHold else work
    | none => work

/-- R107: at a record boundary with nothing in the buffer: back to LAYER_HOLD at a LAYER_END (R130), else IDLE with a
stream-dry event for the stream bound, whatever its state. -/
def boundary (n : Nat) (c : Ctl) : Ctl :=
  let s := c.sp n
  if c.sst n ≠ stRunning ∨ s.exec.isSome ∨ s.fence.isSome ∨ s.stop.isSome ∨ s.resuming ∨ ¬ s.redo.isEmpty ∨
      ¬ s.buf.isEmpty then c
  else if s.layerEnd.isSome then c.setSst n stLayerHold
  else
    let c1 := c.setSst n stIdle
    match c.streamOf n with
    | none => c1
    | some x =>
      let under := c.fetchIx x != c.tailIx x
      let c2 := c1.event (pgSpindle n) 0x06 n s.lastTag (toNm s.px) (toNm s.py) [b2n under]
      if under then (c2.inc (R.CTX_CNT1_UNDERRUN x)).irq pgHopper 5 else c2.inc (R.CTX_CNT1_DRY x)

/-- R133, R180, R107: spindle `n` comes back; a spindle held in STOPPED enters it and moves to the newest profile copy, and one
that comes back to RUNNING with nothing left to execute is at a record boundary. -/
def spBack (n : Nat) (c : Ctl) : Ctl :=
  let st := c.backState n
  let c1 := (c.setSst n st).modSp n (fun s => { s with resuming := false })
  if (c.sp n).heldState = stStopped then toNewest n c1 else boundary n c1

/-- R163: leaving BRAKED. -/
def spResume (n : Nat) (c : Ctl) : Ctl :=
  let s := c.sp n
  if c.sst n ≠ stBraked then c
  else
    let seam := if s.seamDue then
        (c.event (pgSpindle n) 0x09 n (c.get (R.SPINDLE_BRAKE_TAG_TAG n)) (sgn 32 (c.get (R.SPINDLE_BRAKE_X_COORD n)))
          (sgn 32 (c.get (R.SPINDLE_BRAKE_Y_COORD n))) [1]).modSp n (fun s => { s with seamDue := false })
      else c
    if s.redo.isEmpty then spBack n seam
    else seam.setSst n stRunning |>.modSp n (fun s => { s with resuming := true })

/-- R133: once what the brake left is done, the spindle returns to the state held before. -/
def resumeDone (n : Nat) (c : Ctl) : Ctl :=
  let s := c.sp n
  if s.resuming ∧ s.redo.isEmpty ∧ s.exec.isNone ∧ s.stop.isNone ∧ c.sst n = stRunning then
    spBack n c
  else c

/-- R212, R213: spindle `n` is cut at the sample formed in this tick; `win` is the winner. -/
def spCut (n win : Nat) (plume : Bool) (c : Ctl) : Ctl :=
  let s := c.sp n
  match s.sample with
  | none => c
  | some pt =>
    let pt1 := { pt with pre := 0 }
    let item := pt.item
    let c1 := (c.put R.FANTAIL_CUT_X_COORD (code 32 pt.x) |>.put R.FANTAIL_CUT_Y_COORD (code 32 pt.y)
      |>.setReg R.FANTAIL_CUT_INFO (2 ^ 31 + (if plume then 2 ^ 30 else 0) + win * 2 ^ 16 + n)
      |>.inc R.FANTAIL_CNT0_CUTS |>.irq pgFantail 0 |>.event (pgSpindle n) 0x09 n pt.tag pt.x pt.y [2, win])
    let path := c1.pathBeyond n s.here s
    -- RUNNING throughout, though the record's retirement may have taken the spindle to another state in this tick
    let st := c.sst n
    let c2 := if st = stRunning ∨ pt.restart.isNone then beginStop n s.here s.v s.a path c1
      else ((beginStop n s.here s.v s.a path c1).setSst n stRunning).modSp n (fun s => { s with heldState := st, resuming := true })
    c2.modSp n (fun s2 => { s2 with
      sample := some pt1, grant := none, cutNow := true, runEnd := false
      run := { s2.run with active := false }
      redo := (match item, pt.restart with
        | some i, some f => [({ i with retired := i.retired || s.exec.isNone || (s.exec.any (fun e => !(e.item.same i))) }, f)]
        | _, _ => []) ++ s2.redo
      cut := match item, pt.restart with
        | some i, some f => some { item := i, frm := f, tick := c.now }
        | _, _ => none })

/-- R131, R180: the spindle enters DISABLED: nothing of its work is kept, and it moves to the newest profile copy. -/
def spDisabled (n : Nat) (c : Ctl) : Ctl :=
  ((c.modSp n (fun s => { s with
      disabling := false
      redo := []
      buf := []
      exec := none
      stop := none
      stopEnd := none
      fence := none
      fencePass := false
      layerEnd := none
      sample := none
      req := none
      grant := none
      resuming := false
      run := { s.run with active := false } })).setSst n stDisabled |> toNewest n).setActive (pgSpindle n) false

/-- R130, R131: the mirror is at rest: the last stop sample has acted at the head. -/
def mirrorAtRest (n : Nat) (c : Ctl) : Ctl :=
  let s := c.sp n
  let rest := s.stop.isNone && s.stopFrom != c.now && (match s.stopEnd with | some t => decide (32 ≤ c.sinceT t) | none => true)
  if c.sst n ≠ stBraking ∨ ¬ rest then c
  else if s.disabling then spDisabled n c
  else (c.setSst n stBraked).irq (pgSpindle n) 2

/-! ### Enable (R130 to R132) -/

/-- R132: the configuration check. -/
def Ctl.spConfigErr (c : Ctl) (n : Nat) : Nat :=
  let p := c.get (R.SPINDLE_GRID_PITCH_PITCH n)
  if p < 1000 ∨ 16000000 < p then 1
  else if c.get (R.SPINDLE_AXIS_SCALE_X_SCALE n) = 0 ∨ c.get (R.SPINDLE_AXIS_SCALE_Y_SCALE n) = 0 then 2
  else 0

/-- R180, R181: publish the staging copy. -/
def publish (c : Ctl) : Ctl :=
  if c.is R.GLOBAL_PROF_CTRL_PUBLISH then c
  else
    let c1 := c.flag R.GLOBAL_PROF_CTRL_PUBLISH true
    let users := (upto 24).filter (fun n => c.hasChan n && c.sst n != stDisabled && c.sst n != stStopped)
    let c2 := c1.put R.GLOBAL_PROF_CTRL_OLD_USERS (maskOf users)
    let c3 := c2.each ((upto 24).filter (fun n => !users.contains n)) (fun n c =>
      c.put (R.SPINDLE_STAT_PROF_COPY n) (c.get R.GLOBAL_PROF_CTRL_STAGED))
    if users.isEmpty then { c3 with tab := { c3.tab with copyFrom := some c.now } } else c3

/-- R181, R693: the newest copy has been copied into the previous one, 1,025 spindle clocks (18 ticks at most) after
OLD_USERS reached 0. -/
def profDone (c : Ctl) : Ctl :=
  match c.tab.copyFrom with
  | none => c
  | some t =>
    if c.sinceT t < 17 then c
    else
      let newest := c.get R.GLOBAL_PROF_CTRL_STAGED
      let old := 1 - newest
      let kept := c.tab.prof.filter (fun e => e.1 / 1024 ≠ old)
      let copied := (c.tab.prof.filter (fun e => e.1 / 1024 = newest)).foldl
        (fun t e => tput t (old * 1024 + e.1 % 1024) e.2) kept
      { c with tab := { c.tab with prof := copied, copyFrom := none } }
        |>.put R.GLOBAL_PROF_CTRL_STAGED old |>.flag R.GLOBAL_PROF_CTRL_PUBLISH false |>.irq pgGlobal 2

/-- R130, R132: BLK_CTRL enable written 1 to a DISABLED spindle. -/
def spindleEnable (n : Nat) (c : Ctl) : Ctl :=
  if c.sst n ≠ stDisabled ∨ ¬ c.hasChan n then c
  else
    let err := c.spConfigErr n
    if err ≠ 0 then c.put (R.SPINDLE_STAT_CFG_ERR n) err |>.irq (pgSpindle n) 4 |>.flag (R.BLK_CTRL_ENABLE (pgSpindle n)) true
    else
      let bound := (upto 128).any (fun x => !c.is (R.CTX_CTRL_KIND x) && c.get (R.CTX_CTRL_BIND x) == n &&
        c.get (R.CTX_STAT_STATE x) != 0)
      (c.put (R.SPINDLE_STAT_CFG_ERR n) 0 |>.flag (R.BLK_CTRL_ENABLE (pgSpindle n)) true |>.setActive (pgSpindle n) true
        |> toNewest n |>.setSst n (if bound then stIdle else stStopped) |> spWake n)

/-- R176: CMD.GRID_SWAP. -/
def gridSwap (n : Nat) (c : Ctl) : Ctl :=
  if c.sst n = stStopped then c.put (R.SPINDLE_STAT_BANK n) (1 - c.get (R.SPINDLE_STAT_BANK n)) else c

/-- R174, R175, R180, R123: the ACTIONS of a FENCE as the spindle passes it. -/
def fenceActions (n : Nat) (actions : Nat) (c : Ctl) : Ctl :=
  let c1 := if bitOf actions 0 then c.put (R.SPINDLE_STAT_BANK n) (1 - c.get (R.SPINDLE_STAT_BANK n)) else c
  if bitOf actions 1 then toNewest n c1 else c1

/-! ### Sending (R34, R129) -/

/-- The sample of the present tick is sent: it enters the history; POS_X, POS_Y and CUR_TAG follow the point that acts
at the head in the tick that begins (R129). -/
def commitSample (n : Nat) (c : Ctl) : Ctl :=
  let s := c.sp n
  match s.sample with
  | none => c
  | some pt =>
    let s1 := { s with hist := (pt :: s.hist).take 600, sample := none,
                       grant := if s.runEnd then none else s.grant,
                       run := if s.runEnd ∧ s.run.succ = 0 then { s.run with active := false } else s.run }
    let c1 := (c.setSp n s1).put (R.SPINDLE_FACTORS_CEILING n) pt.ceil |>.put (R.SPINDLE_FACTORS_FEEDFWD n) pt.ff
    if pt.lit then c1.metric 80 (pt.ff : Nat) else c1

/-- R129, at the beginning of a tick. -/
def showHead (n : Nat) (c : Ctl) : Ctl :=
  match c.atHead n with
  | some p =>
    let c1 := if (c.sp n).cut.any (fun k => decide (k.tick ≤ p.tick) && k.passed p) then c.modSp n (fun s => { s with cut := none }) else c
    c1.put (R.SPINDLE_POS_X_COORD n) (code 32 p.x) |>.put (R.SPINDLE_POS_Y_COORD n) (code 32 p.y)
      |>.put (R.SPINDLE_CUR_TAG_TAG n) p.tag
  | none => c

end Sys2Proof.Machine
end

