-- ==== Sys2Proof/Machine/Hopper.lean ====
section
/-! DEFINITION. The hopper (R77 to R124, R718): contexts, doorbells, prefetch, starting and retiring records, fences,
layer ends; and the disabling of a spindle (R131), which disables its stream. -/

namespace Sys2Proof.Machine

/-! ### Halting (R79, R90, R119, R121, R718) -/

/-- R718, R89: spindle `n` withdraws its arrival at a fence. -/
def fenceWithdraw (n : Nat) (c : Ctl) : Ctl :=
  let s := c.sp n
  if s.fence.isNone then c
  else
    let c1 := (c.modSp n (fun s => { s with
        fence := none, fencePass := false, timedOut := false, absentOk := 0,
        heldState := if s.heldState = stFenceWait then stIdle else s.heldState })).clearBits R.HOPPER_FENCE_WAIT (2 ^ n)
    if c.sst n = stFenceWait then c1.setSst n stIdle else c1

/-- R197: with records of its buffer discarded (`drop`), spindle `n` gives back a grant, and takes back a request, that
neither the record in execution nor the one that is still next holds. -/
def dropGrant (n : Nat) (drop : Ctl → Ctl) (c : Ctl) : Ctl :=
  let c1 := drop c
  let keeps : Bool := match c.nextRequest n, c1.nextRequest n with
    | some a, some b => a.2.same b.2
    | _, _ => false
  if (c1.sp n).exec.all (fun e => e.phases.isEmpty && !(c1.sp n).runEnd) ∧ ¬ keeps then
    c1.modSp n (fun s => { s with grant := none, req := none, run := { s.run with active := false } })
  else c1

/-- The spindles with a record of stream `x` in their buffers. -/
def Ctl.holders (c : Ctl) (x : Nat) : List Nat := (upto 24).filter (fun n => (c.sp n).buf.any (fun i => i.stream == x))

/-- Drop the unstarted records of stream `x` from every buffer. -/
def dropUnstarted (x : Nat) (c : Ctl) : Ctl :=
  c.each (c.holders x) (fun n => dropGrant n (fun c =>
    c.modSp n (fun s => { s with buf := s.buf.filter (fun i => decide (i.stream ≠ x)) })))

/-- R105: what stream `x` has read or asked for is dropped; its reads stay outstanding until they return. -/
def dropReads (x : Nat) (c : Ctl) : Ctl :=
  c.modStrm x (fun s => { s with
    reads := [], gone := s.gone ++ s.reads.filter (·.got.isNone), readStop := true })

/-- R89: every record in the buffer of spindle `n` that has not started is discarded. HEAD of a share stream stays at the
first of its records among them (log entry 146). -/
def discardBuffer (n : Nat) (c : Ctl) : Ctl :=
  dropGrant n (fun c =>
    ((c.sp n).buf.filter (·.share)).foldl (fun c i => c.modStrm i.stream (fun s => { s with lost := s.lost ++ [i.idx] }))
      (c.modSp n (fun s => { s with buf := [] }))) c

/-- R79, R119, R121: stream `x` enters HALTED at record `i`. What has been read from it on is dropped; RESUME reads it
again. The records of a share stream that members hold come before it and are still executed. -/
def streamHalt (x cause code_ : Nat) (i : Item) (c : Ctl) : Ctl :=
  if c.cst x ≠ csActive then c
  else
    let n := c.bindOf x
    let c1 := (((c.put (R.CTX_STAT_HALT_CAUSE x) cause).put (R.CTX_STAT_ERR_CODE x) code_).put (R.CTX_ERR_INDEX_INDEX x)
      i.idx).put (R.CTX_FETCH_INDEX x) i.idx
    let c2 := (dropReads x c1).modStrm x (fun s => { s with staged := [], faulty := some i })
    let c3 := if c.isShare x then c2 else
      (fun (d : Ctl) => spWake n (if d.sst n = stRunning then d.setSst n stIdle else d)) (fenceWithdraw n (dropUnstarted x c2))
    (setCst x csHalted (advanceHead x c3)).irq pgHopper 2

/-! ### Enabling and disabling a context (R84 to R90) -/

/-- R87: bytes `a` to `a + n - 1` lie in installed device DRAM. -/
def Ctl.installedRange (c : Ctl) (a n : Nat) : Bool :=
  let c0 := c.mcCap 0
  let c1 := c.mcCap 1
  if c.interleaved then decide (a + n ≤ 2 * c0 - 8192)
  else (c.inService 0 && decide (a + n ≤ c0 - 4096)) ||
    (c.inService 1 && decide (c0 ≤ a) && decide (a + n ≤ c0 + c1 - 8192))

/-- R87: the first enable error that applies, 0 for none. -/
def Ctl.enableErr (c : Ctl) (x : Nat) : Nat :=
  let sz := c.get (R.CTX_SIZE_SIZE_LOG2 x)
  let n := c.bindOf x
  if sz < 12 ∨ 30 < sz then 1
  else if ¬ c.installedRange (c.ringBase x) (2 ^ sz) then 2
  else if ¬ c.isShare x then
    (if 23 < n ∨ c.absent n then 3 else if (c.streamOf n).isSome then 4 else 0)
  else if c.members x = 0 then 5
  else if (bitList 24 (c.members x)).any (fun m => c.absent m) then 6
  else 0

/-- The fields of CTX[x].CTRL that the write `w` sets: those typed RWL only while DISABLED (R86). -/
def ctxCtrlFields (x : Nat) (w : Word) (c : Ctl) : Ctl :=
  let v := w.toNat
  let c1 := ((c.put (R.CTX_CTRL_SHARE_ON_IDLE x) (slice v 7 1)).put (R.CTX_CTRL_LAYER_STOP x) (slice v 6 1)).put
    (R.CTX_CTRL_MAL_ACTION x) (slice v 5 1)
  if c.cst x = csDisabled then
    ((c1.put (R.CTX_CTRL_KIND x) (slice v 30 1)).put (R.CTX_CTRL_BIND x) (slice v 16 6)).put (R.CTX_CTRL_CRC_CHECK x)
      (slice v 4 1)
  else c1

/-- CTX_ENABLE (R87, R84, R130): the write `w` of CTX[x].CTRL with ENABLE 1. To a context that is not DISABLED it brings its
other fields only: of a DRAINING one the spec names no transition and CTRL.ENABLE stays 0 (log entry 192). FOCUS_BASE is 0
again (R171; log entry 192). -/
def streamEnable (x : Nat) (w : Word) (c : Ctl) : Ctl :=
  let was := c.cst x
  let c1 := ctxCtrlFields x w c
  if was ≠ csDisabled then c1
  else
    let e := c1.enableErr x
    if e ≠ 0 then (c1.put (R.CTX_STAT_ENABLE_ERR x) e).put (R.CTX_CTRL_ENABLE x) 1
    else
      let n := c1.bindOf x
      let c2 := (((c1.put (R.CTX_STAT_ENABLE_ERR x) 0).put (R.CTX_HEAD_INDEX x) 0).put (R.CTX_FETCH_INDEX x) 0).put
        (R.CTX_TAIL_INDEX x) 0
      -- R412: TAIL is 0, and so is the TAIL of the host's last doorbell
      let c2' := { c2 with tw := { c2.tw with ownTail := tdel c2.tw.ownTail x, lag := tdel c2.tw.lag x } }
      let c3 := setCst x csIdle ((c2'.put (R.CTX_CTRL_ENABLE x) 1).modStrm x (fun s => { gone := s.gone }))
      if ¬ c3.isShare x ∧ c3.sst n = stStopped then c3.setSst n stIdle else c3

/-- R89: the record in execution loses successors that have been discarded, and ends with its ramp-down. -/
def cutChain (n : Nat) (c : Ctl) : Ctl :=
  let s := c.sp n
  match s.exec with
  | none => c
  | some e =>
    let succ := c.successors n e.item s.view
    if e.item.lineMark ∧ succ.length < s.run.succ then replan n succ c else c

/-- CTX_DISABLE (R89): ENABLE written 0 to a context that is not DISABLED. -/
def streamStop (x : Nat) (c : Ctl) : Ctl :=
  if c.cst x = csDisabled ∨ c.cst x = csDraining then c.put (R.CTX_CTRL_ENABLE x) 0
  else
    let n := c.bindOf x
    let s := c.strm x
    -- the first record that has not started stays at HEAD
    let drop := (upto 24).flatMap (fun m => ((c.sp m).buf.filter (fun i => i.stream == x)).map (·.idx) ++
      (((c.sp m).fence.map (·.1)).toList ++ (c.sp m).layerEnd.toList).filterMap (fun i => if i.stream = x then some i.idx else none)) ++
      s.staged.map (·.idx) ++ (s.faulty.map (·.idx)).toList ++ s.reads.map (·.first)
    let h := c.headIx x
    let first := drop.foldl (fun b i => if c.ringSub x i h < c.ringSub x b h then i else b) (c.fetchIx x)
    let c1 := (c.put (R.CTX_CTRL_ENABLE x) 0).put (R.CTX_FETCH_INDEX x) first
    let c2 := dropUnstarted x ((dropReads x c1).modStrm x (fun s => { s with staged := [], faulty := none }))
    let c3 := { c2 with hop := { c2.hop with offers := c2.hop.offers.filter (fun o => decide (o.1 ≠ x)) } }
    let c4 := if c.isShare x then c3.each (c.holders x) (fun n c => boundary n (cutChain n c))
      else boundary n (cutChain n (fenceWithdraw n ((discardBuffer n c3).modSp n (fun s => { s with layerEnd := none }))))
    setCst x csDraining (c4.put (R.CTX_HEAD_INDEX x) (c4.headOf x))

/-- The write `w` of CTX[x].CTRL with ENABLE 0. -/
def streamDisable (x : Nat) (w : Word) (c : Ctl) : Ctl := streamStop x (ctxCtrlFields x w c)

/-- R90: the spindle of stream `x` has not stopped, or a member has a record of the share stream `x` in execution. -/
def Ctl.streamBusy (c : Ctl) (x : Nat) : Bool :=
  (upto 24).any (fun n => c.sst n != stDisabled &&
    ((((c.sp n).exec.map (·.item)).toList ++ (c.sp n).redo.map (·.1)).any (fun i => i.stream == x || (!c.isShare x && c.bindOf x == n)) ||
     (!c.isShare x && c.bindOf x == n && (c.sp n).stop.isSome)))

/-! ### Layers (R39, R70, R106, R112, R113) -/

/-- R39, R88: the enabled spindles have all passed their LAYER_END. -/
def Ctl.layerDone (c : Ctl) : Bool :=
  let p := c.get R.HOPPER_LAYER_PASSED_PASSED
  p != 0 && (upto 24).all (fun n => bitOf p n || (c.streamOf n).isNone)

/-- R90, R106: what the close does to one stream that has met its LAYER_END. -/
def closeStream (x : Nat) (c : Ctl) : Ctl :=
  let st := c.cst x
  let n := c.bindOf x
  if (c.strm x).layerEnd.isNone ∨ st = csDisabled ∨ st = csDraining then c
  else
    let c1 := c.modStrm x (fun s => { s with layerEnd := none, readStop := decide (st = csHalted) })
    let hold : Bool := c.is (R.CTX_CTRL_LAYER_STOP x) && (st == csActive || st == csIdle)
    let c2 := if hold then setCst x csLayerHold c1 else c1
    if c.isShare x then c2
    else
      let c3 := c2.modSp n (fun s => { s with layerEnd := none })
      if hold ∨ c3.sst n ≠ stLayerHold then c3
      else c3.setSst n (if (c3.sp n).buf.isEmpty then stIdle else stRunning)

/-- R39, R70: the layer closes; its summary follows in the next tick (`Ctl.endRecords`). -/
def layerClose (c : Ctl) : Ctl :=
  if ¬ c.layerDone then c
  else
    let lo := c.hop.layerLo.getD 0
    let hi := c.hop.layerHi
    let c1 := (c.put R.HOPPER_LAYER_COUNT_LAYERS ((c.get R.HOPPER_LAYER_COUNT_LAYERS + 1) % 2 ^ 32)).put
      R.HOPPER_LAYER_PASSED_PASSED 0
    let c2 := c1.irq pgHopper 6
    let c3 := if lo = hi then c2 else (c2.irq pgHopper 7).layerFlag 4
    let c4 := { c3 with rc := { c3.rc with closing := some (lo, hi, c.now) }
                        hop := { c3.hop with layerLo := none, layerHi := 0 } }
    let c5 := { c4 with tw := { c4.tw with closed := some (c.get R.HOPPER_LAYER_COUNT_LAYERS % 65536, c.now) } }
    c5.each (upto 128) closeStream

/-- CTX_DRAIN_COMPLETE (R90, R130, R180): the spindle has stopped. -/
def drainComplete (x : Nat) (c : Ctl) : Ctl :=
  if c.cst x ≠ csDraining ∨ c.streamBusy x then c
  else
    let n := c.bindOf x
    let c1 := setCst x csDisabled (c.modStrm x (fun s => { s with layerEnd := none }))
    let c2 := if c.isShare x then c1
      else if c1.sst n = stIdle ∨ c1.sst n = stLayerHold then toNewest n (c1.setSst n stStopped)
      else c1.modSp n (fun s => { s with heldState := if c1.sst n = stBraking ∨ c1.sst n = stBraked then stStopped else s.heldState })
    layerClose c2

/-! ### Doorbells (R53 to R55, R94 to R98) -/

/-- R96, R97: why the doorbell `w` is rejected; 0 when it is not. -/
def Ctl.doorbellCause (c : Ctl) (w : Nat) : Nat :=
  let x := slice w 25 7
  let tail := slice w 0 25
  if c.cst x = csDisabled ∨ c.cst x = csDraining then 1
  else if tail = c.tailIx x then 0
  else if c.ringN x ≤ tail then 2
  else if c.ringSub x tail (c.headIx x) < c.ringSub x (c.fetchIx x) (c.headIx x) then 3
  else 0

/-- R96: a doorbell is rejected. -/
def doorbellReject (w cause : Nat) (c : Ctl) : Ctl :=
  ((c.setReg R.HOPPER_DB_ERR_WORD w).setReg R.HOPPER_DB_ERR (2 ^ 31 + cause)).irq pgHopper 0

/-- R96, R97, R90: a doorbell takes effect. -/
def doorbellEffect (w : Nat) (c : Ctl) : Ctl :=
  let x := slice w 25 7
  let tail := slice w 0 25
  if c.doorbellCause w ≠ 0 then doorbellReject w (c.doorbellCause w) c
  else if tail = c.tailIx x then c
  else
    let c1 := c.put (R.CTX_TAIL_INDEX x) tail
    if c.cst x = csIdle ∧ tail ≠ c.headIx x then setCst x csActive c1 else c1

/-- R53: a BAR2 write has become visible. -/
def bar2Visible (c : Ctl) : Ctl :=
  let c1 : Ctl := { c with hop := { c.hop with ordDoorbells := c.hop.ordDoorbells.map (fun d => (d.1, d.2 - 1)) } }
  { c1 with host := { c1.host with held := c1.host.held.map (fun h => { h with bar2 := h.bar2 - 1 }) } }

/-! ### RESUME and SKIP (R90, R718) -/

/-- RESUME: the write of ACTION.RESUME without SKIP. -/
def streamResume (x : Nat) (c : Ctl) : Ctl :=
  let st := c.cst x
  let n := c.bindOf x
  if st = csHalted then
    let f := match (c.strm x).faulty with | some i => i.idx | none => c.fetchIx x
    setCst x csActive ((c.put (R.CTX_FETCH_INDEX x) f).modStrm x (fun s => { s with faulty := none, readStop := false }))
  else if st = csLayerHold then
    let c1 := setCst x (if c.headIx x = c.tailIx x then csIdle else csActive) c
    if ¬ c.isShare x ∧ c.sst n = stLayerHold then c1.setSst n (if (c.sp n).buf.isEmpty then stIdle else stRunning)
    else c1
  else c

/-- R183: the records in view of spindle `n` stay with the profile copy in use. -/
def viewPlanned (n : Nat) (c : Ctl) : Ctl :=
  let k := (c.sp n).view.length - (c.sp n).redo.length
  c.modSp n (fun s => { s with buf := (s.buf.take k).map (fun i => { i with copy := some (c.copyOf n i) }) ++ s.buf.drop k })

/-- SKIP, alone or with RESUME: the faulting record is discarded; a FENCE is passed with its ACTIONS (R718). -/
def streamSkip (x : Nat) (c : Ctl) : Ctl :=
  if c.cst x ≠ csHalted then c
  else
    match (c.strm x).faulty with
    | none => c
    | some i =>
      let c1 := c.inc (R.CTX_CNT1_MALFORMED x)
      let c2 := if i.mal.isNone ∧ i.typ = tFence then fenceActions (c.bindOf x) i.actions (viewPlanned (c.bindOf x) c1) else c1
      let c3 := (c2.put (R.CTX_FETCH_INDEX x) ((i.idx + 1) % c.ringN x)).modStrm x
        (fun s => { s with faulty := none, readStop := false })
      advanceHead x (setCst x csActive c3)

/-- A write of ACTION (R90): SKIP, alone or with RESUME, at a HALTED stream; RESUME otherwise. -/
def streamAction (x : Nat) (skip resume : Bool) (c : Ctl) : Ctl :=
  if skip ∧ c.cst x = csHalted then streamSkip x c else if resume then streamResume x c else c

/-! ### Reading (R77, R78, R101 to R106) -/

/-- Records that a stream's outstanding reads will bring. -/
def CtxSt.coming (s : CtxSt) : Nat := (s.reads.map (·.count)).sum

/-- R103: the read stream `x` is ready for: its records, none when not ready. For a share stream's staging queue, of which
R103 says nothing, one free place is enough (log entry 192). -/
def Ctl.readSize (c : Ctl) (x : Nat) : Option Nat :=
  let s := c.strm x
  let st := c.cst x
  let left := c.ringSub x (c.tailIx x) (c.fetchIx x)
  let n := c.bindOf x
  let free := if c.isShare x then 16 - (s.staged.length + s.coming) else 512 - ((c.sp n).buf.length + s.coming)
  let room := if c.isShare x then decide (0 < free) else decide (128 ≤ free) || (decide (left < 128) && decide (left ≤ free))
  if (st = csActive ∨ st = csLayerHold) ∧ ¬ s.readStop ∧ 0 < left ∧ room then
    some (min (min 128 left) (min free (c.ringN x - c.fetchIx x)))
  else none

/-- R104: the stream served next. -/
def Ctl.nextRead (c : Ctl) : Option Nat :=
  let ready := (upto 128).filter (fun x => (c.readSize x).isSome)
  let fill := fun (x : Nat) => (c.sp (c.bindOf x)).buf.length + (c.strm x).coming
  let best := (ready.filter (fun x => !c.isShare x)).foldl (fun (b : Option Nat) x => match b with
    | none => some x
    | some y => if fill x < fill y ∨ (fill x = fill y ∧ c.bindOf x < c.bindOf y) then some x else some y) none
  match best, ready.find? (fun x => c.isShare x) with
  | some x, some y => if fill x < 256 then some x else some y
  | some x, none => some x
  | none, y => y

/-- HOPPER_READ_REQUEST (R103 to R105): the next read is requested and FETCH advances. -/
def hopperRequest (c : Ctl) : Ctl :=
  let out := (c.hop.ctx.map (fun e => e.2.gone.length + (e.2.reads.filter (·.got.isNone)).length)).sum
  if 24 ≤ out then c
  else
    match c.nextRead with
    | none => c
    | some x =>
      let k := (c.readSize x).getD 0
      let f := c.fetchIx x
      let id := c.hop.readNext
      let c0 := c.modStrm x (fun s => { s with reads := s.reads ++ [{ first := f, count := k, id := id }] })
      let c1 := queueRead (.hopper id) 1 (hopperWho x) (c.ringBase x + 32 * f) (32 * k)
        { c0 with hop := { c0.hop with readNext := id + 1 } }
      let fill := if c.isShare x then (c.strm x).staged.length else (c.sp (c.bindOf x)).buf.length
      (c1.put (R.CTX_FETCH_INDEX x) ((f + k) % c.ringN x)).metric 74 (fill : Nat)

/-- R76 to R79, R106: place the records of a returned read in ring order; the rest are dropped after a LAYER_END or a
record that halts. A share stream too is read no further than its LAYER_END until the close (log entry 192). -/
def placeItems (x : Nat) : List Item → Ctl → Ctl
  | [], c => c
  | i :: rest, c =>
    let mal := malformed (c.is (R.CTX_CTRL_CRC_CHECK x)) (if c.isShare x then some (c.members x) else none) i.bytes
    let put := fun (i : Item) (c : Ctl) =>
      if c.isShare x then c.modStrm x (fun s => { s with staged := s.staged ++ [i] })
      else spWake (c.bindOf x) (c.modSp (c.bindOf x) (fun s => { s with buf := s.buf ++ [i] }))
    match mal with
    | some m =>
      if c.is (R.CTX_CTRL_MAL_ACTION x) then
        put { i with mal := some m } (dropReads x (c.put (R.CTX_FETCH_INDEX x) i.idx))
      else
        placeItems x rest ((((c.inc (R.CTX_CNT1_MALFORMED x)).put (R.CTX_ERR_INDEX_INDEX x) i.idx).put
          (R.CTX_STAT_ERR_CODE x) m).irq pgHopper 1)
    | none =>
      if i.typ = tLayerEnd then
        put i (dropReads x (c.put (R.CTX_FETCH_INDEX x) ((i.idx + 1) % c.ringN x)))
      else placeItems x rest (put i c)

/-- Place every read that has returned and is the oldest of its stream (R32, R103). -/
def placeReads : Nat → Nat → Ctl → Ctl
  | 0, _, c => c
  | fuel + 1, x, c =>
    match (c.strm x).reads with
    | { got := some l, .. } :: rest => placeReads fuel x (placeItems x l (c.modStrm x (fun s => { s with reads := rest })))
    | _ => c

/-- HOPPER_READ_RETURN (R77, R103): read number `k` of stream `x` returns. -/
def hopperReturn (x k : Nat) (s : State) : State :=
  let c := s.ctl
  let st := c.strm x
  match (st.gone ++ st.reads)[k]? with
  | none => s
  | some r =>
    if r.got.isSome then s
    else
      let w := Asker.hopper r.id
      let s1 := serveFor w s
      let got := (s1.fetched w (c.ringBase x + 32 * r.first) (32 * r.count)).map (·.1)
      let l := (upto r.count).map (fun j =>
        ({ bytes := (got.drop (32 * j)).take 32, stream := x, idx := r.first + j, share := c.isShare x } : Item))
      let g := st.gone.length
      let c1 := s1.ctl.modStrm x (fun s => if k < g then { s with gone := s.gone.eraseIdx k }
        else { s with reads := s.reads.set (k - g) { r with got := some l } })
      { s1 with ctl := advanceHead x (placeReads 32 x (takeServed w c1)) }

/-! ### Spindle side -/

/-- The spindle can take up the next record: at a boundary and not on its way to rest. -/
def Ctl.atBoundary (c : Ctl) (n : Nat) : Bool :=
  let s := c.sp n
  c.sst n == stRunning && s.exec.isNone && s.stop.isNone && (s.fence.isNone || s.resuming)

/-- The sample of this tick is a hold that belongs to no record. -/
def SpinSt.free (s : SpinSt) : Bool :=
  match s.sample with
  | none => true
  | some p => p.cat == .idle

/-- Start a record that is neither a FENCE nor a LAYER_END. A CONTINUE mark enters at the speed of the sample before
(R145): the hold sample of this tick is undone. A JUMP that makes no sample sets the focus in force (R171); a record skipped
under R73 or R160 does not (log entry 192). A CONTINUE mark without a dwell is counted as one that cannot join (R144). -/
def startItem (n : Nat) (item : Item) (fr : From) (again : Bool) (c : Ctl) : Ctl :=
  let i := if again then item else c.takenUp n item
  let c1 := if again then c else recordStarted n i c
  if c1.noSample n i then
    let c2 :=
      if again then c1
      else if c1.outOfField n i then
        ((c1.inc (R.SPINDLE_CNT0_OUT_OF_FIELD n)).irq (pgSpindle n) 1).event (pgSpindle n) 0x08 n i.tag 0 0 []
      else if i.isPoint then
        (if i.typ = tMark ∧ i.cont then c1.inc (R.SPINDLE_CNT1_BROKEN_CHAIN n) else c1).inc (R.CTX_CNT0_ZERO_SKIPPED i.stream)
      else if i.typ = tJump then c1.modSp n (fun s => { s with focus := c1.focusOf i })
      else c1
    boundary n (resumeDone n (recordRetired n i (c2.modSp n (fun s => { s with prev := some i }))))
  else formFirst n (beginMotion n i fr again (c1.modSp n (fun s => { s with v := s.ov, a := s.oa })))

/-- RECORD_START (R128, R79, R163): the spindle takes up what a brake or a cut left to do, else the next record of its
buffer. -/
def recordStart (n : Nat) (c : Ctl) : Ctl :=
  let s := c.sp n
  -- R204: a run that begins where the spot stands has been asked for in the tick before, but one after a fence begins in
  -- the tick of its pass (R115)
  let asked : Bool := match c.nextRequest n with
    | some r => s.grant.isSome || s.req == some r.1 || s.passedAt == some c.now
    | none => true
  if ¬ c.atBoundary n ∨ ¬ s.free ∨ ¬ asked then c
  else
    match s.redo with
    | (i, fr) :: rest => startItem n i fr true (c.setSp n { s with redo := rest })
    | [] =>
      match s.buf with
      | [] => c
      | i :: rest =>
        match i.mal with
        | some m => streamHalt i.stream 1 m i c
        | none =>
          if i.typ = tFence ∨ i.typ = tLayerEnd then c
          else startItem n i .start false (c.setSp n { s with buf := rest })

/-- RECORD_RETIRE (R75): the record in execution has sent its last sample. -/
def recordRetire (n : Nat) (c : Ctl) : Ctl :=
  let s := c.sp n
  match s.exec with
  | none => c
  | some e =>
    if e.phases.isEmpty then
      boundary n (resumeDone n (recordRetired n e.item (c.setSp n { s with exec := none, prev := some e.item })))
    else c

/-! ### Fences (R114 to R123) -/

/-- R123, R115: spindle `n` passes the FENCE it stands at. -/
def passFence (n : Nat) (c : Ctl) : Ctl :=
  match (c.sp n).fence with
  | none => c
  | some (i, t) =>
    let c1 := (c.metric 75 (c.sinceT t : Nat)).modSp n (fun s => { s with
      fence := none, fencePass := false, timedOut := false, absentOk := 0, prev := some i, passedAt := some c.now })
    let c2 := (c1.clearBits R.HOPPER_FENCE_WAIT (2 ^ n)).setSst n stRunning
    boundary n (recordRetired n i (fenceActions n i.actions (recordStarted n i c2)))

/-- At the beginning of a tick: the members of a completed fence pass (R115), a braked one once it is back (R133). -/
def fencePasses (c : Ctl) : Ctl :=
  c.each ((upto 24).filter (fun n => (c.sp n).fencePass && c.sst n == stFenceWait)) passFence

/-- The spindles that wait at the fence of `i` and have not been let pass. -/
def Ctl.fenceGroup (c : Ctl) (i : Item) : List Nat :=
  (upto 24).filter (fun n => match (c.sp n).fence with
    | some (j, _) => j.fenceId == i.fenceId && j.mask == i.mask && !(c.sp n).fencePass
    | none => false)

/-- R115, R119: the members arrived, absent ones under skip counted. -/
def Ctl.fenceArrived (c : Ctl) (g : List Nat) : Nat := g.foldl (fun m n => m ||| 2 ^ n ||| (c.sp n).absentOk) 0

/-- R119: a fence fault of spindle `n`. -/
def fenceFault (n : Nat) (c : Ctl) : Ctl := (c.setBits R.HOPPER_FENCE_FAULT (2 ^ n)).irq pgHopper 3

/-- Spindle `n` stands at the FENCE `i`; the first to arrive makes a new fence of it for R121. -/
def fenceStand (n : Nat) (i : Item) (pass : Bool) (absentOk : Nat) (c : Ctl) : Ctl :=
  let key := (i.fenceId, i.mask)
  let c1 := if (c.fenceGroup i).isEmpty then { c with hop := { c.hop with timedOut := c.hop.timedOut.filter (· ≠ key) } } else c
  ((c1.modSp n (fun s => { s with fence := some (i, c.now), fencePass := pass, absentOk := absentOk })).setBits
    R.HOPPER_FENCE_WAIT (2 ^ n)).setSst n stFenceWait

/-- FENCE_ARRIVE (R114 to R119, R122). -/
def fenceArrive (n : Nat) (c : Ctl) : Ctl :=
  let s := c.sp n
  match s.buf with
  | [] => c
  | i :: rest =>
    if ¬ c.atBoundary n ∨ ¬ s.redo.isEmpty ∨ s.resuming ∨ i.typ ≠ tFence ∨ i.mal.isSome then c
    else
      let c0 := c.setSp n { s with buf := rest }
      let m := i.mask
      let halt := fun (x : Nat) (c : Ctl) => c.is (R.CTX_CTRL_MAL_ACTION x)
      let absent := maskOf ((bitList 24 m).filter c.absent)
      let clash := (bitList 24 m).filter (fun k => decide (k ≠ n) && (match (c.sp k).fence with
        | some (j, _) => j.fenceId == i.fenceId && decide (j.mask ≠ m)
        | none => false))
      let other : Bool := decide (m ≠ 0) && (!bitOf m n || !clash.isEmpty)
      if m = 0 ∨ (absent = 0 ∧ m = 2 ^ n ∧ clash.isEmpty) then passFence n (fenceStand n i true 0 c0)
      else
        let c1 := c0.each clash (fun k c =>
          let d := fenceFault k c
          match (c.sp k).fence with
          | some (j, _) => if halt j.stream d then streamHalt j.stream 2 0 j d
                           else d.modSp k (fun s => { s with fencePass := true })
          | none => d)
        if absent ≠ 0 ∨ other then
          let c2 := fenceFault n c1
          if halt i.stream c2 then streamHalt i.stream 2 0 i c2
          else if other then fenceStand n i true absent c2
          else complete n i (fenceStand n i false absent c2)
        else complete n i (fenceStand n i false 0 c1)
where
  /-- R115: the last member named has arrived. -/
  complete (_ : Nat) (i : Item) (c : Ctl) : Ctl :=
    let g := c.fenceGroup i
    if i.mask &&& c.fenceArrived g = i.mask then c.each g (fun k c => c.modSp k (fun s => { s with fencePass := true })) else c

/-- R121: what spindle `n` does in this tick before the outcome of a fence is decided: the record in execution retires,
records that make no sample start and retire, and a FENCE that is then next is reached. -/
def arrivals : Nat → Nat → Ctl → Ctl
  | 0, _, c => c
  | fuel + 1, n, c =>
    let c1 := fenceArrive n (recordRetire n c)
    match (c1.sp n).buf with
    | i :: _ => if i.mal.isNone ∧ i.typ ≠ tFence ∧ i.typ ≠ tLayerEnd ∧ c1.noSample n i then arrivals fuel n (recordStart n c1) else c1
    | [] => c1

/-- The arrivals of every spindle in this tick. -/
def allArrivals (c : Ctl) : Ctl := c.each (upto 24) (fun k c => arrivals ((c.sp k).buf.length + 1) k c)

/-- FENCE_TIMEOUT (R120, R121): the timeout of spindle `n` expires in this tick; the outcome of its fence is decided at the end
of the tick, after every arrival. -/
def fenceTimeout (n : Nat) (c : Ctl) : Ctl :=
  if (c.sp n).fence.isNone ∨ c.hop.expired.contains n then c else { c with hop := { c.hop with expired := c.hop.expired ++ [n] } }

/-- R120 to R122: what becomes of the fence of spindle `n`, whose timeout has expired; nothing when it has completed. -/
def fenceExpired (n : Nat) (c : Ctl) : Ctl :=
  let s := c.sp n
  match s.fence with
  | none => c
  | some (i, t) =>
    let lim := if i.timeoutMs ≠ 0 then i.timeoutMs * 20000 else c.get R.HOPPER_FENCE_TIMEOUT_TICKS
    if s.fencePass ∨ s.timedOut ∨ lim = 0 ∨ c.sinceT t < lim then c
    else
      let g := c.fenceGroup i
      let key := (i.fenceId, i.mask)
      let c1 := c.modSp n (fun s => { s with timedOut := true })
      let c2 := if c.hop.timedOut.contains key then c1
        else ({ c1 with hop := { c1.hop with timedOut := c1.hop.timedOut ++ [key] } } : Ctl).irq pgHopper 4
      match c.get R.HOPPER_FENCE_CTRL_TIMEOUT_ACTION with
      | 1 =>
        let c3 := c2.event pgHopper 0x07 0xFF 0 0 0
          [i.fenceId, i.mask &&& (0xFFFFFF ^^^ (i.mask &&& c.fenceArrived g)), maskOf g]
        c3.each g (fun k c => c.modSp k (fun s => { s with fencePass := true }))
      | 2 => c2.each g (fun k c => match (c.sp k).fence with
        | some (j, _) => streamHalt j.stream 3 0 j c
        | none => c)
      | _ => c2

/-- R121, at the end of a tick: the timeouts of the tick, with every arrival known. -/
def fencesExpire (c : Ctl) : Ctl :=
  if c.hop.expired.isEmpty then c
  else
    let c1 := allArrivals c
    ({ c1 with hop := { c1.hop with expired := [] } } : Ctl).each c.hop.expired fenceExpired

/-! ### Layer ends (R109, R112, R113) -/

/-- LAYER_END_ARRIVE (R130): the spindle holds at its LAYER_END. -/
def layerEndArrive (n : Nat) (c : Ctl) : Ctl :=
  let s := c.sp n
  match s.buf with
  | [] => c
  | i :: rest =>
    if ¬ c.atBoundary n ∨ ¬ s.redo.isEmpty ∨ s.resuming ∨ i.typ ≠ tLayerEnd ∨ i.mal.isSome then c
    else
      let c1 := c.setSp n { s with buf := rest, layerEnd := some i, prev := some i }
      if rest.isEmpty then c1.setSst n stLayerHold else c1

/-- R113: what holds a member at its LAYER_END. A DRAINING share stream still counts as enabled (log entry 192). -/
def Ctl.shareOpen (c : Ctl) (n : Nat) : Bool :=
  (upto 128).any (fun x => c.isShare x && c.cst x != csDisabled && bitOf (c.members x) n && (c.strm x).layerEnd.isNone) ||
  (let s := c.sp n
   ((s.exec.map (·.item)).toList ++ s.redo.map (·.1) ++ s.buf).any (fun i => i.share && !i.retired))

/-- LAYER_END_PASS (R113, R39, R70). -/
def layerEndPass (n : Nat) (c : Ctl) : Ctl :=
  match (c.sp n).layerEnd with
  | none => c
  | some i =>
    if c.sst n ≠ stLayerHold ∨ c.bit R.HOPPER_LAYER_PASSED n ∨ c.shareOpen n then c
    else
      let c1 := recordStarted n i c
      let c2 := c1.modSp n (fun s => { s with layerEnd := some { i with retired := true } })
      let c3 := ((recordRetired n i c2).setBits R.HOPPER_LAYER_PASSED (2 ^ n)).modStrm i.stream (fun s => { s with
        layerEnd := some i.layer })
      let lo := match c.hop.layerLo with | some l => min l i.layer | none => i.layer
      layerClose { c3 with hop := { c3.hop with layerLo := some lo, layerHi := max c.hop.layerHi i.layer } }

/-! ### Share streams (R109 to R112, R227) -/

/-- R109: eligible for share records. -/
def Ctl.eligible (c : Ctl) (n : Nat) : Bool :=
  let s := c.sp n
  match c.streamOf n with
  | none => false
  | some x => c.sst n != stDisabled && c.cst x != csDraining && !s.disabling &&
    ((s.layerEnd.isSome && !c.bit R.HOPPER_LAYER_PASSED n) ||
     (c.is (R.CTX_CTRL_SHARE_ON_IDLE x) && s.buf.isEmpty && s.fence.isNone))

/-- Share records in the buffer that have not started. -/
def SpinSt.unstarted (s : SpinSt) : Nat := (s.buf.filter (·.share)).length

/-- R110, R101, R103: room for one more share record: the slots that outstanding reads will fill count as occupied. -/
def Ctl.shareRoom (c : Ctl) (n : Nat) : Bool :=
  let coming := match c.streamOf n with
    | some x => (c.strm x).coming
    | none => 0
  decide ((c.sp n).unstarted < c.get R.HOPPER_CTRL_SHARE_DEPTH) && decide ((c.sp n).buf.length + coming < 512)

/-- SHARE_OFFER (R110 to R112, R227): the head record of a staging queue is offered to the fantail; at a LAYER_END the
stream stops; at a halting record it halts once that could start (R79): every earlier record has retired and a member could
take it. -/
def shareOffer (x : Nat) (c : Ctl) : Ctl :=
  let s := c.strm x
  if ¬ c.isShare x ∨ c.cst x ≠ csActive ∨ s.layerEnd.isSome ∨ c.hop.offers.any (fun o => o.1 == x) then c
  else
    match s.staged with
    | [] => c
    | i :: rest =>
      let taker := (bitList 24 (c.members x)).any (fun n => c.eligible n && c.shareRoom n)
      match i.mal with
      | some m => if taker ∧ (upto 24).all (fun n => ((c.sp n).holds x).isEmpty) then streamHalt x 1 m i c else c
      | none =>
        if i.typ = tLayerEnd then
          let c1 := c.modStrm x (fun s => { s with staged := rest, layerEnd := some i.layer })
          recordRetired 0xFF i (recordStarted 0xFF i c1)
        else if taker then
          { c with hop := { c.hop with offers := c.hop.offers ++ [(x, i)] } }
        else c

/-- R130: a share record enters a member's buffer. -/
def placeShare (n : Nat) (i : Item) (c : Ctl) : Ctl :=
  let c1 := c.modSp n (fun s => { s with buf := s.buf ++ [i] })
  if c1.sst n = stLayerHold ∨ c1.sst n = stIdle then c1.setSst n stRunning else c1

/-! ### Disabling a spindle (R131) -/

/-- SPINDLE_DISABLE: BLK_CTRL enable written 0. -/
def spindleDisable (n : Nat) (c : Ctl) : Ctl :=
  let st := c.sst n
  let c0 := c.flag (R.BLK_CTRL_ENABLE (pgSpindle n)) false
  let stopStream := fun (c : Ctl) => match c.streamOf n with
    | some x => streamStop x c
    | none => c
  if st = stDisabled then c0
  else if st = stStopped then spDisabled n c0
  else if st = stBraked then spDisabled n (stopStream c0)
  else if st = stBraking then stopStream (c0.modSp n (fun s => { s with disabling := true }))
  else
    let c1 := (haltMotion n c0).setSst n stBraking
    formStop n (stopStream (c1.modSp n (fun s => { s with
      redo := [], grant := none, resuming := false, disabling := true, run := { s.run with active := false } })))

end Sys2Proof.Machine
end

