-- ==== Sys2Proof/Machine/Light.lean ====
section
/-! DEFINITION. The bed lighting array (chapter 14). -/

namespace Sys2Proof.Machine

/-- Change the lamp array's state. -/
def Ctl.liMod (c : Ctl) (f : LightSt → LightSt) : Ctl := { c with light := f c.light }

/-- R566: the filtered CAM_SYNC; deasserted while CAM_EN is 0. -/
def Ctl.camSync (c : Ctl) : Bool := c.is R.LIGHT_CTRL_CAM_EN && c.light.camFilt

/-- The largest `y` below `2^n * step` grid that satisfies a monotone test, by binary descent from bit `n`. -/
def bitSearch (p : Nat → Bool) : Nat → Nat → Nat
  | 0, y => y
  | n + 1, y => let z := y + 2 ^ n; bitSearch p n (if p z then z else y)

/-- R562: round(65,535 × (v ÷ 255)^2.2), exactly. -/
def gammaCurve (v : Nat) : Nat :=
  bitSearch (fun y => decide ((2 * y - 1) ^ 5 * 255 ^ 11 ≤ 32 * 65535 ^ 5 * v ^ 11)) 17 0

/-- R562: round(65,535 × 10^(−2.4 × (255 − v) ÷ 255)), 0 for 0, exactly. -/
def logCurve (v : Nat) : Nat :=
  if v = 0 then 0
  else bitSearch (fun y => decide ((2 * y - 1) ^ 425 * 10 ^ (4 * (255 - v)) ≤ (2 * 65535) ^ 425)) 17 0

/-- R562: the PWM value of a lamp value. -/
def pwmOf (curve master v : Nat) : Nat :=
  let cv := match curve with
    | 1 => gammaCurve v
    | 2 => logCurve v
    | _ => v * 257
  (cv * min master 0x8000 + 16384) / 32768

/-- R568: whether pattern `p` lights lamp (row, col) at step `n`. -/
def patternLit (p n row col : Nat) : Bool :=
  match p with
  | 0 => true
  | 1 => false
  | 2 => row == n % 16
  | 3 => col == n % 16
  | 4 => row * 16 + col == n % 256
  | 5 => (row + col + n) % 2 == 0
  | 6 => row == 0 || row == 15 || col == 0 || col == 15
  | _ => true

/-- A lamp's value in the front buffer or the pattern in force (R564, R568). -/
def Ctl.lampValue (c : Ctl) (row col : Nat) : Nat :=
  if c.get R.LIGHT_STAT_SOURCE = 0 then
    let i := row * 16 + col
    let w := if c.is R.LIGHT_STAT_FRONT then c.reg (R.LIGHT_FB1 (i / 4)) else c.reg (R.LIGHT_FB0 (i / 4))
    slice w (8 * (i % 4)) 8
  else
    let n := c.get R.LIGHT_FRAME_FRAMES / max (c.get R.LIGHT_PAT_STEP) 1
    if patternLit (c.get R.LIGHT_STAT_PAT_NOW) n row col then c.get R.LIGHT_PAT_LEVEL else 0

/-- The status field of a lamp (LAMP_STAT: 0 UNMEASURED, 1 PASS, 2 OPEN). -/
def lampFld (row col : Nat) : Fld := ⟨R.LIGHT_LAMP_STAT row, 2 * col, 2⟩

/-- R569: source code and pattern in force at a frame boundary. -/
def Ctl.patSource (c : Ctl) : Nat × Nat :=
  if c.light.recovery then (3, c.get R.LIGHT_PAT_RECOV_SEL)
  else if c.light.bootLeft ≠ 0 then (2, c.get R.LIGHT_PAT_BOOT_BOOT_SEL)
  else if c.is R.LIGHT_PAT_PAT_EN then (1, c.get R.LIGHT_PAT_PAT_SEL)
  else (0, 0)

/-- A frame boundary (R560, R565, R568, R569, R571, R573); `first` for the one at enable. -/
def Ctl.frameBoundary (c : Ctl) (first : Bool) : Ctl :=
  let c := if first then c else
    (c.put R.LIGHT_FRAME_FRAMES ((c.get R.LIGHT_FRAME_FRAMES + 1) % 2 ^ 32)).liMod
      (fun s => { s with bootLeft := s.bootLeft - 1 })
  let c := if c.is R.LIGHT_STAT_SWAP_PENDING && (!c.is R.LIGHT_CTRL_SWAP_MODE || !c.camSync) then
      ((c.flag R.LIGHT_STAT_FRONT (!c.is R.LIGHT_STAT_FRONT)).put R.LIGHT_STAT_SWAP_PENDING 0).irq pgLight 3
    else c
  let sp := c.patSource
  let c := if c.get R.LIGHT_STAT_SOURCE = sp.1 then c else c.irq pgLight 4
  let c := (c.put R.LIGHT_STAT_SOURCE sp.1).put R.LIGHT_STAT_PAT_NOW sp.2
  let diag := (c.is R.LIGHT_CTRL_DIAG_EN && c.get R.LIGHT_FRAME_FRAMES % 64 == 0) || (sp.1 != 0 && sp.2 == 7)
  c.liMod (fun s => { s with diagFrame := diag, shortSlot := s.shortDue, shortDue := false, next := 0 })

/-- Enabling and disabling the page (R563, R569, R572, R573). -/
def lightEnable (en : Bool) (c : Ctl) : Ctl :=
  let was := c.activePage pgLight
  let c := (c.flag (R.BLK_CTRL_ENABLE pgLight) en).setActive pgLight en
  if en && !was then
    let c := c.each (upto 16) (fun r c => c.setReg (R.LIGHT_LAMP_STAT r) 0)
    let c := (c.put R.LIGHT_FRAME_FRAMES 0).liMod (fun s =>
      { s with residual := [], bootLeft := c.get R.LIGHT_PAT_BOOT_BOOT_FRAMES, shortDue := true, next := 0 })
    c.frameBoundary true
  else c

/-- R571: a test of a diagnostic frame that is refused or cut. -/
def lampUnmeasured (row col : Nat) (c : Ctl) : Ctl := (c.put (lampFld row col) 0).inc R.LIGHT_DIAG_CNT_UNMEASURED

/-- R570: the lamp test. -/
def lampTest (row col : Nat) (sense : Bool) (c : Ctl) : Ctl :=
  if sense then c.put (lampFld row col) 1
  else if c.get (lampFld row col) = 2 then c
  else ((((c.put (lampFld row col) 2).irq pgLight 0).inc R.LIGHT_DIAG_CNT_OPEN_EVENTS).event pgLight 0x18 0xFF 0 0 0
    [row, col])

/-- The columns of one row slot: on-times, residuals, tests and statuses (R563, R570, R571). `camAt`: the clock at which
CAM_SYNC asserts; `trunc`: that clock where it ends the slot (R567). -/
def Ctl.lampColumn (row lampSense : Nat) (camAt : Option Nat) (trunc : Option Nat) (col : Nat) (c : Ctl) : Ctl :=
  let pwm := pwmOf (c.get R.LIGHT_CTRL_CURVE) (c.get R.LIGHT_CTRL_MASTER) (c.lampValue row col)
  let i := row * 16 + col
  let t := pwm * 6000 + tget c.light.residual i 0
  let diagMin := c.get R.LIGHT_STAT_SOURCE != 0 && c.get R.LIGHT_STAT_PAT_NOW == 7
  let on := if diagMin then 500 else t / 65536
  let c := if trunc.isSome || diagMin then c
           else c.liMod (fun s => { s with residual := tput s.residual i (t % 65536) })
  let test (c : Ctl) : Ctl := match trunc with
    | some k => if k ≤ 625 then c else lampTest row col (bitOf lampSense col) c
    | none => lampTest row col (bitOf lampSense col) c
  let dark : Bool := pwm == 0 && !c.is R.LIGHT_CTRL_DIAG_DARK
  let early := camAt.filter (fun k => decide (k < 625))
  let stretch : Bool := decide (on < 500) && c.light.diagFrame && !dark && !c.camSync
  let pulse := if ¬ stretch then on else match early with
    | some k => max on (k - 250)
    | none => 500
  let seen := match trunc with
    | some k => min pulse (k - 250)
    | none => pulse
  let c := c.liMod (fun s => { s with pulses := s.pulses.set col seen })
  if 500 ≤ on then test c
  else if ¬ c.light.diagFrame then c
  else if dark then c.put (lampFld row col) 0
  else if c.camSync ∨ early.isSome then lampUnmeasured row col c
  else test c

/-- R573: the slot of the short test: even pins 0 to 18 high in phase A, every level inverted in phase B, ROW_EN (20) low
in both; a phase that a truncated slot does not reach reads nothing back. -/
def shortSlot (padsA padsB : Nat) (trunc : Option Nat) (c : Ctl) : Ctl :=
  let reads (clock : Nat) : Bool := trunc.all (fun k => decide (clock < k))
  let badA := if reads 3000 then (padsA ^^^ 0x55555) % 2 ^ 21 else 0
  let badB := if reads 6125 then (padsB ^^^ 0xAAAAA) % 2 ^ 21 else 0
  let bad := badA ||| badB
  let c := if bad = 0 then c else (c.setBits R.LIGHT_SHORTS bad).irq pgLight 1
  (c.liMod (fun s => { s with shortSlot := false })).put R.LIGHT_CMD_SHORT_TEST 0

/-- R561: the stuck test, at clock 200 of a slot. -/
def stuckTest (stuck : Nat) (trunc : Option Nat) (c : Ctl) : Ctl :=
  let st := if trunc.all (fun k => decide (200 < k)) then stuck % 65536 else 0
  if st = 0 then c else (c.setBits R.LIGHT_COL_STUCK st).irq pgLight 2

/-- ROW_SLOT (R560, R561, R570, R571, R573): the next row slot, with COL_SENSE at the stuck test and at the lamp
test, the pads read back in the short test's two phases, and the clock at which CAM_SYNC asserts, if it does. -/
def rowSlot (stuck lampSense padsA padsB : Nat) (camAt : Option Nat) (c : Ctl) : Ctl :=
  if !c.activePage pgLight then c
  else
    let rise := camAt.isSome
    let camAt := if c.is R.LIGHT_CTRL_CAM_EN && !c.light.camFilt then camAt else none
    let trunc := if c.is R.LIGHT_CTRL_FRAME_SYNC then camAt else none
    let row := c.light.next % 16
    let c := (c.put R.LIGHT_STAT_ROW row).liMod (fun s => { s with
      pulses := List.replicate 16 0
      slotFrom := c.get R.LIGHT_STAT_ROW, slotEnd := trunc.getD 6250, slotTest := decide (row = 0) && s.shortSlot })
    let c := if row = 0 ∧ c.light.shortSlot then shortSlot padsA padsB trunc c
      else (stuckTest stuck trunc c).each (upto 16) (Ctl.lampColumn row lampSense camAt trunc)
    let c := if rise then c.liMod (fun s => { s with camFilt := true }) else c
    let c := c.flag R.LIGHT_STAT_CAM c.camSync
    if trunc.isSome ∨ row = 15 then c.frameBoundary false
    else c.liMod (fun s => { s with next := row + 1 })

/-- R560, R573: the pins of the array in clock `k` of the row slot run last, in the order of R573: ROW_SEL in bits 0 to 3,
COL_PWM in bits 4 to 19, ROW_EN in bit 20. -/
def Ctl.lampPins (c : Ctl) (k : Nat) : Nat :=
  let s := c.light
  if s.slotTest then (if s.slotEnd ≤ k then 0 else if k < 3125 then 0x55555 else 0xAAAAA)
  else
    let row := if k < 63 ∧ k < s.slotEnd then s.slotFrom else c.get R.LIGHT_STAT_ROW
    if s.slotEnd ≤ k then row
    else row + maskOf ((upto 16).filter (fun i => decide (250 ≤ k ∧ k < 250 + s.pulses.getD i 0))) * 2 ^ 4 + b2n (decide (125 ≤ k)) * 2 ^ 20

/-- SWAP (R565): SWAP_PENDING until a qualifying boundary; a second one has no further effect. -/
def swap (c : Ctl) : Ctl := c.put R.LIGHT_STAT_SWAP_PENDING 1

/-- PAT_CLEAR (R569): recovery ends; the engine changes source at the next frame boundary. -/
def patClear (c : Ctl) : Ctl := c.liMod (fun s => { s with recovery := false })

/-- SHORT_TEST (R573, R20): the short test runs in the next frame; reads 1 until done. While one runs the write has no
effect. -/
def shortTest (c : Ctl) : Ctl :=
  if c.is R.LIGHT_CMD_SHORT_TEST ∨ c.light.shortSlot then c
  else (c.put R.LIGHT_CMD_SHORT_TEST 1).liMod (fun s => { s with shortDue := true })

/-- CAM_SYNC_EDGE (R566, R567): the filtered CAM_SYNC changes; an asserting edge with FRAME_SYNC starts a frame. -/
def camSyncEdge (on : Bool) (c : Ctl) : Ctl :=
  if !c.is R.LIGHT_CTRL_CAM_EN then c.liMod (fun s => { s with camFilt := on })
  else
    let rise := on && !c.light.camFilt
    let c := (c.liMod (fun s => { s with camFilt := on })).flag R.LIGHT_STAT_CAM on
    if rise && c.activePage pgLight && c.is R.LIGHT_CTRL_FRAME_SYNC && decide (c.light.next ≠ 0) then
      c.frameBoundary false
    else c

/-- R569: a Function Level Reset or DL_Down with RECOV_EN starts recovery. -/
def Ctl.lightRecovery (c : Ctl) : Ctl :=
  if c.is R.LIGHT_PAT_RECOV_EN then c.liMod (fun s => { s with recovery := true }) else c

end Sys2Proof.Machine
end

