-- ==== Sys2Proof/Machine/Records.lean ====
section
/-! DEFINITION. The bytes of the recorder's records (R576, R577, R582, R591, R605) and the Ngabenor entries formed
over them (R619 to R621). -/

namespace Sys2Proof.Machine

/-- R576: record length in 32-byte units, for a body that starts at byte 24 and ends before the trailer. -/
def Rec.units (r : Rec) : Nat := (24 + r.body.length + 4 + 31) / 32

/-- R576, R577: the whole record. -/
def Rec.bytes (r : Rec) : List Byte :=
  let pre := leBytes 6 r.tally ++ leBytes 2 r.epoch ++ leBytes 8 r.wall ++ leBytes 1 r.typ ++ leBytes 1 r.flags ++
    leBytes 2 r.units ++ leBytes 4 r.seq ++ r.body
  let padded := pre ++ zeros (32 * r.units - 4 - pre.length)
  padded ++ leBytes 2 (crc16 padded) ++ [0#8, 0xA5#8]

/-- R591: one metric's 288 bytes. -/
def Hist.bytes (h : Hist) : List Byte :=
  (upto 64).flatMap (fun k => leBytes 4 (tget h.bins k 0)) ++ leInt 4 h.mn ++ leInt 4 h.mx ++ leInt 8 h.sum ++
  leBytes 8 h.count ++ leBytes 1 h.scale ++ zeros 7

/-- R591: bytes 24 to 27,803 of a summary with the given words at bytes 24 to 31 and tallies at 36 to 47. -/
def Scope.body (s : Scope) (w0 w1 opened closed : Nat) : List Byte :=
  leBytes 4 w0 ++ leBytes 4 w1 ++ leBytes 2 s.tag ++ leBytes 2 s.flags ++ leBytes 6 opened ++ leBytes 6 closed ++
  leBytes 4 (s.firstSeq.getD 0) ++ leBytes 4 s.lastSeq ++ leBytes 6 s.lastF ++ leBytes 6 s.lastS ++ zeros 4 ++
  (upto 32).flatMap (fun k => leBytes 2 (min (tget s.codes k 0) 0xFFFF)) ++ zeros 8 ++
  (upto 96).flatMap (fun m => (tget s.hists m {}).bytes) ++ zeros 12

/-- The argument `i` of an EVENT body (R582). -/
def Rec.arg (r : Rec) (i : Nat) : Nat := fieldAt r.body (16 + 4 * i) 4

/-- R583: an EVENT record marked NV. -/
def Rec.isNv (r : Rec) : Bool := r.typ == 1 && eventIsNv r.code ((upto 5).map r.arg)

/-! ### The Ngabenor record -/

/-- The 32 zero bytes of an anchor never written (R621). -/
def zero32 : List Byte := zeros 32

/-- Bytes of window object 0, the device certificate. -/
def deviceCert : List Byte := (upto (min (Config.certLen 0) 2048)).map (Config.certByte 0)

/-- R619, R620: an entry of `kind` over `subject`, appended to the chain; `lo`, `hi`, `seq` and the stamp are those of
the digested record. -/
def Ctl.ngForm (c : Ctl) (kind flags lo hi seq tally epoch wall : Nat) (subject : Option (List Byte)) (reformed : Bool) :
    Ctl :=
  let i := c.ident
  let idx := if kind = 1 then 0 else i.index + 1
  let prev := if kind = 1 then (if c.nv.ngHead.isEmpty then zero32 else c.nv.ngHead) else i.link
  let unclosed := kind == 1 && c.nv.ngSeq == 1
  let fl := flags % 16 + 32 * b2n reformed + 64 * b2n unclosed
  let paired := c.role == 2 || c.role == 3 || c.role == 4 || c.role == 5 || c.role == 6
  let peer := if paired then c.reg R.TWIN_PEER_UID_LO + c.reg R.TWIN_PEER_UID_HI * 2 ^ 32 else 0
  let head := [0x4E#8, 0x47#8, 0x42#8, 0x31#8] ++ leBytes 1 kind ++ leBytes 1 fl ++ leBytes 2 1 ++ leBytes 8 c.nv.uid ++
    leBytes 8 peer ++ leBytes 4 c.rc.buildNum ++ leBytes 4 idx ++ leBytes 6 tally ++ leBytes 2 epoch ++
    leBytes 8 wall ++ leBytes 4 lo ++ leBytes 4 hi ++ leBytes 4 seq ++ leBytes 4 i.fwVersion
  let subj := match subject with
    | some b => sha256 b
    | none => sha256 head
  let integ := if kind = 1 then (match c.nv.intCert with
    | some der => sha256 der
    | none => zero32) else zero32
  let body := head ++ subj ++ sha256 deviceCert ++ integ ++ prev
  let link := sha256 body
  let c := { c with ident := { i with forming := i.forming ++ [NgEntry.mk (body ++ link)], index := idx, link := link,
                                      build := c.rc.buildNum, opened := kind != 3 } }
  let c := (c.inc R.NG_CNT_ENTRIES).irq pgIdentity 0
  if kind = 1 ∨ kind = 3 then
    { c with nv := { c.nv with ngHead := link, ngSeq := if kind = 1 then 1 else 0 } }
  else c

/-- R619, R620: the entry over a summary. -/
def Ctl.ngDigest (c : Ctl) (kind : Nat) (r : Rec) (reformed : Bool) : Ctl :=
  c.ngForm kind (fieldAt r.body 10 2) (fieldAt r.body 0 4) (fieldAt r.body 4 4) r.seq r.tally r.epoch r.wall
    (some r.bytes) reformed

/-- R624: the device follows its partner's chain. -/
def Ctl.inShadow (c : Ctl) : Bool := decide (3 ≤ c.role) && decide (c.role ≤ 7)

/-- R624: an entry that the active forms is followed in shadow: its INDEX, its layer's own summary, the anchor it moves. -/
def Ctl.ngShadow (c : Ctl) (kind : Nat) (layer : Option Rec) : Ctl :=
  let idx := if kind = 1 then 0 else c.ident.index + 1
  { c with
    ident := { c.ident with index := idx, build := c.rc.buildNum, opened := kind != 3 }
    tw := { c.tw with
      shadow := c.tw.shadow ++ (layer.map (fun r => (idx, r))).toList
      anchorDue := if kind = 2 then c.tw.anchorDue else some (if kind = 1 then 1 else 0) } }

/-- R624: the chain goes on from the LINK of the last good record; what closed in shadow after it is formed again, and
INDEX and the anchor are the shadow's. -/
def takeChain (c : Ctl) : Ctl :=
  let c0 := if c.tw.link = [] then c else { c with ident := { c.ident with link := c.tw.link } }
  let c1 := match c.tw.anchor with
    | some (l, k) => { c0 with nv := { c0.nv with ngHead := l, ngSeq := k } }
    | none => c0
  let c2 := c.tw.shadow.foldl (fun c e => ({ c with ident := { c.ident with index := e.1 - 1 } } : Ctl).ngDigest 2 e.2 true) c1
  { c2 with
    ident := { c2.ident with index := c.ident.index }
    tw := { c2.tw with shadow := [], anchor := none, anchorDue := none } }

end Sys2Proof.Machine
end

