-- ==== Sys2Proof/Machine/Recorder.lean ====
section
/-! DEFINITION. The event recorder (chapter 15): SEQ and routing of records, scopes and summaries, freezing, the NVM
and its fallback ring, wear prediction; and the log stream (R488 to R490). -/

namespace Sys2Proof.Machine

/-! ### Staging and routing -/

/-- Bytes held in the staging buffer (R489). -/
def stagedBytes (l : List Rec) : Nat := l.foldl (fun n r => n + 32 * r.units) 0

/-- R489: a record is handed to the 256 KiB staging buffer, where metric 89 samples it; one that it cannot take is to be
dropped. -/
def Ctl.stage (r : Rec) (c : Ctl) : Ctl :=
  let used := stagedBytes c.rc.staged + 32 * r.units
  if used ≤ 262144 then
    ({ c with rc := { c.rc with staged := c.rc.staged ++ [r] } } : Ctl).metric 89 ((used / 1024 : Nat))
  else { c with rc := { c.rc with handed := c.rc.handed ++ [r] } }

/-- The type by which a waiting thermal-halt record is known; R576 gives it none, as it never enters the log stream. -/
def typHalt : Nat := 5

/-- The type by which a wear history that waits for its slot is known (R581, R596); it is no record of R576. -/
def typWear : Nat := 6

/-- R598: a record that takes no token: it is no EVENT, or BOOT or STORE_FAULT. -/
def Rec.tokenFree (r : Rec) : Bool := r.typ != 1 || r.code == 0x01 || r.code == 0x02

/-- R599, R307: a record as the fallback ring keeps it: with FALLBACK set where it has flags. -/
def Rec.kept (r : Rec) : List Byte := if r.typ = typHalt then r.body else { r with flags := r.flags ||| 4 }.bytes

/-- R596, R307: a thermal-halt record is programmed, the oldest sector of 42 erased first. -/
def NvSt.logHalt (v : NvSt) (b : List Byte) : NvSt :=
  { v with
    halts := (if 16 * 42 ≤ v.halts.length then v.halts.drop 42 else v.halts) ++ [b]
    haltPos := v.haltPos + 1
    erases := if v.haltPos % 42 = 0 then tmod v.erases (64 + v.haltPos / 42 % 16) 0 (· + 1) else v.erases }

/-- R599: a record's copy for the fallback ring, oldest entries kept. -/
def Ctl.toFallback (c : Ctl) (r : Rec) : Ctl :=
  if c.is R.REC_STAT_NVM_DEAD ∨ r.typ = typWear then c
  else if c.rc.fallback.length < 64 then
    let c := { c with rc := { c.rc with fallback := c.rc.fallback ++ [r.kept] } }
    c.put R.REC_STAT_FB_COUNT c.rc.fallback.length
  else ({ c with rc := { c.rc with fbLost := c.rc.fbLost + 1 } } : Ctl).inc R.REC_FB_LOST

/-- R598: an NV record takes its token; with the bucket empty it is suppressed, and `f` is not done. -/
def Ctl.withToken (r : Rec) (f : Ctl → Ctl) (c : Ctl) : Ctl :=
  let tok := c.get R.REC_NV_TOKENS
  if r.tokenFree then f c
  else if tok = 0 then (c.inc R.REC_NV_SUPPRESSED).irq pgRecorder 6
  else f (c.put R.REC_NV_TOKENS (tok - 1))

/-- R599: a store fault with its cause: sticky, raised once per reset, the mark tried once, waiting records diverted. -/
def Ctl.storeFault (c : Ctl) (cause : Nat) (markOk : Bool) : Ctl :=
  if c.rc.divert then c
  else
    -- the cause is the first one's, and the interrupt is raised once per reset
    let c := if c.is R.REC_STAT_STORE_FAULT then c
      else ((c.put R.REC_STAT_STORE_FAULT 1).put R.REC_STAT_STORE_CAUSE cause).irq pgRecorder 0
    -- R601: a fault that the boot check finds does not divert records; the NVM is tried again
    let c := { c with rc := { c.rc with divert := cause != 3 } }
    let c := if cause = 4 then c.put R.REC_STAT_NVM_DEAD 1 else c
    let c := (c.layerFlag 3)
    let c := if markOk && cause != 4 then { c with nv := { c.nv with mark := true } } else c
    let q := c.rc.nvQueue
    q.foldl (fun c r => c.withToken r (fun c => c.toFallback r)) { c with rc := { c.rc with nvQueue := [] } }

/-- R579, R581, R591: a record takes its SEQ, is counted in the layer, and goes to the log stream and the NVM. -/
def Ctl.commitRec (c : Ctl) (r0 : Rec) : Ctl :=
  let seq := c.get R.REC_SEQ_NEXT
  let fb := (r0.isNv || r0.typ == 4) && c.rc.divert && !c.is R.REC_STAT_NVM_DEAD &&
    decide (c.rc.fallback.length < 64) && (r0.tokenFree || c.get R.REC_NV_TOKENS != 0)
  let r := { r0 with seq := seq, flags := if fb then r0.flags ||| 4 else r0.flags }
  let c := c.put R.REC_SEQ_NEXT ((seq + 1) % 2 ^ 32)
  let c := if r.typ = 1 then
      c.scopesMod (fun s => { s with codes := tmod s.codes r.code 0 (· + 1), firstSeq := some (s.firstSeq.getD seq), lastSeq := seq })
    else c
  let c := if c.is R.GLOBAL_LOG_CFG_EN then c.stage r else c
  let c := if r.isNv || r.typ == 4 then
      (if c.rc.divert then c.withToken r (fun c => c.toFallback r)
       else { c with rc := { c.rc with nvQueue := c.rc.nvQueue ++ [r] } })
    else c
  -- R592, R619: a summary is chained when its emission holds the active role and a build is open
  if r.typ = 2 ∧ c.is R.REC_STAT_BUILD_OPEN then
    if r.flags / 2 % 2 = 0 then c.ngDigest 2 r false else if c.inShadow then c.ngShadow 2 (some r) else c
  else if r.typ = 3 then (if c.inShadow then c.ngShadow 3 none else c.ngDigest 3 r false).irq pgRecorder 2
  else c

/-- R579: records of one tick in ascending TYPE, then event code, then channel; those of different ticks stay in the
order in which they were recognised. -/
def recBefore (a b : Rec) : Bool :=
  if a.tally ≠ b.tally then false
  else if a.typ ≠ b.typ then decide (a.typ < b.typ)
  else if a.code ≠ b.code then decide (a.code < b.code)
  else decide (a.chan < b.chan)

/-- Insert after every record that does not come later. -/
def recInsert (r : Rec) : List Rec → List Rec
  | [] => [r]
  | x :: t => if recBefore r x then r :: x :: t else x :: recInsert r t

/-- A stable sort of the records of each tick. -/
def recSort (l : List Rec) : List Rec := l.foldl (fun acc r => recInsert r acc) []

/-- The LO and W words in force now (R586), as a scope takes them at its opening. -/
def Ctl.metricWords (c : Ctl) : Table Word := c.regs.filter (fun e => decide (R.REC_MLO 0 ≤ e.1 ∧ e.1 < R.REC_MLO 96))

/-- R586: a scope opened now. -/
def Ctl.openScope (c : Ctl) (opened : Nat) : Scope :=
  { isOpen := true, cfg := c.metricWords, tag := c.get R.HOPPER_LAYER_COUNT_LAYERS % 65536, opened := opened }

/-- R591: the LAYER_SUMMARY of the closing layer, formed at the end of its tick; the next scope opens. -/
def Ctl.layerSummary (c : Ctl) (lo hi : Nat) : Ctl :=
  let s := { c.rc.layer with
    layerLo := lo, layerHi := hi, closed := c.now, isOpen := false
    flags := c.rc.layer.flags ||| (if c.is R.REC_STAT_BUILD_OPEN then 32 else 0) }
  let b := c.rc.build
  let nb := if b.isOpen then
      { b with layers := b.layers + 1
               layerLo := if b.layers = 0 then lo else min b.layerLo lo
               layerHi := if b.layers = 0 then hi else max b.layerHi hi
               flags := b.flags ||| s.flags }
    else b
  let r : Rec := { tally := c.now, epoch := c.get R.GLOBAL_EPOCH_EPOCH, wall := c.wallNs, typ := 2,
                   flags := c.recFlags, body := s.body lo hi s.opened s.closed }
  let c := { c with rc := { c.rc with last := s, build := nb, closing := none } }
  let c := (c.commitRec r).irq pgRecorder 1
  { c with rc := { c.rc with layer := c.openScope ((c.now + 1) % 2 ^ 48) } }

/-- The end of a tick: its records take their SEQ (R579), and a layer whose close lies a tick back is summarised
(R39, R591). -/
def Ctl.endRecords (c : Ctl) : Ctl :=
  if !c.rc.booted then c
  else
    let old := c.rc.tick.filter (fun r => r.tally != c.now)
    let l := recSort (c.rc.tick.filter (fun r => r.tally == c.now))
    let c := { c with rc := { c.rc with tick := [] } }
    -- R579: what was recognised before the boot record was formed
    let c := (recSort old).foldl Ctl.commitRec c
    let c := (l.filter (fun r => r.typ == 1)).foldl Ctl.commitRec c
    let c := match c.rc.closing with
      | some (lo, hi, t) => if c.now = t then c else c.layerSummary lo hi
      | none => c
    (l.filter (fun r => r.typ != 1)).foldl Ctl.commitRec c

/-! ### The log stream (R488 to R490) -/

/-- The units of the log ring. -/
def Ctl.logUnits (c : Ctl) : Nat := 2 ^ c.get R.GLOBAL_LOG_CFG_SIZE_LOG2 / 32

/-- LOG_ENABLE (R488, R17): the write of LOG_CFG with EN 1. -/
def logEnable (v : Word) (c : Ctl) : Ctl :=
  let was := c.is R.GLOBAL_LOG_CFG_EN
  let c := c.put R.GLOBAL_LOG_CFG_WB_UNITS v.toNat
  if was then c
  else
    let sz := slice v.toNat 16 5
    let c := c.put R.GLOBAL_LOG_CFG_SIZE_LOG2 sz
    if 12 ≤ sz ∧ sz ≤ 30 then
      let c := (c.put R.GLOBAL_LOG_CFG_EN 1).put R.GLOBAL_LOG_WR_INDEX (c.get R.GLOBAL_LOG_RD_INDEX)
      { c with rc := { c.rc with wbUnits := 0, logDrops := 0 } }
    else c

/-- A write of LOG_CFG with EN 0: the stream stops; records are no longer staged (R581). -/
def logDisable (v : Word) (c : Ctl) : Ctl :=
  let c := ((c.put R.GLOBAL_LOG_CFG_WB_UNITS v.toNat).put R.GLOBAL_LOG_CFG_EN 0)
  let c := if c.is R.GLOBAL_LOG_CFG_EN then c else c.put R.GLOBAL_LOG_CFG_SIZE_LOG2 (slice v.toNat 16 5)
  { c with rc := { c.rc with staged := [], handed := [] } }

/-- Write bytes into a host ring of `size` bytes at `base`, from byte offset `o`, in parts at the ring end. -/
def Ctl.postRing (c : Ctl) (base size o : Nat) (l : List Byte) (ro : Bool) : Ctl :=
  let o := o % max size 1
  let k := size - o
  let c := c.send (.write (base + o) (l.take k) ro)
  if l.length ≤ k then c else c.send (.write base (l.drop k) ro)

/-- LOG_RECORD_WRITE (R489, R577): the oldest staged record goes to the ring when its free space holds it; its final
unit last and without Relaxed Ordering. -/
def logRecordWrite (c : Ctl) : Ctl :=
  match c.rc.staged with
  | [] => c
  | r :: rest =>
    let n := c.logUnits
    let wr := c.get R.GLOBAL_LOG_WR_INDEX
    let free := (c.get R.GLOBAL_LOG_RD_INDEX + 2 * n - wr % n - 1) % n
    if c.is R.GLOBAL_LOG_CFG_EN && decide (r.units ≤ free) then
      let base := c.reg R.GLOBAL_LOG_RING_LO + c.reg R.GLOBAL_LOG_RING_HI * 2 ^ 32
      let l := r.bytes
      let k := 32 * (r.units - 1)
      let c := if k = 0 then c else c.postRing base (32 * n) (32 * wr) (l.take k) c.host.relaxed
      let c := c.postRing base (32 * n) (32 * wr + k) (l.drop k) false
      let c := c.put R.GLOBAL_LOG_WR_INDEX ((wr + r.units) % n)
      let c := c.inc R.GLOBAL_LOG_CNT_RECORDS
      { c with rc := { c.rc with staged := rest, wbUnits := c.rc.wbUnits + r.units } }
    else c

/-- LOG_DROP (R489): a record the staging buffer cannot take is dropped and counted. -/
def logDrop (c : Ctl) : Ctl :=
  match c.rc.handed with
  | [] => c
  | _ :: rest =>
    let c := ({ c with rc := { c.rc with handed := rest, logDrops := c.rc.logDrops + 1 } } : Ctl).scopesMod (fun s =>
      { s with codes := tmod s.codes 0 0 (· + 1) })
    (c.inc R.GLOBAL_LOG_CNT_DROPPED).put R.GLOBAL_HP_EVT_LOG_DROP 1

/-- LOG_WRITEBACK (R490): after WB_UNITS units, or when the stream is idle with units written. -/
def logWriteback (c : Ctl) : Ctl :=
  let due := (c.get R.GLOBAL_LOG_CFG_WB_UNITS != 0 && decide (c.get R.GLOBAL_LOG_CFG_WB_UNITS ≤ c.rc.wbUnits)) ||
    c.rc.staged.isEmpty
  if c.is R.GLOBAL_LOG_CFG_EN && due && c.rc.wbUnits != 0 then
    let a := c.reg R.GLOBAL_LOG_WB_LO + c.reg R.GLOBAL_LOG_WB_HI * 2 ^ 32
    ({ c with rc := { c.rc with wbUnits := 0 } } : Ctl).postRecord a
      (leBytes 4 (c.get R.GLOBAL_LOG_WR_INDEX) ++ leBytes 4 c.rc.logDrops ++ leBytes 6 c.now ++ zeros 2)
  else c

/-! ### Builds and freezing -/

/-- The end of an open build (R588): the event, the BUILD_SUMMARY and a LIFETIME record. -/
def Ctl.closeBuild (c : Ctl) : Ctl :=
  if c.is R.REC_STAT_BUILD_OPEN then
    let b := { c.rc.build with closed := c.now, isOpen := false }
    let c := c.event pgRecorder 0x1B 0xFF 0 0 0 [c.rc.buildNum, b.layers]
    let c := { c with rc := { c.rc with build := b } }
    let c := c.record 3 0 0xFF (b.body b.layerLo b.layerHi b.opened b.closed)
    let c := c.record 4 0 0xFF (c.rc.life.body c.nv.bootCount c.rc.buildNum 0 c.now)
    c.put R.REC_STAT_BUILD_OPEN 0
  else c

/-- BUILD_OPEN (R588, R619). -/
def buildOpen (c : Ctl) : Ctl :=
  let c := c.closeBuild
  let c := { c with rc := { c.rc with buildNum := (c.rc.buildNum + 1) % 2 ^ 32 } }
  let c := c.event pgRecorder 0x1A 0xFF 0 0 0 [c.rc.buildNum]
  let c := ({ c with rc := { c.rc with build := c.openScope c.now } } : Ctl).put R.REC_STAT_BUILD_OPEN 1
  if c.inShadow then c.ngShadow 1 none
  else c.ngForm 1 0 0 0 0 c.now (c.get R.GLOBAL_EPOCH_EPOCH) c.wallNs none false

/-- BUILD_CLOSE (R588): no effect with no build open. -/
def buildClose (c : Ctl) : Ctl := c.closeBuild

/-- FREEZE (R589, R590): the freeze bit of the recorder page's BLK_CTRL written 1 or 0. -/
def freeze (on : Bool) (c : Ctl) : Ctl :=
  if on then
    (match c.rc.frozen with
     | some _ => c
     | none =>
       let f := Frozen.mk c.now [c.rc.layer, c.rc.last, c.rc.build, c.rc.life]
       ({ c with rc := { c.rc with frozen := some f } } : Ctl).put R.REC_STAT_FROZEN 1)
  else ({ c with rc := { c.rc with frozen := none } } : Ctl).put R.REC_STAT_FROZEN 0

/-- FREEZE_EXPIRED (R590): 200,000 ticks after it began. -/
def freezeExpired (c : Ctl) : Ctl :=
  match c.rc.frozen with
  | some f =>
    if 200000 ≤ c.sinceT f.at_ then
      (((freeze false c).put R.REC_STAT_FREEZE_EXPIRED 1).irq pgRecorder 3).event pgRecorder 0x19 0xFF 0 0 0 []
    else c
  | none => c

/-- REC_MW_WRITE (R587): a width of 0 is rejected. -/
def recMwWrite (m : Nat) (v : Word) (c : Ctl) : Ctl :=
  if v = 0 then (c.put R.REC_STAT_CFG_ERR 1).irq pgRecorder 5 else c.setReg (R.REC_MW m) v.toNat

/-! ### The store -/

/-- R596: the newest record enters the event log of 348 sectors of 32 records, which are erased in turn; a full log loses
its oldest sector. -/
def NvSt.logEvent (n : NvSt) (r : Rec) : NvSt :=
  let l := if 348 * 32 ≤ n.eventLog.length then n.eventLog.drop 32 else n.eventLog
  { n with eventLog := l ++ [r], topSeq := some (max r.seq (n.topSeq.getD 0))
           topEpoch := some (max r.epoch (n.topEpoch.getD 0))
           logSectors := if l.length % 32 = 0 then n.logSectors + 1 else n.logSectors
           erases := if l.length % 32 = 0 then tmod n.erases (164 + n.logSectors % 348) 0 (· + 1) else n.erases }

/-- R596, R601: the store-fault mark is erased. -/
def NvSt.clearMark (n : NvSt) : NvSt :=
  if n.mark then { n with mark := false, erases := tmod n.erases 80 0 (· + 1) } else n

/-- R596: the wear histories go to the slot of 6 sectors whose turn it is. -/
def NvSt.storeWear (n : NvSt) (h : Table (List Int)) : NvSt :=
  { n with
    wearHist := h
    wearStores := n.wearStores + 1
    erases := (upto 6).foldl (fun e k => tmod e (152 + 6 * (n.wearStores % 2) + k) 0 (· + 1)) n.erases }

/-- NV_WRITE (R597 to R599): the oldest record waiting for the NVM, with the outcome of its program. -/
def nvWrite (o : NvOutcome) (c : Ctl) : Ctl :=
  match c.rc.nvQueue with
  | [] => c
  | r :: rest =>
    let c := { c with rc := { c.rc with nvQueue := rest } }
    c.withToken r (fun c =>
      match o with
      | .ok =>
        if r.typ = typHalt then { c with nv := c.nv.logHalt r.body }
        else if r.typ = typWear then { c with nv := c.nv.storeWear c.rc.wearHist }
        else if r.typ = 4 then
          { c with nv := { c.nv with
              lifeSlots := (r :: c.nv.lifeSlots).take 5, lifeScope := c.rc.life, wearSaved := c.rc.wearAcc
              wearPos := c.sinceT c.rc.wearFrom
              topSeq := some (max r.seq (c.nv.topSeq.getD 0)), topEpoch := some (max r.epoch (c.nv.topEpoch.getD 0))
              lifeCount := c.nv.lifeCount + 1
              buildNo := fieldAt r.body 4 4
              erases := (upto 14).foldl (fun e k => tmod e (82 + 14 * (c.nv.lifeCount % 5) + k) 0 (· + 1)) c.nv.erases } }
        else
          let c := { c with nv := c.nv.logEvent r }
          -- R601: the STORE_FAULT event accepted erases the mark
          if r.code = 0x02 then { c with nv := c.nv.clearMark } else c
      | .programFailed mark => (c.toFallback r).storeFault 1 mark
      | .eraseFailed mark => (c.toFallback r).storeFault 2 mark)

/-- NV_TOKEN_REFILL (R598): one token per second, to 64. -/
def nvTokenRefill (c : Ctl) : Ctl := c.put R.REC_NV_TOKENS (min (c.get R.REC_NV_TOKENS + 1) 64)

/-- LIFETIME (R597): every LIFE_HOURS hours of tally. -/
def lifetime (c : Ctl) : Ctl :=
  let h := max (c.get R.REC_CTRL_LIFE_HOURS) 1
  if h * 72000000000 ≤ c.sinceT c.rc.lifeSince then
    ({ c with rc := { c.rc with lifeSince := c.now } } : Ctl).record 4 0 0xFF
      (c.rc.life.body c.nv.bootCount c.rc.buildNum 0 c.now)
  else c

/-! ### Wear prediction -/

/-- The value of a wear source over the interval (R602); none where the source is reserved. An interval without a
sample leaves the value free (log entry 8). -/
def Ctl.wearValue (c : Ctl) (src : Nat) : Option Int × Ctl :=
  let e := tget c.rc.wearAcc src (0, 0)
  let mean (scale : Int) : Option Int × Ctl :=
    if e.2 = 0 then
      let d := c.draw
      (some (sgn 32 d.1), d.2)
    else (some (satS 32 (roundDiv (e.1 * scale) e.2)), c)
  if src < 0x40 then mean 256
  else if src < 0x58 then mean 65536
  else if src < 0x70 then mean 1
  else if src < 0x72 then (some (satS 32 e.1), c)
  else if src = 0x72 then mean e.2
  else if src = 0x73 then
    (some (maxOf ((c.nv.erases.filter (fun x => decide (64 ≤ x.1))).map (·.2)) : Nat), c)
  else (none, c)

/-- R604: slope and fit of a history, oldest first, exact; n at least 2. -/
def wearFit (y : List Int) : Rat × Rat :=
  let n : Int := y.length
  let sx : Int := n * (n - 1) / 2
  let sxx : Int := (n - 1) * n * (2 * n - 1) / 6
  let sy := sumI y
  let sky := sumI (((upto y.length).zip y).map (fun e => (e.1 : Int) * e.2))
  let den := n * sxx - sx * sx
  let slope : Rat := if den = 0 then 0 else ((n * sky - sx * sy : Int) : Rat) / (den : Rat)
  (slope, ((sy : Rat) - slope * sx) / n + slope * (n - 1))

/-- R604: WEAR_LIFE in hours. -/
def wearLife (y : List Int) (limit : Int) (rising : Bool) : Nat :=
  if y.length < 4 then 0xFFFFFFFF
  else
    let sf := wearFit y
    let beyond := if rising then decide ((limit : Rat) < sf.2) else decide (sf.2 < limit)
    if beyond then 0
    else if sf.1 = 0 then 0xFFFFFFFF
    else if (if rising then decide (sf.1 < 0) else decide (0 < sf.1)) then 0xFFFFFFFF
    else min ((8 * (((limit : Rat) - sf.2) / sf.1)).floor.toNat) 0xFFFFFFFE

/-- One item at an interval end (R602 to R605). -/
def Ctl.wearItem (i : Nat) (c : Ctl) : Ctl :=
  if c.is (R.WEAR_CFG_EN i) then
    match c.wearValue (c.get (R.WEAR_CFG_SOURCE i)) with
    | (none, c) => c
    | (some v, c) =>
      let h := tget c.rc.wearHist i []
      let h := (if 32 ≤ h.length then h.drop 1 else h) ++ [v]
      let old := c.reg (R.WEAR_LIFE i)
      let life := wearLife h (sgn 32 (c.reg (R.WEAR_LIMIT i))) (c.is (R.WEAR_CFG_DIR i))
      -- R604 divides by 0 for a single point: its slope is free (log entry 8)
      let sd := if h.length < 2 then let d := c.draw; (sgn 32 d.1, d.2) else (narrowS 32 16 (wearFit h).1, c)
      let slope := sd.1
      let c := { sd.2 with rc := { sd.2.rc with wearHist := tput sd.2.rc.wearHist i h } }
      let c := ((c.put (R.WEAR_CFG_POINTS i) h.length).setReg (R.WEAR_SLOPE i) (code 32 slope)).setReg (R.WEAR_LIFE i) life
      let th := c.get R.REC_CTRL_WARN_DAYS * 24
      if th < old ∧ life ≤ th then
        (c.event pgRecorder 0x1D 0xFF 0 0 0 [i, life]).irq pgRecorder 4
      else c
  else c

/-- The wear histories of an interval's end wait for the store (R581). -/
def wearRecord (now : Nat) : Rec := { tally := now, epoch := 0, wall := 0, typ := typWear, flags := 0, body := [] }

/-- WEAR_INTERVAL_END (R603 to R605): 8 h of tally after the last. -/
def wearIntervalEnd (c : Ctl) : Ctl :=
  if c.is R.REC_CTRL_WEAR_EN && decide (8 * 72000000000 ≤ c.sinceT c.rc.wearFrom) then
    let c := c.each (upto 80) Ctl.wearItem
    let c := c.put R.REC_WEAR_CLK_INTERVALS ((c.get R.REC_WEAR_CLK_INTERVALS + 1) % 2 ^ 16)
    let body := (upto 80).flatMap (fun i =>
      leInt 4 (((tget c.rc.wearHist i []).getLast?).getD 0) ++ leBytes 4 (c.reg (R.WEAR_SLOPE i)) ++
      leBytes 4 (c.reg (R.WEAR_LIFE i))) ++ zeros 4
    let c := c.record 5 0 0xFF body
    { c with rc := { c.rc with
        wearFrom := c.now
        wearAcc := []
        nvQueue := if c.rc.divert then c.rc.nvQueue else c.rc.nvQueue ++ [wearRecord c.now] } }
  else c

/-- WEAR_CFG_WRITE (R603): a change of EN or SOURCE clears the item's history. -/
def wearCfgWrite (i : Nat) (v : Word) (c : Ctl) : Ctl :=
  let en := slice v.toNat 31 1
  let src := slice v.toNat 16 8
  let changed := c.get (R.WEAR_CFG_EN i) != en || c.get (R.WEAR_CFG_SOURCE i) != src
  let c := ((c.put (R.WEAR_CFG_EN i) en).put (R.WEAR_CFG_DIR i) (slice v.toNat 30 1)).put (R.WEAR_CFG_SOURCE i) src
  if changed then
    ({ c with rc := { c.rc with wearHist := tdel c.rc.wearHist i } } : Ctl).put (R.WEAR_CFG_POINTS i) 0
  else c

end Sys2Proof.Machine
end

