-- ==== Sys2Proof/Machine/HostPort.lean ====
section
/-! DEFINITION. The host port (R472 to R498): BAR2, the loader, resets of the port, configuration requests, PTM and the
wall time, and the SMBus sideband. -/

namespace Sys2Proof.Machine

def Ctl.modHost (c : Ctl) (f : HostSt → HostSt) : Ctl := { c with host := f c.host }

/-! ### BAR2 (R476 to R479) -/

/-- R476. -/
def Ctl.bar2Base (c : Ctl) : Nat := c.get R.GLOBAL_BAR2_WIN_LO_BASE * 2 ^ 20 + c.get R.GLOBAL_BAR2_WIN_HI_BASE * 2 ^ 32

/-- R478: why a byte of device DRAM is refused: 1 beyond installed DRAM, 2 millrace not in SERVICE; 0 not refused. -/
def Ctl.bar2Refusal (c : Ctl) (a : Nat) : Nat :=
  match c.mapAddr a with
  | none => 1
  | some (m, _) => if c.inService m then 0 else 2

/-- R478: a refused or poisoned request is recorded. -/
def bar2Err (write : Bool) (cause off : Nat) (c : Ctl) : Ctl :=
  (c.setReg R.GLOBAL_BAR2_ERR (2 ^ 31 + b2n write * 2 ^ 30 + cause * 2 ^ 28 + off % 2 ^ 28)).put R.GLOBAL_HP_EVT_BAR2_ERR 1

/-- R476, R478: the first part of a request at `a`, its bytes given by `l`, that is refused; a request of the window is cut at
granules, and a granule is refused or served whole. A part without an enabled byte is none. -/
def Ctl.bar2FirstBad (c : Ctl) (a : Nat) (l : List (Option Byte)) : Option Nat :=
  ((granuleParts a l).find? (fun p => p.2.any (·.isSome) && c.bar2Refusal p.1 != 0)).map (·.1)

/-- BAR2_WRITE (R476, R478): received; the parts that are not refused wait to become visible. A byte that is not enabled is
none. -/
def bar2Write (off : Nat) (l : List (Option Byte)) (s : State) : State :=
  let c := s.ctl
  let a := c.bar2Base + off
  { s with
    ctl := match c.bar2FirstBad a l with
      | some b => bar2Err true (c.bar2Refusal b) (off + (b - a)) c
      | none => c
    mem := { s.mem with
      bar2 := s.mem.bar2 ++ (granuleParts a l).filter (fun p => p.2.any (·.isSome) && c.bar2Refusal p.1 == 0) } }

/-- R446, R478: the reads that its millraces are asked for to answer a BAR2 read: of each segment what is not refused. -/
def bar2Ask (r : Bar2Read) (c : Ctl) : Ctl :=
  (c.segments r.addr r.en.length).foldl (fun c g =>
    let n := match firstBad (fun b => c.bar2Refusal b == 0) g.2 g.1 with
      | some b => b - g.1
      | none => g.2
    if n = 0 then c else queueRead (.bar2 r.id) 2 3 g.1 n c) c

/-- The bytes of a BAR2 read that its millraces have served, each with poison; none where no millrace served it. -/
def Ctl.bar2Got (c : Ctl) (r : Bar2Read) : List (Option (Byte × Bool)) :=
  let l := c.servedFor (.bar2 r.id)
  (upto r.en.length).map (fun i =>
    (l.find? (fun p => decide (p.addr ≤ r.addr + i) && decide (r.addr + i < p.addr + p.len))).bind (fun p =>
      (p.data.getD [])[r.addr + i - p.addr]?))

/-- R478, R479: a BAR2 read returns its enabled bytes: 0xFF where refused or poisoned; poison is reported through AER too. -/
def bar2Answer (r : Bar2Read) (c : Ctl) : Ctl :=
  let got := (((upto r.en.length).zip (c.bar2Got r)).zip r.en).filterMap (fun e => if e.2 then some e.1 else none)
  let c1 := match got.find? (fun e => e.2.isNone) with
    | some (i, _) =>
      let k := c.bar2Refusal (r.addr + i)
      bar2Err false (if k = 0 then 2 else k) (r.off + i) c
    | none => c
  let lost := got.find? (fun e => e.2.any (·.2))
  let c2 := match lost with
    | some (i, _) => (bar2Err false 3 (r.off + i) c1).modHost (fun h => { h with aer := h.aer.or (some (r.off, r.en.length)) })
    | none => c1
  takeServed (.bar2 r.id) (c2.send (.completion (got.map (fun e => (e.2.map (·.1)).getD 0xFF)) lost.isSome))

/-- The BAR2 reads all of whose parts have been served are answered, in the order of their arrival. -/
def bar2Collect (s : State) : State :=
  let waits := fun (r : Bar2Read) => !r.asked || (upto 2).any (fun m => (s.ctl.mcSt m).reads.any (fun q => q.asker == .bar2 r.id))
  { s with
    ctl := (s.mem.bar2Reads.filter (fun r => !waits r)).foldl (fun c r => bar2Answer r c) s.ctl
    mem := { s.mem with bar2Reads := s.mem.bar2Reads.filter waits } }

/-- The BAR2 reads before which every write is visible are asked of their millraces, which serve them when they may. -/
def bar2Ready (s : State) : State :=
  let ready := fun (r : Bar2Read) => !r.asked && r.left == 0
  let s1 : State := { s with
    ctl := (s.mem.bar2Reads.filter ready).foldl (fun c r => bar2Ask r c) s.ctl
    mem := { s.mem with bar2Reads := s.mem.bar2Reads.map (fun r => if ready r then { r with asked := true } else r) } }
  bar2Collect ((upto 2).foldl (fun s m => serveBulk m s) s1)

/-- BAR2_READ (R479): asked of DRAM once every BAR2 write before it is visible. -/
def bar2Read (off : Nat) (en : List Bool) (s : State) : State :=
  let m := s.mem
  bar2Ready { s with mem := { m with
    bar2Reads := m.bar2Reads ++ [{ off := off, addr := s.ctl.bar2Base + off, en := en, left := m.bar2.length, id := m.bar2Next }]
    bar2Next := m.bar2Next + 1 } }

/-- The oldest BAR2 write has been accepted or lost: one less that the reads after it wait for. -/
def bar2Passed (rest : List (Nat × List (Option Byte))) (s : State) : State :=
  bar2Ready { s with
    ctl := bar2Visible s.ctl
    mem := { s.mem with
      bar2 := rest
      bar2Full := false
      bar2Reads := s.mem.bar2Reads.map (fun r => { r with left := r.left - 1 }) } }

/-- R451, R455, R479: the oldest BAR2 write is accepted into its write queue, where it is visible; one whose millrace has left
SERVICE is refused (R478). -/
def hostWrite (s : State) : State :=
  match s.mem.bar2 with
  | [] => s
  | (a, l) :: rest =>
    let c := s.ctl
    if ¬ c.installed a then
      let why := c.bar2Refusal a
      bar2Passed rest { s with ctl := bar2Err true (if why = 0 then 2 else why) ((a + 2 ^ 64 - c.bar2Base) % 2 ^ 28) c }
    else if s.roomFor a then bar2Passed rest (acceptWrite false a (enabledIn a l) s)
    else if s.mem.bar2Full then s
    else { s with ctl := c.countFull (c.millOf a), mem := { s.mem with bar2Full := true } }

/-- DRAM_WRITE: of the host through BAR2, or of a writer of the device. -/
def dramWriteOf (host : Bool) (s : State) : State := if host then hostWrite s else dramWrite s

/-- BAR2_WIN_WRITE (R477, R22): the write of BAR2_WIN_LO commits the base. -/
def bar2WinWrite (w : Word) (c : Ctl) : Ctl :=
  let c1 := match tget? c.host.stagedHi R.GLOBAL_BAR2_WIN_HI with
    | some h => c.put R.GLOBAL_BAR2_WIN_HI_BASE h.toNat
    | none => c
  (c1.put R.GLOBAL_BAR2_WIN_LO_BASE (slice w.toNat 20 12)).modHost (fun h => { h with
    stagedHi := tdel h.stagedHi R.GLOBAL_BAR2_WIN_HI })

/-! ### The loader (R482 to R487, R56, R99, R100) -/

def Ctl.ldrN (c : Ctl) : Nat := 2 ^ c.get R.GLOBAL_LDR_CFG_SIZE_LOG2
def Ctl.ldrRing (c : Ctl) : Nat := c.reg R.GLOBAL_LDR_RING_LO + c.reg R.GLOBAL_LDR_RING_HI * 2 ^ 32
def Ctl.ldrCpl (c : Ctl) : Nat := c.reg R.GLOBAL_LDR_CPL_LO + c.reg R.GLOBAL_LDR_CPL_HI * 2 ^ 32

/-- R485: the next descriptors are asked for in one read, at most 8, no longer than the Max Read Request Size and within
4 KiB of the host, `out` reads being outstanding. -/
def ldrFetch (out : Nat) (c : Ctl) : Ctl :=
  let n := c.ldrN
  let room := min c.host.mrrs (4096 - (c.ldrRing + 32 * c.host.ldrRead) % 4096) / 32
  let tail := c.get R.GLOBAL_LDR_PTRS_TAIL
  let left := (tail + n - c.host.ldrRead % n) % n
  if ¬ c.is R.GLOBAL_LDR_CFG_EN ∨ c.host.ldrAsk ≠ 0 ∨ left = 0 ∨ 64 ≤ out then c
  else
    let k := min (min (min 8 room) left) (n - c.host.ldrRead)
    (c.send (.read (c.ldrRing + 32 * c.host.ldrRead) (32 * k))).modHost (fun h => { h with
      ldrAsk := k
      ldrRead := (h.ldrRead + k) % n })

/-- The bytes of the next read of a copy (R485): no longer than the Max Read Request Size, within 4 KiB of the host. -/
def readSize (c : Ctl) (d : LdrDesc) : Nat :=
  let a := d.src + d.asked
  min (min (d.len - d.asked) c.host.mrrs) (4096 - a % 4096)

/-- The reads of a copy that are outstanding (R485): reads begin anew at every 4 KiB of the host. -/
def readsOut (m : Nat) (d : LdrDesc) : Nat :=
  let m := max m 1
  let p := min d.len (4096 - d.src % 4096)
  let up := fun (x : Nat) => if x ≤ p then (x + m - 1) / m else (p + m - 1) / m + (x - p + m - 1) / m
  let dn := fun (x : Nat) => if x < p then x / m else (p + m - 1) / m + (x - p) / m
  if d.asked ≤ d.written then 0 else up d.asked - dn d.written

/-- R472, R485: the loader's reads that are outstanding. -/
def Ctl.ldrOut (c : Ctl) : Nat :=
  ((c.host.ldr.filter (fun d => d.started)).map (readsOut c.host.mrrs)).sum + (if c.host.ldrAsk = 0 then 0 else 1)

/-- R485, R487: start descriptors, at most 4 at once, and ask for their bytes, at most 64 reads outstanding. -/
def ldrPump : Nat → Ctl → Ctl
  | 0, c => c
  | fuel + 1, c =>
    let live := c.host.ldr.filter (fun d => d.started)
    match c.host.ldr.findIdx? (fun d => d.started && d.status.isNone && decide (d.asked < d.len)) with
    | some i =>
      if 64 ≤ c.ldrOut then c
      else match c.host.ldr[i]? with
        | none => c
        | some d =>
          let k := readSize c d
          ldrPump fuel ((c.send (.read (d.src + d.asked) k)).modHost (fun h => { h with
            ldr := h.ldr.set i { d with asked := d.asked + k } }))
    | none =>
      match c.host.ldr.findIdx? (fun d => !d.started && d.status.isNone) with
      | some i =>
        if 4 ≤ (live.filter (fun d => d.status.isNone)).length ∨ c.is R.GLOBAL_LDR_STAT_HALTED then c
        else match c.host.ldr[i]? with
          | none => c
          | some d =>
            ldrPump fuel (c.modHost (fun h => { h with
              ldr := h.ldr.set i { d with
                started := true
                status := if d.len = 0 then some 0 else none } }))
      | none => c

/-- BUSY follows. -/
def ldrBusy (c : Ctl) : Ctl := c.flag R.GLOBAL_LDR_STAT_BUSY (c.host.ldr.any (fun d => d.started))

def ldrGo (c : Ctl) : Ctl := ldrBusy (ldrPump 72 (ldrFetch c.ldrOut c))

/-- LDR_ENABLE (R484, R17): a write of LDR_CFG. -/
def ldrEnable (w : Word) (c : Ctl) : Ctl :=
  let en := bitOf w.toNat 31
  let sz := slice w.toNat 0 4
  if c.is R.GLOBAL_LDR_CFG_EN then
    if en then c
    else ldrBusy ((c.put R.GLOBAL_LDR_CFG_EN 0).modHost (fun h => { h with ldr := [], ldrAsk := 0, ldrAbort := 0 }))
  else
    let c1 := c.put R.GLOBAL_LDR_CFG_SIZE_LOG2 sz
    if en ∧ 4 ≤ sz ∧ sz ≤ 12 then
      ((c1.put R.GLOBAL_LDR_CFG_EN 1).setReg R.GLOBAL_LDR_PTRS 0).modHost (fun h => { h with
        ldr := [], ldrRead := 0, ldrAsk := 0, ldrAbort := 0, ldrPhase := 1 })
    else c1

/-- LDR_DB (R485): descriptors up to the new tail may be read. -/
def ldrDb (w : Word) (c : Ctl) : Ctl :=
  if c.is R.GLOBAL_LDR_CFG_EN then ldrGo (c.put R.GLOBAL_LDR_PTRS_TAIL (slice w.toNat 0 12 % c.ldrN)) else c

/-- R482: a descriptor of 32 bytes. -/
def ldrParse (b : List Byte) : LdrDesc :=
  { src := fieldAt b 0 8, dst := fieldAt b 8 5, flags := fieldAt b 14 2, len := fieldAt b 16 4, dbWord := fieldAt b 20 4
    cookie := fieldAt b 24 4 }

/-- R486: a malformed descriptor. -/
def ldrBad (b : List Byte) : Bool :=
  fieldAt b 13 1 != 0 || decide (4 ≤ fieldAt b 14 2) || fieldAt b 28 4 != 0 || decide (0x40000000 < fieldAt b 16 4)

/-- LDR_DESCRIPTOR_RETURN (R486): the descriptors asked for return. -/
def ldrReturn (data : List Byte) (c : Ctl) : Ctl :=
  let k := c.host.ldrAsk
  let ds := (upto k).map (fun i =>
    let b := (data.drop (32 * i)).take 32
    { ldrParse b with status := if i < c.host.ldrAbort then some 5 else if ldrBad b then some 4 else none })
  ldrGo (c.modHost (fun h => { h with
    ldr := h.ldr ++ ds
    ldrAsk := 0
    ldrAbort := h.ldrAbort - k }))

/-- LDR_DATA_RETURN (R485, R486): host data for descriptor `i` of those in hand; `err` 1 read error, 2 poisoned. -/
def ldrData (i : Nat) (data : List Byte) (err : Nat) (c : Ctl) : Ctl :=
  match c.host.ldr[i]? with
  | none => c
  | some d =>
    if ¬ d.started ∨ d.status.isSome then c
    else
      let put := fun (d : LdrDesc) (c : Ctl) => ldrGo (c.modHost (fun h => { h with ldr := h.ldr.set i d }))
      if err ≠ 0 then put { d with status := some err } c
      else
        let l := data.take (d.asked - d.written)
        let a := d.dst + d.written
        let good := match firstBad (fun b => c.installed b) l.length a with
          | some b => b - a
          | none => l.length
        let w := d.written + good
        let st := if good < l.length then some 3 else if w = d.len then some 0 else none
        put { d with written := w, status := st } (c.wantWrite a (l.take good))

/-- R56: a byte range still has writes that are not visible. -/
def State.unseen (s : State) (a n : Nat) : Bool :=
  (s.ctl.memOut ++ s.mem.waiting).any (fun w => decide (w.1 < a + n) && decide (a < w.1 + w.2.length))

/-- LDR_COMPLETION (R56, R99, R100, R483 to R487): the oldest descriptor is answered. -/
def ldrCompletion (ring : Word → Ctl → Ctl) (s : State) : State :=
  let c := s.ctl
  match c.host.ldr with
  | [] => s
  | d :: rest =>
    match d.status with
    | none => s
    | some st =>
      if s.unseen d.dst d.written ∨ (c.is R.GLOBAL_LDR_STAT_HALTED ∧ st = 4 ∧ ¬ d.started) then s
      else
        let n := c.ldrN
        let head := c.get R.GLOBAL_LDR_PTRS_HEAD
        let c1 := c.postRecord (c.ldrCpl + 16 * head) (leBytes 4 d.cookie ++ leBytes 6 c.now ++ leBytes 1 st ++
          leBytes 1 c.host.ldrPhase ++ leBytes 4 d.written)
        let c2 := (c1.put R.GLOBAL_LDR_PTRS_HEAD ((head + 1) % n)).modHost (fun h => { h with
          ldr := rest
          ldrPhase := if head + 1 = n then 1 - h.ldrPhase else h.ldrPhase })
        let c3 := if st ≠ 0 then ((c2.put R.GLOBAL_LDR_STAT_HALTED 1).put R.GLOBAL_LDR_STAT_LAST_ERR st).put R.GLOBAL_HP_EVT_LDR_HALT 1
          else if bitOf d.flags 1 then ring (BitVec.ofNat 32 d.dbWord) c2 else c2
        let c4 := if bitOf d.flags 0 then c3.pulseSource 2 else c3
        { s with ctl := ldrGo c4 }

/-- LDR_RESUME (R487). -/
def ldrResume (c : Ctl) : Ctl := ldrGo (c.put R.GLOBAL_LDR_STAT_HALTED 0)

/-- LDR_ABORT (R487): what has not started completes with STATUS 5. -/
def ldrAbort (c : Ctl) : Ctl :=
  let n := c.ldrN
  let left := (c.get R.GLOBAL_LDR_PTRS_TAIL + n - c.host.ldrRead % n) % n
  let c1 := (c.put R.GLOBAL_LDR_STAT_HALTED 1).modHost (fun h => { h with
    ldr := h.ldr.map (fun d => if d.started then d else { d with status := some 5 })
    ldrAbort := h.ldrAsk + left })
  ldrGo c1

/-! ### Resets of the port, configuration (R473, R475) -/

/-- R475: registers of the Global page that a reset of the port keeps. -/
def portKeeps (a : Nat) : Bool := a == 0x20C || a == 0x2A0 || a == 0x2A4 || a == 0x288 || a == 0x28C || a == 0x298

/-- R475: the host port is reset. -/
def portReset (c : Ctl) : Ctl :=
  let gone := fun (a : Nat) => (decide (0x200 ≤ a ∧ a < 0x300) && !portKeeps a) || decide (0xC00 ≤ a ∧ a < 0xE08)
  let c1 := { c with regs := c.regs.filter (fun e => !gone e.1)
                     rc := { c.rc with staged := [], handed := [] } }
  (((c1.modHost (fun h => { h with
      captured := h.captured.filter (fun e => !gone e.1)
      stagedHi := h.stagedHi.filter (fun e => !gone e.1)
      ldr := [], ldrRead := 0, ldrAsk := 0, ldrAbort := 0, ldrPhase := 1, mrrs := 512
      mps := 128, tag10 := false, d3 := false, bar0 := 0, bar2 := 0, aer := none, cfgOpen := false, msixOn := false, fnMask := false, msixPend := 0, msgs := []
      ptmBusy := none, ptmFails := 0, ptmSynced := false, relaxed := true })).put R.GLOBAL_HP_STAT_PTM_EN 0)).lightRecovery

/-- FLR (R475). -/
def flr (c : Ctl) : Ctl := (portReset c).modHost (fun h => { h with flrWait := h.flrWait + 1 })

/-- LINK_DOWN (R475). -/
def linkDown (c : Ctl) : Ctl := (portReset c).modHost (fun h => { h with downWait := h.downWait + 1 })

/-- R475: host software has re-enabled the function: the resets since the last time are counted. -/
def portEnabled (c : Ctl) : Ctl :=
  let c1 := c.modHost (fun h => { h with cfgOpen := true, flrWait := 0, downWait := 0 })
  let c2 := if c.host.flrWait = 0 then c1 else (c1.add R.GLOBAL_HP_STAT_FLRS c.host.flrWait).put R.GLOBAL_HP_EVT_FLR 1
  if c.host.downWait = 0 then c2
  else (c2.add R.GLOBAL_HP_STAT_LINK_DOWNS c.host.downWait).put R.GLOBAL_HP_EVT_LINK_DOWN 1

/-- What a configuration read returns (R472, R474, R478, R519), at the places of the fields that PCI Express gives them (log entry
193). -/
def Ctl.cfgRead (c : Ctl) (r : CfgReg) : List Byte :=
  let h := c.host
  let log := fun (m : Nat) => (upto 6).foldl (fun k i => if 128 * 2 ^ i ≤ m then i else k) 0
  match r with
  | .deviceId => leBytes 2 (if c.half then 0x1200 else 0x2400)
  | .command => leBytes 2 (b2n h.cfgOpen * 6)
  | .classCode => leBytes 3 0x118000
  | .bar k => leBytes 4 (match k with
    | 0 => h.bar0 % 2 ^ 32 / 2 ^ 24 * 2 ^ 24 + 4
    | 1 => h.bar0 / 2 ^ 32
    | 2 => h.bar2 % 2 ^ 32 / 2 ^ 28 * 2 ^ 28 + 12
    | 3 => h.bar2 / 2 ^ 32
    | _ => 0)
  | .deviceControl => leBytes 2 (b2n h.relaxed * 2 ^ 4 + log h.mps * 2 ^ 5 + log h.mrrs * 2 ^ 12)
  | .deviceControl2 => leBytes 2 (b2n h.tag10 * 2 ^ 12)
  | .powerControl => leBytes 2 (if h.d3 then 3 else 0)
  | .msixControl => leBytes 2 (31 + b2n h.fnMask * 2 ^ 14 + b2n h.msixOn * 2 ^ 15)
  | .ptmControl => leBytes 4 (b2n (c.is R.GLOBAL_HP_STAT_PTM_EN))
  | .aerStatus => leBytes 4 (if h.aer.isSome then 2 ^ 12 else 0)
  | .aerHeader => match h.aer with
    | some (off, n) => leBytes 8 (h.bar2 + off) ++ leBytes 2 n
    | none => zeros 10

/-- CONFIG_REQUEST (R473): retry status until verification ends; then a read, or a write of what the rules name. -/
def configRequest (q : CfgReq) (c : Ctl) : Ctl :=
  if ¬ c.is R.GLOBAL_START_STAT_BOOT_DONE then c.send .retry
  else
    let c1 := match q with
      | .read _ => c
      | .enable => portEnabled c
      | .relaxed on => c.modHost (fun h => { h with relaxed := on })
      | .mrrs n => c.modHost (fun h => { h with mrrs := n })
      | .mps n => c.modHost (fun h => { h with mps := n })
      | .tag10 on => c.modHost (fun h => { h with tag10 := on })
      | .d3 on => c.modHost (fun h => { h with d3 := on })
      | .bar two a => c.modHost (fun h => if two then { h with bar2 := a } else { h with bar0 := a })
      | .aerClear => c.modHost (fun h => { h with aer := none })
      | .ptm on => (c.flag R.GLOBAL_HP_STAT_PTM_EN on).modHost (fun h => { h with ptmSynced := h.ptmSynced && on })
    c1.send (.completion (match q with
      | .read r => c.cfgRead r
      | _ => []) false)

/-! ### PTM and the wall time (R493 to R495, R594, R712) -/

/-- R594: a step of the wall time by `d` units of 25 ps; a step back starts a new epoch. -/
def wallStep (d : Int) (c : Ctl) : Ctl :=
  let old := c.wallNs
  let w := (((c.host.wall40 : Int) + d) % ((40 * 2 ^ 64 : Nat) : Int)).toNat
  let c1 := c.modHost (fun h => { h with wall40 := w, slew := 0 })
  if d < 0 then
    let e := c.get R.GLOBAL_EPOCH_EPOCH
    (c1.put R.GLOBAL_EPOCH_EPOCH ((e + 1) % 65536)).event pgGlobal 0x03 0xFF 0 0 0 [e, old % 2 ^ 32, old / 2 ^ 32]
  else c1

/-- R495: a dialogue has failed. -/
def ptmFailed (c : Ctl) : Ctl :=
  let k := c.host.ptmFails + 1
  let c1 := c.modHost (fun h => { h with ptmBusy := none, ptmFails := k })
  if k = 3 then ((c1.put R.GLOBAL_PTM_STAT_FAIL 1).put R.GLOBAL_HP_EVT_PTM_FAIL 1).modHost (fun h => { h with slew := 0 })
  else c1

/-- PTM_DIALOGUE (R493): a request goes out in spindle clock `clk` of the tick; one still open has failed. -/
def ptmDialogue (clk : Nat) (c : Ctl) : Ctl :=
  let period := msTicks (max (c.get R.GLOBAL_PTM_CTRL_PERIOD_MS) 1)
  if ¬ c.is R.GLOBAL_PTM_CTRL_EN ∨ ¬ c.is R.GLOBAL_HP_STAT_PTM_EN ∨ c.sinceT c.host.ptmLast < period then c
  else
    let c0 := if c.host.ptmBusy.isSome then ptmFailed c else c
    let t1 := c.now * 60 + clk
    (c0.send (.ptm t1)).modHost (fun h => { h with ptmBusy := some t1, ptmLast := c.now })

/-- PTM_RESPONSE (R493, R494): master time `t2`, propagation delay `p` (ns), arrival in clock `clk`; `ok`: the dialogue
succeeded. -/
def ptmResponse (t2 p clk : Nat) (ok : Bool) (c : Ctl) : Ctl :=
  match c.host.ptmBusy with
  | none => c
  | some t1 =>
    if ¬ ok then ptmFailed c
    else
      let t4 := c.now * 60 + clk
      let link : Int := roundRat ((mkRat (((t4 : Int) - t1) * 5) 6 - (p : Nat)) / 2)
      let master : Int := (t2 : Int) + p + link
      let own : Rat := mkRat (c.host.wall40 : Int) 40 + mkRat (clk * 5 : Nat) 6
      let d : Rat := (master : Rat) - own
      let units := roundRat (d * 40)
      let lim : Rat := ((c.get R.GLOBAL_PTM_CTRL_STEP_US * 1000 : Nat) : Rat)
      let c1 := ((c.put R.GLOBAL_PTM_STAT_FAIL 0).put R.GLOBAL_PTM_STAT_DELAY_NS (clamp link 0 65535).toNat).modHost
        (fun h => { h with ptmBusy := none, ptmFails := 0, ptmSynced := true })
      let c2 := if ¬ c.host.ptmSynced then wallStep units c1
        else if d ≤ lim ∧ -lim ≤ d then c1.modHost (fun h => { h with slew := units })
        else wallStep units c1
      c2.put R.GLOBAL_PTM_STAT_VALID 1

/-- WALL_SET (R495, R22): the write of WALL_SET_LO commits the value. -/
def wallSet (w : Word) (c : Ctl) : Ctl :=
  let hi := (tget c.host.stagedHi R.GLOBAL_WALL_SET_HI 0).toNat
  let ns := w.toNat + hi * 2 ^ 32
  (wallStep ((ns * 40 : Nat) - (c.host.wall40 : Int)) c).modHost (fun h => { h with
    stagedHi := tdel h.stagedHi R.GLOBAL_WALL_SET_HI })

/-- R494, R712: the wall time at a tick edge. -/
def wallTick (c : Ctl) : Ctl :=
  let k : Int := if 0 < c.host.slew then 1 else if c.host.slew < 0 then -1 else 0
  c.modHost (fun h => { h with
    wall40 := (((h.wall40 : Int) + 2000 + k) % ((40 * 2 ^ 64 : Nat) : Int)).toNat
    slew := h.slew - k })

/-! ### SMBus (R496, R497) -/

def smbAnswer (l : List Byte) (c : Ctl) : Ctl := c.modHost (fun h => { h with smbResp := l })

def smbChipId (c : Ctl) : Ctl := smbAnswer (leBytes 4 c.chipId ++ leBytes 8 c.nv.uid) c
/-- `armed`: R652. -/
def smbHealth (armed : Bool) (c : Ctl) : Ctl :=
  smbAnswer (leBytes 4 (c.reg R.TWIN_HEALTH) ++ leBytes 1 c.role ++ leBytes 1 (c.get R.GLOBAL_PWR_STAT_STATE) ++
    leBytes 1 (b2n armed) ++ [0#8]) c
def smbDiodes (c : Ctl) : Ctl := smbAnswer ((upto 8).flatMap (fun d => leBytes 2 (c.get (R.DT_TEMP_TEMP d)))) c
def smbRails (c : Ctl) : Ctl := smbAnswer ((upto 7).flatMap (fun r => leBytes 2 (c.get (R.RAIL_MV_MV r)))) c
def smbTally (c : Ctl) : Ctl := smbAnswer (leBytes 6 c.now) c
def smbLink (c : Ctl) : Ctl :=
  smbAnswer (leBytes 1 c.host.pcieState ++ leBytes 1 (c.get R.GLOBAL_HP_STAT_WIDTH) ++ leBytes 1 (c.get R.GLOBAL_HP_STAT_RATE) ++
    leBytes 1 (c.get R.GLOBAL_HP_STAT_LINK_DOWNS)) c
def smbHalts (c : Ctl) : Ctl :=
  smbAnswer (leBytes 4 (c.reg R.LEDGER_NV_HALTS) ++ leBytes 1 (b2n (c.is R.REC_STAT_STORE_FAULT)) ++
    leBytes 4 (c.reg R.HOPPER_LAYER_COUNT) ++ [0#8]) c
def smbUnknown (c : Ctl) : Ctl := smbAnswer [] c

/-- R496: SMB_ALERT_N is asserted. -/
def Ctl.smbAlert (c : Ctl) : Bool := c.is R.DT_STAT_WARN || c.role == 8 || c.role == 7

/-- SMB_ALERT_RESPONSE (R496): the device answers with its address while it asserts the alert. -/
def smbAlertResponse (c : Ctl) : Ctl :=
  if c.smbAlert then smbAnswer (leBytes 1 (2 * (0x58 + c.host.smbAddr % 4))) c else smbAnswer [] c

end Sys2Proof.Machine
end

