-- ==== Sys2Proof/Machine/Identity.lean ====
section
/-! DEFINITION. The identity engine (chapter 16): certificates, flash, security version, signing and the Ngabenor
ring. -/

namespace Sys2Proof.Machine

/-- Change the identity engine's state. -/
def Ctl.idMod (c : Ctl) (f : IdSt → IdSt) : Ctl := { c with ident := f c.ident }

/-- The 2,048 bytes of the staging object, window object 3. -/
def Ctl.stagingObj (c : Ctl) : List Byte := (upto 512).flatMap (fun k => leBytes 4 (c.reg (R.ID_WIN k)))

/-- The length a DER object states for itself, 0 where it is no SEQUENCE (log entry 21). -/
def derLen (l : List Byte) : Nat :=
  let b (i : Nat) : Nat := (l.getD i 0).toNat
  if b 0 ≠ 0x30 then 0
  else if b 1 < 0x80 then 2 + b 1
  else if b 1 = 0x81 then 3 + b 2
  else if b 1 = 0x82 then 4 + 256 * b 2 + b 3
  else 4096

/-- A refused install (R611). -/
def Ctl.intErr (c : Ctl) (cause : Nat) : Ctl := (c.put R.ID_STAT_INT_ERR cause).irq pgIdentity 3

/-- INT_INSTALL (R611, R20). -/
def intInstall (c : Ctl) : Ctl :=
  if c.ident.busy ≠ 0 then c
  else
    let obj := c.stagingObj
    let n := derLen obj
    let der := obj.take n
    if n = 0 ∨ 2048 < n then c.intErr 3
    else if c.is R.REC_STAT_BUILD_OPEN then c.intErr 4
    else if !Config.parsesAsCert der then c.intErr 1
    else if !Config.namesDeviceKey der then c.intErr 2
    else ((c.put R.ID_CMD_INT_INSTALL 1).put R.ID_STAT_BUSY 1).idMod (fun s => { s with busy := 1, cmdObj := obj })

/-- INT_ERASE (R611). -/
def intErase (c : Ctl) : Ctl :=
  if c.ident.busy ≠ 0 then c
  else if c.is R.REC_STAT_BUILD_OPEN then c.intErr 4
  else ((c.put R.ID_CMD_INT_ERASE 1).put R.ID_STAT_BUSY 1).idMod (fun s => { s with busy := 4 })

/-- COMMIT_SVN (R618): the stored security version never decreases. -/
def commitSvn (c : Ctl) : Ctl :=
  let v := max c.nv.svn c.ident.runSvn
  ({ c with nv := { c.nv with svn := v } } : Ctl).put R.ID_STAT_STORED_SVN v

/-- The slot (0 A, 1 B) of a flash address below 16 MiB (R612). -/
def flashSlot (a : Nat) : Nat := a / 0x800000

/-- R617: whether a flash command at the address is refused. -/
def Ctl.flashRefused (c : Ctl) (a : Nat) : Bool :=
  decide (0x1000000 ≤ a) || (!c.is R.ID_STAT_RECOVERY && flashSlot a == c.get R.ID_STAT_SLOT)

/-- FLASH_ERASE (R617). -/
def flashErase (c : Ctl) : Ctl :=
  let a := c.reg R.ID_FLASH_ADDR
  if c.ident.busy ≠ 0 then c
  else if c.flashRefused a then c.irq pgIdentity 5
  else ((c.put R.ID_FLASH_CMD_ERASE 1).put R.ID_STAT_BUSY 1).idMod (fun s => { s with busy := 2, cmdAddr := a })

/-- FLASH_PROGRAM (R617). -/
def flashProgram (c : Ctl) : Ctl :=
  let a := c.reg R.ID_FLASH_ADDR
  if c.ident.busy ≠ 0 then c
  else if c.flashRefused a then c.irq pgIdentity 5
  else ((c.put R.ID_FLASH_CMD_PROGRAM 1).put R.ID_STAT_BUSY 1).idMod (fun s => { s with busy := 3, cmdAddr := a, cmdObj := c.stagingObj })

/-- A 2 KiB flash page of erased bytes. -/
def erasedPage : List Byte := List.replicate 2048 0xFF

/-- FLASH_DONE (R611, R617): the command in progress completes, with the address and the staging object it was given. -/
def flashDone (c : Ctl) : Ctl :=
  let a := c.ident.cmdAddr
  let k := c.ident.busy
  let obj := c.ident.cmdObj
  let c := (c.put R.ID_STAT_BUSY 0).idMod (fun s => { s with busy := 0, cmdObj := [] })
  match k with
  | 1 =>
    -- R611: the slot not in use takes it and becomes current
    (({ c with nv := { c.nv with
        intCert := some (obj.take (derLen obj)), intOther := c.nv.intCert, intSlot := 1 - c.nv.intSlot } } : Ctl).put R.ID_CMD_INT_INSTALL 0).put
      R.ID_STAT_INT_PRESENT 1 |>.irq pgIdentity 2
  | 2 =>
    let base := a / 65536 * 32
    let fl := (upto 32).foldl (fun f i => tput f (base + i) erasedPage) c.nv.flash
    let c := ({ c with nv := { c.nv with flash := fl } } : Ctl).put R.ID_FLASH_CMD_ERASE 0
    (c.put (if flashSlot a = 0 then R.ID_STAT_BAD_A else R.ID_STAT_BAD_B) 0).irq pgIdentity 4
  | 3 =>
    (({ c with nv := { c.nv with flash := tput c.nv.flash (a / 2048) obj } } : Ctl).put
      R.ID_FLASH_CMD_PROGRAM 0).irq pgIdentity 4
  | 4 =>
    ((({ c with nv := { c.nv with intCert := none } } : Ctl).put R.ID_CMD_INT_ERASE 0).put
      R.ID_STAT_INT_PRESENT 0).irq pgIdentity 2
  | _ => c

/-- R623: a full queue of 16 drops its oldest entry from the ring. -/
def Ctl.ngQueue (c : Ctl) (e : NgEntry) : Ctl :=
  let q := c.ident.queue
  if 16 ≤ q.length then
    ((c.idMod (fun s => { s with queue := q.drop 1 ++ [e], lost := true })).inc R.NG_CNT_LOST).irq pgIdentity 1
  else c.idMod (fun s => { s with queue := q ++ [e] })

/-- NG_ENTRY_SIGNED (R620, R622, R623): the oldest entry formed is signed, shown in window object 4 and queued for the
ring while NG_CTRL.EN is 1. -/
def ngEntrySigned (c : Ctl) : Ctl :=
  match c.ident.forming with
  | [] => c
  | e :: rest =>
    let b := e.bytes ++ leBytes 64 (Config.signature e.bytes) ++ zeros 32
    let c := c.idMod (fun s => { s with forming := rest, newest := b })
    if c.is R.NG_CTRL_EN then c.ngQueue ⟨b⟩ else c

/-- NG_RING_WRITE (R623): the oldest queued entry goes to the ring when its free space holds 10 units. -/
def ngRingWrite (c : Ctl) : Ctl :=
  match c.ident.queue with
  | [] => c
  | e :: rest =>
    let n := 2 ^ c.get R.NG_CTRL_SIZE_LOG2 / 32
    let wr := c.get R.NG_WR_INDEX % n
    let free := (c.get R.NG_RD_INDEX + 2 * n - wr - 1) % n
    if c.is R.NG_CTRL_EN && decide (10 ≤ free) then
      let base := c.reg R.NG_BASE_LO + c.get R.NG_BASE_HI_BASE * 2 ^ 32
      let b := if c.ident.lost then e.bytes.take 5 ++ leBytes 1 (fieldAt e.bytes 5 1 ||| 16) ++ e.bytes.drop 6
               else e.bytes
      let k := 32 * (n - wr)
      let c := if 320 ≤ k then c.wantWrite (base + 32 * wr) b
               else (c.wantWrite (base + 32 * wr) (b.take k)).wantWrite base (b.drop k)
      (c.put R.NG_WR_INDEX ((wr + 10) % n)).idMod (fun s => { s with queue := rest, lost := false })
    else c

/-- NG_ENABLE (R623 after R488, R17): the write of NG_CTRL. -/
def ngEnable (v : Word) (c : Ctl) : Ctl :=
  let en := bitOf v.toNat 31
  let sz := slice v.toNat 0 5
  if c.is R.NG_CTRL_EN then
    if en then c else (c.put R.NG_CTRL_EN 0).idMod (fun s => { s with queue := [] })
  else
    let c := c.put R.NG_CTRL_SIZE_LOG2 sz
    if en ∧ 12 ≤ sz ∧ sz ≤ 30 then (c.put R.NG_CTRL_EN 1).put R.NG_WR_INDEX (c.get R.NG_RD_INDEX) else c

/-- A word of the identity window (ID_WIN_SEL.OBJECT). -/
def Ctl.winWord (c : Ctl) (k : Nat) : Nat :=
  match c.get R.ID_WIN_SEL_OBJECT with
  | 0 => fieldAt deviceCert (4 * k) 4
  | 1 => fieldAt ((upto (min (Config.certLen 1) 2048)).map (Config.certByte 1)) (4 * k) 4
  | 2 => fieldAt (c.nv.intCert.getD []) (4 * k) 4
  | 3 => c.reg (R.ID_WIN k)
  | 4 => fieldAt c.ident.newest (4 * k) 4
  | _ => 0

/-- ID_WIN_SEL.LEN: the length of the object shown. -/
def Ctl.winLen (c : Ctl) : Nat :=
  match c.get R.ID_WIN_SEL_OBJECT with
  | 0 => min (Config.certLen 0) 2048
  | 1 => min (Config.certLen 1) 2048
  | 2 => (c.nv.intCert.getD []).length
  | 3 => min (derLen c.stagingObj) 2048
  | 4 => c.ident.newest.length
  | _ => 0

end Sys2Proof.Machine
end

