-- ==== Sys2Proof/Machine/Axes.lean ====
section
/-! DEFINITION. General inputs, encoders and the axis controller (chapter 13). -/

namespace Sys2Proof.Machine

/-- An axis, and its change. -/
def Ctl.axSt (c : Ctl) (a : Nat) : AxSt := tget c.ax a {}
def Ctl.axMod (c : Ctl) (a : Nat) (f : AxSt → AxSt) : Ctl := { c with ax := tmod c.ax a {} f }

/-- State codes of the axis (chapter 13, States and commands). -/
def axDisabled : Nat := 0
def axIdle : Nat := 1
def axPosition : Nat := 2
def axJog : Nat := 3
def axStopping : Nat := 4
def axHoming : Nat := 5
def axGeared : Nat := 6

/-- An event of R559 on axis `a`. -/
def Ctl.axEvt (c : Ctl) (a k : Nat) : Ctl := (c.setBits (R.AX_EVT a) (2 ^ k)).irq pgAxes k

/-- The state code of an axis. -/
def Ctl.axState (c : Ctl) (a : Nat) : Nat := c.get (R.AX_STAT_STATE a)
def Ctl.axGo (c : Ctl) (a st : Nat) : Ctl := c.put (R.AX_STAT_STATE a) st

/-! ### Inputs and encoders -/

/-- GPI_CHANGE (R522, R523): the synchronised, inverted state of input `i` has held `on` for FILTER clocks. -/
def gpiChange (i : Nat) (on : Bool) (c : Ctl) : Ctl :=
  (c.put ⟨R.GPI_STATE, i, 1⟩ (b2n on)).put ⟨R.GPI_RAW, i, 1⟩ (b2n on)

/-- Position of filtered (A, B) in the quadrature sequence, A leading B (R525). -/
def quadPos (a b : Bool) : Nat :=
  match a, b with
  | false, false => 0
  | true, false => 1
  | true, true => 2
  | false, true => 3

/-- Change an encoder. -/
def Ctl.encMod (c : Ctl) (e : Nat) (f : EncSt → EncSt) : Ctl := { c with enc := tmod c.enc e {} f }

/-- ENCODER_EDGE (R525, R526): the filtered inputs of encoder `e` become (a, b). -/
def encoderEdge (e : Nat) (a b : Bool) (c : Ctl) : Ctl :=
  let s := tget c.enc e {}
  let d := (quadPos a b + 4 - quadPos s.a s.b) % 4
  let c := c.encMod e (fun s => { s with a := a, b := b })
  if !c.is (R.ENC_CFG_EN e) then c
  else if d = 0 then c
  else if d = 2 then (c.inc (R.ENC_STAT_ERRORS e)).irq pgAxes 9
  else
    let plus := (d == 1) != c.is (R.ENC_CFG_INVERT e)
    let n := c.reg (R.ENC_COUNT e)
    c.setReg (R.ENC_COUNT e) (if plus then n + 1 else n + 2 ^ 32 - 1)

/-- ENC_Z_EDGE (R527). -/
def encZEdge (e : Nat) (c : Ctl) : Ctl :=
  ((c.setReg (R.ENC_ZLATCH e) (c.reg (R.ENC_COUNT e))).put (R.ENC_STAT_Z_SEEN e) 1).encMod e
    (fun s => { s with z := true })

/-- ENC_SET (R526). -/
def encSet (e : Nat) (v : Word) (c : Ctl) : Ctl :=
  if (upto 8).any (fun a => c.axState a == axGeared && c.is (R.AX_CTRL_ENC_EN a) && c.get (R.AX_CTRL_ENC_SEL a) == e) then
    c.put (R.ENC_STAT_SET_REFUSED e) 1
  else c.setReg (R.ENC_COUNT e) v.toNat

/-! ### Stops, enabling, bridge -/

/-- AX_POS: p rounded (R529). -/
def AxSt.pos (s : AxSt) : Int := roundShift s.p 32

/-- Publish AX_POS, AX_VEL and MOVING. -/
def Ctl.axShow (c : Ctl) (a : Nat) : Ctl :=
  let s := c.axSt a
  ((c.setReg (R.AX_POS a) (code 32 s.pos)).setReg (R.AX_VEL a)
    (code 32 (roundDiv (s.v * 2000000) ((2 ^ 48 : Nat))))).flag (R.AX_STAT_MOVING a)
    (s.v != 0 || c.is (R.AX_STAT_WAKING a))

/-- R547: the immediate stop; the axis is IDLE. -/
def Ctl.axFreeze (c : Ctl) (a : Nat) (lost : Bool) : Ctl :=
  let s := c.axSt a
  let startv : Int := roundDiv (c.reg (R.AX_STARTV a) * (2 ^ 48 : Nat)) 2000000
  let fast := lost || decide (startv < s.v.natAbs)
  let was := c.axState a
  let c := c.axMod a (fun s => { s with
    v := 0, a := 0, quick := false, homeFail := false, rest := if was = axIdle then s.rest else 0 })
  let c := ((c.axGo a axIdle).put (R.AX_STAT_HOME_PHASE a) 0).put (R.AX_STAT_REVERSING a) 0
  let c := if fast then (c.put (R.AX_STAT_POS_LOST a) 1).axEvt a 5 else c
  c.axShow a

/-- R538: a DISABLED axis becomes IDLE. -/
def axisOn (a : Nat) (c : Ctl) : Ctl :=
  if c.axState a = axDisabled then
    ((c.axGo a axIdle).put (R.AX_STAT_BRIDGE a) 2).axMod a (fun s => { s with rest := 0, wake := 0, still := false })
  else c

/-- R538, R547: an axis stops at once and is DISABLED. -/
def axisOff (a : Nat) (c : Ctl) : Ctl :=
  if c.axState a = axDisabled then c
  else (((c.axFreeze a false).axGo a axDisabled).put (R.AX_STAT_BRIDGE a) 0).put (R.AX_STAT_WAKING a) 0

/-- AXIS_ENABLE (R524, R538, R542): the write of AX_CTRL.ENABLE. -/
def axisEnable (a : Nat) (on : Bool) (c : Ctl) : Ctl :=
  if on then
    if !c.activePage pgAxes then c else axisOn a (c.put (R.AX_CTRL_ENABLE a) 1)
  else axisOff a (c.put (R.AX_CTRL_ENABLE a) 0)

/-- BLK_ENABLE of the axes page (R524): the axes are DISABLED while it is 0; AX_CTRL.ENABLE keeps what was written (R17),
and an axis that it enables is IDLE once the page is enabled again (log entry 134). -/
def axesEnable (en : Bool) (c : Ctl) : Ctl :=
  let c := (c.flag (R.BLK_CTRL_ENABLE pgAxes) en).setActive pgAxes en
  c.each (upto 8) (fun a c => if en then c.when (c.is (R.AX_CTRL_ENABLE a)) (axisOn a) else axisOff a c)

/-- R543: motion starts; from OFF or SHORT the bridge first drives for WAKE_MS. -/
def Ctl.axWake (c : Ctl) (a : Nat) : Ctl :=
  let c := c.axMod a (fun s => { s with rest := 0, still := false })
  if c.get (R.AX_STAT_BRIDGE a) = 2 then c
  else
    let n := max (c.get (R.AX_CUR_WAKE_MS a) * 2000) 1
    ((c.put (R.AX_STAT_BRIDGE a) 2).put (R.AX_STAT_WAKING a) 1).axMod a (fun s => { s with wake := n })

/-! ### Command checks (R537) -/

/-- A refused command. -/
def Ctl.axRefuse (c : Ctl) (a cause : Nat) : Ctl := (c.put (R.AX_STAT_CMD_ERR a) cause).axEvt a 8

/-- A general input's filtered state. -/
def Ctl.gpi (c : Ctl) (i : Nat) : Bool := c.bit R.GPI_STATE i

/-- R548: the positive and the negative limit are active. -/
def Ctl.limPos (c : Ctl) (a : Nat) : Bool := c.is (R.AX_INPUTS_LIM_POS_EN a) && c.gpi (c.get (R.AX_INPUTS_LIM_POS a))
def Ctl.limNeg (c : Ctl) (a : Nat) : Bool := c.is (R.AX_INPUTS_LIM_NEG_EN a) && c.gpi (c.get (R.AX_INPUTS_LIM_NEG a))

/-- The limit on the side of `d` is active. -/
def Ctl.limTowards (c : Ctl) (a : Nat) (d : Int) : Bool :=
  (decide (0 < d) && c.limPos a) || (decide (d < 0) && c.limNeg a)

/-- R528: programmed values in the internal formats. -/
def velFmt (v : Int) : Int := roundDiv (v * (2 ^ 32 : Nat)) 2000000 * (2 ^ 16 : Nat)
def accFmt (v : Nat) : Nat := (roundDiv (v * (2 ^ 48 : Nat)) 4000000000000).toNat * 2 ^ 16
def jerkFmt (v : Nat) : Nat := (roundDiv (v * 1024 * (2 ^ 64 : Nat)) 8000000000000000000).toNat

/-- R531: latch the parameters at acceptance. -/
def Ctl.axLatch (c : Ctl) (a : Nat) : Ctl :=
  let vm := min (c.reg (R.AX_VMAX a)) 2000000
  let vj := clamp (sgn 32 (c.reg (R.AX_VJOG a))) (-(vm : Int)) vm
  c.axMod a (fun s => { s with
    vmax := (velFmt vm).toNat
    accel := accFmt (max (c.reg (R.AX_ACCEL a)) 1)
    decel := accFmt (max (c.reg (R.AX_DECEL a)) 1)
    qdecel := accFmt (max (c.reg (R.AX_QDECEL a)) 1)
    jerk := jerkFmt (c.reg (R.AX_JERK a))
    vjog := velFmt vj
    progV := vm
    progA := max (c.reg (R.AX_ACCEL a)) 1
    progD := max (c.reg (R.AX_DECEL a)) 1
    progJ := c.reg (R.AX_JERK a)
    due := none
    quick := false })

/-- The least whole number whose square is at least `q`. -/
def ceilSqrt (q : Rat) : Nat :=
  let m := isqrt (ceilNat q)
  if q ≤ (m * m : Nat) then m else m + 1

/-- R533: the updates that a move of `d` microsteps from rest to rest takes; none where the spec gives no time. -/
def AxSt.moveTime (s : AxSt) (d : Rat) : Option Nat :=
  let v : Rat := mkRat s.progV 2000000
  let a : Rat := mkRat s.progA 4000000000000
  let b : Rat := mkRat s.progD 4000000000000
  if d ≤ 0 ∨ v = 0 then none
  else if s.progJ = 0 then
    if v * v / (2 * a) + v * v / (2 * b) ≤ d then some (ceilNat (d / v + v / (2 * a) + v / (2 * b)))
    else some (ceilSqrt (2 * d * (a + b) / (a * b)))
  else if s.progA = s.progD then
    some (ceilNat ((jumpPieces d v a (mkRat (s.progJ * 1024) 8000000000000000000)).map (·.t)).sum)
  else none

/-- R533: a move from rest has so many updates to take. -/
def AxSt.plan (s : AxSt) : AxSt :=
  { s with due := if s.v = 0 ∧ s.a = 0 then s.moveTime (mkRat (s.target - s.p).natAbs (2 ^ 32)) else none }

/-- R535: a command accepted requires a reversal; one in progress goes on. -/
def Ctl.axReverse (c : Ctl) (a : Nat) (yes : Bool) : Ctl := if yes then c.put (R.AX_STAT_REVERSING a) 1 else c

/-- Units of the planner: microsteps and updates, exact. -/
def qp (i : Int) : Rat := mkRat i (2 ^ 32)
def qv (i : Int) : Rat := mkRat i (2 ^ 48)
def qa (i : Int) : Rat := mkRat i (2 ^ 64)

/-- Distance to come to rest from speed `v` and acceleration `a` along the motion, at deceleration `d` and jerk `j`
(R536's formulas, continued to a running acceleration; log entry 15). -/
def stopDist (v a d j : Rat) : Rat :=
  if j = 0 then v * v / (2 * d) - v / 2
  else
    let from0 (v : Rat) : Rat :=
      let t := if d * d / j ≤ v then v / d + d / j else 2 * rsqrt (v / j)
      v * t / 2
    if 0 < a then
      let t := a / j
      from0 (v + a * a / (2 * j)) + v * t + a * t * t / 3
    else
      let t := -a / j
      let v0 := v + a * a / (2 * j)
      from0 v0 - (v0 * t - j * t * t * t / 6)

/-- R534: the target lies ahead and the axis can come to rest by it. -/
def AxSt.reaches (s : AxSt) : Bool :=
  let d := s.target - s.p
  let sg : Int := if s.v < 0 then -1 else 1
  if s.v = 0 then true
  else decide (0 ≤ d * sg) && decide (stopDist (qv (s.v * sg)) (if s.jerk = 0 then 0 else qa (s.a * sg)) (qa s.decel)
    (qa s.jerk) ≤ qp (d * sg) + mkRat 1 1024)

/-- A move to absolute target `x` is accepted (R532 to R536). -/
def Ctl.axMoveTo (c : Ctl) (a : Nat) (x : Int) : Ctl :=
  let c := (c.axLatch a).axMod a (fun s => { s with target := x * (2 ^ 32 : Nat) }.plan)
  ((c.axGo a axPosition).axReverse a (!(c.axSt a).reaches)).axWake a |>.axShow a

/-- The present TARGET register as a number. -/
def Ctl.axTargetReg (c : Ctl) (a : Nat) : Int := sgn 32 (c.reg (R.AX_TARGET a))

/-- MOVE_ABS. -/
def moveAbs (a : Nat) (c : Ctl) : Ctl :=
  let st := c.axState a
  let x := c.axTargetReg a
  if st = axDisabled then c.axRefuse a 1
  else if c.is (R.AX_STAT_POS_LOST a) then c.axRefuse a 2
  else if c.limTowards a (x - (c.axSt a).pos) then c.axRefuse a 3
  else if st = axHoming ∨ st = axGeared then c.axRefuse a 7
  else c.axMoveTo a x

/-- MOVE_REL. -/
def moveRel (a : Nat) (c : Ctl) : Ctl :=
  let st := c.axState a
  let base := if st = axPosition then roundShift (c.axSt a).target 32 else (c.axSt a).pos
  let x := base + c.axTargetReg a
  if st = axDisabled then c.axRefuse a 1
  else if c.limTowards a (x - (c.axSt a).pos) then c.axRefuse a 3
  else if st = axHoming ∨ st = axGeared then c.axRefuse a 7
  else if x < -(2 ^ 31 : Nat) ∨ (2 ^ 31 - 1 : Nat) < x then c.axRefuse a 8
  else c.axMoveTo a x

/-- VELOCITY. -/
def velocity (a : Nat) (c : Ctl) : Ctl :=
  let st := c.axState a
  if st = axDisabled then c.axRefuse a 1
  else if c.limTowards a (sgn 32 (c.reg (R.AX_VJOG a))) then c.axRefuse a 3
  else if st = axHoming ∨ st = axGeared then c.axRefuse a 7
  else
    let c := c.axLatch a
    ((c.axGo a axJog).axReverse a (decide ((c.axSt a).v * (c.axSt a).vjog < 0))).axWake a |>.axShow a

/-- R538: a stop at DECEL or QDECEL from any moving state; homing ends (R556), gearing ends. -/
def Ctl.axStop (c : Ctl) (a : Nat) (quick : Bool) : Ctl :=
  let st := c.axState a
  if st = axPosition ∨ st = axJog ∨ st = axHoming ∨ st = axGeared ∨ st = axStopping then
    ((c.axMod a (fun s => { s with quick := quick, homeFail := false })).axGo a axStopping).put
      (R.AX_STAT_HOME_PHASE a) 0
  else c

/-- STOP. -/
def stop (a : Nat) (c : Ctl) : Ctl :=
  if c.axState a = axDisabled then c.axRefuse a 1 else (c.axLatch a).axStop a false

/-- QSTOP (R547). -/
def qstop (a : Nat) (c : Ctl) : Ctl :=
  if c.axState a = axDisabled then c.axRefuse a 1 else c.axFreeze a false

/-- dir of R553. -/
def Ctl.homeDir (c : Ctl) (a : Nat) : Int := if c.is (R.AX_INPUTS_HOME_DIR a) then 1 else -1

/-- The home input's state. -/
def Ctl.homeIn (c : Ctl) (a : Nat) : Bool := c.gpi (c.get (R.AX_INPUTS_HOME_IN a))

/-- Start a homing phase: its speed, its travel count and a fresh latch (R553, R554, R556). -/
def Ctl.homePhase (c : Ctl) (a ph : Nat) (vel : Int) (armNew : Bool) : Ctl :=
  (c.put (R.AX_STAT_HOME_PHASE a) ph).axMod a (fun s => { s with
    homeVel := velFmt vel, travelFrom := s.pos, latched := false
    reArm := if armNew then none else s.reArm, quick := false })

/-- HOME. -/
def home (a : Nat) (c : Ctl) : Ctl :=
  let st := c.axState a
  if st = axDisabled then c.axRefuse a 1
  else if st ≠ axIdle ∨ !c.is (R.AX_INPUTS_HOME_EN a) ∨ c.reg (R.AX_HOME_V1 a) = 0 ∨ c.reg (R.AX_HOME_MAX a) = 0 then
    c.axRefuse a 5
  else if c.is (R.AX_INPUTS_HOME_Z a) && !c.is (R.AX_CTRL_ENC_EN a) then c.axRefuse a 4
  else
    let c := (((c.axLatch a).axGo a axHoming).axWake a).axMod a (fun s => { s with
      clearAt := none, homeFail := false, homeSeen := c.homeIn a })
    let v1 : Int := c.reg (R.AX_HOME_V1 a)
    if c.homeIn a then c.homePhase a 1 (-(c.homeDir a) * v1) true
    else c.homePhase a 2 (c.homeDir a * v1) true

/-- The count of the encoder bound to an axis. -/
def Ctl.axCount (c : Ctl) (a : Nat) : Nat := c.reg (R.ENC_COUNT (c.get (R.AX_CTRL_ENC_SEL a)))

/-- GEAR (R544). -/
def gear (a : Nat) (c : Ctl) : Ctl :=
  let st := c.axState a
  if st = axDisabled then c.axRefuse a 1
  else if st ≠ axIdle ∨ !c.is (R.AX_CTRL_ENC_EN a) ∨ c.reg (R.AX_GEAR_DEN a) = 0 then c.axRefuse a 4
  else
    let n := c.axCount a
    let c := (c.axLatch a).axMod a (fun s => { s with
      gearNum := sgn 32 (c.reg (R.AX_GEAR_NUM a)), gearDen := c.reg (R.AX_GEAR_DEN a)
      baseC := n, lastC := n, baseP := s.pos, followExc := false })
    (c.axGo a axGeared).axWake a

/-- SET_POS. -/
def setPos (a : Nat) (c : Ctl) : Ctl :=
  let st := c.axState a
  if st = axDisabled then c.axRefuse a 1
  else if st ≠ axIdle then c.axRefuse a 6
  else
    let x := c.axTargetReg a
    ((c.axMod a (fun s => { s with p := x * (2 ^ 32 : Nat) })).put (R.AX_STAT_POS_LOST a) 0).axShow a

/-- ARM_RATIO. -/
def armRatio (a : Nat) (c : Ctl) : Ctl :=
  if c.axState a = axDisabled then c.axRefuse a 1
  else if c.reg (R.AX_GEAR_DEN2 a) = 0 then c.axRefuse a 4
  else (c.axMod a (fun s => { s with num2 := sgn 32 (c.reg (R.AX_GEAR_NUM2 a)), den2 := c.reg (R.AX_GEAR_DEN2 a)
                                     switchC := c.reg (R.AX_GEAR_SWITCH a) })).put (R.AX_STAT_RATIO_ARMED a) 1

/-- DISARM. -/
def disarm (a : Nat) (c : Ctl) : Ctl :=
  if c.axState a = axDisabled then c.axRefuse a 1 else c.put (R.AX_STAT_RATIO_ARMED a) 0

/-- AX_CMD_UNASSIGNED. -/
def axCmdUnassigned (a : Nat) (c : Ctl) : Ctl := if c.axState a = axDisabled then c.axRefuse a 1 else c.axRefuse a 9

/-- R551, R677: the brake engages. -/
def Ctl.axesBrake (c : Ctl) : Ctl :=
  c.each (upto 8) (fun a c =>
    let st := c.axState a
    if c.is (R.AX_CTRL_BRAKE_STOP a) && st != axDisabled && st != axIdle then
      c.axStop a true
    else c)

/-! ### The profile (R529 to R536) -/

/-- One update with acceleration goal `g` (R529, R530). -/
def AxSt.advance (s : AxSt) (g : Int) : AxSt :=
  let a := if s.jerk = 0 then g else s.a + clamp (g - s.a) (-(s.jerk : Int)) s.jerk
  let v := clamp (s.v + roundShift a 16) (-(s.vmax : Int)) s.vmax
  { s with a := a, v := v, p := s.p + roundShift v 16 }

/-- The deceleration in force for a stop. -/
def AxSt.stopDec (s : AxSt) : Nat := if s.quick then s.qdecel else s.decel

/-- An update of a deceleration to rest at `d`; whether the axis is then at rest. -/
def AxSt.decelerate (s : AxSt) (d : Nat) : AxSt × Bool :=
  let sg : Int := if s.v < 0 then -1 else 1
  let sv := s.v * sg
  let g : Int :=
    if s.jerk = 0 then -sg * min (d : Int) (sv * (2 ^ 16 : Nat))
    else
      let al := qa (s.a * sg)
      if al < 0 ∧ qv sv ≤ al * al / (2 * qa s.jerk) then 0 else -sg * d
  let t := s.advance g
  if s.v = 0 ∨ t.v * sg ≤ 0 ∨ (s.jerk ≠ 0 ∧ t.v * sg < (2 ^ 36 : Nat)) then
    ({ t with v := 0, a := 0, p := if s.v = 0 then s.p else t.p }, true)
  else (t, false)

/-- R532: one update towards the target without a reversal; whether the axis is then at rest on it. -/
def AxSt.runTo (s : AxSt) : AxSt × Bool :=
  let d := s.target - s.p
  let sg : Int := if d < 0 then -1 else 1
  let rem := qp (d * sg)
  let v := qv (s.v * sg)
  let eps : Rat := mkRat 1 1024
  let dd := qa s.decel
  if rem ≤ v + dd + eps ∧ v ≤ 2 * dd + eps then ({ s with p := s.target, v := 0, a := 0 }, true)
  else
    let ok (g : Int) : Bool :=
      let t := s.advance (g * sg)
      let v1 := qv (t.v * sg)
      let a1 := if s.jerk = 0 then 0 else qa (t.a * sg)
      let peak := if 0 < a1 then v1 + a1 * a1 / (2 * qa s.jerk) else v1
      decide (stopDist v1 a1 dd (qa s.jerk) ≤ qp ((s.target - t.p) * sg)) && decide (peak ≤ qv s.vmax + eps / 1024)
    -- with JERK 0 the speed limit is met exactly
    let up : Int := if s.jerk = 0 then min (s.accel : Int) ((s.vmax - s.v * sg) * (2 ^ 16 : Nat)) else s.accel
    let g := if ok up then up else if ok 0 then 0 else -(s.decel : Int)
    (s.advance (g * sg), false)

/-- R533: one update of a move whose time is known: it completes in its last update, and not before. -/
def AxSt.runDue (s : AxSt) : AxSt × Bool :=
  let r := s.runTo
  match s.due with
  | none => r
  | some k =>
    if k ≤ 1 then
      if (s.target - s.p).natAbs ≤ 2 ^ 32 then ({ s with p := s.target, v := 0, a := 0, due := none }, true)
      else ({ r.1 with due := none }, r.2)
    else ({ r.1 with due := some (k - 1) }, false)

/-- R532, R535: one update towards velocity `vt` in the direction of motion. -/
def AxSt.runAt (s : AxSt) (vt : Int) : AxSt :=
  let diff := vt - s.v
  let faster := decide (s.v.natAbs < vt.natAbs)
  let lim : Int := if faster then s.accel else s.decel
  if s.jerk = 0 then s.advance (clamp (diff * (2 ^ 16 : Nat)) (-lim) lim)
  else
    let sg : Int := if diff < 0 then -1 else 1
    let al := qa (s.a * sg)
    let near := decide (qv (diff * sg) ≤ (if 0 < al then al * al / (2 * qa s.jerk) else 0))
    if diff.natAbs < 2 ^ 36 ∧ qa (s.a.natAbs) ≤ 4 * qa s.jerk then { s with v := vt, a := 0, p := s.p + roundShift vt 16 }
    else s.advance (if near then 0 else sg * lim)

/-! ### One update of one axis -/

/-- The axis comes to rest at the end of a motion: IDLE with MOVE_DONE (R538). -/
def Ctl.axDone (c : Ctl) (a : Nat) : Ctl :=
  ((c.axGo a axIdle).put (R.AX_STAT_REVERSING a) 0).axMod a (fun s => { s with quick := false }) |>.axEvt a 0

/-- R544: the gearing target of a count. -/
def AxSt.gearTarget (s : AxSt) (n : Nat) : Int :=
  let x := sgn 32 (n + 2 ^ 32 - s.baseC)
  s.baseP + (2 * x * s.gearNum + s.gearDen).fdiv (2 * s.gearDen)

/-- R546: whether the count of a GEARED axis has crossed SWITCH since the last update; it is decided with the values in
force at the start of the update, before the commands that reach it. -/
def Ctl.axCross (c : Ctl) (a : Nat) : Ctl :=
  let s := c.axSt a
  let n := c.axCount a
  let d0 := sgn 32 (s.lastC + 2 ^ 32 - s.switchC)
  let d1 := sgn 32 (n + 2 ^ 32 - s.switchC)
  if c.axState a ≠ axGeared then c
  else
    let c1 := c.axMod a (fun s => { s with lastC := n })
    if c.is (R.AX_STAT_RATIO_ARMED a) ∧ (d0 < 0 ∧ 0 ≤ d1 ∨ 0 < d0 ∧ d1 ≤ 0) then
      ((c1.axMod a (fun s => { s with baseP := s.gearTarget s.switchC, baseC := s.switchC, gearNum := s.num2, gearDen := s.den2 })).put
        (R.AX_STAT_RATIO_ARMED a) 0).axEvt a 7
    else c1

/-- R548: the direction in which the axis moves or would move. -/
def Ctl.axHeading (c : Ctl) (a : Nat) : Int :=
  let s := c.axSt a
  if s.v ≠ 0 then s.v
  else match c.axState a with
    | 2 => s.target - s.p
    | 3 => s.vjog
    | 5 => if c.get (R.AX_STAT_HOME_PHASE a) = 6 then 0 else s.homeVel
    | 6 => s.gearTarget (c.axCount a) * (2 ^ 32 : Nat) - s.p
    | _ => 0

/-- R548, R549, R555: the limits act first. -/
def Ctl.axLimits (c : Ctl) (a : Nat) : Ctl :=
  let d := c.axHeading a
  let seen := if 0 < d then c.is (R.AX_STAT_AT_LIM_POS a) else c.is (R.AX_STAT_AT_LIM_NEG a)
  let c := (c.flag (R.AX_STAT_AT_LIM_POS a) (c.limPos a)).flag (R.AX_STAT_AT_LIM_NEG a) (c.limNeg a)
  let st := c.axState a
  if c.limTowards a d && st != axDisabled && st != axIdle then
    let input := if 0 < d then c.get (R.AX_INPUTS_LIM_POS a) else c.get (R.AX_INPUTS_LIM_NEG a)
    if st = axHoming then
      if input = c.get (R.AX_INPUTS_HOME_IN a) then c
      else (c.axFreeze a true).axEvt a 2
    else if st = axStopping && c.is (R.AX_CTRL_LIMIT_STOP a) && (c.axSt a).quick then
      (if seen then c else c.axEvt a 4)
    else
      let c := c.axEvt a 4
      if c.is (R.AX_CTRL_LIMIT_STOP a) then c.axStop a true else c.axFreeze a false
  else c

/-- R544, R545: one update of a GEARED axis. -/
def Ctl.axGearStep (c : Ctl) (a : Nat) : Ctl :=
  let n := c.axCount a
  let s := c.axSt a
  let tgt := s.gearTarget n * (2 ^ 32 : Nat)
  let vm := roundShift (s.vmax : Int) 16
  let mv := clamp (tgt - s.p) (-vm) vm
  let c := c.axMod a (fun s => { s with p := s.p + mv, v := mv * (2 ^ 16 : Nat), a := 0 })
  let lag := roundShift tgt 32 - (c.axSt a).pos
  let c := c.putS (R.AX_FOLLOW_LAG a) (satS 16 lag)
  let lim := c.get (R.AX_FOLLOW_FOLLOW_LIMIT a)
  let out := lim != 0 && decide (lim < lag.natAbs)
  let c := if out && !(c.axSt a).followExc then c.axEvt a 6 else c
  c.axMod a (fun s => { s with followExc := out })

/-- R553: the sequence is complete. -/
def Ctl.homeFinish (c : Ctl) (a : Nat) : Ctl :=
  let s := c.axSt a
  let ref := if c.is (R.AX_INPUTS_HOME_Z a) then s.latchZ else if c.reg (R.AX_HOME_V2 a) ≠ 0 then s.latch2 else s.latch1
  let ofs := sgn 32 (c.reg (R.AX_HOME_OFFSET a))
  let c := c.axMod a (fun s => { s with p := s.p + (ofs - ref) * (2 ^ 32 : Nat) })
  let c := (((c.setReg (R.AX_HOME_LATCH a) (code 32 ref)).put (R.AX_STAT_HOMED a) 1).put (R.AX_STAT_POS_LOST a) 0).put
    (R.AX_STAT_HOME_PHASE a) 0
  (c.axGo a axIdle).axEvt a 1

/-- R553, R556: what follows when a phase has come to rest. -/
def Ctl.homeNext (c : Ctl) (a : Nat) : Ctl :=
  let s := c.axSt a
  let d := c.homeDir a
  let v1 : Int := c.reg (R.AX_HOME_V1 a)
  let v2 : Int := c.reg (R.AX_HOME_V2 a)
  let z := c.is (R.AX_INPUTS_HOME_Z a)
  let index (c : Ctl) : Ctl :=
    if z then c.homePhase a 5 (d * (if v2 = 0 then v1 else v2)) false
    else (c.put (R.AX_STAT_HOME_PHASE a) 6)
  if s.homeFail then
    (((c.axMod a (fun s => { s with homeFail := false })).put (R.AX_STAT_HOME_PHASE a) 0).axGo a axIdle).axEvt a 3
  else match c.get (R.AX_STAT_HOME_PHASE a) with
    | 1 => c.homePhase a 2 (d * v1) true
    | 2 => if v2 = 0 then index c
           else (c.homePhase a 3 (-d * v1) false).axMod a (fun s => { s with
             target := (s.latch1 - d * c.reg (R.AX_HOME_REARM a)) * (2 ^ 32 : Nat) })
    | 3 => c.homePhase a 4 (d * v2) true
    | 4 => index c
    | 5 => c.put (R.AX_STAT_HOME_PHASE a) 6
    | _ => c.homeFinish a

/-- R553 to R556: one update of homing. -/
def Ctl.axHomeStep (c : Ctl) (a : Nat) (zEdge : Bool) : Ctl :=
  let ph := c.get (R.AX_STAT_HOME_PHASE a)
  let d := c.homeDir a
  let now := c.homeIn a
  let s := c.axSt a
  let rise := now && !s.homeSeen
  let c := c.axMod a (fun s => { s with homeSeen := now })
  let rearm : Int := c.reg (R.AX_HOME_REARM a)
  -- R554: armed again once the axis has left the switch by REARM
  let armed := match s.reArm with
    | none => true
    | some l => decide (rearm ≤ (l - s.pos) * d)
  let stopping := s.latched || s.homeFail
  let c := if stopping then c else
    match ph with
    | 1 =>
      if now then c.axMod a (fun s => { s with clearAt := none })
      else
        match s.clearAt with
        | none => c.axMod a (fun s => { s with clearAt := some s.pos })
        | some p0 => if rearm ≤ (p0 - s.pos) * d then c.axMod a (fun s => { s with latched := true }) else c
    | 2 => if rise && armed then c.axMod a (fun s => { s with latched := true, latch1 := s.pos, reArm := some s.pos }) else c
    | 4 => if rise && armed then c.axMod a (fun s => { s with latched := true, latch2 := s.pos, reArm := some s.pos }) else c
    | 5 => if zEdge then c.axMod a (fun s => { s with latched := true, latchZ := s.pos }) else c
    | _ => c
  let s := c.axSt a
  let far := decide ((c.reg (R.AX_HOME_MAX a) : Int) ≤ (s.pos - s.travelFrom).natAbs)
  let c := if !s.latched && !s.homeFail && far && (ph == 2 || ph == 4 || ph == 5) then
      c.axMod a (fun s => { s with homeFail := true })
    else c
  let s := c.axSt a
  if ph = 6 then c.homeFinish a
  else if s.latched || s.homeFail then
    let r := s.decelerate s.qdecel
    let c := c.axMod a (fun _ => r.1)
    if r.2 then c.homeNext a else c
  else if ph = 3 then
    -- BACKOFF runs at HOME_V1
    let r := ({ s with vmax := min s.vmax s.homeVel.natAbs } : AxSt).runTo
    let c := c.axMod a (fun _ => { r.1 with vmax := s.vmax })
    if r.2 then c.homeNext a else c
  else c.axMod a (fun s => s.runAt s.homeVel)

/-- R534 to R536: one update in POSITION. -/
def Ctl.axPosStep (c : Ctl) (a : Nat) : Ctl :=
  let s := c.axSt a
  if c.is (R.AX_STAT_REVERSING a) ∨ !s.reaches then
    let c := c.put (R.AX_STAT_REVERSING a) 1
    let r := s.decelerate s.decel
    let c := c.axMod a (fun _ => if r.2 then r.1.plan else r.1)
    if r.2 then c.put (R.AX_STAT_REVERSING a) 0 else c
  else
    let r := s.runDue
    let c := c.axMod a (fun _ => r.1)
    if r.2 then c.axDone a else c

/-- R535: one update in JOG. -/
def Ctl.axJogStep (c : Ctl) (a : Nat) : Ctl :=
  let s := c.axSt a
  if c.is (R.AX_STAT_REVERSING a) ∨ s.v * s.vjog < 0 then
    let c := c.put (R.AX_STAT_REVERSING a) 1
    let r := s.decelerate s.decel
    let c := c.axMod a (fun _ => r.1)
    if r.2 then c.put (R.AX_STAT_REVERSING a) 0 else c
  else c.axMod a (fun s => s.runAt s.vjog)

/-- Entry `x` of the sine table, f(256) = 4,095 (R539). -/
def Ctl.sine (c : Ctl) (x : Nat) : Nat :=
  if 256 ≤ x then 4095
  else if x % 2 = 0 then c.get (R.SINE_S_LO (x / 2)) else c.get (R.SINE_S_HI (x / 2))

/-- R539, R540: the two phase references at a microstep index. -/
def Ctl.axRefs (c : Ctl) (a : Nat) : Int × Int :=
  let k0 := code 10 (c.axSt a).pos
  let k := if c.is (R.AX_CTRL_INVERT_DIR a) then 1023 - k0 else k0
  let q := k / 256
  let r := k % 256
  let up : Int := c.sine r
  let dn : Int := c.sine (256 - r)
  let f : Int × Int := match q with
    | 0 => (up, dn)
    | 1 => (dn, -up)
    | 2 => (-up, -dn)
    | _ => (-dn, up)
  let i : Int := if (c.axSt a).still then c.get (R.AX_CUR_I_HOLD a) else c.get (R.AX_CUR_I_RUN a)
  let mag (x : Int) : Int :=
    let m : Int := ((x.natAbs : Int) * i + 128) / 256
    if x < 0 then -m else m
  if c.get (R.AX_STAT_BRIDGE a) = 2 then (mag f.1, mag f.2) else (0, 0)

/-- R540, R541: the outputs at the end of an update: references, sigma-delta bits, STEP and DIR. -/
def Ctl.axOutputs (c : Ctl) (a : Nat) (oldPos : Int) : Ctl :=
  let s := c.axSt a
  let rf := c.axRefs a
  let n : Int := if c.axPhase = 3 then 32 else 31
  let ta := s.accA + n * (rf.1 + 4096)
  let tb := s.accB + n * (rf.2 + 4096)
  let dv := min (c.get (R.AX_CTRL_STEP_DIV a)) 8
  let moved := c.is (R.AX_CTRL_OUT_MODE a) && decide (s.pos / (2 ^ dv : Nat) ≠ oldPos / (2 ^ dv : Nat))
  let up := decide (oldPos ≤ s.pos)
  c.axMod a (fun s => { s with
    irefA := rf.1, irefB := rf.2, accA := ta % 8192, accB := tb % 8192
    onesA := (ta / 8192).toNat, onesB := (tb / 8192).toNat
    step := moved, dir := if moved then up != c.is (R.AX_CTRL_INVERT_DIR a) else s.dir })

/-- R528: a position that would leave its signed 64 bits is a value that the spec does not give (log entry 194). -/
def Ctl.axHeld (c : Ctl) (a : Nat) : Ctl :=
  let p := (c.axSt a).p
  if -(2 ^ 63 : Int) ≤ p ∧ p < (2 ^ 63 : Int) then c
  else
    let d := c.draw
    d.2.axMod a (fun s => { s with p := sgn 64 (d.1 % 2 ^ 64) })

/-- R528, R557: one update of axis `a`; a DISABLED one shows its limits and drives references of 0 (R540, R548). -/
def Ctl.axStep (zEdges : Nat) (a : Nat) (c : Ctl) : Ctl :=
  if c.axState a = axDisabled then (c.axLimits a).axOutputs a (c.axSt a).pos
  else
    let oldPos := (c.axSt a).pos
    let c := c.axLimits a
    let c := if c.is (R.AX_STAT_WAKING a) then c.axMod a (fun s => { s with wake := s.wake - 1 })
      else match c.axState a with
        | 2 => c.axPosStep a
        | 3 => c.axJogStep a
        | 4 =>
          let s := c.axSt a
          let r := s.decelerate s.stopDec
          let c := c.axMod a (fun _ => r.1)
          if r.2 then c.axDone a else c
        | 5 => c.axHomeStep a (bitOf zEdges (c.get (R.AX_CTRL_ENC_SEL a)))
        | 6 => c.axGearStep a
        | _ => c.axMod a (fun s => { s with rest := s.rest + 1 })
    ((c.axHeld a).axShow a).axOutputs a oldPos

/-- R540: bit `j` of a sigma-delta stream of reference `ref` from accumulator `acc`. -/
def sigmaBit (acc ref : Int) (j : Nat) : Bool :=
  let at_ := fun (k : Nat) => (acc + (k : Int) * (ref + 4096)) / 8192
  decide (at_ (j + 1) ≠ at_ j)

/-- R540 to R542: the pins of an axis: IREF_A, IREF_B, BRIDGE_MODE. -/
structure AxPins where
  irefA : Bool
  irefB : Bool
  bridge : Nat
  deriving DecidableEq, Repr

/-- R540, R541: what the pins of axis `a` carry `k` housekeeping clocks after C+60 of the update that ended, up to C+60 of the
next. -/
def Ctl.axPins (c : Ctl) (a k : Nat) : AxPins :=
  let s := c.axSt a
  let n : Int := if c.axPhase = 0 then 32 else 31
  let bit := fun (acc ref : Int) => sigmaBit ((acc - n * (ref + 4096)) % 8192) ref (k / 4)
  let up := min (c.get (R.AX_STEP_DIR_SETUP a)) 60
  let pw := min (max (c.get (R.AX_STEP_STEP_PW a)) 1) 60
  let mode := c.get (R.AX_STAT_BRIDGE a)
  if c.is (R.AX_CTRL_OUT_MODE a) then ⟨s.step && decide (up ≤ k ∧ k < up + pw), s.dir, mode⟩
  else ⟨bit s.accA s.irefA, bit s.accB s.irefB, mode⟩

/-- AX_CMD (R537): the command of an OP. -/
def axCommand (a op : Nat) (c : Ctl) : Ctl :=
  match op with
  | 0x1 => moveAbs a c
  | 0x2 => moveRel a c
  | 0x3 => velocity a c
  | 0x4 => stop a c
  | 0x5 => qstop a c
  | 0x6 => home a c
  | 0x7 => gear a c
  | 0x8 => setPos a c
  | 0x9 => armRatio a c
  | 0xA => disarm a c
  | _ => axCmdUnassigned a c

/-- AX_CMD written (R537): the command waits for the next update boundary. -/
def axWrite (a op : Nat) (c : Ctl) : Ctl := { c with axCmds := c.axCmds ++ [(a, op)] }

/-- R537, R549: the commands that reach an update boundary are judged in the order in which they were written, each
after the limits of its axis have acted. -/
def axJudge (c : Ctl) : Ctl :=
  c.axCmds.foldl (fun c e => axCommand e.1 e.2 (c.axLimits e.1)) { c with axCmds := [] }

/-- The device at an update boundary, as a command of axis `a` finds it: the commands written before have been judged,
and the limits of the axis have acted (R537, R549). -/
def Ctl.axBoundary (c : Ctl) (a : Nat) : Ctl := (axJudge (c.axCross a)).axLimits a

/-- A command of axis `a` judged at the update boundary at which it takes effect (R537). -/
def axOrder (a op : Nat) (c : Ctl) : Ctl := axCommand a op (c.axBoundary a)

/-- AXIS_UPDATE (R528, R537, R557): the commands that have reached the boundary, then one update of every enabled axis. -/
def axisUpdate (c : Ctl) : Ctl :=
  let z := maskOf ((upto 4).filter (fun e => (tget c.enc e {}).z))
  let c := (axJudge (c.each (upto 8) (fun a c => c.axCross a))).each (upto 8) (Ctl.axStep z)
  let c := c.each (upto 4) (fun e c => if bitOf z e then c.encMod e (fun s => { s with z := false }) else c)
  { c with axPhase := (c.axPhase + 1) % 4 }

/-- STANDSTILL (R543): after STILL_MS at rest and not GEARED. -/
def standstill (a : Nat) (c : Ctl) : Ctl :=
  if c.axState a = axIdle ∧ c.get (R.AX_CUR_STILL_MS a) * 2000 ≤ (c.axSt a).rest then
    (c.put (R.AX_STAT_BRIDGE a) (match c.get (R.AX_CTRL_STANDSTILL a) with
      | 0 => 0
      | 1 => 1
      | _ => 2)).axMod a (fun s => { s with still := true })
  else c

/-- WAKE_DONE (R543): WAKE_MS of driving have passed; the axis starts to move. -/
def wakeDone (a : Nat) (c : Ctl) : Ctl :=
  if c.is (R.AX_STAT_WAKING a) ∧ (c.axSt a).wake = 0 then c.put (R.AX_STAT_WAKING a) 0 else c

end Sys2Proof.Machine
end

