-- ==== Sys2Proof/Machine/LaneBase.lean ====
section
/-! DEFINITION. Lanes: the forms of blocks (R321 to R327, R352 to R357), the words of a tick (R359, R362, R363), and
what the transmitter sends. -/

namespace Sys2Proof.Machine

/-! ### States (R329) -/

def lnDown : Nat := 0
def lnDetect : Nat := 1
def lnTrain : Nat := 2
def lnLock : Nat := 3
def lnExchange : Nat := 4
def lnActive : Nat := 5
def lnElecIdle : Nat := 6
def lnWake : Nat := 7
def lnTest : Nat := 8
def lnBackoff : Nat := 9
def lnAbsent : Nat := 10

def Ctl.ln (c : Ctl) (k : Nat) : LaneSt := tget c.lane k {}
def Ctl.setLn (c : Ctl) (k : Nat) (l : LaneSt) : Ctl := { c with lane := tput c.lane k l }
def Ctl.modLn (c : Ctl) (k : Nat) (f : LaneSt → LaneSt) : Ctl := c.setLn k (f (c.ln k))
def Ctl.lst (c : Ctl) (k : Nat) : Nat := c.get (R.LANE_STAT_STATE k)

/-- R30, R31: what a lane serves. -/
def isHead (k : Nat) : Bool := decide (k < 24)
def isLaser (k : Nat) : Bool := decide (24 ≤ k) && decide (k < 48)
def isAux (k : Nat) : Bool := decide (48 ≤ k) && decide (k < 56)
def isTwin (k : Nat) : Bool := decide (56 ≤ k) && decide (k < 64)
/-- The channel of a head or laser lane. -/
def chanOf (k : Nat) : Nat := if k < 24 then k else k - 24

/-- The transmitter sends traffic: ACTIVE, or LOCK for a relock (R714). -/
def Ctl.txOn (c : Ctl) (k : Nat) : Bool := c.lst k == lnActive || (c.lst k == lnLock && (c.ln k).relock)

/-! ### Blocks -/

/-- R323: CRC-8, polynomial 0x07, initial value 0xFF, over payload bytes 0 to 6. -/
def crc8 (payload : Nat) : Nat := crcBytes 8 0x07 (leBytes 7 payload) 0xFF

/-- R323: a control block's payload from its type and 48 body bits. -/
def ctlPayload (typ body : Nat) : Nat :=
  let p := typ + (body % 2 ^ 48) * 2 ^ 8
  p + crc8 p * 2 ^ 56

/-- R353: CRC-4 over payload bits 8 to 63, then 0 to 3. -/
def crc4 (payload : Nat) : Nat :=
  ((List.range 56).map (· + 8) ++ List.range 4).foldl (fun r b => crcBit 4 0x3 r (bitOf payload b)) 0xF

/-- R352: a data block's payload from its message type and bits [63:8]. -/
def dataPayload (mt body : Nat) : Nat :=
  let p := mt + (body % 2 ^ 56) * 2 ^ 8
  p + crc4 p * 2 ^ 4

/-- A received control block's payload. -/
def ctlWord (typ body check : Nat) : Nat := typ + (body % 2 ^ 48) * 2 ^ 8 + (check % 256) * 2 ^ 56

/-- It passes its CHECK. -/
def ctlGood (typ body check : Nat) : Bool := crc8 (typ + (body % 2 ^ 48) * 2 ^ 8) == check % 256

/-- A received data block's payload. -/
def dataWord (mt body chk : Nat) : Nat := mt % 16 + (chk % 16) * 2 ^ 4 + (body % 2 ^ 56) * 2 ^ 8

/-- It passes its CHK. -/
def dataGood (mt body chk : Nat) : Bool := crc4 (mt + (body % 2 ^ 56) * 2 ^ 8) == chk % 16

def bIdle : Nat := 0x33
def bTrain : Nat := 0x4B
def bExch : Nat := 0x55
def bTickMark : Nat := 0x66
def bLinkMgmt : Nat := 0x96
def bCorrection : Nat := 0xA5
def bBrake : Nat := 0xC3
def bEiEnter : Nat := 0xD2
def bAlign : Nat := 0xE1

/-! ### Words of a tick -/

/-- The edge of tick `i` of a superframe in unit intervals (R360). -/
def edgeUi (slow : Bool) (i : Nat) : Nat := if slow then (625 * i) / 2 else 625 * i

/-- R359, R362: words that begin in tick `t`. -/
def wordsIn (slow : Bool) (t : Nat) : Nat :=
  let i := t % (if slow then 132 else 66)
  (edgeUi slow (i + 1) + 65) / 66 - (edgeUi slow i + 65) / 66

/-- R359: a superframe begins at tick `t`. -/
def superframe (slow : Bool) (t : Nat) : Bool := t % (if slow then 132 else 66) == 0

def Ctl.slow (c : Ctl) (k : Nat) : Bool := c.is (R.LANE_STAT_RATE_NOW k)

/-! ### The line (R321, R322) -/

/-- R322: `n` payload bits, at most 39, scrambled behind the 58 line bits `st`, the last of them in bit 57. -/
def scrambleBits (n st d : Nat) : Nat := (d ^^^ (st / 2 ^ 19) ^^^ st) % 2 ^ n

/-- R322: s(i) = d(i) XOR s(i - 39) XOR s(i - 58) over the 64 bits of a payload. -/
def scramble (st d : Nat) : Nat :=
  let lo := scrambleBits 39 st d
  lo + scrambleBits 25 ((st + lo * 2 ^ 58) / 2 ^ 39) (d / 2 ^ 39) * 2 ^ 39

/-- R322: d(i) = s(i) XOR s(i - 39) XOR s(i - 58). -/
def descramble (st s : Nat) : Nat :=
  let e := st + s * 2 ^ 58
  (s ^^^ (e / 2 ^ 19) ^^^ e) % 2 ^ 64

/-- The last 58 of 64 line bits. -/
def lineTail (s : Nat) : Nat := s / 2 ^ 6 % 2 ^ 58

/-- R321: the header in order of sending, bit 0 first: 01 for data, 10 for control. -/
def header (ctrl : Bool) : Nat := if ctrl then 1 else 2

/-! ### Sending -/

/-- The generator replaces the lane's traffic (R347, R348). -/
def Ctl.inPattern (c : Ctl) (k : Nat) : Bool := c.lst k == lnTest && c.get (R.LANE_TEST_MODE k) == 1

/-- Timeout, interval and retry fields: 0 is read as 1. -/
def Ctl.get1 (c : Ctl) (f : Fld) : Nat := max 1 (c.get f)

/-- R350: the kind of injection: 0 payload, 1 header, 2 CHECK. -/
def Ctl.injKind (c : Ctl) (k : Nat) : Nat := c.get (R.LANE_INJ_CFG_KIND k) % 3

/-- R350: injection counts a block: in PATTERN mode, where CHECK counts the pattern's blocks, or with LIVE on traffic. -/
def Ctl.injCounts (c : Ctl) (k : Nat) (ctrl : Bool) : Bool :=
  c.is (R.LANE_INJ_CTL_GO k) &&
    match c.injKind k with
    | 1 => c.inPattern k || (c.is (R.LANE_INJ_CFG_LIVE k) && c.txOn k)
    | 2 => c.inPattern k || (c.is (R.LANE_INJ_CFG_LIVE k) && c.txOn k && ctrl)
    | _ => (c.inPattern k || (c.is (R.LANE_INJ_CFG_LIVE k) && c.txOn k)) && !ctrl

/-- R350: an injection falls on this block. -/
def Ctl.injects (c : Ctl) (k : Nat) (ctrl : Bool) : Bool := c.injCounts k ctrl && (c.ln k).injIn == 0

/-- R350: a block that counts goes by: every INTERVAL blocks one is injected; the last of COUNT ends it. -/
def injStep (k : Nat) (ctrl : Bool) (c : Ctl) : Ctl :=
  if ¬ c.injCounts k ctrl then c
  else if 0 < (c.ln k).injIn then c.modLn k (fun l => { l with injIn := l.injIn - 1 })
  else
    let c1 := (c.add (R.LANE_INJ_CTL_DONE k) 1).modLn k (fun l => { l with injIn := c.get1 (R.LANE_INJ_CFG_INTERVAL k) - 1 })
    let count := c.get (R.LANE_INJ_CTL_COUNT k)
    if count ≠ 0 ∧ count ≤ c1.get (R.LANE_INJ_CTL_DONE k) then (c1.flag (R.LANE_INJ_CTL_GO k) false).irq (pgLane k) 6 else c1

/-- R350: BURST + 1 bits from bit BIT, ending at bit 63 at most. -/
def burstMask (bit burst : Nat) : Nat := 2 ^ min 64 (bit + burst + 1) - 2 ^ bit

/-- A block goes out: CHECK inverted before, line bits and header after the scrambler (R350), which PATTERN mode may leave
out (R348). -/
def Ctl.wireOut (c : Ctl) (k : Nat) (ctrl : Bool) (payload : Nat) : Ctl :=
  let hit := c.injects k ctrl
  let kind := c.injKind k
  let l := c.ln k
  let p := if hit ∧ kind = 2 ∧ ctrl then payload ^^^ 2 ^ 56 else payload
  let s := if c.inPattern k ∧ ¬ ctrl ∧ ¬ c.is (R.LANE_TEST_PG_SCRAMBLE k) then p else scramble l.scr p
  let bits := if hit ∧ kind = 0 then s ^^^ burstMask (c.get (R.LANE_INJ_CFG_BIT k)) (c.get (R.LANE_INJ_CFG_BURST k)) else s
  let hdr := if hit ∧ kind = 1 then header ctrl ^^^ 2 else header ctrl
  let c1 := { c with wire := ⟨k, ctrl, p, hdr + bits * 4⟩ :: c.wire }
  injStep k ctrl (c1.modLn k (fun l => { l with scr := lineTail s }))

/-- R341: consecutive non-data blocks after which a line keeper is due, 8 µs. -/
def Ctl.keepAfter (c : Ctl) (k : Nat) : Nat := if c.slow k then 757 else 1515

/-- R341: the count of non-data blocks after a block; a line keeper, a data block of message code 0, leaves it. -/
def LaneSt.counted (l : LaneSt) (after : Nat) (ctrl : Bool) (payload : Nat) : LaneSt :=
  if ctrl then { l with nonTx := l.nonTx + 1, keepDue := l.keepDue || (l.nonTx + 1) % after == 0 }
  else if payload % 256 = 0 then { l with keepDue := false }
  else { l with nonTx := 0, keepDue := false }

/-- A block in a word of the present tick. -/
def sendBlock (k : Nat) (ctrl : Bool) (payload : Nat) (c : Ctl) : Ctl :=
  let after := c.keepAfter k
  (c.wireOut k ctrl payload).modLn k (fun l => { (l.counted after ctrl payload) with used := l.used + 1 })

/-- A word with an invalid header goes out (R347), its payload scrambled behind the line as any other. -/
def sendBad (k payload : Nat) (c : Ctl) : Ctl :=
  let s := scramble (c.ln k).scr payload
  ({ c with wire := ⟨k, false, payload, s * 4⟩ :: c.wire } : Ctl).modLn k (fun l => { l with scr := lineTail s, used := l.used + 1 })

/-- R264: among out-of-slot blocks a brake block goes first, then a correction block. -/
def oosRank (payload : Nat) : Nat := if payload % 256 = bBrake then 0 else if payload % 256 = bCorrection then 1 else 2

/-- Blocks that wait, in the order of R264, those of one rank in the order of their making. -/
def queueOos (l : List Nat) (payload : Nat) : List Nat :=
  l.filter (fun p => decide (oosRank p ≤ oosRank payload)) ++ payload :: l.filter (fun p => decide (oosRank payload < oosRank p))

/-- R259, R328, R348, R371: an out-of-slot block on a lane that carries traffic: in this tick, behind a TICK_MARK still to
come (R359), or, when it is ready only for a word of the next tick (`late`), there. -/
def sendOos (k payload : Nat) (late : Bool) (c : Ctl) : Ctl :=
  if c.txOn k || c.inPattern k then
    let c1 := c.inc (R.LANE_CNT2_OOS_SENT k)
    if late || (c.ln k).mute then c1.modLn k (fun l => { l with late := queueOos l.late payload })
    else if (c.ln k).hold then c1.modLn k (fun l => { l with soon := queueOos l.soon payload })
    else sendBlock k true payload c1
  else c

/-- Blocks in the words of the present tick. -/
def sendAll (k : Nat) (ctrl : Bool) (ps : List Nat) (c : Ctl) : Ctl := ps.foldl (fun c p => sendBlock k ctrl p c) c

/-- The out-of-slot blocks behind the first word of a superframe leave. -/
def sendSoon (k : Nat) (c : Ctl) : Ctl :=
  let l := c.ln k
  if l.hold then sendAll k true l.soon (c.modLn k (fun l => { l with hold := false, soon := [] })) else c

/-- R371: the present state of the brake as a BRAKE block's body: ENGAGE, BSEQ, TALLY_LO. -/
def Ctl.brakeBody (c : Ctl) : Nat :=
  b2n (c.is R.GLOBAL_BRK_STAT_ENGAGED) + (c.pwr.bseq % 256) * 2 ^ 8 + (c.pwr.changeLo % 2 ^ 32) * 2 ^ 16

/-- R713: the device holds the active role. -/
def Ctl.isActive (c : Ctl) : Bool := holdsActive c.role (c.is R.TWIN_CTRL_EN) c.soloOn

/-- R410, R424, R435: samples go out while the device holds the active role, and in DUPLICATE mode in every other role
but FAILED. -/
def Ctl.sendsSamples (c : Ctl) : Bool := c.isActive || (c.is R.TWIN_CTRL_MODE && c.role != 8)

/-- R411: a forwarded command goes to the partner: KIND, the tick of effect, ARG. -/
def fwdSend (kind apply arg : Nat) (c : Ctl) : Ctl :=
  { c with tw := { c.tw with txMsg := c.tw.txMsg ++
      [(c.now, 4, kind + (apply % 256) * 2 ^ 8 + (arg % 2 ^ 40) * 2 ^ 16)] } }

/-- The head and laser lanes (R371). -/
def hlLanes : List Nat := List.range 48

/-! ### Protocol events (R393) -/

/-- Set a PROTO_EVT bit. -/
def Ctl.protoEvt (c : Ctl) (k b : Nat) : Ctl := c.setBits (R.PROTO_EVT k) (2 ^ b)

/-- R357: the tick at or before the present one whose low 8 bits are `t8`. -/
def Ctl.tick8 (c : Ctl) (t8 : Nat) : Nat := (c.now + 2 ^ 48 - (c.now + 256 - t8 % 256) % 256) % 2 ^ 48

end Sys2Proof.Machine
end

