-- ==== Sys2Proof/Machine/Brake.lean ====
section
/-! DEFINITION. The brake (R651, R669 to R680, R371, R717): its sources, engaging, releasing, and its blocks. -/

namespace Sys2Proof.Machine

/-- R672: source bits. -/
def brkReset : Nat := 0
def brkIn (i : Nat) : Nat := 1 + i
def brkEngage : Nat := 3
def brkHalt : Nat := 4
def brkFlow : Nat := 5
def brkTerr : Nat := 6
def brkTrack : Nat := 7
def brkSensor : Nat := 8
def brkLane : Nat := 9
def brkDie : Nat := 10
def brkSeam : Nat := 11

def Ctl.engaged (c : Ctl) : Bool := c.is R.GLOBAL_BRK_STAT_ENGAGED
/-- LEVELS bit of a source. -/
def Ctl.brkLevel (c : Ctl) (k : Nat) : Bool := c.bit R.GLOBAL_BRK_STAT k

/-- R371: the block of a change on every head and laser lane, out of slot, and its three repeats. -/
def sendBrake (late : Bool) (c : Ctl) : Ctl :=
  c.each (hlLanes.filter (fun k => (c.txOn k || c.inPattern k) && c.isActive)) (fun k c =>
    let p := ctlPayload bBrake c.brakeBody
    (sendOos k p late c).modLn k (fun l => { l with
      -- R427: a mute lane sends the block in the tick after
      reps := l.reps ++ [(p, if late || l.mute then 2 else 1, 3)]
      echo := if isLaser k then some (c.pwr.bseq, c.now) else none }))

/-- BRAKE_OUT[b] driven to a level. -/
def drivePin (b : Nat) (high : Bool) (c : Ctl) : Ctl :=
  { c with pwr := { c.pwr with
    brakeOut := if high then c.pwr.brakeOut ||| 2 ^ b else c.pwr.brakeOut &&& (15 ^^^ 2 ^ b) } }

/-- R671, R640: the brake drives BRAKE_OUT[3:0], each pin after the whole ticks of its trim delay (60 spindle clocks a
tick; log entry 68). -/
def drivePins (high : Bool) (c : Ctl) : Ctl :=
  c.each (upto 4) (fun b c =>
    let d := c.get (R.TRIM_BRK_DLY_COARSE b) / 60
    if d = 0 then drivePin b high c
    else { c with pwr := { c.pwr with brakeOutDue := c.pwr.brakeOutDue ++ [(d, b, high)] } })

/-- R640 at a tick edge: the delayed changes that are due. -/
def brakePins (c : Ctl) : Ctl :=
  let due := c.pwr.brakeOutDue
  let c1 := { c with pwr := { c.pwr with
    brakeOutDue := (due.filter (fun e => decide (1 < e.1))).map (fun e => (e.1 - 1, e.2)) } }
  (due.filter (fun e => decide (e.1 ≤ 1))).foldl (fun c e => drivePin e.2.1 e.2.2 c) c1

/-- R371: a change of the brake takes the next BSEQ. -/
def brakeChange (late : Bool) (c : Ctl) : Ctl :=
  let c1 := { c with pwr := { c.pwr with bseq := (c.pwr.bseq + 1) % 256, changeLo := c.now % 2 ^ 32 } }
  -- R411, KIND 7: the active of a pair forwards the change
  let c2 := if c.role = 2 then fwdSend 7 c.now (b2n c1.engaged + c1.pwr.bseq * 2 ^ 8) c1 else c1
  sendBrake late c2

/-- R673, R161, R671, R677: the brake engages. -/
def brakeEngage (late : Bool) (c : Ctl) : Ctl :=
  let c0 := { c with pwr := { c.pwr with release := false } }
  if c.engaged then c0
  else
    let c1 := c0.flag R.GLOBAL_BRK_STAT_ENGAGED true
    let c2 := brakeChange late (drivePins false c1)
    (c2.each (upto 24) spBrake).axesBrake

/-- R413: in STANDBY the device's own internal sources do not engage its brake. -/
def Ctl.withheld (c : Ctl) (k : Nat) : Bool := c.role == 3 && decide (brkHalt ≤ k) && decide (k ≤ brkDie)

/-- R672, R673: source `k` asserts; `late`: its BRAKE block is ready only for a word of the next tick (R717). -/
def brakeSource (k : Nat) (late : Bool) (c : Ctl) : Ctl :=
  if c.withheld k then c.inc R.TWIN_CNT2_SHADOW_BRAKE
  else brakeEngage late (c.setBits R.GLOBAL_BRK_CAUSE (2 ^ k))

/-- A level source follows its condition. -/
def brakeLevel (k : Nat) (on late : Bool) (c : Ctl) : Ctl :=
  if on then
    if c.brkLevel k then c else brakeSource k late (c.setBits R.GLOBAL_BRK_STAT (2 ^ k))
  else c.clearBits R.GLOBAL_BRK_STAT (2 ^ k)

/-- R669, R670, R675: a filtered change on BRAKE_IN[i] to the level `high`. -/
def brakeInEdge (i : Nat) (high late : Bool) (c : Ctl) : Ctl :=
  let c1 := c.put ⟨R.GLOBAL_BRK_STAT, 27 + i, 1⟩ (b2n high)
  let differ := c1.get R.GLOBAL_BRK_STAT_IN_STATE == 1 || c1.get R.GLOBAL_BRK_STAT_IN_STATE == 2
  let c2 := { c1 with pwr := { c1.pwr with mismatchFrom := if differ then some (c1.pwr.mismatchFrom.getD c.now) else none } }
  brakeLevel (brkIn i) (!high) late c2

/-- R670: the inputs have disagreed for MISMATCH_US; once for one disagreement. -/
def brkInMismatch (c : Ctl) : Ctl :=
  match c.pwr.mismatchFrom with
  | none => c
  | some t =>
    if usTicks (c.get R.GLOBAL_BRK_CTRL_MISMATCH_US) ≤ c.sinceT t then
      { (c.flag R.GLOBAL_BRK_STAT_IN_MISMATCH true).irq pgGlobal 6 with pwr.mismatchFrom := none }
    else c

/-- R672: BRK_CMD.ENGAGE. -/
def engage (late : Bool) (c : Ctl) : Ctl := brakeSource brkEngage late c

/-- R679: BRK_CMD.RELEASE; while one is on its way to its tick edge another has no effect (R20). -/
def release (c : Ctl) : Ctl :=
  if c.pwr.release then c
  else if (c.get R.GLOBAL_BRK_STAT_LEVELS) ≠ 0 then (c.flag R.GLOBAL_BRK_STAT_RELEASE_REFUSED true).irq pgGlobal 7
  else
    let c1 := c.setReg R.GLOBAL_BRK_CAUSE 0
    if c.engaged then { c1 with pwr := { c1.pwr with release := true } } else c1

/-- R678, R679: a release takes effect at the tick edge. -/
def brakeEdge (c : Ctl) : Ctl :=
  if c.pwr.release then
    let c1 := { c with pwr := { c.pwr with release := false } }
    if c.get R.GLOBAL_BRK_STAT_LEVELS ≠ 0 then c1
    else
      let c2 := c1.flag R.GLOBAL_BRK_STAT_ENGAGED false
      brakeChange false (drivePins true c2)
  else c

/-- R371: while engaged, the block of the present state in a free word of every tick whose tally is a multiple of 64. -/
def brakePeriodic (c : Ctl) : Ctl :=
  if c.engaged ∧ c.isActive ∧ c.now % 64 = 0 then
    c.each (hlLanes.filter (fun k => (c.txOn k || c.inPattern k) && (c.ln k).reps.isEmpty)) (fun k c =>
      c.modLn k (fun l => { l with reps := [(ctlPayload bBrake c.brakeBody, 0, 1)] }))
  else c

/-- R716: the block a lane receives on entering ACTIVE: in the first tick after the entry and the three after it. -/
def brakeEntry (k : Nat) (c : Ctl) : Ctl :=
  if k < 48 then c.modLn k (fun l => { l with
    reps := if c.isActive then [(ctlPayload bBrake c.brakeBody, 1, 4)] else []
    p := { l.p with braked := true, engaged := none, exempt := true } })
  else c

end Sys2Proof.Machine
end

