-- ==== Sys2Proof/Machine/Camera.lean ====
section
/-! DEFINITION. Camera streams on the aux lanes (R382 to R386). -/

namespace Sys2Proof.Machine

/-- Units of a ring of 2^SIZE_LOG2 bytes (R384). -/
def Ctl.camUnits (c : Ctl) (k : Nat) : Nat := 2 ^ (c.get (R.CAM_CTRL_SIZE_LOG2 k) - 5)

def Ctl.camBase (c : Ctl) (k : Nat) : Nat :=
  c.get (R.CAM_BASE_LO_BASE k) * 2 ^ 12 + c.get (R.CAM_BASE_HI_BASE k) * 2 ^ 32

def Ctl.cam (c : Ctl) (k : Nat) : CamSt := (c.ln k).cam
def Ctl.modCam (c : Ctl) (k : Nat) (f : CamSt → CamSt) : Ctl := c.modLn k (fun l => { l with cam := f l.cam })

/-- Units of a record with the given data bytes: header and padded data (R384). -/
def camRecUnits (bytes : Nat) : Nat := 1 + (bytes + 31) / 32

/-- R384: free units behind the records closed or begun (R383: credits never exceed them). -/
def Ctl.camFree (c : Ctl) (k : Nat) : Nat :=
  let s := c.cam k
  let n := c.camUnits k
  let at_ := s.next + (match s.opened with | some f => camRecUnits f.bytes | none => 0)
  (c.get (R.CAM_RD_INDEX k) + 2 * n - at_ % n - 1) % n

/-- Bytes into the ring from a byte offset, wrapping at its end. -/
def camPut (k off : Nat) (l : List Byte) (c : Ctl) : Ctl :=
  let size := c.camUnits k * 32
  let o := off % size
  let room := size - o
  let c1 := c.wantWrite (c.camBase k + o) (l.take room)
  if l.length ≤ room then c1 else c1.wantWrite (c.camBase k) (l.drop room)

/-- R383: grant credits as the ring's free space allows. -/
def camCredit (k : Nat) (c : Ctl) : Ctl :=
  if isAux k ∧ c.is (R.CAM_CTRL_EN k) ∧ c.lst k = lnActive then
    let s := c.cam k
    let n := min (((c.camFree k * 32 - 64) / 6) - s.credits) 65535
    if n = 0 then c
    else (c.modCam k (fun s => { s with credits := s.credits + n })).modLn k (fun l => { l with creditDue := l.creditDue + n })
  else c

/-- R382: DSEQ rises by 1 for each block; a gap marks the frame in progress. -/
def camSeq (k dseq : Nat) (c : Ctl) : Ctl :=
  c.modCam k (fun s =>
    let gap := match s.dseq with | some d => (d + 1) % 256 != dseq | none => false
    { s with dseq := some dseq,
             opened := if gap then s.opened.map (fun f => { f with status := f.status ||| 2 }) else s.opened })

/-- R384, R385: close the frame in progress: pad, header, valid mark last. -/
def camClose (k : Nat) (status : Nat) (c : Ctl) : Ctl :=
  let s := c.cam k
  match s.opened with
  | none => c
  | some f =>
    let st := f.status ||| status
    let u := camRecUnits f.bytes
    let pad := (u - 1) * 32 - f.bytes
    let hdr := leBytes 2 f.frame ++ leBytes 2 st ++ leBytes 4 f.info ++ leBytes 4 f.bytes ++ leBytes 6 f.at_ ++
      leBytes 6 c.now ++ zeros 7
    let c1 := camPut k (f.unit * 32 + 32 + f.bytes) (zeros pad) c
    let c2 := camPut k (f.unit * 32) hdr c1
    let c3 := camPut k (f.unit * 32 + 31) [0xA5] c2
    (c3.modCam k (fun s => { s with
      opened := none
      next := (f.unit + u) % c.camUnits k
      waiting := s.waiting ++ [{ f with status := st, units := u }] })).metric 90 (f.bytes : Nat)

/-- Camera messages count only while the stream is enabled on an ACTIVE aux lane (R386). -/
def Ctl.camOn (c : Ctl) (k : Nat) : Bool := isAux k && c.is (R.CAM_CTRL_EN k) && c.lst k == lnActive

/-- R384, R385: CAM_SOF with DSEQ, FRAME and INFO. -/
def camSof (k dseq frame info : Nat) (c : Ctl) : Ctl :=
  if ¬ c.camOn k then c
  else
    let c1 := camClose k 8 (camSeq k dseq c)
    c1.modCam k (fun s => { s with opened := some { at_ := c.now, frame := frame, info := info, unit := s.next } })

/-- R383: CAM_DATA with DSEQ and its six bytes (as a 48-bit number, byte 0 least). -/
def camData (k dseq data : Nat) (c : Ctl) : Ctl :=
  if ¬ c.camOn k then c
  else
    let c1 := camSeq k dseq c
    let s := c1.cam k
    if s.credits = 0 then
      (c1.inc (R.CAM_CNT_OVERRUN k)).modCam k (fun s => { s with
        opened := s.opened.map (fun f => { f with status := f.status ||| 4 }) })
    else
      let c2 := c1.modCam k (fun s => { s with credits := s.credits - 1 })
      match s.opened with
      | none => c2
      | some f =>
        (camPut k (f.unit * 32 + 32 + f.bytes) (leBytes 6 data) c2).modCam k (fun s => { s with
          opened := some { f with bytes := f.bytes + 6 } })

/-- R385: CAM_EOF with DSEQ and BYTES. -/
def camEof (k dseq bytes : Nat) (c : Ctl) : Ctl :=
  if ¬ c.camOn k then c
  else
    let c1 := camSeq k dseq c
    match (c1.cam k).opened with
    | none => c1
    | some f => camClose k (1 + (if bytes = f.bytes then 0 else 16)) c1

/-- R385: records whose header is visible in DRAM: CAM_WR passes them, oldest first. -/
def camVisible (out : List (Nat × List Byte)) (k : Nat) (c : Ctl) : Ctl :=
  let s := c.cam k
  let n := c.camUnits k
  let done := s.waiting.takeWhile (fun f =>
    let a := c.camBase k + ((f.unit * 32 + 31) % (n * 32))
    !(out.any (fun e => decide (e.1 ≤ a) && decide (a < e.1 + e.2.length))))
  done.foldl (fun c f =>
    let c1 := (c.put (R.CAM_WR_INDEX k) ((f.unit + f.units) % n) |>.inc (R.CAM_CNT_FRAMES k)).protoEvt k 6
    let c2 := if f.status &&& 0x1E = 0 then c1 else (c1.inc (R.CAM_CNT_DAMAGED k)).protoEvt k 7
    c2.modCam k (fun s => { s with waiting := s.waiting.tail })) c

/-- R386: a write of CAM_CTRL with EN. -/
def camEnable (k : Nat) (word : Nat) (c : Ctl) : Ctl :=
  let wasOn := c.is (R.CAM_CTRL_EN k)
  let en := bitOf word 31
  let size := if wasOn then c.get (R.CAM_CTRL_SIZE_LOG2 k) else word % 32
  if ¬ isAux k then c
  else
    let c1 := c.put (R.CAM_CTRL_SIZE_LOG2 k) size
    if en then
      if size < 12 ∨ 30 < size then c1.flag (R.CAM_CTRL_EN k) false |>.flag (R.CAM_CTRL_SIZE_ERR k) true
      else
        let c2 := c1.flag (R.CAM_CTRL_EN k) true |>.flag (R.CAM_CTRL_SIZE_ERR k) false
        if wasOn then c2
        else (c2.put (R.CAM_WR_INDEX k) 0 |>.put (R.CAM_RD_INDEX k) 0).modCam k (fun _ => {}) |>.modLn k (fun l => { l with creditDue := 0 })
    else ((c1.flag (R.CAM_CTRL_EN k) false).modCam k (fun s => { s with credits := 0, opened := none })).modLn k
      (fun l => { l with creditDue := 0 })

end Sys2Proof.Machine
end

