-- ==== Sys2Proof/Machine/TrimBase.lean ====
section
/-! DEFINITION. What the lanes and the tentering loops hand to a trim run (R634, R635). -/

namespace Sys2Proof.Machine

def Ctl.modTrim (c : Ctl) (f : TrimSt → TrimSt) : Ctl := { c with trim := f c.trim }

/-- R634: head `n`'s word 0x0010 has been read, or the read has failed. -/
def trimHead (n : Nat) (inTrim : Bool) (c : Ctl) : Ctl :=
  c.modTrim (fun t => { t with
    waiting := t.waiting &&& (0xFFFFFF ^^^ 2 ^ n)
    heads := if inTrim then t.heads ||| 2 ^ n else t.heads })

/-- R635: a measurement of channel `n` for tick `t`, `bad` under R241 or not. -/
def trimMeas (n t a b r : Nat) (bad : Bool) (c : Ctl) : Ctl :=
  match c.trim.run with
  | none => c
  | some run =>
    let d := since t run.from_
    if ¬ bitOf run.chans n ∨ run.phase < 2 ∨ 3 < run.phase ∨ 2 ^ 25 ≤ d then c
    else
      let bad1 := bad || a == 0xFFFF || b == 0xFFFF || r == 0xFFFF
      let old := tget run.blocks (n * 512 + d / 65536) [0, 0, 0, 0]
      let new := [old.getD 0 0 + a, old.getD 1 0 + b, old.getD 2 0 + r, old.getD 3 0 + 1]
      c.modTrim (fun t => { t with run := some { run with
        blocks := tput run.blocks (n * 512 + d / 65536) new
        bad := if bad1 then run.bad ||| 2 ^ n else run.bad } })

end Sys2Proof.Machine
end

