-- ==== Sys2Proof/Machine/Lane.lean ====
section
/-! DEFINITION. Lanes: bring-up (R329 to R337), equalisation (R338 to R343), electrical idle (R344 to R346), tests
and injection (R347 to R350), and the management channel with the capability read (R374 to R380). -/

namespace Sys2Proof.Machine

/-! ### Management channel (R374 to R378) -/

/-- Requests accepted at once: MGMT_CREDITS, 1 before the capability is known (R374). -/
def Ctl.mgmtCredits (c : Ctl) (k : Nat) : Nat :=
  if c.is (R.PROTO_STAT_CAP_VALID k) then max 1 (slice (c.reg (R.CAP0 k)) 4 4) else 1

/-- MGMT_GO: a write of MGMT_CMD with GO; one request at a time (GO reads 1 meanwhile). -/
def mgmtGo (k : Nat) (c : Ctl) : Ctl :=
  if c.is (R.MGMT_CMD_GO k) then c
  else
    let w := c.is (R.MGMT_CMD_WRITE k)
    (c.flag (R.MGMT_CMD_GO k) true).modLn k (fun l => { l with
      mq := l.mq ++ [{ addr := c.get (R.MGMT_CMD_ADDR k), write := w, data := if w then c.reg (R.MGMT_WDATA k) else 0 }] })

/-- R378: on entry to ACTIVE the four capability words are asked for. -/
def capRead (k : Nat) (c : Ctl) : Ctl :=
  if isTwin k then c
  else c.modLn k (fun l => { l with
    caps := [none, none, none, none]
    capBad := 0
    capOpen := true
    mq := l.mq.filter (fun r => r.cap.isNone) ++ (upto 4).map (fun i => { addr := i, write := false, data := 0, cap := some i })
    mout := l.mout.filter (fun r => r.cap.isNone) })

/-- R380: the CAPABILITY event. -/
def capEvent (k : Nat) (arg0 : Nat) (c : Ctl) : Ctl :=
  c.event (pgLane k) 0x15 (0x40 + k) 0 0 0 [arg0, c.reg (R.CAP1 k), c.reg (R.CAP2 k)]

/-- R378: CAP_FAULT with its cause. -/
def capFault (k cause : Nat) (c : Ctl) : Ctl :=
  let c1 := c.flag (R.PROTO_STAT_CAP_VALID k) false |>.flag (R.PROTO_STAT_CAP_FAULT k) true
    |>.put (R.PROTO_STAT_FAULT_CAUSE k) cause
  capEvent k (2 + cause * 256) ((c1.protoEvt k 1).modLn k (fun l => { l with capOpen := false }))

/-- R378: the first cause that applies to the words read; 0 none. -/
def capCause (words old : List Nat) (retrained : Bool) : Nat :=
  let w0 := words.getD 0 0
  let ver := w0 / 2 ^ 24
  if 1 < ver then 1
  else if ver = 1 ∧ (w0 / 2 ^ 16) % 256 < 40 then 2
  else if slice w0 4 4 = 0 then 3
  else if retrained ∧ ¬ old.isEmpty ∧ old ≠ words then 5
  else 0

/-- R378: all four reads have ended: the checks, in the order of their causes. -/
def capCheck (k : Nat) (c : Ctl) : Ctl :=
  let l := c.ln k
  let ended := (upto 4).all (fun i => (l.caps.getD i none).isSome || bitOf l.capBad i)
  if ¬ l.capOpen ∨ ¬ ended then c
  else
    let ws := (upto 4).map (fun i => (l.caps.getD i none).getD (l.capsOld.getD i 0))
    let c1 := c.modLn k (fun l => { l with capsOld := ws, retrain := false })
    let word := if bitOf l.capBad 0 then 0 else capCause ws [] false
    let cause := if word ≠ 0 then word else if l.capBad ≠ 0 then 4 else capCause ws l.capsOld l.retrain
    if cause ≠ 0 then capFault k cause c1
    else
      let c2 := c1.flag (R.PROTO_STAT_COMPAT k) (decide (ws.getD 0 0 / 2 ^ 24 = 0)) |>.flag (R.PROTO_STAT_CAP_VALID k) true
        |>.flag (R.PROTO_STAT_CAP_FAULT k) false |>.put (R.PROTO_STAT_FAULT_CAUSE k) 0
      capEvent k 1 ((c2.protoEvt k 0).modLn k (fun l => { l with capOpen := false }))

/-- R378: a read of capability word `i` brings it: CAP`i`, the partner's own word. -/
def capWord (k i data : Nat) (c : Ctl) : Ctl :=
  capCheck k ((c.setReg (R.CAP0 k + 4 * i) data).modLn k (fun l => { l with
    caps := l.caps.set i (some data), p := if i = 0 then { l.p with word0 := data } else l.p }))

/-- R375, R378: it has failed. -/
def capLost (k i : Nat) (c : Ctl) : Ctl := capCheck k (c.modLn k (fun l => { l with capBad := l.capBad ||| 2 ^ i }))

/-- R376: the partner executes a request once; the same RSEQ again only brings the same response again. -/
def Partner.execute (p : Partner) (rseq : Nat) : Partner :=
  if p.execSeq = some rseq then p else { p with execSeq := some rseq, execs := p.execs + 1 }

/-- R374: a MGMT_RSP with RSEQ, RSTAT and DATA. -/
def mgmtRsp (k rseq rstat data : Nat) (c : Ctl) : Ctl :=
  let l := c.ln k
  match l.mout.find? (fun r => r.rseq == rseq) with
  | none => c
  | some r =>
    let c1 := c.modLn k (fun l => { l with mout := l.mout.filter (fun q => q.rseq != rseq) })
    match r.cap with
    | some 4 => trimHead k (rstat == 0 && data % 2 == 1) c1
    | some i => if rstat = 0 then capWord k i data c1 else capLost k i c1
    | none =>
      (c1.setReg (R.MGMT_RDATA k) data |>.flag (R.MGMT_STAT_DONE k) true |>.put (R.MGMT_STAT_RSTAT k) rstat
        |>.flag (R.MGMT_CMD_GO k) false).protoEvt k 2

/-- R375: requests without a response for 2,000 ticks are sent again, and abandoned after the third resend. -/
def mgmtRetry (k : Nat) (c : Ctl) : Ctl :=
  let l := c.ln k
  match l.mout.find? (fun r => decide (2000 ≤ c.sinceT r.at_)) with
  | none => c
  | some r =>
    let c1 := c.modLn k (fun l => { l with mout := l.mout.filter (fun q => q.rseq != r.rseq) })
    if r.tries < 3 then
      (c1.inc (R.PROTO_CNT1_MGMT_RETRY k)).modLn k (fun l => { l with mq := { r with tries := r.tries + 1 } :: l.mq })
    else match r.cap with
      | some 4 => trimHead k false c1
      | some i => capLost k i c1
      | none => ((c1.flag (R.MGMT_STAT_FAILED k) true |>.flag (R.MGMT_CMD_GO k) false).protoEvt k 2)

/-! ### State changes (R329) -/

/-- R370: a lane of a running channel leaves ACTIVE for state `st`. -/
def laneLoss (k st : Nat) (c : Ctl) : Ctl :=
  if 48 ≤ k then c
  else
    let n := chanOf k
    if c.sst n = stDisabled ∨ c.sst n = stStopped then c
    else
      let p := c.atHead n
      let c1 := c.event (pgLane k) 0x13 (0x40 + k) ((p.map (·.tag)).getD 0) ((p.map (·.x)).getD 0) ((p.map (·.y)).getD 0) [st]
      let c2 := c1.protoEvt k 5
      if c.is (R.PROTO_CTRL_LOSS_BRAKE k) then brakeSource brkLane false c2 else c2

/-- R715: the partner's lane leaves ACTIVE too: it loses its synchronisation and the samples it holds. -/
def partnerDrop (k : Nat) (c : Ctl) : Ctl :=
  c.modLn k (fun l => { l with p := { l.p with synced := false, held := [], out := 0 } })

/-- A lane changes state; leaving ACTIVE closes a camera frame (R385) and is a lane loss unless the lane goes to
ELEC_IDLE or TEST (R370). -/
def laneGo (k st : Nat) (c : Ctl) : Ctl :=
  let old := c.lst k
  if old = st then c
  else
    let leaving := old == lnActive
    let c0 := if leaving ∧ isAux k then camClose k 8 c else c
    let c1 := ((c0.put (R.LANE_STAT_STATE k) st).setActive (pgLane k) (st != lnDown)).irq (pgLane k) 0
    -- held blocks belong to the traffic, which only a relock carries on (R714)
    let keeps := st == lnLock || st == lnTest || st == lnActive
    let c2 := c1.modLn k (fun l => { l with
      at_ := c.now, relock := false, reqAt := none, trainDue := false, txPos := 0, quietFrom := none
      heldRt := if st = lnLock then l.heldRt else []
      hold := l.hold && keeps, soon := if keeps then l.soon else [], late := if keeps then l.late else [] })
    if leaving ∧ st ≠ lnElecIdle ∧ st ≠ lnTest then laneLoss k st c2 else c2

/-- R330, R333: the rate of the attempt about to train. -/
def Ctl.rateFor (c : Ctl) (k : Nat) : Bool :=
  let l := c.ln k
  if 3 ≤ l.attempt ∧ c.is (R.LANE_CTRL_FALLBACK_EN k) ∧ l.fast = 3 then true
  else if l.retrain ∧ ¬ c.is (R.LANE_STAT_RATE_PENDING k) ∧ ¬ l.rateDue then c.slow k
  else c.is (R.LANE_CTRL_RATE k)

/-- R332: training begins at step 1, at the rate of the attempt. -/
def trainStart (k : Nat) (c : Ctl) : Ctl :=
  let slow := c.rateFor k
  let pend := c.is (R.LANE_STAT_RATE_PENDING k)
  let c1 := c.flag (R.LANE_STAT_RATE_NOW k) slow |>.flag (R.LANE_STAT_RATE_PENDING k) false |>.put (R.LANE_STAT_TRAIN_STEP k) 1
    |>.flag (R.LANE_STAT_BLOCK_LOCK k) false
  let c2 := if pend then c1.irq (pgLane k) 7 else c1
  c2.modLn k (fun l => { l with
    at_ := c.now, rateDue := false, foms := [], eqReq := 0, eqBack := false, eqDue := false, eqFom := 0, eqFail := 0, dfeLeft := 64
    rxReady := false, peerReady := false, frames := 0, txPos := 0, ackTx := 0, idles := 0, hdrRun := 0, drop := false
    offers := 0, offerOk := false, confirms := 0, sent := 0, rxIdle := false, eiAt := none
    fast := if l.attempt ≤ 2 ∧ ¬ slow then l.fast ||| l.attempt else l.fast })

/-- A lane enters TRAIN: the scrambler's state is all ones (R322). -/
def enterTrain (k : Nat) (c : Ctl) : Ctl :=
  trainStart k ((partnerDrop k (laneGo k lnTrain c)).modLn k (fun l => { l with scr := 0x3FFFFFFFFFFFFFF }))

/-- A lane enters TRAIN for a retrain or after a loss, at attempt 1 (R329, R330). -/
def trainFirst (k : Nat) (c : Ctl) : Ctl :=
  enterTrain k ((c.put (R.LANE_STAT_ATTEMPT k) 1).modLn k (fun l => { l with attempt := 1, fast := 0, retrain := true }))

/-- R337: a retrain. -/
def retrainNow (k : Nat) (c : Ctl) : Ctl :=
  trainFirst k ((c.inc (R.LANE_CNT1_RETRAINS k)).irq (pgLane k) 2)

/-- A bring-up starts in DETECT at attempt 1. -/
def bringUp (k : Nat) (order : Bool) (c : Ctl) : Ctl :=
  let c1 := laneGo k lnDetect (c.put (R.LANE_STAT_ATTEMPT k) 1 |>.put (R.LANE_STAT_FAIL_CAUSE k) 0)
  c1.modLn k (fun l => { l with attempt := 1, fast := 0, retrain := false, order := order, probeAt := c.now })

/-- R330: an attempt fails with a cause. -/
def laneFail (k cause : Nat) (c : Ctl) : Ctl :=
  laneGo k lnBackoff (partnerDrop k (c.put (R.LANE_STAT_FAIL_CAUSE k) cause |>.flag (R.LANE_STAT_BLOCK_LOCK k) false))

/-- A lane enters ACTIVE (R330, R378, R716); from a relock the partner's lane has stayed ACTIVE (R714). -/
def laneUp (k : Nat) (c : Ctl) : Ctl :=
  let wasRelock := (c.ln k).relock && c.lst k == lnLock
  let c1 := (laneGo k lnActive c).flag (R.LANE_STAT_SIGNAL k) true
    |>.put (R.LANE_STAT_ATTEMPT k) 0 |>.put (R.LANE_STAT_TRAIN_STEP k) 0
  let c2 := c1.modLn k (fun l => { l with attempt := 0, fast := 0 })
  capRead k (if wasRelock then
      (if k < 48 ∧ c.isActive then c2.modLn k (fun l => { l with reps := l.reps ++ [(ctlPayload bBrake c.brakeBody, 1, 4)] }) else c2)
    else brakeEntry k (c2.modLn k (fun l => { l with
      trialIn := 16, trialNo := 0, trialLeft := 0, nonRx := 0, nonTx := 0, keepDue := false
      p := { l.p with synced := false, held := [] } })))

/-- R317: an aux lane whose pins carry the XY2-100 output. -/
def Ctl.xy2On (c : Ctl) (k : Nat) : Bool := isAux k && c.is (R.XY2_CTRL_EN k)

/-- R648: the start-up order has reached the place of a lane. -/
def Ctl.orderPermits (c : Ctl) (k : Nat) : Bool :=
  match c.pwr.step3End with
  | none => false
  | some t =>
    let after := fun (ms : Nat) => decide (msTicks ms ≤ c.sinceT t)
    if isTwin k then true
    else if k < 48 then after (5 + 5 * (chanOf k / 6))
    else after (if c.half then 15 else 25)

/-- R316, R329: BLK_CTRL enable written 1. -/
def laneEnable (k : Nat) (c : Ctl) : Ctl :=
  let was := c.enabled (pgLane k)
  let c1 := c.flag (R.BLK_CTRL_ENABLE (pgLane k)) true
  if was ∨ c.lst k ≠ lnDown ∨ ¬ c.hasLane k ∨ c.xy2On k then c1
  else if c.get (R.LANE_TEST_MODE k) = 2 then
    enterTrain k ((c1.put (R.LANE_STAT_ATTEMPT k) 1).modLn k (fun l => { l with attempt := 1, fast := 0, retrain := false }))
  else if c.orderPermits k then bringUp k false c1 else c1

/-- R316, R329: BLK_CTRL enable written 0. -/
def laneDisable (k : Nat) (c : Ctl) : Ctl :=
  let c1 := c.flag (R.BLK_CTRL_ENABLE (pgLane k)) false
  partnerDrop k (laneGo k lnDown (c1.flag (R.LANE_STAT_BLOCK_LOCK k) false))

/-- R329: LANE_CMD.START. -/
def laneStart (k : Nat) (c : Ctl) : Ctl :=
  if c.enabled (pgLane k) ∧ ¬ c.xy2On k ∧ c.hasLane k ∧ (c.lst k = lnDown ∨ c.lst k = lnAbsent) then bringUp k false c else c

/-- The start-up order starts the lanes whose place has come (R648). -/
def orderLanes (c : Ctl) : Ctl :=
  c.each ((upto 64).filter (fun k => c.hasLane k && c.enabled (pgLane k) && c.lst k == lnDown && !c.xy2On k &&
    !(c.ln k).order && c.orderPermits k)) (fun k c => bringUp k true c)

/-! ### Retrain and rate (R333, R337, R363) -/

/-- The samples and TICK_MARK of the present tick that a block must leave room for. -/
def Ctl.scheduledWords (c : Ctl) (k : Nat) : Nat :=
  (if isHead k then 2 else if isLaser k then 1 else 0) +
  (if k < 48 ∧ superframe (c.slow k) c.now ∧ ¬ (c.ln k).marked ∧ (c.ln k).used = 0 then 1 else 0)

/-- R363: the out-of-slot blocks that may still come in this tick and go before a retrain block: the BRAKE of an engaging
brake, a CORRECTION on a laser lane that has sent none. -/
def Ctl.mayCome (c : Ctl) (k : Nat) : Nat :=
  (if k < 48 ∧ ¬ c.engaged then 1 else 0) +
  (if isLaser k ∧ ¬ (tget c.tent (k - 24) {}).sentNow then 1 else 0)

/-- R363: a retrain block goes out at once when the scheduled blocks still fit whatever else comes, otherwise in the first
free word after them. -/
def sendRetrain (k op : Nat) (c : Ctl) : Ctl :=
  let p := ctlPayload bLinkMgmt (op + c.get (R.LANE_FOM_FOM k) * 2 ^ 8)
  let l := c.ln k
  if l.used + l.soon.length + 1 + c.scheduledWords k + c.mayCome k ≤ wordsIn (c.slow k) c.now then sendOos k p false c
  else (c.inc (R.LANE_CNT2_OOS_SENT k)).modLn k (fun l => { l with heldRt := l.heldRt ++ [p] })

/-- R337: LANE_CMD.RETRAIN, or a figure-of-merit failure with FAIL_RETRAIN 1. -/
def retrain (k : Nat) (c : Ctl) : Ctl :=
  if c.lst k = lnActive ∧ (c.ln k).reqAt.isNone then
    (sendRetrain k 1 c).modLn k (fun l => { l with reqAt := some c.now })
  else c

/-- R337: 1 µs after the request. -/
def retrainReqTimeout (k : Nat) (c : Ctl) : Ctl :=
  match (c.ln k).reqAt with
  | some t => if c.lst k = lnActive ∧ usTicks 1 ≤ c.sinceT t then retrainNow k c else c
  | none => c

/-- R333: a write of LANE_CTRL.RATE. -/
def laneRateWrite (k : Nat) (slow : Bool) (c : Ctl) : Ctl :=
  let old := c.is (R.LANE_CTRL_RATE k)
  let c1 := c.flag (R.LANE_CTRL_RATE k) slow
  let st := c.lst k
  if old = slow then c1
  else if st = lnDown ∨ st = lnDetect ∨ st = lnBackoff then c1.modLn k (fun l => { l with rateDue := true })
  else
    let c2 := c1.flag (R.LANE_STAT_RATE_PENDING k) true
    -- in step 5 the present training step is complete
    if st = lnTrain ∧ c.get (R.LANE_STAT_TRAIN_STEP k) = 5 then trainStart k c2 else c2

/-! ### Bring-up events -/

/-- R331: a probe of DETECT, every 100 µs: whether the termination is found and the signal has stood 100 µs. -/
def detectProbe (k : Nat) (found signal : Bool) (c : Ctl) : Ctl :=
  let l := c.ln k
  if c.lst k = lnDetect ∧ usTicks 100 ≤ c.sinceT l.probeAt then
    let c1 := (c.flag (R.LANE_STAT_SIGNAL k) signal).modLn k (fun l => { l with probeAt := c.now })
    if found ∧ signal then enterTrain k c1 else c1
  else c

/-- Counters and checker at an entry to TEST (R349). -/
def enterTest (k : Nat) (c : Ctl) : Ctl :=
  ((laneGo k lnTest c).setReg (R.LANE_PC_BITS_LO k) 0 |>.setReg (R.LANE_PC_BITS_HI k) 0 |>.setReg (R.LANE_PC_ERRS k) 0
    |>.flag (R.LANE_TEST_STAT_SYNC k) false |>.put (R.LANE_TEST_STAT_SLIPS k) 0 |>.put (R.LANE_TEST_STAT_SYNC_LOSS k) 0).modLn k
    (fun l => { l with chk := none, raised := false, gen := 0x7FFFFFFF, far := [], farOn := false })

/-- R334, R347: LOCK after TRAIN is complete. -/
def lockDone (k : Nat) (c : Ctl) : Ctl :=
  if c.get (R.LANE_TEST_MODE k) = 2 then enterTest k c
  else (laneGo k lnExchange c).modLn k (fun l => { l with offers := 0, offerOk := false, confirms := 0, sent := 0 })

/-- Retrain blocks still to go out: held back, or in a queue of out-of-slot blocks. -/
def LaneSt.retrainsDue (l : LaneSt) : Bool :=
  !l.heldRt.isEmpty || (l.late ++ l.soon).any (fun p => p % 256 == bLinkMgmt)

/-- R337, R363: a RETRAIN_REQ received: TRAIN follows the RETRAIN_ACK, which may have to wait. -/
def retrainReq (k : Nat) (c : Ctl) : Ctl :=
  if c.lst k ≠ lnActive then c
  else
    let c1 := sendRetrain k 2 c
    if (c1.ln k).retrainsDue then c1.modLn k (fun l => { l with trainDue := true }) else retrainNow k c1

/-- R337: a RETRAIN_ACK received. -/
def retrainAck (k : Nat) (c : Ctl) : Ctl :=
  if c.lst k = lnActive ∧ (c.ln k).reqAt.isSome then retrainNow k c else c

/-- R334, R346: a received IDLE block. -/
def idleBlock (k : Nat) (c : Ctl) : Ctl :=
  let st := c.lst k
  let l := c.ln k
  if st = lnLock ∧ ¬ l.relock then
    (if 63 ≤ l.idles then lockDone k c else c.modLn k (fun l => { l with idles := l.idles + 1 }))
  else if st = lnWake then laneUp k c
  else c

/-- R335: an EXCH OFFER; it breaks a run of CONFIRM blocks. -/
def exchOffer (k role lane : Nat) (cap12 cap6 : Bool) (peer port : Nat) (c : Ctl) : Ctl :=
  if c.lst k ≠ lnExchange then c
  else if (c.ln k).offerOk then c.modLn k (fun l => { l with confirms := 0 })
  else
    let myRole := if isHead k then 1 else if isLaser k then 2 else if isAux k then 3 else 0
    let n := (c.ln k).offers + 1
    if n < 4 then c.modLn k (fun l => { l with offers := n })
    else if role = myRole ∧ lane = k ∧ (if c.slow k then cap6 else cap12) then
      (c.setReg (R.LANE_PEER k) (peer * 2 ^ 16 + port * 2 ^ 15 + role * 2 ^ 8 + lane)).modLn k (fun l => { l with
        offers := n, offerOk := true, confirms := 0, sent := 0 })
    else laneFail k 6 c

/-- R335: ACTIVE after 4 CONFIRM blocks each way. -/
def exchDone (k : Nat) (c : Ctl) : Ctl :=
  let l := c.ln k
  if c.lst k = lnExchange ∧ c.is (R.LANE_STAT_BLOCK_LOCK k) ∧ l.offerOk ∧ 4 ≤ l.confirms ∧ 4 ≤ l.sent then laneUp k c else c

/-- R335: an EXCH CONFIRM; before 4 OFFER blocks it breaks their run. -/
def exchConfirm (k : Nat) (c : Ctl) : Ctl :=
  if c.lst k ≠ lnExchange then c
  else if (c.ln k).offerOk then exchDone k (c.modLn k (fun l => { l with confirms := l.confirms + 1 }))
  else c.modLn k (fun l => { l with offers := 0 })

/-- R329, R649: a timeout of DETECT, TRAIN, LOCK or EXCHANGE. -/
def laneTimeout (k : Nat) (c : Ctl) : Ctl :=
  let l := c.ln k
  let st := c.lst k
  let past := fun (ms : Nat) => decide (msTicks ms ≤ c.sinceT l.at_)
  if st = lnDetect then
    let extra := if l.order ∧ l.attempt = 1 then c.get R.GLOBAL_START_CFG_START_WAIT_MS else 0
    if past (c.get1 (R.LANE_TIMEOUT_DETECT_MS k) + extra) then laneFail k 1 c else c
  else if st = lnTrain then (if past (c.get1 (R.LANE_TIMEOUT_TRAIN_MS k)) then laneFail k 2 c else c)
  else if st = lnLock ∧ ¬ l.relock then (if past (c.get1 (R.LANE_TIMEOUT_LOCK_MS k)) then laneFail k 4 c else c)
  else if st = lnExchange then (if past (c.get1 (R.LANE_TIMEOUT_EXCH_MS k)) then laneFail k 5 c else c)
  else c

/-- R329, R330: BACKOFF_MS has elapsed. -/
def backoffExpiry (k : Nat) (c : Ctl) : Ctl :=
  let l := c.ln k
  if c.lst k = lnBackoff ∧ msTicks (c.get1 (R.LANE_RETRY_BACKOFF_MS k)) ≤ c.sinceT l.at_ then
    if l.attempt < 1 + c.get1 (R.LANE_RETRY_RETRIES k) then
      (laneGo k lnDetect (c.put (R.LANE_STAT_ATTEMPT k) (l.attempt + 1))).modLn k (fun l => { l with
        attempt := l.attempt + 1, probeAt := c.now })
    else (laneGo k lnAbsent c).irq (pgLane k) 1
  else c

/-- R326, R329: 16 of 64 headers are invalid; an ACTIVE lane relocks while its signal is present. -/
def blockLockLost (k : Nat) (c : Ctl) : Ctl :=
  let present := c.is (R.LANE_STAT_SIGNAL k) && !(c.ln k).rxIdle
  if ¬ c.is (R.LANE_STAT_BLOCK_LOCK k) ∨ (c.lst k = lnActive ∧ ¬ present) then c
  else
    let c1 := ((c.flag (R.LANE_STAT_BLOCK_LOCK k) false).inc (R.LANE_CNT1_LOCK_LOSS k)).modLn k (fun l => { l with
      idles := 0, hdrRun := 0, hdrBad := 0, drop := false })
    if c.lst k = lnActive then (laneGo k lnLock c1).modLn k (fun l => { l with relock := true }) else c1

/-- R329: 10 µs without relock. -/
def relockTimeout (k : Nat) (c : Ctl) : Ctl :=
  if c.lst k = lnLock ∧ (c.ln k).relock ∧ usTicks 10 ≤ c.sinceT (c.ln k).at_ then trainFirst k c else c

/-- States without a receiver at work. -/
def Ctl.deaf (c : Ctl) (k : Nat) : Bool :=
  c.lst k == lnDown || c.lst k == lnDetect || c.lst k == lnBackoff || c.lst k == lnAbsent

/-- R347: the lane's receiver is fed by its own serialiser. -/
def Ctl.looped (c : Ctl) (k : Nat) : Bool := c.get (R.LANE_TEST_MODE k) == 2 && !c.deaf k

/-- R345: within 16 blocks of a valid EI_ENTER: at most 16 received since, and no more ticks than they take. -/
def Ctl.announced (c : Ctl) (k : Nat) : Bool :=
  let l := c.ln k
  l.rxIdle || (match l.eiAt with
    | some t => decide (c.sinceT t ≤ (if c.slow k then 4 else 2)) && decide (l.eiBlocks ≤ 16)
    | none => false)

/-- R329, R345: the receive signal falls below the threshold; in NEAR_SERIAL the receive pins are ignored (R347). -/
def signalLost (k : Nat) (c : Ctl) : Ctl :=
  if c.looped k then c
  else
    let c1 := c.flag (R.LANE_STAT_SIGNAL k) false
    let c2 := (c1.flag (R.LANE_STAT_BLOCK_LOCK k) false).modLn k (fun l => { l with
      hdrRun := 0, hdrBad := 0, drop := false, idles := 0 })
    if c.announced k then c1.modLn k (fun l => { l with rxIdle := true })
    else if c.lst k = lnActive then trainFirst k c2
    else c2

/-! ### Training (R332) -/

/-- The CTLE settings of step 2: all 16, or in a retrain those within 2 of the one in use. -/
def Ctl.ctleSet (c : Ctl) (k : Nat) : List Nat :=
  let now := c.get (R.LANE_RX_EQ_CTLE k)
  if (c.ln k).retrain then (upto 16).filter (fun s => decide (s ≤ now + 2) && decide (now ≤ s + 2)) else upto 16

/-- The setting with the greatest figure of merit, the lowest among equals. -/
def bestFom : Table Nat → Nat × Nat
  | [] => (0, 0)
  | (s, f) :: t =>
    let b := bestFom t
    if t.isEmpty ∨ b.2 ≤ f then (s, f) else b

/-- R332: the partner's request to a cursor: 0 hold, 1 increase, 2 decrease, 3 preset 0; the new value and the
answer (1 updated, 2 at limit). -/
def cursorStep (fixed : Bool) (req cur max_ : Nat) : Nat × Nat :=
  if fixed ∨ req = 0 then (cur, 0)
  else if req = 3 then (0, 1)
  else if req = 1 then (if cur < max_ then (cur + 1, 1) else (cur, 2))
  else (if 0 < cur then (cur - 1, 1) else (cur, 2))

/-- The request opposite to `r`: pre-cursor 1 and 2, post-cursor 3 and 4. -/
def eqOpposite (r : Nat) : Nat := match r with | 1 => 2 | 2 => 1 | 3 => 4 | 4 => 3 | _ => 0

/-- R332 step 3: the request as it stands on the line: REQ_PRE and REQ_POST. -/
def LaneSt.request (l : LaneSt) : Nat :=
  match if l.eqBack then eqOpposite l.eqReq else l.eqReq with
  | 1 => 1 * 2 ^ 4 | 2 => 2 * 2 ^ 4 | 3 => 1 * 2 ^ 6 | 4 => 2 * 2 ^ 6 | _ => 0

/-- R332 step 3: the next request after the answer to the last one: a change that raised the figure of merit by HYST is
kept and asked for again, any other is taken back. -/
def eqNext (l : LaneSt) (ack : Nat) (fom hyst : Nat) : LaneSt :=
  if l.eqReq = 0 then { l with eqReq := 1, eqFom := fom, eqFail := 0, eqDue := true }
  else if l.eqBack then { l with eqBack := false, eqReq := l.eqReq % 4 + 1, eqDue := true }
  else if ack = 1 ∧ l.eqFom + hyst ≤ fom then { l with eqFom := fom, eqFail := 0, eqDue := true }
  else if ack = 1 then { l with eqBack := true, eqFail := l.eqFail + 1, eqDue := true }
  else { l with eqReq := l.eqReq % 4 + 1, eqFail := l.eqFail + 1, eqDue := true }

/-- The next training step, or a restart at step 1 when a rate change waits (R333). -/
def stepDone (k next : Nat) (c : Ctl) : Ctl :=
  if c.is (R.LANE_STAT_RATE_PENDING k) then trainStart k c else c.put (R.LANE_STAT_TRAIN_STEP k) next

/-- R332: the receiver's work on a training frame: `done` for the CDR step, the figure of merit, and the CTLE setting it
was measured at; `ack`: the partner's answers. -/
def trainWork (k ack : Nat) (done : Bool) (fom ctle : Nat) (c : Ctl) : Ctl :=
  let l := c.ln k
  match c.get (R.LANE_STAT_TRAIN_STEP k) with
  | 1 => if done then stepDone k 2 c else c
  | 2 =>
    if (c.ctleSet k).contains ctle then
      let foms := tput l.foms ctle fom
      let c1 := c.modLn k (fun l => { l with foms := foms })
      if (c.ctleSet k).all (fun s => (tget? foms s).isSome) then
        let b := bestFom foms
        stepDone k 3 (c1.put (R.LANE_RX_EQ_CTLE k) b.1)
      else c1
    else c
  | 3 =>
    if l.eqDue then c
    else
      let l1 := eqNext l (if l.eqReq ≤ 2 then slice ack 0 2 else slice ack 2 2) fom (c.get (R.LANE_ADAPT_HYST k))
      let c1 := c.setLn k l1
      if 4 ≤ l1.eqFail ∧ ¬ l1.eqBack then stepDone k 4 (c1.modLn k (fun l => { l with eqDue := false })) else c1
  | 4 => if l.dfeLeft = 0 then stepDone k 5 (c.modLn k (fun l => { l with rxReady := true })) else c
  | _ => c

/-- R329, R332: step 5: both sides ready lead to LOCK, a figure of merit below FOM_WARN fails the attempt. -/
def trainDone (k : Nat) (c : Ctl) : Ctl :=
  let l := c.ln k
  if c.lst k ≠ lnTrain ∨ c.get (R.LANE_STAT_TRAIN_STEP k) ≠ 5 then c
  else if c.get (R.LANE_FOM_FOM k) < c.get (R.LANE_ADAPT_FOM_WARN k) then laneFail k 3 c
  else if l.rxReady ∧ l.peerReady then (laneGo k lnLock c).modLn k (fun l => { l with idles := 0 })
  else c

/-- R332: a TRAIN block arrives (its body) with what the receiver measured; the partner's requests to the cursors are
taken, to be answered in the next frame sent. -/
def trainBlock (k body : Nat) (done : Bool) (fom ctle : Nat) (c : Ctl) : Ctl :=
  if c.lst k ≠ lnTrain then c
  else
    let fixed := c.is (R.LANE_TX_OVR_EN k)
    let pre := cursorStep fixed (slice body 4 2) (c.get (R.LANE_TX_EQ_PRE k)) 15
    let post := cursorStep fixed (slice body 6 2) (c.get (R.LANE_TX_EQ_POST k)) 31
    let c1 := c.flag (R.LANE_STAT_SIGNAL k) true |>.put (R.LANE_TX_EQ_PRE k) pre.1 |>.put (R.LANE_TX_EQ_POST k) post.1
    let c2 := c1.modLn k (fun l => { l with ackTx := pre.2 + post.2 * 4, peerReady := bitOf body 12 })
    trainDone k (trainWork k (slice body 8 4) done fom ctle c2)

/-! ### Figure of merit and adaptation (R338 to R343) -/

/-- R343 at the end of a window. -/
def fomAlarms (k fom : Nat) (c : Ctl) : Ctl :=
  let warn := c.get (R.LANE_ADAPT_FOM_WARN k)
  let low := decide (fom < warn)
  let l := c.ln k
  let c1 := c.flag (R.LANE_STAT_FOM_LOW k) low
  let c2 := if low ∧ ¬ l.warned then c1.irq (pgLane k) 3 else c1
  let run := if fom < c.get (R.LANE_ADAPT_FOM_FAIL k) then l.failRun + 1 else 0
  let c3 := c2.modLn k (fun l => { l with
    warned := if low then true else if warn + c.get (R.LANE_ADAPT_HYST k) ≤ fom then false else l.warned
    failRun := run })
  if run = c.get1 (R.LANE_ADAPT_FAIL_WINDOWS k) then
    let c4 := c3.irq (pgLane k) 4
    if c.is (R.LANE_ADAPT_FAIL_RETRAIN k) then retrain k c4 else c4
  else c3

/-- R339: the trial of a CTLE or CDR step: the setting changed. -/
def trialApply (k no : Nat) (c : Ctl) : Ctl :=
  let ctle := c.get (R.LANE_RX_EQ_CTLE k)
  match no % 4 with
  | 0 => c.put (R.LANE_RX_EQ_CTLE k) (min 15 (ctle + 1))
  | 1 => c.put (R.LANE_RX_EQ_CTLE k) (ctle - 1)
  | 2 => c.modLn k (fun l => { l with phase := clamp (l.phase + 1) (-15) 15 })
  | _ => c.modLn k (fun l => { l with phase := clamp (l.phase - 1) (-15) 15 })

/-- The settings held before a trial come back. -/
def trialUndo (k : Nat) (c : Ctl) : Ctl :=
  let l := c.ln k
  (c.put (R.LANE_RX_EQ_CTLE k) l.oldCtle).modLn k (fun l => { l with phase := l.oldPhase, trialLeft := 0, trialIn := 12 })

/-- R339, R345: adaptation in ACTIVE, unless it is frozen or the input idle. -/
def Ctl.adapts (c : Ctl) (k : Nat) : Bool :=
  c.lst k == lnActive && c.is (R.LANE_ADAPT_ADAPT_EN k) && !c.is (R.LANE_STAT_ADAPT_FROZEN k) && !(c.ln k).rxIdle

/-- R339: a trial begins every 16 windows and is judged by the 4 windows after its start. -/
def trialWindow (k fom : Nat) (c : Ctl) : Ctl :=
  let l := c.ln k
  if ¬ c.adapts k then c
  else if 0 < l.trialLeft then
    let sum := l.trialSum + fom
    if l.trialLeft = 1 then
      if 4 * l.trialFom + 4 * c.get (R.LANE_ADAPT_HYST k) ≤ sum then
        c.modLn k (fun l => { l with trialLeft := 0, trialIn := 12 })
      else trialUndo k c
    else c.modLn k (fun l => { l with trialLeft := l.trialLeft - 1, trialSum := sum })
  else if l.trialIn ≤ 1 then
    trialApply k l.trialNo (c.modLn k (fun l => { l with
      trialLeft := 4, trialSum := 0, trialFom := fom, trialNo := (l.trialNo + 1) % 4
      oldCtle := c.get (R.LANE_RX_EQ_CTLE k), oldPhase := l.phase }))
  else c.modLn k (fun l => { l with trialIn := l.trialIn - 1 })

/-- The receiver takes data blocks: TRAIN, ACTIVE, a relock, TEST. -/
def Ctl.takesData (c : Ctl) (k : Nat) : Bool :=
  c.lst k == lnTrain || c.lst k == lnActive || c.lst k == lnTest || (c.lst k == lnLock && (c.ln k).relock)

/-- R338: a window of 4,096 data blocks, in TRAIN of 512, ends with a count of differing bits. -/
def fomWindowEnd (k count : Nat) (c : Ctl) : Ctl :=
  if ¬ c.takesData k then c
  else
    let train := c.lst k == lnTrain
    let lo := if train then 8 else 64
    let hi := if train then 32 else 256
    let l := c.ln k
    let v := if count < lo then l.fomV + 1 else if hi < count then l.fomV - 1 else l.fomV
    let fom := min 255 v
    let dfe := train && c.get (R.LANE_STAT_TRAIN_STEP k) == 4
    let c1 := c.modLn k (fun l => { l with fomV := v, fomRep := true, dfeLeft := if dfe then l.dfeLeft - 1 else l.dfeLeft })
    let c2 := c1.put (R.LANE_FOM_FOM k) fom |>.put (R.LANE_FOM_FOM_MIN k) (min (c.get (R.LANE_FOM_FOM_MIN k)) fom)
      |>.put (R.LANE_FOM_WINDOWS k) ((c.get (R.LANE_FOM_WINDOWS k) + 1) % 2 ^ 16)
    let c3 := (c2.metric (if isHead k then 83 else if isLaser k then 84 else 85) (fom : Nat)).wearAcc k (fom : Nat) 1
    trialWindow k fom (fomAlarms k fom c3)

/-- R339: after 256 data blocks each DFE tap moves by at most one step (signs by sign-sign LMS). -/
def dfeStep (k : Nat) (d : List Int) (c : Ctl) : Ctl :=
  let on := c.adapts k || (c.lst k == lnTrain && c.get (R.LANE_STAT_TRAIN_STEP k) == 4)
  if ¬ on then c
  else
    let mv := fun (f : Fld) (i : Nat) (lim : Int) (c : Ctl) =>
      c.putS f (clamp (c.getS f + clamp (d.getD i 0) (-1) 1) (-lim) lim)
    c |> mv (R.LANE_RX_EQ_DFE1 k) 0 63 |> mv (R.LANE_RX_EQ_DFE2 k) 1 15 |> mv (R.LANE_RX_EQ_DFE3 k) 2 15
      |> mv (R.LANE_RX_EQ_DFE4 k) 3 15 |> mv (R.LANE_RX_EQ_DFE5 k) 4 15

/-- The receive side of a lane at work with its partner: ACTIVE, or LOCK for a relock. -/
def Ctl.linked (c : Ctl) (k : Nat) : Bool := c.lst k == lnActive || (c.lst k == lnLock && (c.ln k).relock)

/-- R340: 64 consecutive non-data blocks received. -/
def adaptFrozen (k : Nat) (c : Ctl) : Ctl :=
  if ¬ c.linked k ∨ (c.ln k).nonRx < 64 then c
  else
    let c1 := c.flag (R.LANE_STAT_ADAPT_FROZEN k) true
    if 0 < (c.ln k).trialLeft then trialUndo k c1 else c1

/-- R340: a data block that is not a line keeper resumes adaptation, the rotation from its beginning. -/
def adaptResume (k : Nat) (c : Ctl) : Ctl :=
  if c.is (R.LANE_STAT_ADAPT_FROZEN k) then
    (c.flag (R.LANE_STAT_ADAPT_FROZEN k) false).modLn k (fun l => { l with trialNo := 0, trialIn := 16 })
  else c

/-! ### PRBS (R341, R342, R348, R349) -/

/-- One bit of a PRBS x^p + x^q + 1: the register holds the last `p` bits, newest in bit 0. -/
def prbsBit (p q r : Nat) : Nat × Bool :=
  let b := bitOf r (p - 1) != bitOf r (q - 1)
  ((r * 2 + b2n b) % 2 ^ p, b)

/-- The next `n` bits as a number (first bit least significant) and the register after them. -/
def prbsBits (p q : Nat) : Nat → Nat → Nat → Nat × Nat
  | 0, _, r => (0, r)
  | n + 1, i, r =>
    let s := prbsBit p q r
    let t := prbsBits p q n (i + 1) s.1
    (b2n s.2 + 2 * t.1, t.2)

/-- The register after the bits of a block: its last `p` bits, newest in bit 0. -/
def prbsSeed (p n w : Nat) : Nat := (upto p).foldl (fun r i => r + b2n (bitOf w (n - 1 - i)) * 2 ^ i) 0

/-- Words of the present tick that nothing of a higher priority than IDLE blocks takes or will take: what has gone out or
waits behind a TICK_MARK, the scheduled blocks, BRAKE repeats, held retrain blocks, management requests, camera credits
and a FOM report (R362). -/
def Ctl.spareWords (c : Ctl) (k : Nat) : Nat :=
  let l := c.ln k
  wordsIn (c.slow k) c.now - (l.used + l.soon.length + c.scheduledWords k + (l.reps.filter (fun r => r.2.1 == 0)).length +
    l.heldRt.length + min l.mq.length (c.mgmtCredits k - l.mout.length) + b2n (0 < l.creditDue) + b2n l.fomRep)

/-- R341: the line keeper's block. -/
def sendKeeper (k : Nat) (c : Ctl) : Ctl :=
  let g := prbsBits 31 28 56 0 (c.ln k).keepTx
  sendBlock k false (g.1 * 2 ^ 8) (c.modLn k (fun l => { l with keepTx := g.2 }))

/-- R341, R359: a line keeper goes out in place of an IDLE block when 8 µs of idle have made it due; not in the word kept
for a TICK_MARK. -/
def lineKeeperSend (k : Nat) (c : Ctl) : Ctl :=
  if c.txOn k ∧ (c.ln k).keepDue ∧ ¬ (c.ln k).hold ∧ 0 < c.spareWords k then sendKeeper k c else c

/-- R342: a received line keeper: the first after block lock seeds, later ones count mismatched bits. -/
def keeperCheck (k body : Nat) (c : Ctl) : Ctl :=
  if ¬ c.linked k then c
  else match (c.ln k).keepRx with
    | none => c.modLn k (fun l => { l with keepRx := some (prbsSeed 31 56 (body % 2 ^ 56)) })
    | some r =>
      let g := prbsBits 31 28 56 0 r
      (c.add (R.LANE_CNT2_KEEPER_ERR k) (popCount 56 (g.1 ^^^ (body % 2 ^ 56)))).modLn k (fun l => { l with keepRx := some g.2 })

/-! ### What the receiver takes from the line (R322, R324, R326) -/

/-- R347: in NEAR_SERIAL a lane receives only what it sends itself. -/
def Ctl.hears (c : Ctl) (k : Nat) (ctrl : Bool) (payload : Nat) : Bool :=
  !c.looped k || (c.wire ++ c.sent).any (fun b => b.lane == k && b.ctrl == ctrl && b.payload == payload)

/-- The same for a word whose header is invalid: its line bits. -/
def Ctl.hearsBad (c : Ctl) (k line : Nat) : Bool :=
  !c.looped k || (c.wire ++ c.sent).any (fun b => b.lane == k && (b.line % 4 == 0 || b.line % 4 == 3) && b.line / 4 == line)

/-- The receiver seeks block lock, and decodes nothing before it. -/
def Ctl.seeksLock (c : Ctl) (k : Nat) : Bool :=
  !c.is (R.LANE_STAT_BLOCK_LOCK k) &&
    (c.lst k == lnTrain || c.lst k == lnLock || c.lst k == lnExchange || c.lst k == lnWake)

/-- R326, R346: `n` valid headers in a row: block lock after 64, in a fast exit after 16. The payload of the block after
that is not descrambled yet (R322), and the keeper's check begins anew (R342). -/
def rxHeaders (k n : Nat) (c : Ctl) : Ctl :=
  let l := c.ln k
  let need := if c.lst k = lnWake then 16 else 64
  let c1 := c.modLn k (fun l => { l with hdrRun := min 64 (l.hdrRun + n), hdrBad := l.hdrBad * 2 ^ n % 2 ^ 64 })
  if c.is (R.LANE_STAT_BLOCK_LOCK k) ∨ c.deaf k ∨ l.hdrRun + n < need then c1
  else (c1.flag (R.LANE_STAT_BLOCK_LOCK k) true).modLn k (fun m => { m with
    idles := 0, hdrBad := 0, keepRx := none, drop := decide (l.hdrRun + n ≤ need) })

/-- R326: an invalid header; the 16th of 64 loses block lock. -/
def rxBadHeader (k : Nat) (c : Ctl) : Ctl :=
  let c1 := c.modLn k (fun l => { l with hdrRun := 0, hdrBad := (l.hdrBad * 2 + 1) % 2 ^ 64, idles := 0 })
  if 16 ≤ popCount 64 (c1.ln k).hdrBad then blockLockLost k c1 else c1

/-- R334, R335, R340, R345: what a decoded block does to the runs that other blocks make. -/
def rxRuns (k : Nat) (ctrl : Bool) (typ : Nat) (c : Ctl) : Ctl :=
  let st := c.lst k
  -- a training frame's 31 data blocks follow its TRAIN block (R332)
  let data := !ctrl || typ == bTrain
  let c1 := c.modLn k (fun l => { l with
    eiBlocks := l.eiBlocks + 1
    nonRx := if data then 0 else l.nonRx + 1
    idles := if st = lnLock ∧ ¬ l.relock ∧ ¬ (ctrl ∧ typ = bIdle) then 0 else l.idles
    offers := if st = lnExchange ∧ ¬ l.offerOk ∧ ¬ (ctrl ∧ typ = bExch) then 0 else l.offers
    confirms := if st = lnExchange ∧ ¬ (ctrl ∧ typ = bExch) then 0 else l.confirms })
  if ¬ data then (if (c1.ln k).nonRx = 64 then adaptFrozen k c1 else c1)
  else if ¬ ctrl ∧ typ = 0 then c1
  else adaptResume k c1

/-- R334: a block of a relock without a header or CHECK error: 16 in a row end it. -/
def relockBlock (k : Nat) (c : Ctl) : Ctl :=
  if c.lst k = lnLock ∧ (c.ln k).relock then
    (if 15 ≤ (c.ln k).idles then laneUp k c else c.modLn k (fun l => { l with idles := l.idles + 1 }))
  else c

/-- R347: a word of FAR_PARALLEL goes through the elastic buffer, which is half full of its 16 words before it sends. `drift`:
1 the transmitter was a word ahead of the receiver, 2 a word behind; within 2 words of empty or full a word is repeated or
dropped. -/
def farWord (k : Nat) (ctrl : Option Bool) (payload drift : Nat) (c : Ctl) : Ctl :=
  let buf := (c.ln k).far ++ [(ctrl, payload)]
  let send : Option Bool × Nat → Ctl → Ctl := fun w => match w.1 with
    | some b => sendBlock k b w.2
    | none => sendBad k w.2
  let pop : Ctl → Ctl := fun c => match (c.ln k).far with
    | [] => c
    | w :: t => send w (c.modLn k (fun l => { l with far := t }))
  let c1 := c.modLn k (fun l => { l with far := buf })
  if drift = 2 then
    if 14 ≤ buf.length then (c.inc (R.LANE_TEST_STAT_SLIPS k)) else c1
  else if buf.length ≤ 8 ∧ drift = 0 ∧ ¬ (c.ln k).farOn then c1
  else
    let c2 := pop (c1.modLn k (fun l => { l with farOn := true }))
    if drift = 1 then
      match (c2.ln k).far with
      | w :: _ => if (c2.ln k).far.length ≤ 2 then send w (c2.inc (R.LANE_TEST_STAT_SLIPS k)) else pop c2
      | [] => c2
    else c2

/-- R322, R326: the valid header of a block that is heard counts, and the descrambler takes its payload. A training frame
stands for its 32 blocks (R332). -/
def heard (k : Nat) (ctrl : Bool) (payload : Nat) (c : Ctl) : Ctl :=
  let frame := ctrl && payload % 256 == bTrain && (c.lst k == lnTrain || c.lst k == lnWake)
  rxHeaders k (if frame then 32 else 1) (c.modLn k (fun l => { l with rxScr := lineTail (scramble l.rxScr payload) }))

/-- A block with a valid header arrives with its payload as sent (R322, R326): `f` is what it does once it is decoded. -/
def rxBlock (k : Nat) (ctrl : Bool) (payload : Nat) (f : Ctl → Ctl) (c : Ctl) (drift : Nat := 0) : Ctl :=
  if c.deaf k then f c
  else if ¬ c.hears k ctrl payload then c
  else
    let c1 := heard k ctrl payload c
    if c.seeksLock k then c1
    else if (c.ln k).drop then relockBlock k (c1.modLn k (fun l => { l with drop := false }))
    else if c.lst k = lnTest ∧ c.get (R.LANE_TEST_MODE k) = 3 then farWord k (some ctrl) payload drift c1
    else f (rxRuns k ctrl (payload % 256) c1)

/-- R324: a discarded block is counted: 1 failed CHECK, 2 unassigned or forbidden type, 3 failed CHK. -/
def discardBlock (k cause : Nat) (c : Ctl) : Ctl :=
  let c1 := match cause with
    | 1 => c.inc (R.LANE_CNT0_CHECK_ERR k)
    | 2 => c.inc (R.LANE_CNT1_UNKNOWN_TYPE k)
    | _ => c.inc (if isTwin k then R.TWIN_CNT0_LINK_ERR else R.PROTO_CNT0_CHK_ERR k)
  -- R334, R335: no such block belongs to a run; in a relock only a CHECK error breaks it
  let keeps := c.lst k == lnLock && (c.ln k).relock && cause != 1
  let c2 := c1.modLn k (fun l => { l with
    idles := if keeps then l.idles else 0, offers := if l.offerOk then l.offers else 0, confirms := 0 })
  if keeps then relockBlock k c2 else c2

/-- BLOCK_DISCARD (R324): a block whose header is invalid (cause 0), or that `discardBlock` counts, with its 64 payload bits,
those behind an invalid header as they stand on the line. -/
def blockDiscard (k cause payload : Nat) (c : Ctl) : Ctl :=
  if ¬ c.hasLane k ∨ (cause = 0 ∧ ¬ c.hearsBad k payload) then c
  else if cause = 0 then
    let plain := descramble (c.ln k).rxScr payload
    let c1 := (c.inc (R.LANE_CNT0_HDR_ERR k)).modLn k (fun l => { l with
      rxScr := lineTail payload, offers := if l.offerOk then l.offers else 0, confirms := 0 })
    if c.deaf k then c1
    else if c.lst k = lnTest ∧ c.get (R.LANE_TEST_MODE k) = 3 then farWord k none plain 0 (rxBadHeader k c1)
    else rxBadHeader k c1
  else rxBlock k (cause != 3) payload (discardBlock k cause) c

/-- R323, R324: a control block with its CHECK; a failed CHECK discards it. -/
def ctlBlock (k typ body check : Nat) (f : Ctl → Ctl) (c : Ctl) : Ctl :=
  rxBlock k true (ctlWord typ body check)
    (fun c => if ctlGood typ body check then relockBlock k (f c) else if c.hasLane k then discardBlock k 1 c else c) c

/-- R353: a data block of message type `mt` with body and CHK; `f` looks at the CHK. -/
def dataBlock (k mt body chk : Nat) (f : Ctl → Ctl) (c : Ctl) : Ctl :=
  rxBlock k false (dataWord mt body chk) (fun c => relockBlock k (f c)) c

/-- LINE_KEEPER (R325, R342). -/
def lineKeeper (k body : Nat) (c : Ctl) : Ctl :=
  rxBlock k false ((body % 2 ^ 56) * 2 ^ 8) (fun c => relockBlock k (keeperCheck k body c)) c

/-! ### Electrical idle (R344 to R346) -/

/-- R345: a received EI_ENTER with REMAIN. -/
def eiEnter (k remain : Nat) (c : Ctl) : Ctl :=
  c.modLn k (fun l => { l with eiAt := some c.now, eiBlocks := 0, rxIdle := l.rxIdle || remain == 0 })

/-- R344: the transmitter of an ACTIVE lane goes to electrical idle. -/
def laneIdle (k : Nat) (c : Ctl) : Ctl :=
  if c.lst k = lnActive then
    let c1 := [3, 2, 1, 0].foldl (fun c r => sendBlock k true (ctlPayload bEiEnter r) c) c
    partnerDrop k (laneGo k lnElecIdle c1)
  else c

/-- R346: a fast exit begins; the burst follows 30 ticks later. -/
def laneWake (k : Nat) (c : Ctl) : Ctl :=
  if c.lst k = lnElecIdle then
    ((laneGo k lnWake c).flag (R.LANE_STAT_BLOCK_LOCK k) false).modLn k (fun l => { l with
      rxIdle := false, eiAt := none, hdrRun := 0, hdrBad := 0, drop := false, frames := 0 })
  else c

/-- R329: no lock 80 ticks after the exit began. -/
def wakeTimeout (k : Nat) (c : Ctl) : Ctl :=
  if c.lst k = lnWake ∧ 80 ≤ c.sinceT (c.ln k).at_ then trainFirst k c else c

/-! ### Tests and injection (R347 to R350) -/

/-- R347, R350: the channel's spindle lets its head and laser lanes be tested. -/
def Ctl.testable (c : Ctl) (k : Nat) : Bool :=
  decide (48 ≤ k) || c.sst (chanOf k) == stDisabled || c.sst (chanOf k) == stStopped

/-- R347: a write of LANE_TEST. -/
def laneTestMode (k word : Nat) (c : Ctl) : Ctl :=
  let mode := word / 2 ^ 30 % 4
  let old := c.get (R.LANE_TEST_MODE k)
  let keep := 0xC0000000 &&& (2 ^ 32 - 1)
  let write := fun (c : Ctl) => c.setReg (R.LANE_TEST k) (word &&& (keep + 0x0F8F8000))
  if mode = old then write c
  else if mode = 0 then
    let c1 := write c
    if c.lst k ≠ lnTest then c1
    else if old = 2 then bringUp k false c1
    else (laneGo k lnLock (c1.flag (R.LANE_STAT_BLOCK_LOCK k) false)).modLn k (fun l => { l with
      relock := true, idles := 0, hdrRun := 0, hdrBad := 0, drop := false })
  else
    let ok := old = 0 ∧ c.testable k ∧
      (if mode = 2 then c.lst k = lnDown ∧ ¬ c.enabled (pgLane k) else c.lst k = lnActive)
    if ok then (if mode = 2 then write c else enterTest k (write c))
    else c.flag (R.LANE_TEST_STAT_TEST_REFUSED k) true

/-- Order and tap of a pattern (R348); USER gives none. -/
def patternOf (p : Nat) : Option (Nat × Nat) :=
  match p with
  | 1 => some (15, 14)
  | 2 => some (23, 18)
  | 3 => some (31, 28)
  | 4 => none
  | _ => some (7, 6)

/-- R349: the checker on the 64 bits of a data block. -/
def checkBits (k bits : Nat) (c : Ctl) : Ctl :=
  let l := c.ln k
  let pat := patternOf (c.get (R.LANE_TEST_PC_PATTERN k))
  let user := c.reg (R.LANE_PG_USER_LO k) + c.reg (R.LANE_PG_USER_HI k) * 2 ^ 32
  let seed := match pat with | some (p, _) => prbsSeed p 64 bits | none => 0
  -- a PRBS pattern seeds itself from the first block, USER needs no seed
  match (if pat.isNone then some (l.chk.getD 0) else l.chk) with
  | none => c.modLn k (fun l => { l with chk := some seed })
  | some r =>
    let want : Nat × Nat := match pat with
      | some (p, q) => prbsBits p q 64 0 r
      | none => (user, 0)
    let errs := popCount 64 (want.1 ^^^ (bits % 2 ^ 64))
    if ¬ c.is (R.LANE_TEST_STAT_SYNC k) then
      if errs = 0 then (c.flag (R.LANE_TEST_STAT_SYNC k) true).modLn k (fun l => { l with chk := some want.2 })
      else c.modLn k (fun l => { l with chk := some seed })
    else
      let n := (c.reg (R.LANE_PC_BITS_LO k) + c.reg (R.LANE_PC_BITS_HI k) * 2 ^ 32 + 64) % 2 ^ 48
      let c1 := c.setReg (R.LANE_PC_BITS_LO k) n |>.setReg (R.LANE_PC_BITS_HI k) (n / 2 ^ 32)
        |>.add (R.LANE_PC_ERRS_ERRORS k) errs
      let c2 := if 0 < errs ∧ ¬ l.raised then (c1.irq (pgLane k) 5).modLn k (fun l => { l with raised := true }) else c1
      if 32 < errs then
        (c2.flag (R.LANE_TEST_STAT_SYNC k) false |>.inc (R.LANE_TEST_STAT_SYNC_LOSS k)).modLn k (fun l => { l with chk := some seed })
      else c2.modLn k (fun l => { l with chk := some want.2 })

/-- CHECKER_BLOCK (R347, R349): a data block received in TEST, its 64 bits as they stand on the line: sent back in
FAR_PARALLEL, else checked, behind the descrambler when PC_DESCRAMBLE is 1. -/
def checkerBlock (k line drift : Nat) (c : Ctl) : Ctl :=
  if c.lst k ≠ lnTest then c
  else
    let plain := descramble (c.ln k).rxScr line
    let bits := if c.is (R.LANE_TEST_PC_DESCRAMBLE k) then plain else line
    (rxBlock k false plain (checkBits k bits) c drift).modLn k (fun l => { l with rxScr := lineTail line })

/-- R350: LANE_INJ_CTL.GO. -/
def injGo (k : Nat) (c : Ctl) : Ctl :=
  let live := c.is (R.LANE_INJ_CFG_LIVE k)
  let ok := if live then !isTwin k && (isAux k || c.testable k) else true
  if ok then (c.flag (R.LANE_INJ_CTL_GO k) true |>.put (R.LANE_INJ_CTL_DONE k) 0).modLn k (fun l => { l with injIn := 0 })
  else c.flag (R.LANE_TEST_STAT_INJ_REFUSED k) true

/-- R350: LANE_INJ_CTL.STOP. -/
def injStop (k : Nat) (c : Ctl) : Ctl := c.flag (R.LANE_INJ_CTL_GO k) false

end Sys2Proof.Machine
end

