-- ==== Sys2Proof/Machine/Trim.lean ====
section
/-! DEFINITION. Machine trim (R626 to R641): the slots, a run's checks and measurement, the store, the load at boot,
and APPLY. -/

namespace Sys2Proof.Machine

/-! ### The slots (R629 to R632) -/

def trimMagic : List Byte := [0x4C#8, 0x4D#8, 0x4E#8, 0x54#8]

/-- R630. -/
def slotValid (b : List Byte) : Bool :=
  b.take 4 == trimMagic && crc16 (b.take 2044) == fieldAt b 2044 2 && fieldAt b 2047 1 == 0xA5

/-- R631: SEQ a is newer than b. -/
def seqNewer (a b : Nat) : Bool :=
  let d := (a + 2 ^ 32 - b) % 2 ^ 32
  decide (1 ≤ d) && decide (d ≤ 2 ^ 31 - 1)

/-- The trimmed words at their registers: dark offsets, delays, sine table, in the order of R629. -/
def trimRegBytes (darkOf : Nat → List Nat) (c : Ctl) : List Byte :=
  (upto 24).flatMap (fun n => let o := darkOf n
    leBytes 2 (o.getD 0 0) ++ leBytes 2 (o.getD 1 0) ++ leBytes 2 (o.getD 2 0)) ++
  (upto 4).flatMap (fun b => leBytes 1 (c.get (R.TRIM_BRK_DLY_COARSE b)) ++ leBytes 1 (c.get (R.TRIM_BRK_DLY_FINE b)) ++
    zeros 2) ++
  (upto 128).flatMap (fun k => leBytes 2 (c.get (R.SINE_S_LO k)) ++ leBytes 2 (c.get (R.SINE_S_HI k)))

/-- R629: the record of a store that begins now. -/
def trimRecord (seq chans : Nat) (darkOf : Nat → List Nat) (c : Ctl) : List Byte :=
  let body := trimMagic ++ leBytes 4 seq ++ leBytes 6 c.now ++ leBytes 2 (c.get R.GLOBAL_EPOCH_EPOCH) ++
    leBytes 8 c.wallNs ++ leBytes 4 (c.reg R.ID_FW) ++ leBytes 4 chans ++ trimRegBytes darkOf c ++ zeros 1340
  body ++ leBytes 2 (crc16 body) ++ [0#8, 0xA5#8]

/-- The dark offsets as loaded. -/
def Ctl.darkOf (c : Ctl) (n : Nat) : List Nat :=
  [c.get (R.TRIM_DARK_AB_OFFSET_A n), c.get (R.TRIM_DARK_AB_OFFSET_B n), c.get (R.TRIM_DARK_R_OFFSET_R n)]

/-- Offsets, delays and sine table of a record into their registers. -/
def loadDark (b : List Byte) (c : Ctl) : Ctl :=
  c.each (upto 24) (fun n c =>
    (c.setReg (R.TRIM_DARK_AB n) (fieldAt b (32 + 6 * n) 2 + fieldAt b (34 + 6 * n) 2 * 2 ^ 16)).setReg (R.TRIM_DARK_R n)
      (fieldAt b (36 + 6 * n) 2))

/-- The sine table of a record into its registers. -/
def sineOf (r : List Byte) (c : Ctl) : Ctl :=
  c.each (upto 128) (fun k c => (c.put (R.SINE_S_LO k) (fieldAt r (192 + 4 * k) 2)).put (R.SINE_S_HI k)
    (fieldAt r (194 + 4 * k) 2))

/-- R690: the sine table is loaded again from the loaded slot. -/
def loadSine (c : Ctl) : Ctl :=
  match c.get R.TRIM_STAT_SLOT with
  | 1 => sineOf c.nv.trimA c
  | 2 => sineOf c.nv.trimB c
  | _ => c

/-- R631: the load at boot. -/
def trimLoad (c0 : Ctl) : Ctl :=
  -- R626, R627: the factory's words of each lane
  let c := c0.each (upto 64) (fun k c => c.setReg (R.TRIM_LANE k) (tget c.nv.factory k 0))
  let a := c.nv.trimA
  let b := c.nv.trimB
  let va := slotValid a
  let vb := slotValid b
  let pick : Nat := if va && vb then (if seqNewer (fieldAt b 4 4) (fieldAt a 4 4) then 2 else 1)
    else if va then 1 else if vb then 2 else 0
  let bad := (!va && a.take 4 == trimMagic) || (!vb && b.take 4 == trimMagic)
  let c1 := if bad then c.irq pgTrim 2 else c
  if pick = 0 then (c1.put R.TRIM_STAT_SLOT 0).setReg R.TRIM_SEQ 0
  else
    let r := if pick = 1 then a else b
    let c2 := loadDark r ((c1.put R.TRIM_STAT_SLOT pick).setReg R.TRIM_SEQ (fieldAt r 4 4))
    let c3 := c2.each (upto 4) (fun k c => (c.put (R.TRIM_BRK_DLY_COARSE k) (fieldAt r (176 + 4 * k) 1)).put
      (R.TRIM_BRK_DLY_FINE k) (fieldAt r (177 + 4 * k) 1))
    sineOf r c3

/-! ### Runs (R633 to R638) -/

/-- R636: the run ends with FAIL. -/
def trimFail (cause chans : Nat) (c : Ctl) : Ctl :=
  ((((c.modTrim (fun t => { t with run := none, waiting := 0, heads := 0, record := [] })).put R.TRIM_STAT_RESULT 2).put
    R.TRIM_STAT_CAUSE cause).setReg R.TRIM_FAIL_CH chans |>.flag R.TRIM_CMD_RUN false).irq pgTrim 1

/-- The channels of a mask that fail a test. -/
def failing (chans : Nat) (p : Nat → Bool) : Nat := maskOf ((bitList 24 chans).filter p)

/-- R634: the first condition that fails, with the channels that fail it (none for causes 1, 3 and 9); `heads`: whether
the heads' reports are in. -/
def Ctl.trimCheck (c : Ctl) (chans : Nat) (heads : Bool) : Option (Nat × Nat) :=
  let f2 := failing chans (fun n => c.sst n != 1 && c.sst n != 0)
  let f4 := if heads then failing chans (fun n => !bitOf c.trim.heads n) else 0
  let f5 := failing chans (fun n => [n, 24 + n].any (fun k => c.get (R.LANE_STAT_STATE k) != 5 || !c.is (R.PROTO_STAT_CAP_VALID k)))
  if c.is R.REC_STAT_BUILD_OPEN then some (1, 0)
  else if f2 ≠ 0 then some (2, f2)
  else if c.gpi (c.get R.TRIM_CTRL_PERMIT_IN) then some (3, 0)
  else if f4 ≠ 0 then some (4, f4)
  else if f5 ≠ 0 then some (5, f5)
  else if c.is R.REC_STAT_STORE_FAULT ∨ c.is R.REC_STAT_NVM_DEAD then some (9, 0)
  else none

/-- R634: ask every named head for word 0x0010. -/
def trimReads (chans : Nat) (c : Ctl) : Ctl :=
  c.each (bitList 24 chans) (fun n c => c.modLn n (fun l => { l with
    mq := l.mq ++ [{ addr := 0x10, write := false, data := 0, cap := some 4 }] }))
    |>.modTrim (fun t => { t with waiting := chans, heads := 0 })

/-- R632, R633: the store begins. -/
def trimStore (chans : Nat) (darkOf : Nat → List Nat) (c : Ctl) : Ctl :=
  let seq := if c.get R.TRIM_STAT_SLOT = 0 then 1 else (c.reg R.TRIM_SEQ + 1) % 2 ^ 32
  c.modTrim (fun t => { t with
    run := some { phase := 4, at_ := c.now, chans := chans }
    record := trimRecord seq chans darkOf c })

/-- TRIM_RUN (R633, R634). -/
def trimRun (c : Ctl) : Ctl :=
  if c.trim.run.isSome then c
  else
    let chans := c.get R.TRIM_CH_CHANNELS
    let c1 := c.flag R.TRIM_CMD_RUN true
    match c1.trimCheck chans false with
    | some (cause, ch) => trimFail cause ch c1
    | none =>
      if chans = 0 then trimStore 0 c1.darkOf c1
      else trimReads chans (c1.modTrim (fun t => { t with run := some { phase := 0, at_ := c1.now, chans := chans } }))

/-- R634, R638 in a tick: the checks and the phases' ends. -/
def trimTick (c : Ctl) : Ctl :=
  match c.trim.run with
  | none => c
  | some r =>
    let go := fun (p : Nat) (c : Ctl) => c.modTrim (fun t => { t with run := some { r with
      phase := p
      at_ := c.now
      from_ := if p = 2 then c.now else r.from_ } })
    if 4 ≤ r.phase then c
    else match c.trimCheck r.chans (r.phase == 0 && c.trim.waiting == 0) with
      | some (cause, ch) => trimFail cause ch c
      | none =>
        if r.phase = 0 ∧ c.trim.waiting = 0 then go 1 c
        else if r.phase = 1 ∧ msTicks 500 ≤ c.sinceT r.at_ then go 2 c
        else if r.phase = 2 ∧ 2 ^ 25 ≤ c.sinceT r.at_ then trimReads r.chans (go 3 c)
        else c

/-- R635: the offset of a channel's signal, from the sums of its blocks. -/
def TrimRun.offset (r : TrimRun) (n sig : Nat) : Nat :=
  (roundDiv ((((upto 512).map (fun b => (tget r.blocks (n * 512 + b) []).getD sig 0)).sum : Nat) : Int) ((2 ^ 25 : Nat))).toNat

/-- R635: the spread of the block means of a channel's signal. -/
def TrimRun.spread (r : TrimRun) (n sig : Nat) : Int :=
  let ms := (upto 512).map (fun b => roundDiv ((tget r.blocks (n * 512 + b) []).getD sig 0 : Nat) 65536)
  ms.foldl max 0 - ms.foldl min (ms.headD 0)

/-- R635: every tick of the measurement phase had its measurement. -/
def TrimRun.complete (r : TrimRun) (n : Nat) : Bool :=
  (upto 512).all (fun b => (tget r.blocks (n * 512 + b) []).getD 3 0 == 65536)

/-- TRIM_MEASURE_END (R634, R635). -/
def trimMeasureEnd (c : Ctl) : Ctl :=
  match c.trim.run with
  | none => c
  | some r =>
    if r.phase ≠ 3 ∨ c.trim.waiting ≠ 0 then c
    else match c.trimCheck r.chans true with
      | some (cause, ch) => trimFail cause ch c
      | none =>
        let mx := c.get R.TRIM_LIMIT_DARK_MAX
        let drift : Int := (c.get R.TRIM_LIMIT_DARK_DRIFT : Nat)
        let f6 := failing r.chans (fun n => (upto 3).any (fun s => decide (mx < r.offset n s)))
        let f7 := failing r.chans (fun n => (upto 3).any (fun s => decide (drift < r.spread n s)))
        let f8 := failing r.chans (fun n => bitOf r.bad n || !r.complete n)
        if f6 ≠ 0 then trimFail 6 f6 c
        else if f7 ≠ 0 then trimFail 7 f7 c
        else if f8 ≠ 0 then trimFail 8 f8 c
        else trimStore r.chans (fun n => if bitOf r.chans n then (upto 3).map (r.offset n) else c.darkOf n) c

/-- TRIM_STORE_DONE (R632, R636, R637): the erase, program and read-back have ended, `ok` or after 3 failures. -/
def trimStoreDone (ok : Bool) (c : Ctl) : Ctl :=
  match c.trim.run with
  | none => c
  | some r =>
    if r.phase ≠ 4 then c
    else
      let toB := c.get R.TRIM_STAT_SLOT = 1
      let rec_ := c.trim.record
      let put := fun (b : List Byte) (c : Ctl) =>
        { c with nv := if toB then { c.nv with trimB := b } else { c.nv with trimA := b } }
      if ok then
        let c1 := loadDark rec_ (put rec_ c)
        ((((c1.modTrim (fun t => { t with run := none, waiting := 0, heads := 0, record := [] })).put R.TRIM_STAT_RESULT 1).put
          R.TRIM_STAT_SLOT (if toB then 2 else 1)).setReg R.TRIM_SEQ (fieldAt rec_ 4 4)
          |>.setReg R.TRIM_FAIL_CH 0 |>.flag R.TRIM_CMD_RUN false).irq pgTrim 0
      else trimFail 9 0 (put [] c)

/-- APPLY (R639). -/
def trimApply (c : Ctl) : Ctl :=
  if c.is R.TRIM_CMD_RUN then c
  else c.each ((upto 24).filter c.hasChan) (fun n c =>
    ((c.put (R.SPINDLE_TENT_OFFSET_AB_OFFSET_A n) (c.get (R.TRIM_DARK_AB_OFFSET_A n))).put (R.SPINDLE_TENT_OFFSET_AB_OFFSET_B n)
      (c.get (R.TRIM_DARK_AB_OFFSET_B n))).put (R.SPINDLE_TENT_OFFSET_R_OFFSET_R n) (c.get (R.TRIM_DARK_R_OFFSET_R n)))

end Sys2Proof.Machine
end

