-- ==== Sys2Proof/Machine/Fantail.lean ====
section
/-! DEFINITION. The fantail (R195 to R237): spots, the conflict test, grants, cuts, the territory map, gas flow and
the hand-off of share records. -/

namespace Sys2Proof.Machine

def Ctl.modFan (c : Ctl) (f : FanSt → FanSt) : Ctl := { c with fan := f c.fan }

/-! ### Settings (R199, R217) -/

/-- A register in force since the last tick boundary (R217). -/
def Ctl.fanWord (c : Ctl) (a : Nat) : Nat := match tget? c.fan.live a with
  | some w => w.toNat
  | none => regReset a

/-- 2^60 times the sine of `a` 65,536ths of a turn. -/
def sinTurn (a : Nat) : Int :=
  let q := a % 16384
  match a / 16384 % 4 with
  | 0 => sinHalfPi (mkRat q 16384)
  | 1 => sinHalfPi (mkRat (16384 - q : Nat) 16384)
  | 2 => -sinHalfPi (mkRat q 16384)
  | _ => -sinHalfPi (mkRat (16384 - q : Nat) 16384)

/-- R199: SIN and COS of a direction in SQ2.14. -/
def flowSin (a : Nat) : Int := roundShift (16384 * sinTurn a) 60
def flowCos (a : Nat) : Int := flowSin (a + 16384)

/-- At a tick boundary (R199, R217): what was written is in force. -/
def fantailLatch (c : Ctl) : Ctl :=
  let take := fun (a : Nat) (t : Table Word) => tput t a (BitVec.ofNat 32 (c.reg a))
  let c1 := c.modFan (fun f => { f with
    live := take R.FANTAIL_FLOW (take R.FANTAIL_KEEP_A (take R.FANTAIL_KEEP_B f.live)) })
  let a := c.get R.FANTAIL_FLOW_ANGLE
  (c1.putS R.FANTAIL_FLOW_TRIG_COS (flowCos a)).putS R.FANTAIL_FLOW_TRIG_SIN (flowSin a)

/-! ### Spots (R195 to R198, R202, R203) -/

inductive SpotKind where
  | lit | claim | req
  deriving DecidableEq, Repr

/-- A spot: spindle, class, its point in nm and in micrometres, and the record of its run. -/
structure Spot where
  n : Nat
  kind : SpotKind
  x : Int
  y : Int
  item : Item
  deriving DecidableEq, Repr

def Spot.ux (s : Spot) : Int := roundDiv s.x 1000
def Spot.uy (s : Spot) : Int := roundDiv s.y 1000

/-- R203. -/
def rankKey (prio cls n : Nat) : Nat := prio * 2 ^ 11 + (63 - cls) * 2 ^ 5 + (31 - n)

def Ctl.spotKey (c : Ctl) (s : Spot) : Nat := rankKey (pPrio (c.profOf s.n s.item)) s.item.cls s.n
def Ctl.spotQuiet (c : Ctl) (s : Spot) : Bool := pQuiet (c.profOf s.n s.item)

/-- The request point (bed nm) and the record of the run that spindle `n` asks for in this tick (R204); under the brake,
and where it forms no sample, it asks for none (R233). -/
def Ctl.ask (c : Ctl) (n : Nat) : Option Spot :=
  if c.engaged ∨ (c.sp n).sample.isNone then none else (c.request n).map (fun r => ⟨n, .req, r.1.1, r.1.2, r.2⟩)

/-- R195, R233: the spot of spindle `n`, of exactly one class. A lit sample is formed in RUNNING alone, and the record it
ends may leave that state in the tick; beside it, the request for the next run (R204) is no spot. -/
def Ctl.spotOf (c : Ctl) (n : Nat) : Option Spot :=
  let s := c.sp n
  if c.engaged then none
  else match s.sample with
    | none => none
    | some pt =>
      match pt.lit, pt.item, s.grant with
      | true, some i, _ => some ⟨n, .lit, pt.x, pt.y, i⟩
      | _, _, some g =>
        let cur := (s.exec.filter (fun e => !e.phases.isEmpty)).map (·.item)
        if c.sst n ≠ stRunning then none
        else some ⟨n, .claim, g.1, g.2, (cur.or ((c.nextRequest n).map (·.2))).getD { bytes := zeros 32 }⟩
      | _, _, none => c.ask n

def Ctl.spots (c : Ctl) : List Spot := (upto 24).filterMap c.spotOf

/-- R235: the GRANTED bits, or with `waiting` the WAITING bits, of the present spots. -/
def Ctl.spotMask (c : Ctl) (waiting : Bool) : Nat :=
  maskOf ((upto 24).filter (fun n => (c.spotOf n).any (fun s => (s.kind == .req) == waiting)))

/-! ### Conflict (R200, R201) -/

/-- R200: `b_in_a` for the differences from a to b. -/
def inPlume (dx dy cos sin wind half m : Int) : Bool :=
  let along := roundShift (dx * cos + dy * sin) 14
  let lateral := roundShift (dy * cos - dx * sin) 14
  decide (-m ≤ along) && decide (along < wind + m) && decide ((lateral.natAbs : Int) < half + m)

/-- R200: whether two spots are in conflict, and in a plume conflict, at margin `m`. -/
def Ctl.conflict (c : Ctl) (a b : Spot) (m : Int) : Bool × Bool :=
  let dx := b.ux - a.ux
  let dy := b.uy - a.uy
  let ang := slice (c.fanWord R.FANTAIL_FLOW) 0 16
  let cos := flowCos ang
  let sin := flowSin ang
  let keep : Int := (slice (c.fanWord R.FANTAIL_KEEP_A) 0 16 : Nat)
  let wind : Int := (slice (c.fanWord R.FANTAIL_KEEP_A) 16 16 : Nat)
  let half : Int := (slice (c.fanWord R.FANTAIL_KEEP_B) 0 16 : Nat)
  let sep := decide (dx * dx + dy * dy < (keep + m) * (keep + m))
  let plume := (!c.spotQuiet a && inPlume dx dy cos sin wind half m) ||
    (!c.spotQuiet b && inPlume (-dx) (-dy) cos sin wind half m)
  (sep || plume, plume)

/-! ### Conflicts in flight (R210 to R214) -/

/-- R210: the pairs in conflict in flight, lower-ranked spot first, with whether it is a plume conflict. -/
def Ctl.inFlight (c : Ctl) (l : List Spot) : List (Spot × Spot × Bool) :=
  let held := l.filter (fun s => s.kind != .req)
  held.flatMap (fun a => held.filterMap (fun b =>
    if a.n < b.n then
      let k := c.conflict a b 0
      if k.1 then some (if c.spotKey a < c.spotKey b then (a, b, k.2) else (b, a, k.2)) else none
    else none))

/-- R211, R212: cut the lower of every pair, each once; the winner reported is the highest-ranked of its winners. -/
def fanCuts (pairs : List (Spot × Spot × Bool)) (c : Ctl) : Ctl :=
  c.each (upto 24) (fun n d =>
    let mine := pairs.filter (fun p => p.1.n == n)
    let best := mine.foldl (fun (b : Option (Spot × Spot × Bool)) p => match b with
      | none => some p
      | some q => if c.spotKey q.2.1 < c.spotKey p.2.1 then some p else some q) none
    match best with
    | some p => spCut n p.2.1.n p.2.2 d
    | none => d)

/-- R214: count and log each new excursion. -/
def fanLog (pairs : List (Spot × Spot × Bool)) (c : Ctl) : Ctl :=
  pairs.foldl (fun c p =>
    let lo := p.1
    let hi := p.2.1
    if c.fan.exc.contains (min lo.n hi.n, max lo.n hi.n) then c
    else ((c.inc R.FANTAIL_CNT0_INFLIGHT_LOGGED).irq pgFantail 1).event pgFantail 0x0A lo.n lo.item.tag lo.x lo.y
      [hi.n, code 32 hi.x, code 32 hi.y, hi.item.tag]) c

/-- R210 to R214 in a tick. -/
def fanInFlight (l : List Spot) (c : Ctl) : Ctl :=
  if ¬ c.is R.FANTAIL_FAN_CTRL_KEEP_EN then c.modFan (fun f => { f with exc := [] })
  else
    let pairs := c.inFlight l
    let c1 := if c.get R.FANTAIL_FAN_CTRL_IN_FLIGHT_ACTION = 0 then fanLog pairs c else fanCuts pairs c
    c1.modFan (fun f => { f with exc := pairs.map (fun p => (min p.1.n p.2.1.n, max p.1.n p.2.1.n)) })

/-! ### Territory (R218 to R221) -/

/-- R218: the pitch of the map in nm. -/
def Ctl.terrPitch (c : Ctl) : Int := match c.get R.FANTAIL_TERR_GEOM_PITCH with
  | 0 => 250000
  | 1 => 500000
  | 3 => 2000000
  | 4 => 4000000
  | _ => 1000000

/-- R218: the cell indices of a bed point. -/
def Ctl.terrIx (c : Ctl) (x y : Int) : Int × Int :=
  ((x - c.getS R.FANTAIL_TERR_X0_ORIGIN).fdiv c.terrPitch, (y - c.getS R.FANTAIL_TERR_Y0_ORIGIN).fdiv c.terrPitch)

/-- The key of a cell inside the map. -/
def terrKey (i j : Int) : Option Nat :=
  if 0 ≤ i ∧ i < 1024 ∧ 0 ≤ j ∧ j < 1024 then some (j.toNat * 1024 + i.toNat) else none

/-- R218: the address of a cell. -/
def Ctl.terrAddr (c : Ctl) (key : Nat) : Nat :=
  c.get R.FANTAIL_TERR_BASE_LO_BASE * 4096 + c.get R.FANTAIL_TERR_BASE_HI_BASE * 2 ^ 32 + key * 4

/-- The cells inside the map of the 3×3 square centred on a point's cell. -/
def Ctl.terrAround (c : Ctl) (x y : Int) : List Nat :=
  let ix := c.terrIx x y
  (upto 3).flatMap (fun (b : Nat) => (upto 3).filterMap (fun (a : Nat) => terrKey (ix.1 - 1 + (a : Int)) (ix.2 - 1 + (b : Int))))

/-- R218: whether the cell of a point names spindle `n`; none while the cell is not on chip. -/
def Ctl.terrNames (c : Ctl) (n : Nat) (x y : Int) : Option Bool :=
  let ix := c.terrIx x y
  match terrKey ix.1 ix.2 with
  | none => some false
  | some k => (tget? c.fan.cells k).map (fun m => bitOf m n)

/-- R221: violations of the samples of this tick, and what TERR_ACTION does with the samples; whether the brake is
asked for. -/
def fanTerritory (l : List Spot) (c : Ctl) : Ctl × Bool :=
  if ¬ c.is R.FANTAIL_FAN_CTRL_TERR_EN then (c.each (upto 24) (fun n c => c.modSp n (fun s => { s with viol := false })), false)
  else
    let act := c.get R.FANTAIL_FAN_CTRL_TERR_ACTION
    (upto 24).foldl (fun (r : Ctl × Bool) n =>
      let c := r.1
      match l.find? (fun s => s.n == n && s.kind == .lit) with
      | none => (if (c.sp n).viol then c.modSp n (fun s => { s with viol := false }) else c, r.2)
      | some s =>
        match c.terrNames n s.x s.y with
        | some false =>
          let fresh := !(c.sp n).viol
          let c1 := if fresh then
              ((c.inc R.FANTAIL_CNT1_TERR_VIOL).irq pgFantail 2).event pgFantail 0x0B n s.item.tag s.x s.y []
            else c
          let c2 := c1.modSp n (fun t => { t with
            viol := true
            sample := if act = 1 ∨ act = 3 then t.sample.map (fun p => { p with pre := 0 }) else t.sample })
          (c2, r.2 || (fresh && act == 2))
        | _ => (c.modSp n (fun s => { s with viol := false }), r.2)) (c, false)

/-! ### Gas flow (R215, R216) -/

/-- R215. -/
def Ctl.flowLost (c : Ctl) : Bool :=
  c.is R.FANTAIL_FAN_CTRL_FLOW_OK_EN && !c.gpi (c.get R.FANTAIL_FAN_CTRL_FLOW_OK_INPUT)

/-- FLOW_LOST (R216): the loss is detected. -/
def flowLoss (c : Ctl) : Ctl :=
  if ¬ c.flowLost ∨ c.fan.lost then c
  else
    let c1 := ((c.modFan (fun f => { f with lost := true })).irq pgFantail 5).inc R.FANTAIL_CNT2_FLOW_LOSSES
    if c.is R.FANTAIL_FAN_CTRL_FLOW_BRAKE then brakeSource brkFlow false c1 else c1

/-- FLOW_RESTORED (R216). -/
def flowRestored (c : Ctl) : Ctl := if c.flowLost then c else c.modFan (fun f => { f with lost := false })

/-! ### Grants (R205, R209, R234) -/

/-- R205: whether the request `r` is granted among the spots `l`. -/
def Ctl.grants (c : Ctl) (l : List Spot) (r : Spot) : Bool :=
  let m : Int := (slice (c.fanWord R.FANTAIL_KEEP_B) 16 16 : Nat)
  let cells := !c.is R.FANTAIL_FAN_CTRL_TERR_EN || (c.terrAround r.x r.y).all (fun k => (tget? c.fan.cells k).isSome)
  let clear := !c.is R.FANTAIL_FAN_CTRL_KEEP_EN ||
    l.all (fun o => o.n == r.n || (o.kind == .req && decide (c.spotKey o < c.spotKey r)) || !(c.conflict r o m).1)
  !c.flowLost && !c.engaged && cells && clear

/-- R209: the request `r` is answered with `yes`. -/
def fanAnswer (r : Spot) (yes : Bool) (c : Ctl) : Ctl :=
  let s := c.sp r.n
  if yes then
    (c.setSp r.n { s with waited := 0, alarmed := false }).metric 76 (s.waited : Nat)
      |>.modFan (fun f => { f with granted := f.granted ++ [(r.n, (r.x, r.y))] })
  else (c.setSp r.n { s with waited := s.waited + 1 }).inc (R.FANTAIL_WAIT_TICKS_TICKS r.n)

/-- Spindles that present no request have waited for none. -/
def fanNoWait (l : List Spot) (c : Ctl) : Ctl :=
  c.each ((upto 24).filter (fun n => !l.any (fun s => s.n == n && s.kind == .req))) (fun n c =>
    if (c.sp n).waited = 0 ∧ ¬ (c.sp n).alarmed then c else c.modSp n (fun s => { s with waited := 0, alarmed := false }))

/-- R204: the requests presented in this tick stay with their spindles until the next evaluation. -/
def fanAsks (l : List Spot) (c : Ctl) : Ctl :=
  c.each ((upto 24).filter (fun n => c.hasChan n)) (fun n c =>
    let r := (l.find? (fun s => s.n == n && s.kind == .req)).map (fun s => (s.x, s.y))
    if (c.sp n).req = r then c else c.modSp n (fun s => { s with req := r }))

/-- R219, R222: cells to be held: around the spots, around the starts of the runs in view, and under the records that
share streams would offer. -/
def Ctl.segCells (c : Ctl) (i : Item) : List Nat :=
  let key := fun (p : Int × Int) => (let ix := c.terrIx p.1 p.2; (terrKey ix.1 ix.2).toList)
  key (i.sx, i.sy) ++ (if i.lineMark then key (i.ex, i.ey) else [])

/-- R219: with TERR_EN 0, or disabled, the fantail holds no cell and waits for none. -/
def terrDrop (c : Ctl) : Ctl :=
  if c.fan.cells.isEmpty ∧ c.fan.fetch.isEmpty then c
  else forgetReads (fun w => match w with
    | .fantail _ => true
    | _ => false) (c.modFan (fun f => { f with cells := [], fetch := [] }))

/-- R206: the fantail's evaluation of the present tick, before the samples leave. -/
def fantailEval (c : Ctl) : Ctl :=
  let l := c.spots
  let asks := (upto 24).filterMap c.ask
  let c0 := fanAsks asks (fanNoWait asks (c.modFan (fun f => { f with granted := [] })))
  if ¬ c.enabled pgFantail then
    asks.foldl (fun c r => fanAnswer r true c) (terrDrop (c0.modFan (fun f => { f with exc := [] })))
  else
    let verdicts := asks.map (fun r => (r, c0.grants l r))
    let t := fanTerritory l c0
    let c2 := fanInFlight l t.1
    let c3 := if t.2 then brakeSource brkTerr false c2 else c2
    if c3.engaged then verdicts.foldl (fun c v => fanAnswer v.1 false c) c3
    else verdicts.foldl (fun c v => fanAnswer v.1 (v.2 && !(c3.sp v.1.n).cutNow) c) c3

/-- R208: the grants decide the samples of the tick that follows. -/
def fanDeliver (c : Ctl) : Ctl :=
  (c.fan.granted.foldl (fun c g => c.modSp g.1 (fun s => { s with grant := some g.2 })) c).modFan
    (fun f => { f with granted := [] })

/-- WAIT_ALARM (R209). -/
def waitAlarm (n : Nat) (c : Ctl) : Ctl :=
  let s := c.sp n
  let lim := c.get R.FANTAIL_WAIT_LIMIT_TICKS
  if lim = 0 ∨ s.waited < lim ∨ s.alarmed ∨ ¬ c.enabled pgFantail then c
  else (c.setSp n { s with alarmed := true }).irq pgFantail 4

/-! ### Hand-off (R222 to R232) -/

/-- R222: member `n` covers a point; none while the cell is not on chip. -/
def Ctl.coversPt (c : Ctl) (n : Nat) (x y : Int) : Option Bool :=
  if ¬ c.inExtent n x y then some false
  else if c.is R.FANTAIL_FAN_CTRL_TERR_EN then c.terrNames n x y else some true

/-- R222: member `n` covers the record. -/
def Ctl.covers (c : Ctl) (n : Nat) (i : Item) : Bool :=
  c.coversPt n i.sx i.sy == some true && (!i.lineMark || c.coversPt n i.ex i.ey == some true)

/-- R224: the point a member is free at, in micrometres. -/
def Ctl.freePt (c : Ctl) (n : Nat) : Int × Int :=
  let s := c.sp n
  let recs := ((s.exec.map (·.item)).toList ++ s.redo.map (·.1) ++ s.buf).filter (·.isMotion)
  let p : Int × Int := match recs.getLast? with
    | some i => if i.typ = tPoint then (i.sx, i.sy) else (i.ex, i.ey)
    | none => (toNm s.px, toNm s.py)
  (roundDiv p.1 1000, roundDiv p.2 1000)

/-- R224. -/
def Ctl.shareCost (c : Ctl) (n : Nat) (i : Item) : Nat :=
  let f := c.freePt n
  let dx := (roundDiv i.sx 1000 - f.1).natAbs
  let dy := (roundDiv i.sy 1000 - f.2).natAbs
  max dx dy + min dx dy / 2 + c.get R.FANTAIL_HANDOFF_QUEUE_PENALTY * (c.sp n).unstarted

/-- Where along a mark (nm from its start) the extent of a member or a cell border is crossed, rising. -/
def Ctl.crossings (c : Ctl) (n : Nat) (i : Item) (len : Rat) : List Rat :=
  let w := 128 * c.pitch n
  let axis := fun (a b lo : Int) (x0 : Int) =>
    let cut := fun (v : Int) => if a = b then (none : Option Rat) else
      let t : Rat := mkRat (if a < b then v - a else a - v) (b - a).natAbs
      if 0 < t ∧ t < 1 then some (t * len) else none
    let cells := if c.is R.FANTAIL_FAN_CTRL_TERR_EN then
        let i0 := (min a b - x0).fdiv c.terrPitch
        let i1 := (max a b - x0).fdiv c.terrPitch
        (upto (i1 - i0).toNat).map (fun (k : Nat) => x0 + (i0 + 1 + (k : Int)) * c.terrPitch)
      else []
    ([lo, lo + w] ++ cells).filterMap cut
  ((axis i.sx i.ex (c.fieldX0 n) (c.getS R.FANTAIL_TERR_X0_ORIGIN)) ++
   (axis i.sy i.ey (c.fieldY0 n) (c.getS R.FANTAIL_TERR_Y0_ORIGIN))).mergeSort (fun a b => decide (a ≤ b))

/-- The point of a mark at distance `s` nm of `len`. -/
def Item.alongPt (i : Item) (s len : Rat) : Int × Int :=
  let f := if len = 0 then 0 else s / len
  (roundRat ((i.sx : Rat) + f * (i.ex - i.sx : Int)), roundRat ((i.sy : Rat) + f * (i.ey - i.sy : Int)))

/-- The pieces of a mark between crossings, each with whether member `n` covers its middle. -/
def Ctl.coverPieces (c : Ctl) (n : Nat) (i : Item) (len : Rat) : List (Rat × Rat × Bool) :=
  let b := c.crossings n i len
  ((0 :: b).zip (b ++ [len])).map (fun (p : Rat × Rat) =>
    let m := i.alongPt ((p.1 + p.2) / 2) len
    (p.1, p.2, p.1 == p.2 || c.coversPt n m.1 m.2 == some true))

/-- R229: e_A of a member that covers the start, and b_B of one that covers the end, in whole micrometres by R26. -/
def Ctl.eA (c : Ctl) (n : Nat) (i : Item) (len : Rat) : Int :=
  let l := (c.coverPieces n i len).takeWhile (fun p => p.2.2)
  roundRat (((l.getLast?.map (fun p => p.2.1)).getD 0) / 1000)

def Ctl.bB (c : Ctl) (n : Nat) (i : Item) (len : Rat) : Int :=
  let l := (c.coverPieces n i len).reverse.takeWhile (fun p => p.2.2)
  roundRat (((l.getLast?.map (fun p => p.1)).getD len) / 1000)

/-- A stitch weld (R228): members A and B, e_A and b_B. -/
structure Weld where
  a : Nat
  b : Nat
  eA : Int
  bB : Int
  deriving DecidableEq, Repr

/-- R228: the pairs of a group that can weld the mark. -/
def Ctl.welds (c : Ctl) (mem : Nat) (i : Item) : List Weld :=
  if ¬ c.is R.FANTAIL_FAN_CTRL_SPLIT_EN ∨ ¬ i.splitOk ∨ ¬ i.lineMark then []
  else
    let len := dist i.p0 i.p1
    let ms := bitList 24 mem
    ms.flatMap (fun a => ms.filterMap (fun b =>
      if c.coversPt a i.sx i.sy == some true && c.coversPt b i.ex i.ey == some true && a != b then
        let e := c.eA a i len
        let s := c.bB b i len
        if (c.get R.FANTAIL_STITCH_STITCH_MIN : Int) ≤ e - s then some ⟨a, b, e, s⟩ else none
      else none))

/-- R229: s1 and s2. -/
def weldSpan (e b len : Int) : Int × Int :=
  let mid := (b + e).fdiv 2
  let s1 := max (mid - len.fdiv 2) b
  (s1, min (s1 + len) e)

/-- R230, R231: the two parts of a weld. -/
def weldParts (c : Ctl) (w : Weld) (i : Item) : Item × Item :=
  let len := dist i.p0 i.p1
  let sp := weldSpan w.eA w.bB (c.get R.FANTAIL_STITCH_STITCH_LEN : Nat)
  let pa := i.alongPt ((sp.2 : Rat) * 1000) len
  let pb := i.alongPt ((sp.1 : Rat) * 1000) len
  ({ i.withEnds i.sx i.sy pa.1 pa.2 with stitch := some ⟨true, sp.1, sp.2, 0⟩ },
   { i.withEnds pb.1 pb.2 i.ex i.ey with stitch := some ⟨false, sp.1, sp.2, sp.1⟩ })

/-- A cheapest member of a list, the lower number first. -/
def cheapest (f : Nat → Nat) : List Nat → Option Nat
  | [] => none
  | n :: t => match cheapest f t with
    | some m => if f m < f n then some m else some n
    | none => some n

/-- A cheapest weld, ties to the lower A and then B. -/
def cheapestWeld (f : Weld → Nat) : List Weld → Option Weld
  | [] => none
  | w :: t => match cheapestWeld f t with
    | some v => if f v < f w then some v else some w
    | none => some w

/-- The fantail's answer to an offer. -/
inductive Answer where
  | member (n : Nat)
  | pair (w : Weld)
  | nobody
  | orphan
  | nop
  deriving DecidableEq, Repr

/-- The cells that an offered record's coverage rests on. -/
def Ctl.offerCells (c : Ctl) (i : Item) : List Nat :=
  if ¬ i.isRun then []
  else
    let line := if i.splitOk ∧ i.lineMark ∧ c.is R.FANTAIL_FAN_CTRL_SPLIT_EN then
        let len := dist i.p0 i.p1
        let b := c.crossings 0 i len
        ((0 :: b).zip (b ++ [len])).flatMap (fun (p : Rat × Rat) =>
          let m := i.alongPt ((p.1 + p.2) / 2) len
          let ix := c.terrIx m.1 m.2
          (terrKey ix.1 ix.2).toList)
      else []
    c.segCells i ++ line

/-- R223 to R228, R234: the answer. -/
def Ctl.answer (c : Ctl) (x : Nat) (i : Item) : Answer :=
  if ¬ c.enabled pgFantail then .nobody
  else if ¬ i.isRun then .nop
  else if c.is R.FANTAIL_FAN_CTRL_TERR_EN && !(c.offerCells i).all (fun k => (tget? c.fan.cells k).isSome) then .nobody
  else
    let ms := bitList 24 (c.members x)
    let cov := ms.filter (fun n => c.covers n i)
    let open_ := fun (n : Nat) => c.eligible n && c.shareRoom n
    let cand := cov.filter open_
    if 1 ≤ i.prefer ∧ cand.contains (i.prefer - 1) then .member (i.prefer - 1)
    else match cheapest (fun n => c.shareCost n i) cand with
      | some n => .member n
      | none =>
        if ¬ cov.isEmpty then .nobody
        else
          let ws := c.welds (c.members x) i
          match cheapestWeld (fun w => c.shareCost w.a i + c.shareCost w.b i) (ws.filter (fun w => open_ w.a && open_ w.b)) with
          | some w => .pair w
          | none => if ws.isEmpty then .orphan else .nobody

/-- R111, R224 to R230: an offer of the tick before is evaluated and the hopper acts on the answer. -/
def handOff (x : Nat) (i : Item) (c : Ctl) : Ctl :=
  match (c.strm x).staged with
  | [] => c
  | h :: rest =>
    if ¬ h.same i ∨ c.cst x ≠ csActive then c
    else
      let taken := c.modStrm x (fun s => { s with staged := rest })
      match c.answer x i with
      | .nobody => c
      | .nop => recordRetired 0xFF i (recordStarted 0xFF i taken)
      | .orphan =>
        advanceHead x (((taken.inc R.FANTAIL_CNT2_ORPHANS).irq pgFantail 3).event pgFantail 0x0C 0xFF i.tag 0 0 [x])
      | .member n => placeShare n i (taken.inc R.FANTAIL_CNT2_HANDOFFS)
      | .pair w =>
        let p := weldParts c w i
        placeShare w.b p.2 (placeShare w.a p.1 ((taken.inc R.FANTAIL_CNT2_HANDOFFS).inc R.FANTAIL_CNT1_SPLITS))

/-- R206, R111: the offers of the tick before, in ascending stream number. -/
def handOffs (c : Ctl) : Ctl :=
  let o := c.hop.offers.mergeSort (fun a b => decide (a.1 ≤ b.1))
  o.foldl (fun c o => handOff o.1 o.2 c) { c with hop := { c.hop with offers := [] } }

/-! ### The cell store (R219, R220) -/

/-- R219: the cells the fantail is to hold. -/
def Ctl.terrNeeded (c : Ctl) : List Nat :=
  c.spots.flatMap (fun s => c.terrAround s.x s.y) ++
  (upto 24).flatMap (fun n => ((((c.sp n).exec.map (·.item)).toList) ++ (c.sp n).view).flatMap (fun i =>
    if i.isRun then c.terrAround i.sx i.sy else [])) ++
  (upto 128).flatMap (fun x => if c.isShare x ∧ c.cst x = csActive then
    (match (c.strm x).staged with | i :: _ => c.offerCells i | [] => []) else [])

/-- R219, R447 in a tick: each missing cell is asked of its millrace in an RT-short read; cells no longer needed leave. -/
def terrTraffic (c : Ctl) : Ctl :=
  if ¬ c.is R.FANTAIL_FAN_CTRL_TERR_EN ∨ ¬ c.enabled pgFantail then terrDrop c
  else
    let need := c.terrNeeded
    let ask := need.foldl (fun (a : List Nat) k =>
      if (tget? c.fan.cells k).isSome || c.fan.fetch.contains k || a.contains k then a else a ++ [k]) []
    ask.foldl (fun c k => queueRead (.fantail k) 0 1 (c.terrAddr k) 4 c) (c.modFan (fun f => { f with
      cells := f.cells.filter (fun e => need.contains e.1)
      fetch := f.fetch ++ ask }))

/-- TERR_FETCH_RETURN (R219, R220): fetch number `k` returns, `ue`: with an uncorrectable error. -/
def terrReturn (k : Nat) (ue : Bool) (s : State) : State :=
  let c := s.ctl
  match c.fan.fetch[k]? with
  | none => s
  | some key =>
    let r := shortReturn (.fantail key) (c.terrAddr key) 4 ue s
    let v := if r.2.2 then 0 else leNat r.2.1 % 2 ^ 24
    let c1 := r.1.ctl.modFan (fun f => { f with
      fetch := f.fetch.eraseIdx k
      cells := tput f.cells key v })
    { r.1 with ctl := if r.2.2 then c1.irq pgFantail 6 else c1 }

end Sys2Proof.Machine
end

