-- ==== Sys2Proof/Machine/Proto.lean ====
section
/-! DEFINITION. The head and laser protocol (R352 to R373, R387 to R393): the words of each tick, the partners'
ticks, uplinks that carry feedback, and the XY2-100 output. -/

namespace Sys2Proof.Machine

/-! ### The transmit side of a tick (R359, R362, R363, R387, R391) -/

/-- A head or laser of the LMN-1210 generation (R387). -/
def Ctl.compat (c : Ctl) (k : Nat) : Bool := c.is (R.PROTO_STAT_COMPAT k) && c.is (R.PROTO_STAT_CAP_VALID k)

/-- R391: the XY2-100 group bound to a spindle. -/
def Ctl.xyBound (c : Ctl) (n : Nat) : Option Nat :=
  [52, 53, 54, 55].find? (fun k => c.is (R.XY2_CTRL_EN k) && c.get (R.XY2_CTRL_SPINDLE k) == n)

/-- R391: D, by which the laser samples of a bound channel are late; 0 for every other lane. -/
def Ctl.xyDelay (c : Ctl) (k n : Nat) : Nat :=
  match if isLaser k then c.xyBound n else none with
  | some g => 168 + c.get (R.XY2_CTRL_HEAD_DELAY g)
  | none => 0

/-- How far back lies the sample of spindle `n` that lane `k` sends: for a generation-0 partner the one that acts LEAD ticks
later (R387); for the laser of a bound channel the one planned D ticks back (R391). -/
def Ctl.sampleBack (c : Ctl) (k n : Nat) : Nat :=
  c.xyDelay k n + (if c.compat k then 32 - (c.reg (R.CAP0 k) / 2 ^ 16) % 256 else 0)

/-- The sample of spindle `n` that lane `k` sends at the end of tick `t`. -/
def Ctl.sampleFor (c : Ctl) (k n t : Nat) : Option PlanPt :=
  let at_ := tickBack t (c.sampleBack k n)
  (c.sp n).hist.find? (fun p => p.tick == at_)

/-- R387: R185's out computed on chip at sending for a generation-0 laser. -/
def Ctl.chipOut (c : Ctl) (n : Nat) (p : PlanPt) : Nat :=
  let f := c.get (R.SPINDLE_TENT_STAT_FACTOR n)
  if c.engaged then 0 else min (if p.tentEn then mulK p.pre f else p.pre) p.ceil

/-- R355: a head's blocks for a sample. -/
def headBlocks (p : PlanPt) (t8 : Nat) (active : Bool) : List Nat :=
  [dataPayload 1 (code 24 p.xc + code 24 p.yc * 2 ^ 24 + t8 * 2 ^ 48),
   dataPayload 2 (code 24 p.zc + t8 * 2 ^ 24 + b2n active * 2 ^ 32 + b2n p.lit * 2 ^ 33)]

/-- R355, R387: a laser's block for a sample; `out` is what a generation-0 laser is sent for it. -/
def Ctl.laserBlocks (c : Ctl) (k out : Nat) (p : PlanPt) (t8 : Nat) (active : Bool) : List Nat :=
  if c.compat k then
    [dataPayload 1 (out + 0xFFFF * 2 ^ 18 + b2n active * 2 ^ 35 + t8 * 2 ^ 48)]
  else [dataPayload 1 (p.pre + p.ceil * 2 ^ 18 + b2n p.tentEn * 2 ^ 34 + b2n active * 2 ^ 35 + t8 * 2 ^ 48)]

/-- R355, R391: the blocks of the sample that lane `k` sends at the end of tick `t`. -/
def Ctl.sampleBlocks (c : Ctl) (k t : Nat) (active : Bool) : List Nat :=
  let n := chanOf k
  match c.sampleFor k n t with
  | none => []
  | some p =>
    let t8 := (p.tick + 32 + c.xyDelay k n) % 256
    if isHead k then headBlocks p t8 active else c.laserBlocks k (c.chipOut n p) p t8 active

/-- R362: the scheduled samples of lane `k` in the present tick. -/
def Ctl.scheduled (c : Ctl) (k : Nat) : List Nat :=
  if 48 ≤ k ∨ ¬ c.sendsSamples then [] else c.sampleBlocks k c.now c.isActive

/-- R426: the samples of a lane that is catching up, and where it goes on: 4 of them at 12.5 Gb/s, 2 at 6.25 Gb/s. -/
def Ctl.catchBlocks (c : Ctl) (k t : Nat) : List Nat × Option Nat :=
  let b := if c.slow k then 2 else 4
  let ts := (upto b).filter (fun i => decide (i ≤ c.sinceT t))
  let blocks := ts.flatMap (fun i => c.sampleBlocks k ((t + i) % 2 ^ 48) true)
  (blocks, if c.sinceT t < b then none else some ((t + b) % 2 ^ 48))

/-- R374: the next management request that may be sent: a resend keeps its RSEQ, a new one takes the next. -/
def mgmtSend (k : Nat) (c : Ctl) : Ctl :=
  let l := c.ln k
  match l.mq with
  | [] => c
  | r :: rest =>
    if c.mgmtCredits k ≤ l.mout.length then c
    else
      let seq := if 0 < r.tries then r.rseq else (l.rseq + 1) % 256
      let r1 := { r with rseq := seq, at_ := c.now }
      let body := seq + (r.addr % 2 ^ 15) * 2 ^ 8 + b2n r.write * 2 ^ 23 + (r.data % 2 ^ 32) * 2 ^ 24
      sendBlock k false (dataPayload 4 body) (c.modLn k (fun l => { l with
        mq := rest, mout := l.mout ++ [r1], rseq := if 0 < r.tries then l.rseq else seq, p := l.p.execute seq }))

/-- The BRAKE blocks to repeat, oldest first, each in a word of the tick that is left (R371, R716). -/
def laneReps (k words : Nat) (c : Ctl) : Ctl :=
  (c.ln k).reps.foldl (fun c r =>
    let keep := fun (r : Nat × Nat × Nat) (c : Ctl) => c.modLn k (fun l => { l with reps := l.reps ++ [r] })
    if 0 < r.2.1 then keep (r.1, r.2.1 - 1, r.2.2) c
    else if (c.ln k).used < words then
      let c1 := sendBlock k true r.1 c
      if r.2.2 ≤ 1 then c1 else keep (r.1, 0, r.2.2 - 1) c1
    else keep r c) (if (c.ln k).reps.isEmpty then c else c.modLn k (fun l => { l with reps := [] }))

/-- The words of the present tick that no block has taken. -/
def Ctl.freeIn (c : Ctl) (k : Nat) : Nat := wordsIn (c.slow k) c.now - (c.ln k).used

/-- `n` words in a row, each as `f` fills it. -/
def fillWords (f : Ctl → Ctl) (n : Nat) (c : Ctl) : Ctl := (upto n).foldl (fun c _ => f c) c

/-- An IDLE block. -/
def sendIdle (k : Nat) (c : Ctl) : Ctl := sendBlock k true (ctlPayload bIdle 0) c

/-- R348: a word of PATTERN mode: 64 bits of the pattern; an IDLE block in its place for a CHECK injection (R350). -/
def patternWord (k : Nat) (c : Ctl) : Ctl :=
  if c.injKind k = 2 ∧ c.injects k false then sendIdle k c
  else match patternOf (c.get (R.LANE_TEST_PG_PATTERN k)) with
    | some (p, q) =>
      let g := prbsBits p q 64 0 (c.ln k).gen
      sendBlock k false g.1 (c.modLn k (fun l => { l with gen := g.2 }))
    | none => sendBlock k false (c.reg (R.LANE_PG_USER_LO k) + c.reg (R.LANE_PG_USER_HI k) * 2 ^ 32) c

/-- R348: the words of a tick in PATTERN mode: BRAKE blocks, then the pattern. -/
def patternTx (k : Nat) (c : Ctl) : Ctl :=
  let c1 := laneReps k (wordsIn (c.slow k) c.now) c
  fillWords (patternWord k) (c1.freeIn k) c1

/-- R332, R346: a word of training: the TRAIN block that opens a frame, then 31 data blocks of PRBS31. -/
def trainWord (k open_ : Nat) (c : Ctl) : Ctl :=
  let l := c.ln k
  if l.txPos = 0 then
    sendBlock k true (ctlPayload bTrain open_) (c.modLn k (fun l => { l with
      txPos := 1, frames := (l.frames + 1) % 2 ^ 16, eqDue := false }))
  else
    let g := prbsBits 31 28 64 0 l.prbsTx
    sendBlock k false g.1 (c.modLn k (fun l => { l with txPos := (l.txPos + 1) % 32, prbsTx := g.2 }))

/-- R327, R332: the body of the TRAIN block about to go out: step, request, answers, RX_READY, figure of merit, COUNT. -/
def Ctl.trainBody (c : Ctl) (k step : Nat) : Nat :=
  let l := c.ln k
  step + (if step = 3 ∧ l.eqDue then l.request else 0) + l.ackTx * 2 ^ 8 + b2n l.rxReady * 2 ^ 12 +
    c.get (R.LANE_FOM_FOM k) * 2 ^ 16 + l.frames * 2 ^ 24

/-- R346: the words of a tick of a fast exit: nothing for 30 ticks, the burst with STEP 15, IDLE blocks. -/
def wakeTx (k : Nat) (c : Ctl) : Ctl :=
  if c.sinceT (c.ln k).at_ < 30 then c
  else fillWords (fun c => if (c.ln k).frames = 1 ∧ (c.ln k).txPos = 0 then sendIdle k c
    else trainWord k (c.trainBody k 15) c) (c.freeIn k) c

/-- R327, R335: the EXCH block the device sends: OFFER, then CONFIRM; it is ROLE 0, supports both rates, and names itself. -/
def exchWord (k : Nat) (c : Ctl) : Ctl :=
  let ok := (c.ln k).offerOk
  sendBlock k true (ctlPayload bExch (b2n ok + k * 2 ^ 8 + 2 ^ 14 + 2 ^ 15 + c.get (R.LANE_FOM_FOM k) * 2 ^ 16 +
    (Config.peerId % 2 ^ 16) * 2 ^ 24)) (if ok then c.modLn k (fun l => { l with sent := l.sent + 1 }) else c)

/-- R329, R332, R334, R335, R346 to R348: what a lane that carries no traffic sends in a tick. -/
def bringUpTx (k : Nat) (c : Ctl) : Ctl :=
  let st := c.lst k
  if st = lnTrain then fillWords (fun c => trainWord k (c.trainBody k (c.get (R.LANE_STAT_TRAIN_STEP k))) c) (c.freeIn k) c
  else if st = lnLock ∨ (st = lnTest ∧ c.get (R.LANE_TEST_MODE k) = 2) then fillWords (sendIdle k) (c.freeIn k) c
  else if st = lnExchange then
    let c1 := exchDone k (fillWords (exchWord k) (c.freeIn k) c)
    -- R716: the lane has become ACTIVE with the last words of its tick: its BRAKE blocks begin in the next one
    if c1.lst k = lnActive then c1.modLn k (fun l => { l with reps := l.reps.map (fun r => (r.1, r.2.1 - 1, r.2.2)) }) else c1
  else if st = lnWake then wakeTx k c
  else if c.inPattern k then patternTx k c
  else c

/-- R363: a held retrain block in the first free word; TRAIN behind a RETRAIN_ACK waits for it (R337). -/
def heldTx (k : Nat) (c : Ctl) : Ctl :=
  match (c.ln k).heldRt with
  | p :: t => if 0 < c.freeIn k then sendBlock k true p (c.modLn k (fun l => { l with heldRt := t })) else c
  | [] => c

/-- R341: an IDLE block, or the line keeper that is due in its place. -/
def idleWord (k : Nat) (c : Ctl) : Ctl := if (c.ln k).keepDue then sendKeeper k c else sendIdle k c

/-- The remaining words of a tick by priority (R362): held retrain blocks, BRAKE repeats, management, camera credit,
FOM report, IDLE blocks and line keepers. -/
def laneRest (k : Nat) (c : Ctl) : Ctl :=
  let free := fun (c : Ctl) => decide (0 < c.freeIn k)
  let c2 := laneReps k (wordsIn (c.slow k) c.now) (heldTx k c)
  let c3 := fillWords (fun c => if free c then mgmtSend k c else c) (c2.freeIn k) c2
  let due := min (c3.ln k).creditDue 65535
  let c4 := if free c3 ∧ 0 < due then
      sendBlock k false (dataPayload 5 due) (c3.modLn k (fun l => { l with creditDue := l.creditDue - due }))
    else c3
  let c5 := if free c4 ∧ (c4.ln k).fomRep then
      sendBlock k true (ctlPayload bLinkMgmt (c4.get (R.LANE_FOM_FOM k) * 2 ^ 8)) (c4.modLn k (fun l => { l with fomRep := false }))
    else c4
  fillWords (idleWord k) (c5.freeIn k) c5

/-- The end of a tick on a lane's transmit side: scheduled samples and the remaining words, or what a lane without traffic
sends; the counts of the tick begin anew. -/
def laneTx (k : Nat) (c : Ctl) : Ctl :=
  let c0 := sendSoon k c
  let go := match (c0.ln k).catchUp with
    | some t => if c0.isActive then c0.catchBlocks k t else ([], none)
    | none => (c0.scheduled k, none)
  let c1 := if (c0.ln k).catchUp.isNone ∧ ¬ (c0.ln k).mute then c0
    else c0.modLn k (fun l => { l with catchUp := go.2, mute := false })
  let c2 := if c1.txOn k then laneRest k (sendAll k false go.1 c1) else bringUpTx k c1
  let l := c2.ln k
  let c3 := if l.used = 0 ∧ ¬ l.marked then c2 else c2.modLn k (fun l => { l with used := 0, marked := false })
  if l.trainDue ∧ ¬ l.retrainsDue then retrainNow k c3 else c3

/-- A lane whose first word of the present tick is to carry a TICK_MARK (R359). -/
def Ctl.marksIn (c : Ctl) (k : Nat) : Bool := decide (k < 48) && c.txOn k && superframe (c.slow k) c.now

/-- The beginning of a tick: blocks ready only now take its first words (R363), link-management blocks behind a CORRECTION
that waits too (R264, `laneManage`); else the first word of a superframe is kept for its TICK_MARK, and out-of-slot blocks
of this tick follow it. -/
def laneBegin (k : Nat) (c : Ctl) : Ctl :=
  match (c.ln k).late with
  | [] => if c.marksIn k then c.modLn k (fun l => { l with hold := true }) else c
  | ps =>
    let c1 := c.modLn k (fun l => { l with late := ps.filter (fun p => oosRank p == 2) })
    if c1.txOn k || c1.inPattern k then sendAll k true (ps.filter (fun p => oosRank p != 2)) c1 else c1

/-- The link-management blocks that were ready at the beginning of the tick go out. -/
def laneManage (k : Nat) (c : Ctl) : Ctl :=
  let ps := (c.ln k).late.filter (fun p => oosRank p == 2)
  if ps.isEmpty then c
  else
    let c1 := c.modLn k (fun l => { l with late := l.late.filter (fun p => oosRank p != 2) })
    if c1.txOn k || c1.inPattern k then sendAll k true ps c1 else c1

/-- R359, R426: TICK_MARK on every head and laser downlink in a superframe's first word, unless an out-of-slot block took
it. -/
def tickMark (c : Ctl) : Ctl :=
  c.each (hlLanes.filter (fun k => c.marksIn k && !(c.ln k).marked)) (fun k c =>
    let taken := (c.ln k).used ≠ 0 ∨ (c.slow k ∧ (c.ln k).catchUp.isSome)
    let c1 := c.modLn k (fun l => { l with marked := true })
    sendSoon k (if taken then c1.inc (R.PROTO_CNT0_TICK_MARK_SKIP k) else sendBlock k true (ctlPayload bTickMark c.now) c1))

/-! ### Partners (R358 to R369, R372, R715) -/

/-- R387: a head or laser of the LMN-1210 generation. -/
def Partner.gen0 (p : Partner) : Bool := p.word0 / 2 ^ 24 == 0
/-- DEPTH, or LEAD of generation 0, in the partner's own capability word (R377). -/
def Partner.depth (p : Partner) : Nat := p.word0 / 2 ^ 16 % 256

def Ctl.modP (c : Ctl) (k : Nat) (f : Partner → Partner) : Ctl := c.modLn k (fun l => { l with p := f l.p })

/-- R360, R361, R387: a partner takes a TICK_MARK as its tick edge; generation 0 ignores it. -/
def partnerTickMark (k tally check : Nat) (c : Ctl) : Ctl :=
  if 48 ≤ k ∨ ¬ c.txOn k ∨ ¬ ctlGood bTickMark tally check ∨ (c.ln k).p.gen0 then c
  else c.modP k (fun p => { p with synced := true, slip := p.slip || (p.synced && p.count != tally), count := tally })

/-- R358: the earliest tick after the partner's whose low 8 bits are `t8`. -/
def nextTick8 (count t8 : Nat) : Nat := (count + 1 + (t8 + 256 - (count + 1) % 256) % 256) % 2 ^ 48

/-- R369: a sample with ACTIVE 1 has been received within the last 80 ticks before `now`. -/
def recentAct (now : Nat) (a : Option Nat) : Bool := match a with | some t => decide (since now t ≤ 80) | none => false

/-- R369, R387: ACT_P0 and ACT_P1 follow, in tick `now`. -/
def Partner.acts (p : Partner) (now : Nat) : Partner :=
  { p with actP0 := !p.gen0 && recentAct now p.act0, actP1 := !p.gen0 && recentAct now p.act1 }

/-- A downlink block reaches the partner on port `port`: from this device when the lane carries traffic, from the other
device whatever this one does (R395). -/
def Ctl.reaches (c : Ctl) (k port : Nat) : Bool := c.txOn k || port != slice (c.reg (R.LANE_PEER k)) 15 1

/-- R358, R365, R369, R387: a partner receives a downlink sample of type `mt` on a port; one of generation 0 executes it LEAD
ticks later. -/
def partnerSample (k port mt body chk : Nat) (c : Ctl) : Ctl :=
  let t8 := if isHead k ∧ mt = 2 then slice body 24 8 else slice body 48 8
  let active := if isHead k then mt == 2 && bitOf body 32 else bitOf body 35
  let p := (c.ln k).p
  let t := if p.gen0 then (p.count + p.depth) % 2 ^ 48 else nextTick8 p.count t8
  let known := if isHead k then mt = 1 ∨ mt = 2 else isLaser k ∧ mt = 1
  if ¬ known ∨ ¬ c.reaches k port ∨ ¬ dataGood mt body chk then c
  else if ¬ p.gen0 ∧ (¬ p.synced ∨ p.depth ≤ since t p.count) then c
  else c.modP k (fun p => Partner.acts (now := c.now) { p with
    held := p.held.filter (fun h => h.1 ≠ t ∨ h.2.1 ≠ mt) ++ [(t, mt, body)]
    port := if active then port else p.port
    act0 := if active ∧ port = 0 then some c.now else p.act0
    act1 := if active ∧ port = 1 then some c.now else p.act1 })

/-- R185, R365 to R367: what a laser emits for a POWER body. -/
def Partner.emit (p : Partner) (body : Nat) : Nat :=
  let pre := slice body 0 18
  let ceil := slice body 18 16
  if p.braked then 0 else min (if bitOf body 34 then mulK pre p.factor else pre) ceil

/-- R365, R366: the next tick of a partner. -/
def partnerTick (k : Nat) (c : Ctl) : Ctl :=
  let p := (c.ln k).p
  if ¬ p.synced ∧ ¬ p.gen0 then
    (if p.actP0 ∨ p.actP1 then c.modP k (Partner.acts (now := c.now)) else c)
  else
    let t := (p.count + 1) % 2 ^ 48
    let mine := p.held.filter (fun h => h.1 = t)
    let rest := p.held.filter (fun h => h.1 ≠ t)
    let p1 := Partner.acts { p with count := t, held := rest } c.now
    let p2 := if isHead k then
        let p2 := match mine.find? (fun h => h.2.1 == 1) with
          | some h => { p1 with x := sgn 24 (slice h.2.2 0 24), y := sgn 24 (slice h.2.2 24 24) }
          | none => { p1 with under := true }
        match mine.find? (fun h => h.2.1 == 2) with
        | some h => { p2 with z := sgn 24 (slice h.2.2 0 24) }
        | none => { p2 with under := true }
      else match mine.head? with
        | some h => { p1 with out := p1.emit h.2.2 }
        | none => { p1 with out := 0, under := true }
    c.modP k (fun _ => p2)

/-- R368: a laser applies a CORRECTION from its followed port. -/
def correction (k port body check : Nat) (c : Ctl) : Ctl :=
  let p := (c.ln k).p
  if ¬ isLaser k ∨ ¬ c.reaches k port ∨ port ≠ p.port ∨ ¬ ctlGood bCorrection body check then c
  else
    let seq := slice body 8 8
    let gap := !p.exempt && (match p.cseq with | some q => (q + 1) % 256 != seq | none => false)
    c.modP k (fun p => { p with factor := slice body 16 16, cseq := some seq, exempt := false, gap := p.gap || gap })

/-- R372, R716: a partner receives a BRAKE block from its followed port. -/
def brakeBlock (k port body check : Nat) (c : Ctl) : Ctl :=
  let p := (c.ln k).p
  if 48 ≤ k ∨ ¬ c.reaches k port ∨ port ≠ p.port ∨ ¬ ctlGood bBrake body check then c
  else
    let eng := bitOf body 0
    let seq := slice body 8 8
    if isHead k then c.modP k (fun p => { p with bseq := seq })
    else match p.engaged with
      | none => c.modP k (fun p => { p with braked := eng, engaged := some seq, bseq := seq, out := if eng then 0 else p.out })
      | some e =>
        if eng then c.modP k (fun p => { p with braked := true, engaged := some seq, bseq := seq, out := 0 })
        else
          let d := (seq + 256 - e) % 256
          if p.braked ∧ 1 ≤ d ∧ d ≤ 127 then c.modP k (fun p => { p with braked := false, bseq := seq }) else c

/-- R373: no echo of a new BSEQ within 8 ticks of the change. -/
def brakeEcho (k : Nat) (c : Ctl) : Ctl :=
  match (c.ln k).echo with
  | some (b, t) =>
    if 8 ≤ c.sinceT t then
      let c1 := c.modLn k (fun l => { l with echo := none })
      if c.get (R.PROTO_STAT_BSEQ_ECHO k) ≠ b then c1.protoEvt k 3 else c1
    else c
  | none => c

/-! ### Uplinks (R353, R355, R357, R190) -/

/-- R353: an uplink block of type `mt` arrives on an ACTIVE lane: it is taken, or counted and discarded. -/
def uplink (k mt body chk : Nat) (f : Ctl → Ctl) (c : Ctl) : Ctl :=
  dataBlock k mt body chk (fun c =>
    if ¬ dataGood mt body chk then c.inc (R.PROTO_CNT0_CHK_ERR k) else if c.lst k = lnActive then f c else c) c

/-- R357, R387: the tick during which an uplink was measured. -/
def Ctl.upTick (c : Ctl) (k t8 : Nat) : Nat := if c.compat k then (c.now + 2 ^ 48 - 1) % 2 ^ 48 else c.tick8 t8

/-- R355: the partner's FAULT bit; each rising edge is logged. -/
def partnerFault (k : Nat) (f : Bool) (c : Ctl) : Ctl :=
  let c1 := c.modLn k (fun l => { l with fault := f })
  if f ∧ ¬ (c.ln k).fault then (c1.event (pgLane k) 0x14 (0x40 + k) 0 0 0 []).protoEvt k 4 else c1

/-- R366: a BUF_UNDER report. -/
def bufUnder (k : Nat) (b : Bool) (c : Ctl) : Ctl := if b then c.inc (R.PROTO_CNT1_BUF_UNDER k) else c

/-- The planned point of a spindle that acts in tick `t` (R34). -/
def Ctl.pointAt (c : Ctl) (n t : Nat) : Option PlanPt :=
  (c.sp n).hist.find? (fun p => (p.tick + 32) % 2 ^ 48 == t % 2 ^ 48)

/-- R355: HSTAT: feedback of Z and status. -/
def hstat (k body chk : Nat) (c : Ctl) : Ctl :=
  if ¬ isHead k then c
  else uplink k 3 body chk (fun c =>
    let t := c.upTick k (slice body 0 8)
    let c1 := match c.pointAt k t with
      | some p => c.metric 93 (absI (sgn 24 (slice body 8 24) - p.zc) : Nat)
      | none => c
    let c2 := c1.modLn k (fun l => { l with
      seen0 := !c.compat k && bitOf body 32, seen1 := !c.compat k && bitOf body 33
      p := { l.p with under := false, slip := false } })
    partnerFault k (bitOf body 36) (bufUnder k (bitOf body 34) c2)) c

/-- R190: GALVO feedback against the commands sent for its tick. The greater of the differences in X and Y counts, so a run of
ticks may alternate between the axes; a tick without valid feedback ends an excursion (log entry 192). -/
def galvo (k body chk : Nat) (c : Ctl) : Ctl :=
  if ¬ isHead k then c
  else uplink k 2 body chk (fun c =>
    let lim := c.get (R.SPINDLE_TRACK_TRACK_LIMIT k)
    let t := c.upTick k (slice body 48 8)
    match c.pointAt k t with
    | none => c
    | some p =>
      if lim = 0 ∨ (c.xyBound k).isSome then c
      else
        let d := max (absI (sgn 24 (slice body 0 24) - p.xc)) (absI (sgn 24 (slice body 24 24) - p.yc))
        let c1 := c.metric 92 (d : Nat)
        let s := c1.sp k
        if d ≤ lim then c1.setSp k { s with trackRun := 0, trackErr := false }
        else
          let next := s.trackRun ≠ 0 && (s.trackAt + 1) % 2 ^ 48 == t
          let run := if next then s.trackRun + 1 else 1
          let was := next && s.trackErr
          let c2 := c1.setSp k { s with trackRun := run, trackAt := t, trackErr := was }
          if max 1 (c.get (R.SPINDLE_TRACK_TRACK_HOLD k)) ≤ run ∧ ¬ was then
            let c3 := ((c2.setSp k { s with trackRun := run, trackAt := t, trackErr := true }).inc (R.SPINDLE_CNT2_TRACK_EXCEED k)).irq (pgSpindle k) 3
            if c.is (R.SPINDLE_TRAJ_CTRL_TRACK_BRAKE k) then brakeSource brkTrack false c3 else c3
          else c2) c

/-! ### XY2-100 (R389 to R392) -/

/-- R392: a write of XY2_CTRL while the lane's BLK_CTRL enable is 0. -/
def xy2Enable (k word : Nat) (c : Ctl) : Ctl :=
  if k < 52 ∨ 55 < k ∨ c.enabled (pgLane k) then c
  else
    let n := word / 2 ^ 16 % 32
    let c1 := c.put (R.XY2_CTRL_SPINDLE k) n |>.put (R.XY2_CTRL_HEAD_DELAY k) (word % 256)
    if ¬ bitOf word 31 then c1.flag (R.XY2_CTRL_EN k) false
    else
      let other := [52, 53, 54, 55].any (fun g => g != k && c.is (R.XY2_CTRL_EN g) && c.get (R.XY2_CTRL_SPINDLE g) == n)
      if (n < 24 ∧ c.enabled (pgLane n)) ∨ other then c1.flag (R.XY2_CTRL_EN k) false |>.flag (R.XY2_CTRL_ERR k) true
      else (c1.flag (R.XY2_CTRL_EN k) true |>.flag (R.XY2_CTRL_ERR k) false).modLn k (fun l => { l with xyAt := none })

/-- R391: an axis word of 18 bits. -/
def xyWord (cmd : Int) : Nat := (clamp ((cmd + 32) / 64) (-131072) 131071 + 131072).toNat

/-- R390: 20 bits in the order of sending (bit 0 first): control 1, data most significant first, even parity. -/
def xyFrameBits (w : Nat) : Nat :=
  let d := (upto 18).foldl (fun a i => a + b2n (bitOf w (17 - i)) * 2 ^ (i + 1)) 1
  d + (popCount 19 d % 2) * 2 ^ 19

/-- R391: a frame begins, every 200 ticks, with the position sample formed in this tick. -/
def xy2Frame (k : Nat) (c : Ctl) : Ctl :=
  if ¬ c.is (R.XY2_CTRL_EN k) ∨ k < 52 ∨ 55 < k then c
  else
    let due := match (c.ln k).xyAt with | none => true | some t => decide (200 ≤ c.sinceT t)
    match due, (c.sp (c.get (R.XY2_CTRL_SPINDLE k))).sample with
    | true, some p => c.modLn k (fun l => { l with
        xyAt := some c.now, xyFrame := xyFrameBits (xyWord p.xc) + xyFrameBits (xyWord p.yc) * 2 ^ 20 })
    | _, _ => c

/-- R389, R390: the levels of SENDCK, SYNC, CHAN_X and CHAN_Y of an enabled group in the present tick. -/
structure XyPins where
  sendck : Bool := false
  sync : Bool := false
  x : Bool := false
  y : Bool := false
  deriving DecidableEq, Repr

/-- R389, R390: what the pins of aux lane `k` carry: bit `d / 10` of the frame begun `d` ticks ago; each bit begins with the
rising edge of SENDCK, which is high for its first 5 ticks (log entry 191). No frame: low. -/
def Ctl.xyPins (c : Ctl) (k : Nat) : XyPins :=
  match c.is (R.XY2_CTRL_EN k), (c.ln k).xyAt with
  | true, some t =>
    let d := c.sinceT t
    let f := (c.ln k).xyFrame
    if 200 ≤ d then {}
    else { sendck := decide (d % 10 < 5), sync := decide (d / 10 < 19), x := bitOf f (d / 10), y := bitOf f (20 + d / 10) }
  | _, _ => {}

end Sys2Proof.Machine
end

