-- ==== Sys2Proof/Machine/Tent.lean ====
section
/-! DEFINITION. The tentering loops (R238 to R279): measurements, the controller, correction blocks, sensor loss and
recovery, excursions. -/

namespace Sys2Proof.Machine

def tnOff : Nat := 0
def tnIdle : Nat := 1
def tnSettling : Nat := 2
def tnClosed : Nat := 3
def tnHeld : Nat := 4
def tnLost : Nat := 5
def tnRecovering : Nat := 6

def Ctl.tn (c : Ctl) (n : Nat) : TentSt := tget c.tent n {}
def Ctl.modTn (c : Ctl) (n : Nat) (f : TentSt → TentSt) : Ctl := { c with tent := tmod c.tent n {} f }
def Ctl.tst (c : Ctl) (n : Nat) : Nat := c.get (R.SPINDLE_TENT_STAT_STATE n)

/-- A right shift towards minus infinity. -/
def sarI (i : Int) (k : Nat) : Int := i.fdiv ((2 ^ k : Nat))

/-! ### Profile fields (R277) -/

def tSetpoint (p : Prof) : Int := (fieldAt p 32 2 : Nat)
def tKp (p : Prof) : Int := (fieldAt p 34 2 : Nat)
def tKi (p : Prof) : Int := (fieldAt p 36 2 : Nat)
def tAlpha (p : Prof) : Int := (fieldAt p 38 1 : Nat)
def tWA (p : Prof) : Int := sgn 8 (fieldAt p 39 1)
def tWB (p : Prof) : Int := sgn 8 (fieldAt p 40 1)
def tWR (p : Prof) : Int := sgn 8 (fieldAt p 41 1)
/-- R250. -/
def tCmin (p : Prof) : Int := clamp ((fieldAt p 42 1 * 256 : Nat)) 8192 32768
def tCmax (p : Prof) : Int := clamp ((fieldAt p 43 1 * 256 : Nat)) 32768 57344
def tSlew (p : Prof) : Nat := fieldAt p 44 1 * 16
def tHoldOff (p : Prof) : Nat := fieldAt p 45 1
def tSpHeat (p : Prof) : Int := sgn 8 (fieldAt p 46 1)
def tDeadband (p : Prof) : Nat := fieldAt p 47 1 % 16
def tRampScale (p : Prof) : Bool := bitOf (fieldAt p 47 1) 4

/-- R277, R183: the profile of the run whose sample is acting. -/
def Ctl.pointProf (c : Ctl) (p : PlanPt) : Prof :=
  match p.item with
  | some i => c.profEntry p.copy i.profIx
  | none => zeros 64

/-! ### Arithmetic -/

/-- R243, R244: the raw pool index. -/
def Ctl.poolIndex (c : Ctl) (n : Nat) (p : Prof) (a b r : Nat) : Int :=
  let norm := fun (raw off gain : Nat) => clamp (sarI (((raw : Int) - off) * gain + 8192) 14) 0 65535
  let na := norm a (c.get (R.SPINDLE_TENT_OFFSET_AB_OFFSET_A n)) (c.get (R.SPINDLE_TENT_GAIN_AB_GAIN_A n))
  let nb := norm b (c.get (R.SPINDLE_TENT_OFFSET_AB_OFFSET_B n)) (c.get (R.SPINDLE_TENT_GAIN_AB_GAIN_B n))
  let nr := norm r (c.get (R.SPINDLE_TENT_OFFSET_R_OFFSET_R n)) (c.get (R.SPINDLE_TENT_GAIN_R_GAIN_R n))
  clamp (sarI (tWA p * na + tWB p * nb + tWR p * nr + 32) 6) 0 65535

/-- R247: the setpoint for an acting sample. -/
def setpointOf (p : Prof) (h : PlanPt) : Int :=
  let sp0 := clamp (tSetpoint p + sarI (tSpHeat p * (32768 - (h.ff : Int)) + 64) 7) 0 65535
  let rs := sarI ((h.rf : Int) * h.sf + 16384) 15
  if tRampScale p then sarI (sp0 * rs + 16384) 15 else sp0

/-! ### Correction blocks (R259 to R265, R388, R410) -/

/-- A block leaves for laser lane 24 + n; from a device that does not hold the active role only the count goes on
(R410). A generation-0 laser is sent none (R387). -/
def corrEmit (n reason factor : Nat) (c : Ctl) : Ctl :=
  let k := 24 + n
  let t := c.tn n
  let c1 := (c.modTn n (fun t => { t with sentNow := true, lastBlock := c.now, sent := factor })).put
    (R.SPINDLE_TENT_STAT_FACTOR n) factor
  if c.compat k then c1
  else
    let seq := (t.seq + 1) % 256
    let c2 := c1.modTn n (fun t => { t with seq := seq })
    if c.isActive then
      (sendOos k (ctlPayload bCorrection (reason + seq * 2 ^ 8 + factor * 2 ^ 16)) false c2).inc
        (R.SPINDLE_TENT_CNT0_BLOCKS_SENT n)
    else c2

/-- R262: a factor is to be sent: at once, or in the next tick when a block has left in this one or the lane carries nothing
yet (R427); a newer one takes the place of the one that waits. -/
def corrSend (n reason factor : Nat) (c : Ctl) : Ctl :=
  if ¬ c.txOn (24 + n) then c
  else if (c.tn n).sentNow ∨ c.compat (24 + n) ∨ (c.ln (24 + n)).mute then c.modTn n (fun t => { t with waiting := some (reason, factor) })
  else corrEmit n reason factor (c.modTn n (fun t => { t with waiting := none }))

/-- The beginning of a tick: the transmitter can take a block. -/
def corrOpen (n : Nat) (c : Ctl) : Ctl :=
  if (c.tn n).sentNow then c.modTn n (fun t => { t with sentNow := false }) else c

/-- The block that has waited leaves, unless one has left in this tick. -/
def corrBegin (n : Nat) (c : Ctl) : Ctl :=
  match (c.tn n).waiting with
  | none => c
  | some (r, f) =>
    if ¬ c.txOn (24 + n) then c.modTn n (fun t => { t with waiting := none })
    else if (c.tn n).sentNow then c
    -- ready since the tick before, it takes the first word, also that of a TICK_MARK (R359)
    else corrEmit n r f ((c.modTn n (fun t => { t with waiting := none })).modLn (24 + n) (fun l => { l with hold := false }))

/-- KEEPER (R263). -/
def keeper (n : Nat) (c : Ctl) : Ctl :=
  let t := c.tn n
  let k := c.get (R.SPINDLE_TENT_CTRL_KEEPER n)
  let st := c.tst n
  if k ≠ 0 ∧ tnSettling ≤ st ∧ k ≤ c.sinceT t.lastBlock ∧ t.waiting.isNone ∧ ¬ t.sentNow then corrSend n 2 t.sent c
  else c

/-! ### Excursions and saturation (R273 to R276) -/

/-- One ends at tick `t`: it is logged. -/
def excLog (n cd : Nat) (e : Excursion) (t : Nat) (c : Ctl) : Ctl :=
  c.event (pgSpindle n) cd n e.tag e.x e.y [e.start % 2 ^ 32, (since t e.start) % 2 ^ 32, b2n e.sign, e.peak]

/-- The next state of one for a measurement at tick `t` of sample `h`: begun, gone on with, or ended. -/
def Excursion.next (e : Excursion) (past ends sign : Bool) (peak hold t : Nat) (h : PlanPt) : Excursion × Bool × Bool :=
  if e.isOpen then
    if ends then ({ e with isOpen := false, run := 0 }, false, true) else ({ e with peak := max e.peak peak }, false, false)
  else
    let k := if past then e.run + 1 else 0
    if max hold 1 ≤ k then
      ({ run := 0, isOpen := true, start := t, sign := sign, peak := peak, x := h.x, y := h.y, tag := h.tag }, true, false)
    else ({ e with run := k }, false, false)

/-- Judge the excursion and log its end. -/
def watchExc (n : Nat) (past ends sign : Bool) (peak t : Nat) (h : PlanPt) (c : Ctl) : Ctl :=
  let e := (c.tn n).exc
  let r := e.next past ends sign peak (c.get (R.SPINDLE_TENT_EXC_HOLD n)) t h
  let c1 := c.modTn n (fun s => { s with exc := r.1 })
  let c2 := if r.2.1 then
      ((c1.inc (R.SPINDLE_TENT_CNT1_EXCURSIONS n)).flag (R.SPINDLE_TENT_STAT_EXCURSION n) true).setBits (R.SPINDLE_TENT_EVT n) 2
    else c1
  if r.2.2 then excLog n 0x0F e t (c2.flag (R.SPINDLE_TENT_STAT_EXCURSION n) false) else c2

/-- Judge the saturation and log its end: `above` and `below`, how far u lies beyond each limit; the peak follows the limit
that its sign names. -/
def watchSat (n : Nat) (above below t : Nat) (h : PlanPt) (c : Ctl) : Ctl :=
  let e := (c.tn n).sat
  let past := decide (0 < above + below)
  let sign := if e.isOpen then e.sign else decide (0 < above)
  let r := e.next past (!past) sign (if sign then above else below) (c.get (R.SPINDLE_TENT_EXC_HOLD n)) t h
  let c1 := c.modTn n (fun s => { s with sat := r.1 })
  let c2 := if r.2.1 then
      ((c1.inc (R.SPINDLE_TENT_CNT1_SATURATIONS n)).flag (R.SPINDLE_TENT_STAT_SATURATED n) true).setBits (R.SPINDLE_TENT_EVT n) 4
    else c1
  if r.2.2 then excLog n 0x10 e t (c2.flag (R.SPINDLE_TENT_STAT_SATURATED n) false) else c2

/-- R276: the loop leaves SETTLING or CLOSED: open ones end at the last measurement acted on. -/
def excClose (n : Nat) (c : Ctl) : Ctl :=
  let t := c.tn n
  let c1 := if t.exc.isOpen then excLog n 0x0F t.exc t.lastT (c.flag (R.SPINDLE_TENT_STAT_EXCURSION n) false) else c
  let c2 := if t.sat.isOpen then excLog n 0x10 t.sat t.lastT (c1.flag (R.SPINDLE_TENT_STAT_SATURATED n) false) else c1
  c2.modTn n (fun s => { s with exc := {}, sat := {} })

/-! ### States (R268 to R272) -/

def tnActing (st : Nat) : Bool := st == tnSettling || st == tnClosed

/-- A state change. -/
def tentGo (n st : Nat) (c : Ctl) : Ctl :=
  let old := c.tst n
  let c1 := if tnActing old ∧ ¬ tnActing st then excClose n c else c
  (c1.put (R.SPINDLE_TENT_STAT_STATE n) st).flag (R.SPINDLE_TENT_STAT_SENSOR_LOST n) (st == tnLost || st == tnRecovering)

/-- The planned point acting at the head with its tag. -/
def Ctl.headPoint (c : Ctl) (n : Nat) : Int × Int × Nat :=
  match c.atHead n with
  | some p => (p.x, p.y, p.tag)
  | none => (0, 0, 0)

/-- R270: entry to LOST. -/
def enterLost (n : Nat) (late : Bool) (c : Ctl) : Ctl :=
  let p := c.headPoint n
  -- LOSS_ACTION is chosen on entry; a movement in progress goes on
  let opens := c.get (R.SPINDLE_TENT_CTRL_LOSS_ACTION n) = 1
  let c1 := ((tentGo n tnLost c).modTn n (fun t => { t with
    good := 0, lostAt := if opens ∧ t.lostAt.isNone then some c.now else t.lostAt })).inc (R.SPINDLE_TENT_CNT1_LOSSES n)
  let c2 := (c1.setBits (R.SPINDLE_TENT_EVT n) 1).event (pgSpindle n) 0x0D n p.2.2 p.1 p.2.1
    [c.get (R.SPINDLE_TENT_STAT_BAD_CAUSE n)]
  if c.get (R.SPINDLE_TENT_CTRL_LOSS_ACTION n) = 2 then brakeSource brkSensor late c2 else c2

/-- R241, R268: the head lane of channel `n` has left its active state. -/
def tentLaneLost (n : Nat) (c : Ctl) : Ctl :=
  let c1 := c.put (R.SPINDLE_TENT_STAT_BAD_CAUSE n) 4
  if c.tst n = tnOff ∨ c.tst n = tnLost then c1 else enterLost n false c1

/-- R268: health is counted while the spindle is neither DISABLED nor STOPPED. -/
def Ctl.tentCounts (c : Ctl) (n : Nat) : Bool := c.sst n != stDisabled && c.sst n != stStopped

/-- R241: a bad measurement is recorded and counted in every state of the spindle; R268: consecutive ones are counted while
the spindle is neither DISABLED nor STOPPED, and the loop's state follows. -/
def tentBad (n cause : Nat) (late : Bool) (c : Ctl) : Ctl :=
  let c0 := (c.put (R.SPINDLE_TENT_STAT_BAD_CAUSE n) cause).inc (R.SPINDLE_TENT_CNT0_BAD n)
  let c1 := if c.tentCounts n then c0.modTn n (fun t => { t with bad := t.bad + 1, good := 0 }) else c0
  let st := c.tst n
  let c2 := if tnActing st then tentGo n tnHeld (c1.modTn n (fun t => { t with preHeld := st })) else c1
  let st2 := c2.tst n
  if c.tentCounts n ∧ (st2 = tnIdle ∨ st2 = tnHeld) ∧ max 1 (c.get (R.SPINDLE_TENT_CTRL_LOSS_LIMIT n)) ≤ (c2.tn n).bad then
    enterLost n late c2
  else if st2 = tnRecovering then enterLost n late c2
  else c2

/-- R252: a sample the loop may act on. -/
def Ctl.tentUsable (c : Ctl) (n : Nat) (h : PlanPt) : Bool :=
  h.lit && h.tentEn && h.pre != 0 && (c.tn n).runs.contains h.run

/-- R268, R272: the loop leaves RECOVERING: closed without a bump at a measurement it may act on, else IDLE, where a
movement of R270 goes on. -/
def tentRecover (n : Nat) (m : Option (PlanPt × Nat × Nat × Nat)) (c : Ctl) : Ctl :=
  let p := c.headPoint n
  let c0 := c.modTn n (fun t => { t with lostAt := if m.isSome then none else t.lostAt })
  let c1 := (tentGo n (if m.isSome then tnClosed else tnIdle) c0).event (pgSpindle n) 0x0E n p.2.2 p.1 p.2.1 []
  match m with
  | none => c1
  | some (h, a, b, r) =>
    let pf := c.pointProf h
    let y := c.poolIndex n pf a b r
    let e := setpointOf pf h - y
    let pr := sarI (tKp pf * e + 32768) 16
    c1.modTn n (fun t => { t with
      y := y
      yInit := false
      slew := tSlew pf
      acc := clamp (((t.cprev : Int) - 32768 - pr) * 2 ^ 20) ((tCmin pf - 32768) * 2 ^ 20) ((tCmax pf - 32768) * 2 ^ 20) })

/-- R251: the acting sample is ceiling-limited. -/
def Ctl.ceilLimited (c : Ctl) (n : Nat) (h : PlanPt) : Bool :=
  decide (h.ceil < (h.pre * (c.tn n).cprev + 16384) / 2 ^ 15)

/-- R249, R250, R261, R275: one loop update for the error `e`. -/
def loopUpdate (n : Nat) (e : Int) (tick : Nat) (h : PlanPt) (pf : Prof) (c : Ctl) : Ctl :=
  let t := c.tn n
  let cmin := tCmin pf
  let cmax := tCmax pf
  let slew : Int := (tSlew pf : Nat)
  let cp : Int := (t.cprev : Nat)
  let p := sarI (tKp pf * e + 32768) 16
  let holdUp := decide (cp = cmax) || (c.ceilLimited n h && decide (0 < e))
  let holdDown := decide (cp = cmin)
  let hold := (holdUp && decide (0 < e)) || (holdDown && decide (e < 0))
  let acc := if hold then t.acc else clamp (t.acc + tKi pf * e) ((cmin - 32768) * 2 ^ 20) ((cmax - 32768) * 2 ^ 20)
  let u := 32768 + p + roundShift acc 20
  let v := clamp u cmin cmax
  let w := (if slew = 0 then v else clamp v (cp - slew) (cp + slew)).toNat
  let c2 := c.modTn n (fun t => { t with acc := acc, cprev := w })
  let c3 := watchSat n (u - cmax).toNat (cmin - u).toNat tick h c2
  if max (tDeadband pf) 1 ≤ absI ((w : Int) - (t.sent : Nat)) then corrSend n 0 w c3 else c3

/-- R244 to R252, R255: the loop processes a measurement it may act on. -/
def tentProcess (n tick : Nat) (h : PlanPt) (a b r : Nat) (c : Ctl) : Ctl :=
  let pf := c.pointProf h
  let t := c.tn n
  let x := c.poolIndex n pf a b r
  let y := if t.yInit then x else t.y + sarI ((x - t.y) * (tAlpha pf + 1) + 128) 8
  let sp := setpointOf pf h
  let e := sp - y
  let c0 := if c.ceilLimited n h then c.inc (R.SPINDLE_TENT_CNT2_CEIL_LIMITED n) else c
  let c1 := (c0.modTn n (fun t => { t with
      y := y, yInit := false, lastT := tick, slew := tSlew pf })).setReg
    (R.SPINDLE_TENT_INDEX n) (sp.toNat * 2 ^ 16 + y.toNat)
  let band : Int := (c.get (R.SPINDLE_TENT_EXC_BAND n) : Nat)
  let dev := absI e
  let c2 := watchExc n (decide (band < dev)) (decide ((dev : Int) ≤ band - band / 8)) (decide (sp < y)) dev tick h c1
  let c3 :=
    if c.tst n = tnSettling then
      let k := t.settled + 1
      let d := c2.modTn n (fun t => { t with settled := k })
      if tHoldOff pf ≤ k then tentGo n tnClosed d else d
    else loopUpdate n e tick h pf c2
  let f := (c3.tn n).cprev
  (((c3.metric (3 * n) y).metric (3 * n + 1) e).metric (3 * n + 2) (f : Nat)).wearAcc (0x58 + n) (f : Nat) 1

/-- R268: a good measurement. -/
def tentGood (n tick : Nat) (h : Option PlanPt) (a b r : Nat) (c : Ctl) : Ctl :=
  let c1 := if c.tentCounts n then c.modTn n (fun t => { t with bad := 0, good := t.good + 1 }) else c
  let c2 :=
    if c.tst n = tnHeld then tentGo n (c.tn n).preHeld c1
    else if c.tst n = tnLost ∧ c.lst n = lnActive then tentGo n tnRecovering c1
    else c1
  let usable := match h with
    | some p => if c2.tentUsable n p then some p else none
    | none => none
  if c2.tst n = tnRecovering then
    if max 1 (c.get (R.SPINDLE_TENT_CTRL_RECOVER_COUNT n)) ≤ (c2.tn n).good then
      if ¬ (c2.tn n).inRun then tentRecover n none c2
      else match usable with
        | some p => tentRecover n (some (p, a, b, r)) c2
        | none => c2
    else c2
  else if tnActing (c2.tst n) then
    match usable with
    | some p => tentProcess n tick p a b r c2
    | none => c2
  else c2

/-! ### Measurements (R238 to R242) -/

/-- The measurement of tick `t` is there. -/
def markSeen (n t : Nat) (c : Ctl) : Ctl := c.modTn n (fun s => { s with seen := (t :: s.seen).take 72 })

/-- R241, R242: a measurement of tick `t`, whose block check passed or not. -/
def measure (n t a b r : Nat) (ok late : Bool) (c : Ctl) : Ctl :=
  let s := c.tn n
  let age := c.sinceT t
  if s.missing.contains t ∨ s.seen.contains t ∨ 48 < age then c.inc (R.SPINDLE_TENT_CNT2_STALE n)
  else
    let c1 := markSeen n t c
    let h := c.pointAt n t
    let pf := match h with | some p => if p.run ≠ 0 then some (c.pointProf p) else none | none => none
    let sat := (a == 0xFFFF && (pf.all (fun p => tWA p != 0))) || (b == 0xFFFF && (pf.all (fun p => tWB p != 0))) ||
      (r == 0xFFFF && (pf.all (fun p => tWR p != 0)))
    let cause := if 3 < age then 1 else if ¬ ok then 2 else if sat then 3 else 0
    let c1 := trimMeas n t a b r (cause != 0) c1
    if cause ≠ 0 then tentBad n cause late c1
    else
      let c2 := (c1.setReg (R.SPINDLE_TENT_RAW_AB n) (b * 2 ^ 16 + a)).put (R.SPINDLE_TENT_RAW_R_BR n) r
      let c3 := c2.metric 91 (age : Nat)
      tentGood n t h a b r c3

/-- MEAS (R240 to R242, R353): a block of type MEAS arrives on head lane `k`. -/
def meas (k body chk : Nat) (late : Bool) (c : Ctl) : Ctl :=
  let ok := dataGood 1 body chk
  if ¬ isHead k then c
  else dataBlock k 1 body chk (fun c =>
    let c1 := if ok then c else c.inc (R.PROTO_CNT0_CHK_ERR k)
    if c.lst k ≠ lnActive then c1
    else measure k (c.upTick k (slice body 0 8)) (slice body 8 16) (slice body 24 16) (slice body 40 16) ok late c1) c

/-- MEAS_MISSING (R241): nothing for the tick three back has arrived. -/
def measMissing (n : Nat) (late : Bool) (c : Ctl) : Ctl :=
  let t := (c.now + 2 ^ 48 - 3) % 2 ^ 48
  let s := c.tn n
  if ¬ c.hasChan n ∨ s.seen.contains t ∨ s.missing.contains t then c
  else tentBad n (if c.lst n = lnActive then 1 else 4) late
    (c.modTn n (fun s => { s with missing := (t :: s.missing).take 72 }))

/-! ### The loop's part of a tick -/

/-- R253, R254, R256: the sample of the present tick is formed: TENT_EN in force, and the start of a run. -/
def tentFormed (n : Nat) (c : Ctl) : Ctl :=
  let s := c.sp n
  match s.sample with
  | none => c
  | some pt =>
    let t := c.tn n
    let t0 := (c.now + 32) % 2 ^ 48
    let first := pt.lit && pt.run != t.formRun
    let en := if first then c.is (R.SPINDLE_TENT_CTRL_EN n) else t.formEn
    let te := if first then en && pt.tentEn else t.formTe
    let contig := te && (match t.litEnd with | some l => decide (since t0 l < 4) | none => false)
    let st : List RunStart := if first then
        [{ t0 := t0, run := pt.run, en := en, te := te, contig := contig, copy := pt.copy
           prof := (pt.item.map (·.profIx)).getD 0 }] else []
    let c1 := c.setSp n { s with sample := some { pt with tentEn := pt.tentEn && en } }
    if ¬ pt.lit then c1
    else c1.modTn n (fun t => { t with
      formRun := pt.run
      formEn := en
      formTe := te
      starts := t.starts ++ st
      litEnd := if te then some t0 else t.litEnd
      ends := if te then (tput t.ends pt.run t0).drop ((tput t.ends pt.run t0).length - 8) else t.ends })

/-- R268, R272, R276: before a run that is not contiguous starts, the run before it has ended, although the deadline of its
last measurement may not have passed (log entry 153). -/
def tentRunOver (n : Nat) (c : Ctl) : Ctl :=
  let st := c.tst n
  let t := c.tn n
  if st = tnSettling ∨ st = tnClosed ∨ st = tnHeld then tentGo n tnIdle c
  else if st = tnRecovering ∧ t.inRun ∧ max 1 (c.get (R.SPINDLE_TENT_CTRL_RECOVER_COUNT n)) ≤ t.good then tentRecover n none c
  else c

/-- R257, R258, R268, R271: a run starts. -/
def tentRunStart (n : Nat) (r : RunStart) (c : Ctl) : Ctl :=
  if ¬ r.en then tentGo n tnOff (c.modTn n (fun t => { t with inRun := false, waiting := none }))
  else if ¬ r.te then (if c.tst n = tnOff then tentGo n tnIdle c else c)
  else if r.contig ∧ c.tst n ≠ tnOff then
    c.modTn n (fun t => { t with inRun := true, run := r.run, runs := (r.run :: t.runs).take 72 })
  else
    let pf := c.profEntry r.copy r.prof
    let c1 := (tentRunOver n c).modTn n (fun t => { t with
      inRun := true, run := r.run, runs := [r.run], cprev := 32768, acc := 0, yInit := true, settled := 0, lostAt := none
      slew := tSlew pf, waiting := none })
    let st := c1.tst n
    let c2 := if st = tnLost ∨ st = tnRecovering then c1
      else tentGo n (if tHoldOff pf = 0 then tnClosed else tnSettling) c1
    if (c.tn n).sent ≠ 32768 then corrSend n 1 32768 c2 else c2

/-- R254, R257: a run with TENT_EN = 1 starts three ticks before its first lit sample acts; any other run when it acts, or
before the start of a later run that is due. -/
def RunStart.due (now : Nat) (r : RunStart) : Bool := decide (tdiff now r.t0 ≥ (if r.te then -3 else 0))

/-- Run starts that are due, oldest first. -/
def tentStarts : Nat → Nat → Ctl → Ctl
  | 0, _, c => c
  | fuel + 1, n, c =>
    match (c.tn n).starts with
    | r :: rest =>
      if (r :: rest).any (RunStart.due c.now) then tentStarts fuel n (tentRunStart n r (c.modTn n (fun t => { t with starts := rest }))) else c
    | [] => c

/-- R267, R388. -/
def tentFallback (n : Nat) (c : Ctl) : Ctl :=
  let f := c.slow n || c.slow (24 + n) || c.compat (24 + n)
  if c.is (R.SPINDLE_TENT_STAT_FALLBACK n) = f then c else c.flag (R.SPINDLE_TENT_STAT_FALLBACK n) f

/-- At the beginning of a tick: a waiting block, the runs that start, R270's OPEN, the factor handed over (R239). -/
def tentBegin (n : Nat) (c : Ctl) : Ctl :=
  let c0 := tentFallback n c
  if c0.sst n = stDisabled ∧ c0.tst n = tnOff ∧ (c0.tn n).starts.isEmpty ∧ (c0.tn n).waiting.isNone ∧ ¬ (c0.tn n).sentNow then c0
  else
    let c00 := corrOpen n (c0.modTn n (fun t => { t with
      handed := ((c0.now, c0.get (R.SPINDLE_TENT_STAT_FACTOR n)) :: t.handed).take 72 }))
    -- R388: on chip a factor acts on the samples sent from the tick after it was formed
    let c1 := if c00.compat (24 + n) then tentStarts 8 n (corrBegin n c00) else corrBegin n (tentStarts 8 n c00)
    let t := c1.tn n
    let st := c1.tst n
    let after : Bool := match t.lostAt with | some l => decide (l ≠ c1.now) | none => false
    if (st = tnLost ∨ st = tnRecovering ∨ st = tnIdle) ∧ after ∧ t.cprev ≠ 32768 then
      let step : Int := if t.slew = 0 then 65536 else (t.slew : Nat)
      let w := (clamp 32768 ((t.cprev : Int) - step) ((t.cprev : Int) + step)).toNat
      corrSend n 0 w (c1.modTn n (fun t => { t with cprev := w, lostAt := if w = 32768 then none else t.lostAt }))
    else c1

/-- At the end of a tick: the deadline of the run's last lit sample has passed (R268). -/
def tentEnd (n : Nat) (c : Ctl) : Ctl :=
  let t := c.tn n
  match tget? t.ends t.run with
  | some l =>
    if t.inRun ∧ tdiff c.now l ≥ 3 then
      let c1 := c.modTn n (fun t => { t with inRun := false })
      let st := c.tst n
      if st = tnSettling ∨ st = tnClosed ∨ st = tnHeld then tentGo n tnIdle c1
      else if st = tnRecovering ∧ max 1 (c.get (R.SPINDLE_TENT_CTRL_RECOVER_COUNT n)) ≤ t.good then tentRecover n none c1
      else c1
    else c
  | none => c

/-- R239: the factor handed over by the start of tick `t`. -/
def Ctl.factorAt (c : Ctl) (n t : Nat) : Nat :=
  ((c.tn n).handed.find? (fun e => e.1 == t % 2 ^ 48)).elim 0x8000 (·.2)

end Sys2Proof.Machine
end

