-- ==== Sys2Proof/Machine/Ledger.lean ====
section
/-! DEFINITION. The heat ledger (R280 to R315): cells and their cache, decay, deposits, feedforward, rise and throttle,
warnings and the thermal halt, failing measured power. -/

namespace Sys2Proof.Machine

/-! ### Access -/

def Ctl.lch (c : Ctl) (n : Nat) : LedCh := tget c.led.ch n {}
def Ctl.modLch (c : Ctl) (n : Nat) (f : LedCh → LedCh) : Ctl := { c with led := { c.led with ch := tmod c.led.ch n {} f } }
def Ctl.modLed (c : Ctl) (f : LedSt → LedSt) : Ctl := { c with led := f c.led }

/-- R314: a field of the ledger page as in force since the last tick boundary. -/
def Ctl.live (c : Ctl) (f : Fld) : Nat :=
  slice (match tget? c.led.live f.addr with
    | some w => w.toNat
    | none => regReset f.addr) f.lo f.w

/-- R284: the ledger works. -/
def Ctl.ledReady (c : Ctl) : Bool := c.activePage pgLedger && c.is R.LEDGER_STAT_READY

/-- The tag of the open layer (R281). -/
def Ctl.layerTag (c : Ctl) : Nat := c.get R.HOPPER_LAYER_COUNT_LAYERS % 65536

/-- R285, R299: the channels the ledger serves. -/
def Ctl.ledServes (c : Ctl) (n : Nat) : Bool := c.sst n != stDisabled && c.sst n != stStopped

/-! ### Geometry (R280, R282) -/

def gridPitchNm : List Nat := [125000, 250000, 500000, 1000000, 2000000, 4000000]
def Ctl.gridPitch (c : Ctl) : Int := (gridPitchNm.getD (c.get R.LEDGER_GRID_GEOM_PITCH) 250000 : Nat)
def Ctl.gridNx (c : Ctl) : Nat := c.get R.LEDGER_GRID_GEOM_NX_M1 + 1
def Ctl.gridNy (c : Ctl) : Nat := c.get R.LEDGER_GRID_GEOM_NY_M1 + 1
def Ctl.gridBase (c : Ctl) : Nat := c.reg R.LEDGER_GRID_BASE_LO + c.reg R.LEDGER_GRID_BASE_HI * 2 ^ 32

/-- The cell indices of a bed point, which may lie outside the grid. -/
def Ctl.gridIx (c : Ctl) (x y : Int) : Int × Int :=
  ((x - c.getS R.LEDGER_GRID_X0_ORIGIN).fdiv c.gridPitch, (y - c.getS R.LEDGER_GRID_Y0_ORIGIN).fdiv c.gridPitch)

/-- The key of a cell inside the grid. -/
def Ctl.gridKey (c : Ctl) (i j : Int) : Option Nat :=
  if 0 ≤ i ∧ i < (c.gridNx : Int) ∧ 0 ≤ j ∧ j < (c.gridNy : Int) then some (j.toNat * 4096 + i.toNat) else none

/-- The address of a cell (R280). -/
def Ctl.cellAddr (c : Ctl) (key : Nat) : Nat := c.gridBase + ((key / 4096) * c.gridNx + key % 4096) * 8

/-- The keys of the square of cells within `r` of a point's cell. -/
def Ctl.gridAround (c : Ctl) (r : Nat) (x y : Int) : List Nat :=
  let ix := c.gridIx x y
  (upto (2 * r + 1)).flatMap (fun (b : Nat) => (upto (2 * r + 1)).filterMap (fun (a : Nat) =>
    c.gridKey (ix.1 - (r : Int) + (a : Int)) (ix.2 - (r : Int) + (b : Int))))

/-! ### Decay (R289, R290) -/

/-- 2^96 times 2^(-1 / 2^j) for j from 1 to 16. -/
def halfRoots : List Nat :=
  [56022770974786139918731938227, 66622677845383604892263156666, 72652545361257168354568664499,
   75869148347379282894256934011, 77530466367003077761393081108, 78374717792995116014788098649,
   78800284760354907277900274070, 79013934006374508676750483992, 79120975754526669250787679049,
   79174550995675418297349306542, 79201352218754960865337922186, 79214756232264001160888946191,
   79221459089678763957882426104, 79224810731072200023553223127, 79226486604943056181963660012,
   79227324555172346862921983539]

/-- R289: g = round(65,536 * 2^(-frac / 65,536)). -/
def decayG (frac : Nat) : Nat :=
  let p := ((upto 16).zip halfRoots).foldl (fun (a : Nat) (e : Nat × Nat) =>
    if bitOf frac (15 - e.1) then (a * e.2 + 2 ^ 95) / 2 ^ 96 else a) (2 ^ 96)
  (p * 65536 + 2 ^ 95) / 2 ^ 96

/-- R289: k for a time constant in microseconds; ln 2 to 40 decimal places. -/
def decayK (tauUs : Nat) : Nat :=
  let t := min (max tauUs 2000) 60000000 * 20
  (roundDiv ((2 ^ 40 * 10 ^ 40 : Nat) : Int) ((t * 6931471805599453094172321214581765680755 : Nat) : Int)).toNat

/-- R289. -/
def decay (v age k : Nat) : Nat :=
  let e := age * k
  let q := e / 2 ^ 40
  if 28 ≤ q then 0 else (v * decayG (slice e 24 16) + 2 ^ (15 + q)) / 2 ^ (16 + q)

/-- R290: KEEP as read. -/
def Ctl.keep (c : Ctl) : Nat := min (c.live R.LEDGER_RECOAT_KEEP) 0x8000

/-- R313: the ledger as in the tick before, whose KEEP, FF_EN, STEP_LOG2 and layer tag the feedforward of this tick's samples
has taken. -/
def Ctl.fed (c : Ctl) (f : Fld) : Nat := (c.modLed (fun l => { l with live := l.liveOld })).live f

/-- R287: a cell brought up to date at tick `t`. -/
def Cell.upTo (d : Cell) (k keep tag t : Nat) : Cell :=
  let age := if tdiff t d.tick ≤ 0 then 0 else since t d.tick
  let v := if age = 0 then d.value else decay d.value age k
  let w := if d.tag = tag then v else (v * keep + 16384) / 2 ^ 15
  { value := w, tick := if age = 0 then d.tick else t, tag := tag }

/-- Bring a cached cell up to date at `t` and read it; none where it is not on chip. -/
def Ctl.cellRead (c : Ctl) (keep tag key t : Nat) : Option (Nat × Ctl) :=
  match tget? c.led.cache key with
  | none => none
  | some d =>
    let e := d.upTo c.led.k keep tag t
    some (e.value, c.modLed (fun l => { l with cache := tput l.cache key e }))

/-! ### Fetching and writing back (R285, R286, R288, R291, R295) -/

/-- R294: bytes at `a` as the ledger takes them: where its own writes to them still wait for a write queue, the newest. -/
def State.ownNewest (s : State) (a : Nat) (l : List (Byte × Bool)) : List (Byte × Bool) :=
  (upto l.length).zip l |>.map (fun e =>
    match (s.mem.waiting ++ s.ctl.memOut).reverse.find? (fun w => decide (w.1 ≤ a + e.1) && decide (a + e.1 < w.1 + w.2.length)) with
    | some w => (w.2.getD (a + e.1 - w.1) 0, false)
    | none => e.2)

/-- The bytes that the ledger finds at `a` now. -/
def State.ledRead (s : State) (a n : Nat) : List (Byte × Bool) := s.ownNewest a ((upto n).map (fun i => s.mem.byte (a + i)))

/-- R281, R286, R288: a cell from its bytes; one that is lost to poison is 0 with the present stamp (R291). -/
def Ctl.cellOf (c : Ctl) (b : List (Byte × Bool)) : Cell :=
  let l := b.map (·.1)
  let age := (c.now / 16 + 2 ^ 32 - fieldAt l 2 4) % 2 ^ 32
  if b.any (·.2) ∨ 2 ^ 30 ≤ age then { value := 0, tick := c.now, tag := c.layerTag }
  else { value := fieldAt l 0 2 * 4096, tick := ((c.now / 16 + 2 ^ 44 - age) * 16) % 2 ^ 48, tag := fieldAt l 6 2 }

/-- The cell as it stands in DRAM now. -/
def State.cellInDram (s : State) (key : Nat) : Cell := s.ctl.cellOf (s.ledRead (s.ctl.cellAddr key) 8)

/-- R285, R447: a cell is asked of its millrace in an RT-short read, once. -/
def cellAsk (key : Nat) (c : Ctl) : Ctl :=
  if c.led.fetch.contains key then c
  else queueRead (.ledger key) 0 2 (c.cellAddr key) 8 (c.modLed (fun l => { l with fetch := l.fetch ++ [key] }))

/-- Cells asked for before are wanted no more. -/
def cellsForget (c : Ctl) : Ctl := forgetReads (fun w => match w with
  | .ledger _ => true
  | _ => false) (c.modLed (fun l => { l with fetch := [] }))

/-- R281, R286: a cell's bytes at write-back. -/
def Cell.bytes (d : Cell) (tag : Nat) : List Byte :=
  leBytes 2 (min ((d.value + 2048) / 4096) 65535) ++ leBytes 4 (d.tick / 16 % 2 ^ 32) ++ leBytes 2 tag

/-- R286: a cell leaves the cache. -/
def evict (key : Nat) (c : Ctl) : Ctl :=
  match tget? c.led.cache key with
  | none => c
  | some d => (c.modLed (fun l => { l with cache := tdel l.cache key })).wantWrite (c.cellAddr key) (d.bytes c.layerTag)

/-- R293, R295: one part is added to a cell, up to date at the deposit's tick. -/
def Ctl.plusPart (c : Ctl) (e : Cell) (d : Deposit) : Cell :=
  let u := e.upTo c.led.k c.keep c.layerTag d.tick
  { u with value := min (u.value + d.amount) (2 ^ 28 - 1) }

/-- One part is added to a cached cell. -/
def addPart (d : Deposit) (c : Ctl) : Ctl :=
  match tget? c.led.cache d.key with
  | none => c
  | some e => c.modLed (fun l => { l with cache := tput l.cache d.key (c.plusPart e d) })

/-- R295: the parts of the tick before reach their cells, or wait for them; the cells before them are kept (R294). -/
def commitParts (c : Ctl) : Ctl :=
  let c1 := c.modLed (fun l => { l with pend := [], prior := some (l.prior.getD l.cache) })
  c.led.pend.foldl (fun c d =>
    if (tget? c.led.cache d.key).isSome then addPart d c
    else cellAsk d.key (c.modLed (fun l => { l with held := l.held ++ [d] }))) c1

/-- LEDGER_CELL_RETURN (R291, R295): fetch number `k` returns, `ue`: with an uncorrectable error. -/
def ledgerCellReturn (k : Nat) (ue : Bool) (s : State) : State :=
  let c := s.ctl
  match c.led.fetch[k]? with
  | none => s
  | some key =>
    let a := c.cellAddr key
    let r := shortReturn (.ledger key) a 8 ue s
    let got := r.1.ownNewest a (r.2.1.map (fun b => (b, r.2.2)))
    let bad := got.any (·.2)
    let d := c.cellOf got
    let c1 := r.1.ctl.modLed (fun l => { l with
      fetch := l.fetch.eraseIdx k
      cache := tput l.cache key d })
    let c2 := if bad then (c1.inc R.LEDGER_CNT0_CELL_ERR).irq pgLedger 5 else c1
    let mine := c.led.held.filter (fun e => decide (e.key = key))
    let c3 := c2.modLed (fun l => { l with held := l.held.filter (fun (e : Deposit) => decide (e.key ≠ key)) })
    { r.1 with ctl := mine.foldl (fun c e => addPart e c) c3 }

/-- R285: the point of the sample that spindle `n` forms next, as things stand. -/
def Ctl.nextPoint (c : Ctl) (n : Nat) : Option PlanPt :=
  if c.sampling n then ((formNext n (commitSample n c)).sp n).sample else none

/-- R285: the cells the ledger is to hold. -/
def Ctl.cellsNeeded (c : Ctl) : List Nat :=
  ((upto 24).filter c.ledServes).flatMap (fun n =>
    let s := c.sp n
    (match c.pointAt n c.now with | some p => c.gridAround 2 p.x p.y | none => []) ++
    (match c.nextPoint n with | some p => c.gridAround 2 p.x p.y | none => []) ++
    ((s.exec.map (·.item)).toList ++ s.view).flatMap (fun i => if i.isRun then c.gridAround 1 i.sx i.sy else []))

/-- The member of a list used least recently. -/
def Ctl.oldestCell (c : Ctl) (l : List (Nat × Cell)) : Option (Nat × Cell) :=
  l.foldl (fun b e => match b with
    | none => some e
    | some f => if since c.now f.2.tick < since c.now e.2.tick then some e else some f) none

/-- R285 in a tick: missing cells are asked for; of those no longer needed the least recently used leaves. -/
def cellTraffic (c : Ctl) : Ctl :=
  if ¬ c.ledReady then c
  else
    let need := c.cellsNeeded
    let c1 := need.foldl (fun c k => if (tget? c.led.cache k).isSome then c else cellAsk k c) c
    let out := c1.led.cache.filter (fun e => !need.contains e.1 && !(c1.led.pend.any (fun d => d.key == e.1)))
    match c1.oldestCell out with
    | some e => evict e.1 c1
    | none => c1

/-- LEDGER_SWEEP (R288): the sweep reads its next cell and rewrites a cold one. -/
def ledgerSweep (s : State) : State :=
  let c := s.ctl
  if ¬ c.ledReady then s
  else
    let n := c.gridNx * c.gridNy
    let i := c.led.sweepAt % n
    let key := (i / c.gridNx) * 4096 + i % c.gridNx
    let a := c.cellAddr key
    let s1 := readGranule (c.millOf a) a 2 [] { s with ctl := c.modLed (fun l => { l with sweepAt := (i + 1) % n }) }
    let l := s1.ledRead a 8
    let age : Nat := (c.now / 16 + 2 ^ 32 - fieldAt (l.map (·.1)) 2 4) % 2 ^ 32
    if (tget? c.led.cache key).isNone && decide (2 ^ 30 ≤ age) && !l.any (·.2) then
      { s1 with ctl := s1.ctl.wantWrite a ((Cell.mk 0 c.now 0).bytes c.layerTag) }
    else s1

/-! ### Deposits (R292 to R294, R310) -/

/-- R293, R282: the nine parts of a deposit of measured power `p` by channel `n` at a point, and whether one of them
is discarded. -/
def Ctl.depositParts (c : Ctl) (n p t : Nat) (x y : Int) : List Deposit × Bool :=
  let gain := c.live (R.LEDGER_DEP_GAIN_GAIN n)
  let d := (p * gain + 32768) / 2 ^ 16
  let e := (d * c.get R.LEDGER_KERNEL_W_EDGE + 128) / 256
  let k := (d * c.get R.LEDGER_KERNEL_W_CORNER + 128) / 256
  let m := d - 4 * e - 4 * k
  let ix := c.gridIx x y
  let parts : List (Int × Int × Nat) :=
    [(0, 0, m), (-1, 0, e), (1, 0, e), (0, -1, e), (0, 1, e), (-1, -1, k), (1, -1, k), (-1, 1, k), (1, 1, k)]
  let ks := parts.map (fun q => (c.gridKey (ix.1 + q.1) (ix.2 + q.2.1), q.2.2))
  if gain = 0 then ([], false)
  else (ks.filterMap (fun q => q.1.map (fun key => { key := key, amount := q.2, tick := t })), ks.any (fun q => q.1.isNone))

/-- R185 at the laser for a planned point of channel `n`: the power commanded. -/
def Ctl.commanded (c : Ctl) (n : Nat) (h : PlanPt) : Nat :=
  let t := (h.tick + 32) % 2 ^ 48
  if c.led.braked.contains t then 0
  else min (if h.tentEn then mulK h.pre (c.factorAt n t) else h.pre) h.ceil

/-- R292, R294, R310, R392: the deposits of the tick that ends, in ascending channel order; those of the tick before have
reached their cells. -/
def takeDeposits (c : Ctl) : Ctl :=
  let c0 := commitParts c
  let now := c0.now
  let due := c0.led.arrived.filter (fun e => decide (e.1 ≠ now))
  let c1 := c0.modLed (fun l => { l with arrived := l.arrived.filter (fun e => decide (e.1 = now)), subs := [], prior := none })
  if ¬ c1.ledReady then c1
  else
    c1.each (upto 24) (fun n c =>
      let good := (due.filter (fun e => decide (e.2.1 = n))).filterMap (fun e => (c0.pointAt n e.2.2.1).map (fun h => (h, e.2.2.2)))
      let sub := (c0.led.subs.filter (fun e => decide (e.1 = n))).filterMap (fun e => (c0.pointAt n e.2).map (fun h =>
        (h, min 65535 ((c0.commanded n h * 36045 + 16384) / 2 ^ 15))))
      let ps := (good ++ sub).map (fun q => c0.depositParts n q.2 now q.1.x q.1.y)
      -- R392: a channel bound to an XY2-100 output makes no deposits
      if ps.isEmpty || (c0.xyBound n).isSome then c
      else
        let c2 := c.modLed (fun l => { l with pend := l.pend ++ ps.flatMap (·.1) })
        if ps.any (·.2) then c2.inc R.LEDGER_CNT0_OUTSIDE else c2)

/-! ### Feedforward (R296 to R298) -/

/-- R297: the factor of curve `cv` at a temperature, found in the tick before (R313); its entries first act for the samples formed
from the boundary after their write on (R314). -/
def Ctl.curve (c : Ctl) (cv t : Nat) : Nat :=
  let s := min (c.fed R.LEDGER_CURVE_CFG_STEP_LOG2) 11
  let entry := fun (k : Nat) =>
    min (max (c.live (if k % 2 = 0 then R.LEDGER_CURVE_E_LO cv (k / 2) else R.LEDGER_CURVE_E_HI cv (k / 2))) 8192) 32768
  let i := t / 2 ^ s
  if 32 ≤ i then entry 32
  else ((entry i : Int) + roundDiv (((entry (i + 1) : Int) - entry i) * ((t - i * 2 ^ s : Nat) : Int)) ((2 ^ s : Nat))).toNat

/-- R296: the feedforward temperature at a point at tick `at_`; none when a cell is not on chip. -/
def Ctl.tff (c : Ctl) (at_ : Nat) (x y : Int) : Option (Nat × Ctl) :=
  let ix := c.gridIx x y
  let we := c.get R.LEDGER_KERNEL_W_EDGE
  let wk := c.get R.LEDGER_KERNEL_W_CORNER
  let keep := min (c.fed R.LEDGER_RECOAT_KEEP) 0x8000
  let tag := c.led.tagOld
  let wc := 256 - 4 * (we + wk)
  let cells : List (Int × Int × Nat) :=
    [(0, 0, wc), (-1, 0, we), (1, 0, we), (0, -1, we), (0, 1, we), (-1, -1, wk), (1, -1, wk), (-1, 1, wk), (1, 1, wk)]
  let go := cells.foldl (fun (acc : Option (Nat × Ctl)) (q : Int × Int × Nat) =>
    match acc with
    | none => none
    | some (s, c) =>
      match c.gridKey (ix.1 + q.1) (ix.2 + q.2.1) with
      | none => some (s, c)
      | some key => (c.cellRead keep tag key at_).map (fun r => (s + q.2.2 * r.1, r.2))) (some (0, c))
  go.map (fun r => (min ((r.1 + 2 ^ 19) / 2 ^ 20) 65535, r.2))

/-- The sample of the present tick with feedforward factor `f` (R65, R184, R185). -/
def applyFactor (n f : Nat) (c : Ctl) : Ctl :=
  let c1 := c.modLch n (fun l => { l with ff := f })
  let s := c1.sp n
  match s.sample with
  | none => c1
  | some pt =>
    match pt.item with
    | none => c1.setSp n { s with sample := some { pt with ff := f } }
    | some i => c1.setSp n { s with sample := some { pt with
        ff := if i.noFeedfwd then 0x8000 else f
        pre := if pt.lit then c1.litPre n i (pt.rf, pt.sf) else pt.pre } }

/-- R298, R313: a factor that is late is delivered again and counted, once for the sample of a tick. -/
def lateFactor (n : Nat) (c : Ctl) : Ctl :=
  let c1 := applyFactor n (c.lch n).ffOld c
  if (c.lch n).late then c1
  else ((c1.modLch n (fun l => { l with late := true })).inc R.LEDGER_CNT2_FF_LATE).irq pgLedger 7

/-- R284, R296 to R298, R313: the feedforward of the sample that spindle `n` forms in the present tick T + 1, by the cells and
settings as they stood in tick T. -/
def refeed (n : Nat) (c : Ctl) : Ctl :=
  if ¬ c.ledReady ∨ ¬ c.ledServes n then applyFactor n 0x8000 c
  else
    match (c.sp n).sample with
    | none => c
    | some pt =>
      let cv := match pt.item.or (c.sp n).prev with
        | some i => pLedgerCurve (c.profEntry pt.copy i.profIx) % 16
        | none => 0
      let seen := c.modLed (fun l => { l with cache := l.prior.getD l.cache })
      match seen.tff (tickBack c.now 1) pt.x pt.y with
      | none => if c.fed R.LEDGER_CTRL_FF_EN = 0 then applyFactor n 0x8000 c else lateFactor n c
      | some (t, c1) =>
        let c2 := (if c.led.prior.isSome then c else c1).put (R.LEDGER_CH_TEMP_T_FF n) t
        applyFactor n (if c.fed R.LEDGER_CTRL_FF_EN = 0 then 0x8000 else c.curve cv t) c2

/-- The feedforward at the beginning of a tick: the factor delivered before is kept for a late one. -/
def ledgerFeed (n : Nat) (c : Ctl) : Ctl :=
  let l := c.lch n
  if (¬ c.ledReady ∨ ¬ c.ledServes n) ∧ l.ff = 0x8000 ∧ l.ffOld = 0x8000 then c
  else refeed n (c.modLch n (fun l => { l with ffOld := l.ff, late := false }))

/-! ### Evaluations (R299 to R308) -/

/-- R302. -/
def ceilingOf (l : Nat) : Nat := min 65535 ((64 - l) * 1024)

/-- R301: L_max. -/
def Ctl.lMax (c : Ctl) : Nat := 64 - max 1 (c.live R.LEDGER_THR_CFG_FLOOR)

/-- R301: level and below-count after an evaluation with `rise`. -/
def Ctl.throttle (c : Ctl) (n : Nat) (rise : Int) : Nat × Nat :=
  let l := c.lch n
  let hi : Int := (c.live R.LEDGER_RISE_TH_RISE_HI : Nat)
  let lo : Int := min (c.live R.LEDGER_RISE_TH_RISE_LO : Nat) hi
  if c.live R.LEDGER_CTRL_THR_EN = 0 then (0, 0)
  else if c.bit R.LEDGER_FROZEN n then (l.level, 0)
  else if hi ≤ rise then (min (l.level + 1) c.lMax, 0)
  else if rise < lo then
    let b := min (l.below + 1) 255
    let h := max 1 (c.live R.LEDGER_THR_CFG_UP_HOLD)
    let i := max 1 (c.live R.LEDGER_THR_CFG_UP_INTERVAL)
    (if h ≤ b ∧ (b - h) % i = 0 then l.level - 1 else l.level, b)
  else (l.level, 0)

/-- R300: the rise over the last 9 lit evaluations. -/
def riseOf (lit : Bool) (lits : List (Nat × Nat)) : Int :=
  match lits.head?, lits.getLast? with
  | some o, some w =>
    let n := w.1 - o.1
    if lit ∧ lits.length = 9 ∧ n ≤ 32 then roundDiv ((((w.2 : Nat) : Int) - (o.2 : Nat)) * 125) (4 * (n : Nat)) else 0
  | _, _ => 0

/-- R299: the up-to-date excess of the cell under the point acting at the head of `n`, in 2^-16 K. -/
def State.spotExcess (s : State) (n : Nat) : Nat × Option Nat × State :=
  let c := s.ctl
  match c.pointAt n c.now with
  | none => (0, none, s)
  | some p =>
    let ix := c.gridIx p.x p.y
    match c.gridKey ix.1 ix.2 with
    | none => (0, none, s)
    | some key =>
      match c.cellRead c.keep c.layerTag key c.now with
      | some (v, c1) => (v, some key, { s with ctl := c1 })
      | none =>
        -- R295: the deposits that wait for the cell are of earlier ticks (R294)
        let d := (c.led.held.filter (fun d => decide (d.key = key))).foldl c.plusPart (s.cellInDram key)
        ((d.upTo c.led.k c.keep c.layerTag c.now).value, some key, s)

/-- R299 to R305: the evaluation of one channel. -/
def evalChannel (n : Nat) (s : State) : State :=
  let r := s.spotExcess n
  let c := r.2.2.ctl
  let l := c.lch n
  let ts := min ((r.1 + 2048) / 4096) 65535
  let lit := match c.pointAt n c.now with | some p => p.lit | none => false
  let ev := l.evals + 1
  let lits := if lit then ((l.lits ++ [(ev, ts)]).drop ((l.lits.length + 1) - 9)) else l.lits
  let rise := riseOf lit lits
  let hi : Int := (c.live R.LEDGER_RISE_TH_RISE_HI : Nat)
  let lo : Int := min (c.live R.LEDGER_RISE_TH_RISE_LO : Nat) hi
  let tb := c.throttle n rise
  let tw := c.live R.LEDGER_TEMP_TH_T_WARN
  let hyst : Int := (16 * c.live R.LEDGER_HOLD_CFG_T_HYST : Nat)
  let hold := max 1 (c.live R.LEDGER_HOLD_CFG_TEMP_HOLD)
  let wc := if tw ≤ ts then l.warnCnt + 1 else 0
  let warn := l.warnOk && decide (hold ≤ wc)
  let ok1 := if (ts : Int) ≤ (tw : Int) - hyst then true else l.warnOk && !warn
  let hc := if c.live R.LEDGER_TEMP_TH_T_HALT ≤ ts then l.haltCnt + 1 else 0
  let fc := if tb.1 = c.lMax ∧ hi ≤ rise then l.floorCnt + 1 else 0
  let event := decide (hi ≤ rise) && l.armed
  let c1 := c.modLch n (fun l => { l with
    level := tb.1, below := tb.2, evals := ev, lits := lits, tspot := ts, rise := rise
    armed := if rise < lo then true else l.armed && !event
    cell := r.2.1.map (fun k => (k % 4096, k / 4096))
    warnCnt := wc, warnOk := ok1, haltCnt := hc, floorCnt := fc })
  let c2 := if event then (c1.inc R.LEDGER_CNT1_RISE_EVENTS).irq pgLedger 2 else c1
  let c3 := if l.level = 0 ∧ tb.1 ≠ 0 then c2.irq pgLedger 1 else c2
  let c4 := if warn then (c3.inc R.LEDGER_CNT1_WARN_EVENTS).irq pgLedger 3 else c3
  let c5 := ((((c4.put (R.LEDGER_CH_TEMP_T_SPOT n) ts).put (R.LEDGER_CH_RISE_RISE n) (code 16 (satS 16 rise))).put
    (R.LEDGER_CH_THR_LEVEL n) tb.1).put (R.LEDGER_CH_THR_CEILING n) (ceilingOf tb.1)).put ⟨R.LEDGER_THROTTLED, n, 1⟩ (b2n (tb.1 != 0))
  let c6 := c5.metric 77 (tb.1 : Nat)
  { r.2.2 with ctl := if lit then (c6.metric 78 (ts : Nat)).metric 79 rise else c6 }

/-- R305: the causes by which channel `n` meets a halt condition. -/
def Ctl.haltCause (c : Ctl) (n : Nat) : Nat :=
  let l := c.lch n
  if c.live R.LEDGER_CTRL_HALT_EN = 0 then 0
  else b2n (decide (max 1 (c.live R.LEDGER_HOLD_CFG_TEMP_HOLD) ≤ l.haltCnt)) +
    2 * b2n (c.live R.LEDGER_CTRL_FLOOR_HALT_EN != 0 && decide (max 1 (c.live R.LEDGER_HOLD_CFG_FLOOR_HOLD) ≤ l.floorCnt))

/-- R307: a thermal-halt record. -/
def Ctl.haltRecord (c : Ctl) (mask cause n : Nat) : List Byte :=
  let l := c.lch n
  let cell := l.cell.getD (0, 0)
  let b := leBytes 6 c.now ++ leBytes 2 (c.get R.GLOBAL_EPOCH_EPOCH) ++ leBytes 8 c.wallNs ++ leBytes 2 c.layerTag ++
    leBytes 3 mask ++ leBytes 1 cause ++ leBytes 2 cell.1 ++ leBytes 2 cell.2 ++ leBytes 2 l.tspot ++
    leInt 2 (satS 16 l.rise) ++ leBytes 1 l.level ++ [0#8] ++ leBytes 3 (c.headPoint n).2.2 ++ [0#8] ++
    leBytes 4 (c.nv.haltCount + 1) ++ zeros 4
  b ++ leBytes 2 (crc16 b) ++ [0#8, 0xA5#8]

/-- R306, R599: the halt's record goes to the NVM, or to the fallback ring where a store fault stands. -/
def writeHalt (b : List Byte) (c : Ctl) : Ctl :=
  let r : Rec := { tally := c.now, epoch := c.get R.GLOBAL_EPOCH_EPOCH, wall := c.wallNs, typ := typHalt, flags := 0, body := b }
  let c1 : Ctl := { c with nv := { c.nv with haltCount := c.nv.haltCount + 1 } }
  if c.rc.divert then c1.toFallback r else { c1 with rc := { c1.rc with nvQueue := c1.rc.nvQueue ++ [r] } }

/-- R306: the halt conditions of an evaluation. -/
def judgeHalt (late : Bool) (c : Ctl) : Ctl :=
  let served := (upto 24).filter c.ledServes
  let meet := served.filter (fun n => c.haltCause n != 0)
  let fresh := meet.filter (fun n => !(c.lch n).meets)
  let c1 := c.each (upto 24) (fun n c => if (c.lch n).meets = meet.contains n then c
    else c.modLch n (fun l => { l with meets := meet.contains n }))
  match meet with
  | [] => c1
  | low :: _ =>
    if c.is R.LEDGER_HALT_STAT_HALTED then
      c1.each fresh (fun n c => (c.inc R.LEDGER_CNT2_HALTS).event pgLedger 0x11 n 0 0 0
        [2 ^ n, c.haltCause n, (c.lch n).tspot, 0])
    else
      let mask := maskOf meet
      let cause := meet.foldl (fun m n => m ||| c.haltCause n) 0
      let cell := (c.lch low).cell.getD (0, 0)
      let written := !c.rc.divert
      let c2 := c1.setReg R.LEDGER_HALT_STAT (2 ^ 31 + b2n (c.is R.LEDGER_HALT_STAT_CLEAR_REFUSED) * 2 ^ 30 + cause * 2 ^ 24 + mask)
      let c3 := ((c2.setReg R.LEDGER_HALT_CELL (cell.2 * 2 ^ 16 + cell.1)).inc R.LEDGER_CNT2_HALTS).irq pgLedger 4
      let c4 := (writeHalt (c.haltRecord mask cause low) c3).event pgLedger 0x11 low 0 0 0
        [mask, cause, (c.lch low).tspot, b2n written]
      brakeLevel brkHalt true late c4

/-- R308: the clear is accepted. -/
def haltCleared (c : Ctl) : Ctl :=
  brakeLevel brkHalt false false ((c.flag R.LEDGER_HALT_STAT_HALTED false).flag R.LEDGER_CMD_HALT_CLEAR false)

/-- R308: a clear asked for is decided by the evaluation. -/
def decideClear (c : Ctl) : Ctl :=
  if c.live R.LEDGER_CMD_HALT_CLEAR = 0 then c
  else if ¬ c.is R.LEDGER_HALT_STAT_HALTED then c.flag R.LEDGER_CMD_HALT_CLEAR false
  else
    let lim : Int := (c.live R.LEDGER_TEMP_TH_T_HALT : Nat) - ((16 * c.live R.LEDGER_HOLD_CFG_T_HYST : Nat) : Int)
    if (bitList 24 (c.get R.LEDGER_HALT_STAT_CHANNELS)).all (fun n => decide (((c.lch n).tspot : Int) ≤ lim)) then haltCleared c
    else (c.flag R.LEDGER_HALT_STAT_CLEAR_REFUSED true).flag R.LEDGER_CMD_HALT_CLEAR false

/-- R302: without THR_EN the level and the below-count of a channel that is not evaluated return to 0 too. -/
def throttleOff (n : Nat) (c : Ctl) : Ctl :=
  if c.ledServes n ∨ ((c.lch n).level = 0 ∧ (c.lch n).below = 0) then c
  else (((c.modLch n (fun l => { l with level := 0, below := 0 })).put (R.LEDGER_CH_THR_LEVEL n) 0).put
    (R.LEDGER_CH_THR_CEILING n) (ceilingOf 0)).put ⟨R.LEDGER_THROTTLED, n, 1⟩ 0

/-- LEDGER_EVALUATION (R299 to R308): in every tick whose tally is a multiple of 40. -/
def ledgerEvaluation (late : Bool) (s : State) : State :=
  let c := s.ctl
  if ¬ c.ledReady ∨ c.now % 40 ≠ 0 ∨ c.led.evalAt = some c.now then s
  else
    let c1 := commitParts (c.modLed (fun l => { l with evalAt := some c.now }))
    let c2 := if c.live R.LEDGER_CTRL_THR_EN = 0 then c1.each (upto 24) throttleOff else c1
    let s1 := ((upto 24).filter c.ledServes).foldl (fun s n => evalChannel n s) { s with ctl := c2 }
    { s1 with ctl := decideClear (judgeHalt late s1.ctl) }

/-- R313: the ceilings for the samples of the next tick (R302, R284). -/
def latchCeilings (c : Ctl) : Ctl :=
  c.each (upto 24) (fun n c =>
    let v := if c.ledReady then ceilingOf (c.lch n).level else 0xFFFF
    if (c.lch n).ceil = v then c else c.modLch n (fun l => { l with ceil := v }))

/-- HALT_CLEAR (R308): the request takes effect at the next tick boundary (R314). -/
def haltClear (c : Ctl) : Ctl :=
  if c.is R.LEDGER_HALT_STAT_HALTED then c.flag R.LEDGER_CMD_HALT_CLEAR true else c

/-! ### Measured power (R292, R310 to R312) -/

/-- R311: channel `n` fails. -/
def mpFail (n : Nat) (c : Ctl) : Ctl :=
  if c.bit R.LEDGER_MP_FAILED n then c
  else
    let bad := (c.lch n).bad
    let c1 := ((c.setBits R.LEDGER_MP_FAILED (2 ^ n)).setBits R.LEDGER_MP_FAULT (2 ^ n)).setBits R.LEDGER_FROZEN (2 ^ n)
    let c2 := (c1.flag (R.LEDGER_CH_MP_FAILED n) true).flag (R.LEDGER_CH_MP_FROZEN n) true
    let c3 := ((c2.inc R.LEDGER_CNT2_MP_FAILS).irq pgLedger 0).modLch n (fun l => { l with below := 0, good := 0 })
    c3.event pgLedger 0x12 n 0 0 0 [bad]

/-- R310, R311: the measured power of tick `t` is bad. -/
def mpBad (n t : Nat) (c : Ctl) : Ctl :=
  let c1 := (c.modLch n (fun l => { l with bad := l.bad + 1, good := 0 })).modLed (fun l => { l with subs := l.subs ++ [(n, t)] })
  if max 1 (c.live R.LEDGER_CTRL_MP_LOSS_LIMIT) ≤ (c1.lch n).bad then mpFail n c1 else c1

/-- R312: it is good. -/
def mpGood (n t p : Nat) (c : Ctl) : Ctl :=
  let c1 := (c.modLch n (fun l => { l with bad := 0, good := l.good + 1 })).put (R.LEDGER_CH_MP_MEASURED n) p
  let c2 := c1.modLed (fun l => { l with arrived := l.arrived ++ [(c.now, n, t, p)] })
  let c3 := match c.pointAt n t with
    | some h =>
      if h.lit then
        let o := c.commanded n h
        ((c2.metric 81 (p : Nat)).metric 95 ((p : Int) - (o : Nat))).wearAcc (0x40 + n) (p : Nat) o
      else c2
    | none => c2
  if c.bit R.LEDGER_MP_FAILED n ∧ max 1 (c.live R.LEDGER_CTRL_MP_RECOVER) ≤ (c3.lch n).good ∧ c.lst (24 + n) = lnActive then
    (c3.clearBits R.LEDGER_MP_FAILED (2 ^ n)).flag (R.LEDGER_CH_MP_FAILED n) false
  else c3

/-- R292 with R241, R242: the measured power of tick `t`. -/
def mpMeasure (n t p : Nat) (ok : Bool) (c : Ctl) : Ctl :=
  let l := c.lch n
  let age := c.sinceT t
  if l.seen.contains t ∨ l.missing.contains t ∨ 48 < age then c
  else
    let c1 := c.modLch n (fun l => { l with seen := (t :: l.seen).take 72 })
    if ok ∧ age ≤ 3 ∧ p ≠ 0xFFFF then mpGood n t p c1
    else if c.ledServes n then mpBad n t c1 else c1

/-- R292, R355, R368, R373: what an MPOWER block with a good CHK carries. -/
def mpowerGood (k body : Nat) (c : Ctl) : Ctl :=
  let n := chanOf k
  let compat := c.compat k
  let c1 := c.put (R.PROTO_STAT_CSEQ_ECHO k) (if compat then 0 else slice body 24 8)
  let c2 := c1.put (R.PROTO_STAT_BSEQ_ECHO k) (slice body 32 8)
  let c3 := c2.modLn k (fun l => { l with
    echo := (match l.echo with | some e => if slice body 32 8 = e.1 then none else some e | none => none)
    seen0 := !compat && bitOf body 42, seen1 := !compat && bitOf body 43
    p := { l.p with under := false, slip := false, gap := false } })
  let c4 := if bitOf body 46 then c3.inc (R.PROTO_CNT1_CSEQ_GAP k) else c3
  mpMeasure n (c.upTick k (slice body 0 8)) (slice body 8 16) true (partnerFault k (bitOf body 47) (bufUnder k (bitOf body 44) c4))

/-- MPOWER (R292, R353): a block of type MPOWER arrives on laser lane `k`. -/
def mpower (k body chk : Nat) (c : Ctl) : Ctl :=
  if ¬ isLaser k then c
  else dataBlock k 1 body chk (fun c =>
    if dataGood 1 body chk then (if c.lst k = lnActive then mpowerGood k body c else c)
    else
      let c1 := c.inc (R.PROTO_CNT0_CHK_ERR k)
      if c.lst k = lnActive then mpMeasure (chanOf k) (c.upTick k (slice body 0 8)) 0 false c1 else c1) c

/-- MPOWER_MISSING (R292, R310): nothing for the tick three back has arrived. -/
def mpowerMissing (n : Nat) (c : Ctl) : Ctl :=
  let t := (c.now + 2 ^ 48 - 3) % 2 ^ 48
  let l := c.lch n
  if ¬ c.hasChan n ∨ ¬ c.ledServes n ∨ l.seen.contains t ∨ l.missing.contains t then c
  else mpBad n t (c.modLch n (fun l => { l with missing := (t :: l.missing).take 72 }))

/-- R311: the laser lane of channel `n` has left its active state. -/
def ledgerLaneLost (n : Nat) (c : Ctl) : Ctl := mpFail n c

/-- MP_CLEAR (R312): the write of CMD with MP_CLEAR for channel `n` takes effect at the next tick boundary (R314). -/
def mpClear (n : Nat) (c : Ctl) : Ctl := c.modLed (fun l => { l with mpClears := l.mpClears ++ [n] })

/-- R312: the throttle of channel `n` is unfrozen unless its measured power still fails. -/
def unfreeze (n : Nat) (c : Ctl) : Ctl :=
  if 24 ≤ n ∨ c.bit R.LEDGER_MP_FAILED n ∨ ¬ c.bit R.LEDGER_FROZEN n then c
  else ((c.clearBits R.LEDGER_FROZEN (2 ^ n)).flag (R.LEDGER_CH_MP_FROZEN n) false).modLch n (fun l => { l with below := 0 })

/-- R314: a write-1-to-clear write of the ledger page, for the next tick boundary. -/
def ledgerW1c (a : Nat) (w : Word) (c : Ctl) : Ctl := c.modLed (fun l => { l with clears := l.clears ++ [(a, w)] })

/-- R314: what was asked of the ledger in the tick before takes effect. A disabled ledger accepts a clear (R308). -/
def ledgerRequests (c : Ctl) : Ctl :=
  let c1 := c.led.mpClears.foldl (fun c n => unfreeze n c) (c.modLed (fun l => { l with mpClears := [], clears := [] }))
  let c2 := c.led.clears.foldl (fun (c : Ctl) (e : Nat × Word) => c.clearBits e.1 e.2.toNat) c1
  if c2.is R.LEDGER_CMD_HALT_CLEAR ∧ ¬ c2.activePage pgLedger then haltCleared c2 else c2

/-- R314: the tick boundary: the writes of the tick before take effect, and the registers are latched. -/
def ledgerLatch (c : Ctl) : Ctl :=
  let d := ledgerRequests c
  d.modLed (fun l => { l with liveOld := l.live, live := d.regs.filter (fun e => decide (pgLedger ≤ e.1 ∧ e.1 < pgLedger + 0x1000)) })

/-! ### Enabling (R283, R284) -/

/-- R283: the first cause for which enabling fails, 0 for none. -/
def Ctl.ledgerErr (c : Ctl) : Nat :=
  if 6 ≤ c.get R.LEDGER_GRID_GEOM_PITCH then 1
  else if ¬ c.installedRange c.gridBase (c.gridNx * c.gridNy * 8) then 2
  else if 64 < c.get R.LEDGER_KERNEL_W_EDGE + c.get R.LEDGER_KERNEL_W_CORNER then 3
  else if c.gridNx < 16 ∨ c.gridNy < 16 then 4
  else 0

/-- R283: a channel's ledger state at its reset value. -/
def freshChannel (n : Nat) (c : Ctl) : Ctl :=
  let l := c.lch n
  ((((c.modLch n (fun _ => { seen := l.seen, missing := l.missing })).setReg (R.LEDGER_CH_THR n) (regReset (R.LEDGER_CH_THR n))).flag
    (R.LEDGER_CH_MP_FAILED n) false).flag (R.LEDGER_CH_MP_FROZEN n) false).clearBits R.LEDGER_THROTTLED (2 ^ n) |>.clearBits
    R.LEDGER_MP_FAILED (2 ^ n) |>.clearBits R.LEDGER_FROZEN (2 ^ n)

/-- LEDGER_ENABLE (R283): BLK_CTRL enable written 1. -/
def ledgerEnable (c : Ctl) : Ctl :=
  if c.activePage pgLedger then c
  else
    let e := c.ledgerErr
    if e ≠ 0 then ((c.put R.LEDGER_STAT_CFG_ERR e).irq pgLedger 6).flag (R.BLK_CTRL_ENABLE pgLedger) true
    else
      let c1 := ((c.flag (R.BLK_CTRL_ENABLE pgLedger) true).setActive pgLedger true).setReg R.LEDGER_STAT (2 ^ 30)
      let c2 := c1.modLed (fun l => { l with
        k := decayK (c.get R.LEDGER_DECAY_TAU_US), fillAt := c.now, fillTag := c.layerTag, cache := [], pend := []
        held := [], prior := none, arrived := [], subs := [], sweepAt := 0 })
      let failing := (upto 24).filter (fun n => c.bit R.LEDGER_MP_FAILED n && c.lst (24 + n) != lnActive)
      ((cellsForget c2).each (upto 24) freshChannel).each failing mpFail

/-- R283: a cell of the fill. -/
def Ctl.fillCell (c : Ctl) : List Byte := (Cell.mk 0 c.led.fillAt 0).bytes c.led.fillTag

/-- Bytes committed at once over whatever the queues hold for them. -/
def Mem.fill (m : Mem) (a : Nat) (l : List Byte) : Mem :=
  let off := fun (e : WqEntry) => { e with bytes := e.bytes.filter (fun b =>
    !(decide (a ≤ e.granule + b.1) && decide (e.granule + b.1 < a + l.length))) }
  { m with
    dram := cellSetAll m.dram a ((upto l.length).zip l)
    poisoned := m.poisoned.filter (fun g => !(decide (a ≤ g) && decide (g + 128 ≤ a + l.length)))
    wq0 := m.wq0.map off
    wq1 := m.wq1.map off }

/-- R447: the device's writes that wait before the queues, those wholly inside a byte range left out. -/
def outside (a n : Nat) (l : List (Nat × List Byte)) : List (Nat × List Byte) :=
  l.filter (fun w => !(decide (a ≤ w.1) && decide (w.1 + w.2.length ≤ a + n)))

/-- LEDGER_FILL_DONE (R283): the last write of the fill is visible, and the write-backs of cells before it with it. -/
def ledgerFillDone (s : State) : State :=
  let c := s.ctl
  if ¬ c.is R.LEDGER_STAT_FILLING then s
  else
    let n := c.gridNx * c.gridNy
    let m := { s.mem with waiting := outside c.gridBase (8 * n) s.mem.waiting }
    let c1 := s.freeze c.gridBase (8 * n) none
    { s with ctl := { c1.setReg R.LEDGER_STAT (2 ^ 31) with memOut := outside c.gridBase (8 * n) c.memOut }
             mem := m.fill c.gridBase ((List.replicate n c.fillCell).flatten) }

/-- LEDGER_DISABLE (R284, R308): BLK_CTRL enable written 0: cached cells are written back; a clear asked for is
accepted. -/
def ledgerDisable (c : Ctl) : Ctl :=
  let c1 := c.flag (R.BLK_CTRL_ENABLE pgLedger) false
  if ¬ c.activePage pgLedger then c1
  else
    let c2 := (commitParts c1).each (c1.led.cache.map (·.1)) evict
    let c3 := ((c2.setActive pgLedger false).flag R.LEDGER_STAT_READY false).flag R.LEDGER_STAT_FILLING false
    let c4 := cellsForget (c3.modLed (fun l => { l with cache := [], pend := [], held := [], prior := none }))
    if c4.is R.LEDGER_CMD_HALT_CLEAR ∧ c4.is R.LEDGER_HALT_STAT_HALTED then haltCleared c4 else c4

end Sys2Proof.Machine
end

