-- ==== Sys2Proof/Machine/TwinRec.lean ====
section
/-! DEFINITION. The state record of a twin pair (R405 to R409, R414 to R416): its bytes, what the standby compares,
loading a record and re-forming from it, and the repair of the ledger grid. How the fields that R408 names lie within
a section is this model's choice (log entry 27). -/

namespace Sys2Proof.Machine

def Ctl.modTw (c : Ctl) (f : TwinSt → TwinSt) : Ctl := { c with tw := f c.tw }

/-- The twin-cycle boundary (R405) that came last. -/
def Ctl.boundaryTick (c : Ctl) : Nat := c.now / 20 * 20

/-- SPINDLE[n].CMD as a pair applies it (R411): GRID_SWAP, then BRAKE_RESUME. -/
def spCmd (n : Nat) (swap resume : Bool) (c : Ctl) : Ctl :=
  let c1 := c.when swap (gridSwap n)
  if resume ∧ ¬ c1.engaged then spResume n c1 else c1

/-! ### Digests (R409) -/

/-- The seven bytes of a message that a digest covers. -/
def digestBytes (payload : Nat) : List Byte := leBytes 7 (payload / 2 ^ 8)

/-- R409: a device of a pair keeps the messages formed in a tick, as the active forms them. -/
def noteMsgs (n : Nat) (c : Ctl) : Ctl :=
  if 2 ≤ c.role ∧ c.role ≤ 7 then
    let m := (c.now, c.sampleBlocks n c.now true, c.sampleBlocks (24 + n) c.now true)
    c.modSp n (fun s => { s with msgs := (m :: s.msgs).take 64 })
  else c

/-- The messages formed for channel `n` from tick `a` to tick `b`, in order. -/
def Ctl.formedIn (c : Ctl) (n a b : Nat) : List (Nat × List Nat × List Nat) :=
  ((c.sp n).msgs.filter (fun m => decide (0 ≤ tdiff m.1 a ∧ 0 ≤ tdiff b m.1))).reverse

/-- R409: the POS digest over ticks `a` to `b`. -/
def Ctl.posDigest (c : Ctl) (n a b : Nat) : Nat := crc64 ((c.formedIn n a b).flatMap (fun m => m.2.1.flatMap digestBytes))

/-- R409: the PWR digest. -/
def Ctl.pwrDigest (c : Ctl) (n a b : Nat) : Nat := crc64 ((c.formedIn n a b).flatMap (fun m => m.2.2.flatMap digestBytes))

/-! ### The record's sections (R408) -/

/-- Exactly `n` bytes. -/
def fit (n : Nat) (l : List Byte) : List Byte := l.take n ++ zeros (n - l.length)

/-- A context's 16 bytes. -/
def Ctl.recContext (c : Ctl) (x : Nat) : List Byte :=
  let waits := (upto 24).any (fun n => match (c.sp n).fence with | some (i, _) => i.stream == x | none => false)
  leBytes 4 (c.headIx x) ++ leBytes 4 (c.fetchIx x) ++ leBytes 4 (c.tailIx x) ++ leBytes 1 (c.cst x) ++
  leBytes 1 (b2n waits + 2 * b2n (c.isShare x) + 4 * b2n (c.strm x).layerEnd.isSome) ++ zeros 2

/-- The place of the execution in a record's bytes: ring index, whether a record is in execution, sample index modulo
2^14 (the 24 bytes of R408 leave it no more room). -/
def Ctl.recPlace (c : Ctl) (n : Nat) : Nat :=
  match (c.sp n).exec with
  | some e => e.item.idx % 2 ^ 25 + 2 ^ 25 + (e.formed % 2 ^ 14) * 2 ^ 26
  | none => 0

/-- Bytes 0 to 23 of a channel. -/
def Ctl.recSpindle (c : Ctl) (n : Nat) : List Byte :=
  let s := c.sp n
  let bank := c.get (R.SPINDLE_STAT_BANK n)
  let copy := c.get (R.SPINDLE_STAT_PROF_COPY n)
  leBytes 1 (c.sst n + 16 * (bank % 2) + 32 * (copy % 2) + 64 * b2n s.grant.isSome + 128 * b2n s.run.active) ++
  leBytes 5 (c.recPlace n) ++
  leInt 4 (toNm s.px) ++ leInt 4 (toNm s.py) ++ leBytes 2 (min 65535 (roundRat s.v).toNat) ++
  leBytes 2 ((s.fence.map (fun f => f.1.fenceId)).getD 0) ++ leInt 3 s.z ++ leBytes 3 (c.get (R.SPINDLE_CUR_TAG_TAG n))

/-- Bytes 24 to 49. -/
def Ctl.recTent (c : Ctl) (n : Nat) : List Byte :=
  let t := c.tn n
  leInt 4 t.y ++ leInt 6 t.acc ++ leBytes 2 t.cprev ++ leBytes 2 t.sent ++ leBytes 1 t.seq ++ leBytes 1 (c.tst n) ++
  leBytes 1 (min 255 t.bad) ++ leBytes 1 (min 255 t.good) ++ leBytes 2 t.settled ++
  leBytes 1 (b2n t.exc.isOpen + 2 * b2n t.sat.isOpen) ++ leBytes 1 (min 255 t.exc.run) ++ leBytes 1 (min 255 t.sat.run) ++
  leBytes 2 (min 65535 (c.sinceT t.lastBlock)) ++ zeros 1

/-- Bytes 50 to 79; an age of 6 bits: 63 for no value, 62 for one older than R300 looks back. -/
def Ctl.recLed (c : Ctl) (n : Nat) : List Byte :=
  let l := c.lch n
  leBytes 1 l.level ++ leBytes 1 l.below ++
  leBytes 1 (b2n l.armed + 2 * b2n (c.bit R.LEDGER_FROZEN n) + 4 * b2n (c.bit R.LEDGER_MP_FAILED n)) ++
  leBytes 1 (min 255 l.bad) ++
  (upto 9).flatMap (fun i => leBytes 2 ((l.lits[i]?.map (·.2)).getD 0)) ++
  leBytes 8 ((upto 9).foldl (fun v i => v + ((l.lits[i]?.map (fun e => min 62 (l.evals - e.1))).getD 63) * 64 ^ i) 0)

/-- A channel's 88 bytes. -/
def Ctl.recChannel (c : Ctl) (n : Nat) : List Byte := c.recSpindle n ++ c.recTent n ++ c.recLed n ++ zeros 8

/-- A measured power decided in tick `d`. -/
def Ctl.powerAt (c : Ctl) (n d : Nat) : Option (Nat × Nat × Bool) :=
  (c.tw.powers.find? (fun e => e.1 == n && e.2.1 == d)).map (·.2.2)

/-- A channel's 44 bytes of measured power, for the cycle that ends before boundary `b`. -/
def Ctl.recPower (c : Ctl) (n b : Nat) : List Byte :=
  let e := (upto 20).map (fun i => c.powerAt n (tickBack b (20 - i)))
  e.flatMap (fun q => leBytes 2 ((q.map (·.2.1)).getD 0)) ++
  leBytes 4 (maskOf ((upto 20).filter (fun i => match (e[i]?).join with | some q => q.2.2 | none => false)))

/-- Pair number `k` of spindles, lower number first: (0, 1), (0, 2), (1, 2), (0, 3), … -/
def pairAt (k : Nat) : Nat × Nat :=
  let b := ((upto 24).filter (fun b => decide (b * (b - 1) / 2 ≤ k))).getLast?.getD 1
  (k - b * (b - 1) / 2, b)

/-- Numbers of `w` bits each, the first in the lowest bits. -/
def packed (w : Nat) (l : List Nat) : Nat := l.foldr (fun x v => x % 2 ^ w + v * 2 ^ w) 0

/-- Number `i` of `packed w`. -/
def packedAt (w v i : Nat) : Nat := v / 2 ^ (w * i) % 2 ^ w

/-- The fantail's 256 bytes: grants, requests, the points in whole micrometres (R198), the ticks that the present requests
have waited modulo 2^19, cuts, excursions, and the streams with an offer on its way. -/
def Ctl.recFantail (c : Ctl) : List Byte :=
  let held := (upto 24).filter (fun n => (c.sp n).grant.isSome)
  let asks := (upto 24).filter (fun n => (c.sp n).req.isSome)
  let pt := fun (n : Nat) => ((c.sp n).grant.or (c.sp n).req).getD (0, 0)
  let um := fun (v : Int) => code 23 (roundDiv v 1000)
  fit 256 (leBytes 3 (maskOf held) ++ leBytes 3 (maskOf asks) ++
    leBytes 138 (packed 46 ((upto 24).map (fun n => um (pt n).1 + um (pt n).2 * 2 ^ 23))) ++
    leBytes 57 (packed 19 ((upto 24).map (fun n => (c.sp n).waited))) ++
    leBytes 3 (maskOf ((upto 24).filter (fun n => (c.sp n).cut.isSome))) ++
    leBytes 35 (maskOf ((upto 276).filter (fun k => c.fan.exc.contains (pairAt k)))) ++
    leBytes 16 (maskOf ((upto 128).filter (fun x => c.hop.offers.any (fun o => o.1 == x)))))

/-- The global section's 128 bytes: halt state, newest NVM sequence, newest LINK, profile copy and PUBLISH. -/
def Ctl.recGlobal (c : Ctl) : List Byte :=
  fit 128 (leBytes 4 (c.reg R.LEDGER_HALT_STAT) ++ leBytes 4 (c.reg R.LEDGER_HALT_CELL) ++ zeros 20 ++
    leBytes 4 c.nv.haltCount ++ fit 32 c.ident.link ++ leBytes 4 (c.reg R.GLOBAL_PROF_CTRL) ++ zeros 4)

/-- R408: the state record taken at the boundary, the present tick's beginning: cycle k = tally / 20 - 1. -/
def Ctl.stateRecord (c : Ctl) : List Byte :=
  let b := c.now
  let k := b / 20 - 1
  let head := fit 64 (leBytes 6 k ++ leBytes 6 b ++ leBytes 2 6064 ++ leBytes 1 (b2n c.engaged) ++ leBytes 1 c.pwr.bseq ++
    leBytes 4 (c.get R.HOPPER_LAYER_COUNT_LAYERS) ++ leBytes 4 (c.reg R.TWIN_HEALTH))
  let body := head ++ (upto 128).flatMap c.recContext ++ (upto 24).flatMap c.recChannel ++
    (upto 24).flatMap (fun n => c.recPower n b) ++ c.recFantail ++ c.recGlobal ++
    (upto 24).flatMap (fun n => leBytes 8 (c.posDigest n (tickBack b 20) (tickBack b 1)) ++
      leBytes 8 (c.pwrDigest n (tickBack b 20) (tickBack b 1))) ++ zeros 8
  body ++ leBytes 4 (crc32 body) ++ leBytes 4 k

/-- R405: the record taken and the device's own state kept at a boundary. -/
def twinTake (c : Ctl) : Ctl :=
  if c.now % 20 = 0 ∧ (c.role = 2 ∨ c.role = 3) then
    c.modTw (fun t => { t with own := c.stateRecord, snapSpin := c.spin, snapTent := c.tent, snapLed := c.led.ch })
  else c

/-- R407: a record's CRC. -/
def recordOk (l : List Byte) : Bool := l.length == 6064 && crc32 (l.take 6056) == fieldAt l 6056 4

/-! ### Comparison (R414) -/

/-- Bytes `a` to `a + n - 1` of two records are the same. -/
def sameAt (l m : List Byte) (a n : Nat) : Bool := (l.drop a).take n == (m.drop a).take n

/-- The hopper, fantail or global sections differ (of the global section what the standby computes itself). -/
def wholeDiffers (l m : List Byte) : Bool :=
  !(sameAt l m 64 2048 && sameAt l m 5280 256 && sameAt l m 5536 8 && sameAt l m 5600 8)

/-- What R414 finds for channel `n`'s own bytes: 0 nothing, 1 a power difference explained by a repair, 2 it diverges. -/
def Ctl.finding (c : Ctl) (l : List Byte) (n : Nat) : Nat :=
  let m := c.tw.own
  let k := fieldAt l 0 6
  if ¬ sameAt l m (2112 + 88 * n) 88 ∨ ¬ sameAt l m (5664 + 16 * n) 8 then 2
  else if ¬ sameAt l m (5672 + 16 * n) 8 then
    (match tget? c.tw.repaired n with
     | some r => if r = k ∨ r + 1 = k then 1 else 2
     | none => 2)
  else 0

/-! ### Loading a record and re-forming (R414) -/

/-- Channel `n`'s spindle at the boundary, by the record: the execution of the record it names is taken from this
device's own state there, or planned anew up to the sample it names. -/
def loadSpindle (n : Nat) (r : Replay) (c : Ctl) : Ctl :=
  let l := r.record
  let a := 2112 + 88 * n
  let b0 := fieldAt l a 1
  let place := fieldAt l (a + 1) 5
  let idx := place % 2 ^ 25
  let j := place / 2 ^ 26
  let x := sgn 32 (fieldAt l (a + 6) 4)
  let y := sgn 32 (fieldAt l (a + 10) 4)
  let v := fieldAt l (a + 14) 2
  let cur := c.sp n
  let snap := tget r.spin n {}
  let more := cur.buf.filter (fun i => !(snap.buf.any (fun k => i.same k)))
  let s0 := { snap with buf := snap.buf ++ more }
  let c0 := (((c.setSp n s0).setSst n (b0 % 16)).put (R.SPINDLE_STAT_BANK n) (b0 / 16 % 2)).put (R.SPINDLE_STAT_PROF_COPY n) (b0 / 32 % 2)
  let c1 := if ¬ bitOf place 25 then c0.modSp n (fun s => { s with exec := none }) else match s0.exec with
    | some e => if e.item.idx = idx then (if e.formed % 2 ^ 14 = j then c0 else again n e.item j c0) else skip n idx j c0
    | none => skip n idx j c0
  let s := c1.sp n
  let pts := packedAt 46 (fieldAt l 5286 138) n
  let pt : Int × Int := (1000 * sgn 23 (pts % 2 ^ 23), 1000 * sgn 23 (pts / 2 ^ 23))
  let waited := packedAt 19 (fieldAt l 5424 57) n
  -- the record gives the point in whole micrometres (R198)
  let at_ := fun (g : Int × Int) => if roundDiv g.1 1000 * 1000 = pt.1 ∧ roundDiv g.2 1000 * 1000 = pt.2 then g else pt
  let f := fenceBy (decide (b0 % 16 = stFenceWait)) (fieldAt l (a + 16) 2) r.boundary s
  (c1.put ⟨R.HOPPER_FENCE_WAIT, n, 1⟩ (b2n f.fence.isSome)).setSp n { f with
    px := if toNm s.px = x then s.px else x * 65536
    py := if toNm s.py = y then s.py else y * 65536
    v := if roundRat s.v = (v : Nat) then s.v else (v : Nat)
    z := sgn 24 (fieldAt l (a + 18) 3)
    lastTag := fieldAt l (a + 21) 3
    grant := if bitOf b0 6 then some (at_ (s.grant.getD pt)) else none
    req := if bitOf (fieldAt l 5283 3) n then some (at_ (s.req.getD pt)) else none
    waited := if s.waited % 2 ^ 19 = waited then s.waited else waited
    cut := if bitOf (fieldAt l 5481 3) n then s.cut else none
    sample := none }
where
  /-- The fence that the record names is the one at which this device waits, else one of its buffer. -/
  fenceBy (waits : Bool) (id b : Nat) (s : SpinSt) : SpinSt :=
    let same := s.fence.any (fun f => f.1.fenceId == id)
    match waits, s.buf.findIdx? (fun i => i.typ == tFence && i.fenceId == id) with
    | true, some k => if same then s else { s with
        buf := s.buf.drop (k + 1), fence := s.buf[k]?.map (fun i => (i, b)), fencePass := false, timedOut := false }
    | true, none => s
    | false, _ => if same then s else { s with fence := none, fencePass := false, timedOut := false }
  /-- The record is begun anew and `j` of its samples are formed. -/
  again (n : Nat) (i : Item) (j : Nat) (c : Ctl) : Ctl :=
    (upto j).foldl (fun c _ => formNext n c) (beginMotion n (c.takenUp n i) .start true (c.modSp n (fun s => { s with exec := none, stop := none })))
  /-- The records before it are dropped; none is in execution when the record names none that this device holds. -/
  skip (n idx j : Nat) (c : Ctl) : Ctl :=
    let s := c.sp n
    match s.buf.findIdx? (fun i => i.idx == idx) with
    | some k => match s.buf[k]? with
      | some i => again n i j (c.setSp n { s with buf := s.buf.drop (k + 1) })
      | none => c
    | none => c.setSp n { s with exec := none, stop := none }

/-- Channel `n`'s loop by the record. -/
def loadTent (n : Nat) (r : Replay) (c : Ctl) : Ctl :=
  let l := r.record
  let a := 2112 + 88 * n + 24
  let snap := tget r.tent n {}
  let c1 := { c with tent := tput c.tent n { snap with
      y := sgn 32 (fieldAt l a 4), acc := sgn 48 (fieldAt l (a + 4) 6), cprev := fieldAt l (a + 10) 2
      sent := fieldAt l (a + 12) 2, seq := fieldAt l (a + 14) 1, bad := fieldAt l (a + 16) 1, good := fieldAt l (a + 17) 1
      settled := fieldAt l (a + 18) 2, lastBlock := tickBack c.now (fieldAt l (a + 23) 2)
      exc := { snap.exc with run := fieldAt l (a + 21) 1, isOpen := bitOf (fieldAt l (a + 20) 1) 0 }
      sat := { snap.sat with run := fieldAt l (a + 22) 1, isOpen := bitOf (fieldAt l (a + 20) 1) 1 } } }
  c1.put (R.SPINDLE_TENT_STAT_STATE n) (fieldAt l (a + 15) 1) |>.put (R.SPINDLE_TENT_STAT_FACTOR n) (fieldAt l (a + 12) 2)

/-- Channel `n` of the ledger by the record. -/
def loadLed (n : Nat) (r : Replay) (c : Ctl) : Ctl :=
  let l := r.record
  let a := 2112 + 88 * n + 50
  let snap := tget r.led n {}
  let fl := fieldAt l (a + 2) 1
  let ages := fieldAt l (a + 22) 8
  let lits := (upto 9).filterMap (fun i =>
    let age := packedAt 6 ages i
    if age = 63 then none else some (snap.evals - age, fieldAt l (a + 4 + 2 * i) 2))
  let c1 := c.modLed (fun e => { e with ch := tput e.ch n { snap with
    level := fieldAt l a 1, below := fieldAt l (a + 1) 1, armed := bitOf fl 0, bad := fieldAt l (a + 3) 1, lits := lits } })
  c1.put ⟨R.LEDGER_FROZEN, n, 1⟩ (b2n (bitOf fl 1)) |>.put ⟨R.LEDGER_MP_FAILED, n, 1⟩ (b2n (bitOf fl 2))
    |>.flag (R.LEDGER_CH_MP_FROZEN n) (bitOf fl 1) |>.flag (R.LEDGER_CH_MP_FAILED n) (bitOf fl 2)

/-- The hopper, excursion (R235), brake and halt state of a record. What has been read is this device's own, since a record
carries no contents of a ring; TAIL is the record's, but not beyond the own one that was accepted last (R412). -/
def loadWhole (l : List Byte) (c : Ctl) : Ctl :=
  let c1 := c.each (upto 128) (fun x c =>
    if c.cst x = csDisabled then c
    else
      let h := fieldAt l (64 + 16 * x) 4
      let tail := fieldAt l (72 + 16 * x) 4
      let own := tget c.tw.ownTail x 0
      c.put (R.CTX_HEAD_INDEX x) h |>.put (R.CTX_STAT_STATE x) (fieldAt l (76 + 16 * x) 1)
        |>.put (R.CTX_TAIL_INDEX x) (if c.ringSub x own h < c.ringSub x tail h then own else tail))
  let exc := (upto 276).filter (fun k => bitOf (fieldAt l 5484 35) k)
  let c2 := (c1.setReg R.LEDGER_HALT_STAT (fieldAt l 5536 4) |>.setReg R.LEDGER_HALT_CELL (fieldAt l 5540 4)).modFan
    (fun f => { f with exc := exc.map pairAt })
  { c2.flag R.GLOBAL_BRK_STAT_ENGAGED (fieldAt l 14 1 == 1) with pwr := { c.pwr with bseq := fieldAt l 15 1 } }

/-- R414 step 3: a forwarded command that was applied, on the copy that is re-formed. -/
def refwd (f : Fwd) (c : Ctl) : Ctl :=
  let x := slice f.arg 0 7
  let n := slice f.arg 0 5
  match f.kind with
  | 1 => doorbellEffect f.arg c
  | 2 => streamAction x (bitOf f.arg 8) (bitOf f.arg 9) c
  | 3 =>
    let w := BitVec.ofNat 32 (c.reg (R.CTX_CTRL x))
    if bitOf f.arg 8 then streamEnable x w c else streamDisable x w c
  | 4 => spCmd n (bitOf f.arg 8) (bitOf f.arg 9) c
  | 5 => if bitOf f.arg 9 then mpClear n c else c
  | 7 => if bitOf f.arg 0 then (c.flag R.GLOBAL_BRK_STAT_ENGAGED true).each (upto 24) spBrake
    else c.flag R.GLOBAL_BRK_STAT_ENGAGED false
  | _ => c

/-- One tick of every channel and of the fantail, formed again from the uplinks and the forwarded commands kept; the present
tick (`last`) is not over. -/
def reformTick (chans : List Nat) (t : Nat) (last : Bool) (c : Ctl) : Ctl :=
  let c0 := ({ c with tally := BitVec.ofNat 48 t } : Ctl).each chans tentBegin
  let on := chans.filter c0.sampling
  let c1 := (c0.each on formNext).each on (fun n c => recordStart n (recordRetire n c))
  let c2 := (c.tw.log.filter (fun e => decide (e.tick = t))).reverse.foldl (fun c e =>
    if e.kind = 0 then meas e.lane e.body e.chk false c else mpower e.lane e.body e.chk c) c1
  let c3 := (c.tw.done.filter (fun f => decide (f.tick = t))).reverse.foldl (fun c f => refwd f c) c2
  if last then c3
  else ((fanDeliver ((fantailEval (c3.each on tentFormed)).each on (fun n c => noteMsgs n (commitSample n c)))).each chans tentEnd)

/-- Bytes `d` put into a record at offset `a`. -/
def patchAt (l : List Byte) (a : Nat) (d : List Byte) : List Byte := l.take a ++ d ++ l.drop (a + d.length)

/-- R414: a replay passes the boundary at which the device has taken its next record: that record, and the state kept with
it, are those of the channels as re-formed (`m`). -/
def retake (chans : List Nat) (whole : Bool) (b : Nat) (m c : Ctl) : Ctl :=
  let l0 := if whole then patchAt (patchAt c.tw.own 64 ((upto 128).flatMap m.recContext)) 5280 m.recFantail else c.tw.own
  let l := chans.foldl (fun l n => patchAt (patchAt l (2112 + 88 * n) (m.recChannel n)) (5664 + 16 * n)
    (leBytes 8 (m.posDigest n (tickBack b 20) (tickBack b 1)) ++ leBytes 8 (m.pwrDigest n (tickBack b 20) (tickBack b 1)))) l0
  c.modTw (fun t => { t with
    own := l
    snapSpin := chans.foldl (fun s n => tput s n (m.sp n)) t.snapSpin
    snapTent := chans.foldl (fun s n => tput s n (m.tn n)) t.snapTent
    snapLed := chans.foldl (fun s n => tput s n (m.lch n)) t.snapLed })

/-- R414 steps 2 and 3: the record is loaded into a copy of the device, which is formed again to the present; the diverged
channels, and where the hopper, fantail or global section differed what the record says of the hopper, are taken over. -/
def reform (r : Replay) (c : Ctl) : Ctl :=
  let whole := wholeDiffers r.record r.own
  let chans := (upto 24).filter c.hasChan
  let b := r.boundary
  let atB := loadWhole r.record { c with tally := BitVec.ofNat 48 b }
  let s0 := atB.each chans (fun n c => loadLed n r (loadTent n r (loadSpindle n r c)))
  let s := s0.each chans (fun n c => c.modSp n (fun s => { s with
    hist := s.hist.filter (fun p => decide (tdiff p.tick b < 0)), msgs := s.msgs.filter (fun m => decide (tdiff m.1 b < 0)) }))
  let d := c.sinceT b
  let e := (upto (d + 1)).foldl (fun (e : Ctl × Option Ctl) i =>
    let t := (b + i) % 2 ^ 48
    let at_ := ({ e.1 with tally := BitVec.ofNat 48 t } : Ctl)
    (reformTick chans t (decide (i = d)) e.1, if i ≠ 0 ∧ t = c.boundaryTick then some at_ else e.2)) (s, none)
  let mine := (bitList 24 r.chans).filter c.hasChan
  let c1 := mine.foldl (fun c n =>
    let keep := fun (c : Ctl) (a : Nat) => c.setReg a (e.1.reg a)
    let c1 := [R.SPINDLE_STAT n, R.SPINDLE_TENT_STAT n, R.SPINDLE_FACTORS n].foldl keep c
    { c1.put ⟨R.HOPPER_FENCE_WAIT, n, 1⟩ (e.1.get ⟨R.HOPPER_FENCE_WAIT, n, 1⟩) with
      spin := tput c1.spin n (e.1.sp n)
      tent := tput c1.tent n (e.1.tn n)
      led := { c1.led with ch := tput c1.led.ch n (e.1.lch n) } }) c
  let c2 := if whole then
      ((c1.each (upto 128) (fun x c =>
        if c.cst x = csDisabled then c
        else c.put (R.CTX_HEAD_INDEX x) (e.1.headIx x) |>.put (R.CTX_STAT_STATE x) (e.1.cst x)
          |>.put (R.CTX_TAIL_INDEX x) (e.1.tailIx x))).setReg R.LEDGER_HALT_STAT
          (e.1.reg R.LEDGER_HALT_STAT) |>.setReg R.LEDGER_HALT_CELL (e.1.reg R.LEDGER_HALT_CELL)).modFan (fun f => { f with exc := e.1.fan.exc })
    else c1
  match e.2 with
  | some m => retake mine whole c.boundaryTick m c2
  | none => c2

/-! ### Repair of the ledger grid (R416) -/

/-- A cell changed by `d`, in 2^-16 K, and floored at 0; brought on chip first. -/
def repairCell (key : Nat) (d : Int) (s : State) : State :=
  let cell := ((tget? s.ctl.led.cache key).getD (s.cellInDram key)).upTo s.ctl.led.k s.ctl.keep s.ctl.layerTag s.ctl.now
  let v := min (((cell.value : Nat) : Int) + d).toNat (2 ^ 28 - 1)
  { s with ctl := s.ctl.modLed (fun l => { l with cache := tput l.cache key { cell with value := v } }) }

/-- What a measured power deposits: itself when good, else R310's substitute. -/
def Ctl.deposited (c : Ctl) (n p : Nat) (good : Bool) (h : PlanPt) : Nat :=
  if good then p else min 65535 ((c.commanded n h * 36045 + 16384) / 2 ^ 15)

/-- R416 for one tick of one channel. -/
def repairOne (l : List Byte) (n i : Nat) (s : State) : State :=
  let c := s.ctl
  let k := fieldAt l 0 6
  let d := (20 * k + i) % 2 ^ 48
  let a := 4224 + 44 * n
  let pA := fieldAt l (a + 2 * i) 2
  let gA := bitOf (fieldAt l (a + 40) 4) i
  let own := c.powerAt n d
  let gB := match own with | some q => q.2.2 | none => false
  let pB := match own with | some q => q.2.1 | none => 0
  let t := match own with | some q => q.1 | none => tickBack d 3
  let differs := (gA && (!gB || pA != pB)) || (!gA && gB)
  -- R392: a bound channel makes no deposits
  match differs && c.ledReady && (c.xyBound n).isNone, c.pointAt n t with
  | true, some h =>
    let parts := fun (p : Nat) (g : Bool) => (c.depositParts n (c.deposited n p g h) (d + 1) h.x h.y).1
    let age := c.sinceT ((d + 1) % 2 ^ 48)
    let ds := ((parts pA gA).map (fun (e : Deposit) => (e.key, (e.amount : Int)))) ++
      (if own.isNone then [] else (parts pB gB).map (fun (e : Deposit) => (e.key, Int.neg (e.amount : Int))))
    let keys := (ds.map (·.1)).eraseDups
    let s1 := keys.foldl (fun s key =>
      let sum := sumI ((ds.filter (fun e => e.1 == key)).map (·.2))
      let dec : Int := (decay sum.natAbs age c.led.k : Nat)
      repairCell key (if sum < 0 then Int.neg dec else dec) s) s
    { s1 with ctl := (s1.ctl.inc R.TWIN_CNT1_REPAIRS).modTw (fun t => { t with repaired := tput t.repaired n k }) }
  | _, _ => s

/-- R416: every tick of the record's measured-power section. -/
def repairs (l : List Byte) (s : State) : State :=
  (upto 24).foldl (fun s n => (upto 20).foldl (fun s i => repairOne l n i s) s) s

/-- The measured powers of the tick that ends, kept for the next record. -/
def twinPowers (c : Ctl) : Ctl :=
  if c.role ≠ 2 ∧ c.role ≠ 3 then c
  else
    let good := (c.led.arrived.filter (fun e => e.1 == c.now)).map (fun e => (e.2.1, c.now, e.2.2.1, e.2.2.2, true))
    let bad := c.led.subs.map (fun e => (e.1, c.now, e.2, 0, false))
    c.modTw (fun t => { t with powers := (good ++ bad ++ t.powers).take 1536 })

end Sys2Proof.Machine
end

