-- ==== Sys2Proof/Machine/Twin.lean ====
section
/-! DEFINITION. Twin operation (R394 to R437, R44, R713): roles, the Valuina link, pairing, shadow operation, forwarded
commands, readiness, switch-over. -/

namespace Sys2Proof.Machine

def rUnpaired : Nat := 0
def rPairing : Nat := 1
def rActive : Nat := 2
def rStandby : Nat := 3
def rTakeover : Nat := 4
def rSuspect : Nat := 5
def rQuery : Nat := 6
def rDetached : Nat := 7
def rFailed : Nat := 8

/-- Bits of the twin page's BLK_IRQ registers (R437). -/
def twRole : Nat := 0
def twSwitch : Nat := 1
def twSeam : Nat := 2
def twLost : Nat := 3
def twAlarm : Nat := 4
def twDiverged : Nat := 5
def twTest : Nat := 6
def twPairErr : Nat := 7
def twReady : Nat := 8

/-- R410: what a head or laser lane has still to send without the active role: no BRAKE block and no CORRECTION. -/
def quietLane (k : Nat) (c : Ctl) : Ctl :=
  let l := c.ln k
  if l.reps.isEmpty ∧ l.late.isEmpty ∧ l.soon.isEmpty then c
  else
    let keep := List.filter (fun p => oosRank p == 2)
    c.setLn k { l with reps := [], late := keep l.late, soon := keep l.soon }

/-- R410: the device held the active role before (`was`) and holds it no more. -/
def roleLost (was : Bool) (c : Ctl) : Ctl := if was ∧ ¬ c.isActive then c.each hlLanes quietLane else c

/-- R398: a change of role; DETACHED raises TWIN_ALARM (R437). -/
def setRole (r : Nat) (c : Ctl) : Ctl :=
  if c.role = r then c
  else
    let c1 := { (c.put R.TWIN_STAT_ROLE r).irq pgTwin twRole with tw := { c.tw with wrote := [], hoRx := [] } }
    roleLost c.isActive (if r = rDetached then c1.irq pgTwin twAlarm else c1)

/-- NATIVE or DUPLICATE (R395, R434). -/
def Ctl.duplicate (c : Ctl) : Bool := c.is R.TWIN_CTRL_MODE
/-- The device shadows its partner: host writes are recorded, not acted on (R411). -/
def Ctl.shadows (c : Ctl) : Bool := decide (rStandby ≤ c.role) && decide (c.role ≤ rDetached)

/-! ### The link (R402) and the health word (R420) -/

/-- R402: the link lanes in use, ascending. -/
def Ctl.usedLanes (c : Ctl) : List Nat := (upto 8).filter (fun i => c.lst (56 + i) == lnActive && !c.slow (56 + i))

/-- R402, R714: the link lanes that blocks go out on, numbered as used lanes: a relock affects the receive side only. -/
def Ctl.sendLanes (c : Ctl) : List Nat := (upto 8).filter (fun i => c.txOn (56 + i) && !c.slow (56 + i))

/-- The head and laser lanes that are ACTIVE. -/
def Ctl.hlActive (c : Ctl) : List Nat := hlLanes.filter (fun k => c.lst k == lnActive)

/-- LANE_PEER.PORT. -/
def Ctl.portOf (c : Ctl) (k : Nat) : Nat := slice (c.reg (R.LANE_PEER k)) 15 1

/-- The PORT that all ACTIVE head and laser lanes report, if they agree. -/
def Ctl.ownPort (c : Ctl) : Option Nat :=
  match c.hlActive with
  | [] => some 0
  | k :: ks => if ks.all (fun j => c.portOf j == c.portOf k) then some (c.portOf k) else none

/-- The partner's PORT, from its OFFER. -/
def Ctl.peerPort (c : Ctl) : Option Nat := c.tw.offer.map (fun o => slice o 19 1)

/-- R395: violated on some lane. -/
def Ctl.portMismatch (c : Ctl) : Bool :=
  c.is R.TWIN_CTRL_EN && !c.duplicate &&
    (match c.ownPort with
     | none => true
     | some p => !c.hlActive.isEmpty && c.peerPort == some p)

/-- R418, but for the role. -/
def Ctl.readyBase (c : Ctl) : Bool :=
  c.tw.verified && c.tw.replay.isNone && c.tw.waiting.isNone && c.tw.up && c.tw.rejoin == 0 &&
    (c.reg R.TWIN_HEALTH &&& (2 ^ 9 + 2 ^ 10 + 0xF)) == 0

/-- R418: READY, in the health word and in TWIN_STAT. -/
def readyEval (c : Ctl) : Ctl :=
  let r := c.role == rStandby && c.readyBase
  if c.is R.TWIN_STAT_READY = r then c else ((c.flag R.TWIN_STAT_READY r).health 23 r).irq pgTwin twReady

/-- R44, R399: entry to PAIRING: OFFER and UID go out. -/
def enterPairing (c : Ctl) : Ctl :=
  let dr := c.tw.driving || c.soloOn
  let uid := c.nv.uid
  let offer := (c.nSpin) * 2 ^ 8 + b2n (c.is R.TWIN_CTRL_PREFER) * 2 ^ 16 + b2n dr * 2 ^ 17 +
    b2n c.duplicate * 2 ^ 18 + (c.ownPort.getD 0) * 2 ^ 19 + (uid % 2 ^ 32) * 2 ^ 24
  let c1 := (setRole rPairing c).put R.TWIN_STAT_PAIR_ERR 0
  let c2 := { c1 with soloOn := false }
  c2.modTw (fun t => { t with
    driving := dr
    pairAt := c.now
    offer := none
    uid := none
    takes := none
    confirm := false
    txMsg := t.txMsg ++ [(c.now, 5, offer), (c.now, 5, 1 + ((uid / 2 ^ 32) % 2 ^ 32) * 2 ^ 24)] })

/-- R402, R398, R433: the link's state follows its lanes; an UNPAIRED device with EN 1 begins to pair. -/
def linkEval (c : Ctl) : Ctl :=
  let n := c.usedLanes.length
  let up := decide (6 ≤ n)
  let c1 := if c.get R.TWIN_STAT_LINK_LANES = n then c else c.put R.TWIN_STAT_LINK_LANES n
  let c2 := c1.health 11 (decide (n < 8))
  let worse := (c.tw.up && !up) || (decide (n < 8) && !bitOf (c.reg R.TWIN_HEALTH) 11)
  let c3 := c2.modTw (fun t => { t with up := up, refused := t.refused && up })
  let c4 := if worse ∧ c.role = rActive then c3.irq pgTwin twLost else c3
  if up ∧ c4.role = rUnpaired ∧ c4.is R.TWIN_CTRL_EN ∧ ¬ c4.tw.refused then enterPairing c4 else c4

/-- R420: the bits of the health word that follow a condition. -/
def twinEval (c : Ctl) : Ctl :=
  let enabledLanes := hlLanes.filter (fun k => c.hasLane k && c.sst (chanOf k) != stDisabled)
  let mism := c.portMismatch
  let c1 := if mism ∧ ¬ bitOf (c.reg R.TWIN_HEALTH) 13 then c.irq pgTwin twAlarm else c
  let ue := match c.ueAt with | some t => decide (c.sinceT t ≤ 20000) | none => false
  let w := c1.reg R.TWIN_HEALTH
  let mask := 2 ^ 3 + 2 ^ 4 + 2 ^ 5 + 2 ^ 7 + 2 ^ 8 + 2 ^ 9 + 2 ^ 12 + 2 ^ 13
  let v := 2 ^ 3 * b2n ue + 2 ^ 4 * b2n (enabledLanes.any (fun k => c.lst k != lnActive)) +
    2 ^ 5 * b2n (hlLanes.any (fun k => c.is (R.PROTO_STAT_CAP_FAULT k))) + 2 ^ 7 * b2n (c.get R.TWIN_DIVERGED_CHANNELS != 0) +
    2 ^ 8 * b2n c.tw.replay.isSome + 2 ^ 9 * b2n (!c.tw.lag.isEmpty) + 2 ^ 12 * b2n c.tw.silent + 2 ^ 13 * b2n mism
  let w' := (w &&& (0xFFFFFFFF ^^^ mask)) ||| v
  let c2 := if w' = w then c1 else c1.setReg R.TWIN_HEALTH w'
  readyEval (linkEval c2)

/-! ### Enabling and pairing (R398 to R401) -/

/-- TWIN_ENABLE (R398, R399): the write of TWIN.CTRL.EN. A device with EN 0 drives while a stream is not DISABLED, which counts
when it begins to pair in this tick; with EN 1 it drives after SOLO only. -/
def twinEnable (en : Bool) (c : Ctl) : Ctl :=
  let was := c.is R.TWIN_CTRL_EN
  let c1 := c.flag R.TWIN_CTRL_EN en
  if en then
    if was then c1
    else
      let c2 := twinEval (c1.modTw (fun t => { t with
        refused := false, driving := (upto 128).any (fun x => c.cst x != csDisabled) }))
      roleLost c.isActive (if c2.role = rPairing then c2 else c2.modTw (fun t => { t with driving := false }))
  else
    let c2 := if c.role = rFailed ∨ c.role = rDetached then setRole rUnpaired c1 else c1
    if was ∨ c2.role ≠ c.role then twinEval { c2 with soloOn := false } else c2

/-- R400: the device refuses to pair. -/
def pairRefuse (cause : Nat) (c : Ctl) : Ctl :=
  (((setRole rUnpaired c).put R.TWIN_STAT_PAIR_ERR cause).irq pgTwin twPairErr |>.irq pgTwin twAlarm).modTw (fun t => { t with
    refused := true, takes := none, confirm := false, driving := false })

/-- R400: the first cause of refusal that holds, 0 none. -/
def Ctl.pairCause (c : Ctl) (o : Nat) : Nat :=
  if slice o 8 8 ≠ c.nSpin then 1
  else if bitOf o 18 ≠ c.duplicate then 2
  else if bitOf o 17 ∧ c.tw.driving then 3
  else if !c.duplicate && (match c.ownPort with | none => true | some p => slice o 19 1 == p) then 4
  else 0

/-- R399: whether this device takes ACTIVE. -/
def Ctl.resolve (c : Ctl) (o peer : Nat) : Bool :=
  if c.tw.driving ≠ bitOf o 17 then c.tw.driving
  else if c.is R.TWIN_CTRL_PREFER ≠ bitOf o 16 then c.is R.TWIN_CTRL_PREFER
  else decide (c.nv.uid < peer)

/-- R399, R400: OFFER and UID are both here. -/
def pairTry (c : Ctl) : Ctl :=
  match c.tw.offer, c.tw.uid, c.tw.takes with
  | some o, some u, none =>
    let cause := c.pairCause o
    if cause ≠ 0 then pairRefuse cause c
    else
      let peer := slice o 24 32 + (slice u 24 32) * 2 ^ 32
      let act := c.resolve o peer
      ((c.setReg R.TWIN_PEER_UID_LO (slice o 24 32)).setReg R.TWIN_PEER_UID_HI (slice u 24 32)).modTw (fun t => { t with
        takes := some act
        txMsg := t.txMsg ++ [(c.now, 5, 2 + b2n act * 2 ^ 8)] })
  | _, _, _ => c

/-- R403: a twin message of type `tt` on lane `k`: taken on a lane in use when its CHK holds, else counted. -/
def twinRx (k tt body chk : Nat) (f : Ctl → Ctl) (c : Ctl) : Ctl :=
  dataBlock k tt body chk (fun c =>
    if ¬ dataGood tt body chk then c.inc R.TWIN_CNT0_LINK_ERR
    else if isTwin k ∧ c.usedLanes.contains (k - 56) then f c else c) c

/-- PAIR_OFFER (R399, R403). -/
def pairOffer (k body chk : Nat) (c : Ctl) : Ctl :=
  twinRx k 5 body chk (fun c =>
    if c.role = rPairing ∧ slice body 0 4 = 0 then pairTry (c.modTw (fun t => { t with offer := some body })) else c) c

/-- PAIR_UID (R399, R403). -/
def pairUid (k body chk : Nat) (c : Ctl) : Ctl :=
  twinRx k 5 body chk (fun c =>
    if c.role = rPairing ∧ slice body 0 4 = 1 then pairTry (c.modTw (fun t => { t with uid := some body })) else c) c

/-- R44, R396: the device with the smaller tally steps forward to its partner's. -/
def tallyStep (c : Ctl) : Ctl :=
  if 0 < c.tw.ahead then
    { c with tally := BitVec.ofNat 48 (c.now + c.tw.ahead.toNat), tw := { c.tw with ahead := 0 } }
  else c

/-- PAIR_CONFIRM (R399, R44, R396). -/
def pairConfirm (k body chk : Nat) (c : Ctl) : Ctl :=
  twinRx k 5 body chk (fun c =>
    if c.role = rPairing ∧ slice body 0 4 = 2 then tallyStep (c.modTw (fun t => { t with confirm := true })) else c) c

/-- PAIR_TIMEOUT (R400 cause 5): without both CONFIRMs. -/
def pairTimeout (c : Ctl) : Ctl :=
  if c.role = rPairing ∧ ¬ (c.tw.takes.isSome ∧ c.tw.confirm) ∧ msTicks (c.get1 R.TWIN_TIMING2_PAIR_TIMEOUT) ≤ c.sinceT c.tw.pairAt then pairRefuse 5 c else c

/-- R399: roles take effect at a twin-cycle boundary once both CONFIRMs are here. -/
def rolesTake (c : Ctl) : Ctl :=
  match c.role == rPairing && c.tw.confirm, c.tw.takes with
  | true, some act =>
    (setRole (if act then rActive else rStandby) c).modTw (fun t => { t with
      beaconAt := c.now, verified := false, rejoin := 0, driving := false, judged := c.now
      link := [], shadow := [], anchor := none, anchorDue := none })
  | _, _ => c

/-! ### The twin cycle (R404, R405, R419) -/

/-- R419: slot 30 is the device's own comparison; it is skipped while UNPAIRED. -/
def Ctl.slotOk (c : Ctl) (ok : Bool) : Bool := if c.tw.slot = 30 then c.role == rUnpaired || c.tw.tickOk else ok

/-- R419: a self-test slot runs; `ok`: what its hardware found. -/
def selfTest (ok : Bool) (c : Ctl) : Ctl :=
  if c.role = rFailed then c
  else
    let s := c.tw.slot
    if c.slotOk ok then
      let p := min 32 (c.tw.passed + 1)
      let c1 := c.modTw (fun t => { t with slot := (s + 1) % 32, passed := p })
      if p = 32 then c1.health 0 false else c1
    else
      let c1 := ((c.health 0 true).put ⟨R.TWIN_HEALTH, 24, 8⟩ s).inc R.TWIN_CNT2_SELFTEST_FAILS
      (c1.irq pgTwin twTest).modTw (fun t => { t with slot := (s + 1) % 32, passed := 0 })

/-- Bytes cut into the seven-byte units of R406, numbered. -/
def unitsOf (l : List Byte) : List (Nat × Nat) :=
  (upto ((l.length + 6) / 7)).map (fun u => (u, fieldAt l (7 * u) 7))

/-- TWIN_CYCLE_BOUNDARY (R405, R406, R399, R419): in the first word of a tick whose tally is a multiple of 20. -/
def twinCycle (testOk : Bool) (c : Ctl) : Ctl :=
  if c.now % 20 ≠ 0 ∨ c.tw.boundary = c.now then c
  else
    let count := (c.now / 20) % 2 ^ 32
    let c1 := c.sendLanes.foldl (fun c i => sendBlock (56 + i) true (ctlPayload bAlign (i + count * 2 ^ 8)) c)
      (c.modTw (fun t => { t with boundary := c.now }))
    let c2 := if c1.role = rActive ∧ c1.tw.own ≠ [] then c1.modTw (fun t => { t with txRec := unitsOf c1.tw.own }) else c1
    twinEval (rolesTake (selfTest testOk c2))

/-- A block on used lane `j`. -/
def twinSend (j : Nat) (tt body : Nat) (c : Ctl) : Ctl :=
  match c.sendLanes[j]? with
  | none => c
  | some i => sendBlock (56 + i) false (dataPayload tt body) c

/-- R404: a BEACON's body. -/
def Ctl.beaconBody (c : Ctl) : Nat :=
  c.now % 256 + c.role * 2 ^ 8 + b2n (c.is R.TWIN_STAT_READY) * 2 ^ 12 + c.reg R.TWIN_HEALTH * 2 ^ 16

/-- The words of used lane `j` that are free in this tick. -/
def Ctl.freeWords (c : Ctl) (j : Nat) : Nat :=
  match c.sendLanes[j]? with
  | none => 0
  | some i => wordsIn false c.now - (c.ln (56 + i)).used

/-- Units that go out on used lane `j` of `L`, and those that stay. -/
def takeUnits (n j ln : Nat) (us : List (Nat × Nat)) : List (Nat × Nat) × List (Nat × Nat) :=
  let mine := (us.filter (fun u => u.1 % ln == j)).take n
  (mine, us.filter (fun u => !(mine.any (fun v => v.1 == u.1))))

/-- The end of a tick on the link (R404): HANDOVER, then the BEACON, then PAIR and FWD, then REC. -/
def twinTx (c : Ctl) : Ctl :=
  let l := c.sendLanes.length
  if l = 0 ∨ ¬ c.is R.TWIN_CTRL_EN then c
  else
    let send := fun (tt : Nat) (get : TwinSt → List (Nat × Nat)) (set : List (Nat × Nat) → TwinSt → TwinSt) (c : Ctl) =>
      (upto l).foldl (fun c j =>
        let r := takeUnits (c.freeWords j) j l (get c.tw)
        r.1.foldl (fun c u => twinSend j tt u.2 c) (c.modTw (set r.2))) c
    let c1 := send 3 (·.txHo) (fun x t => { t with txHo := x }) c
    let j := c.now % l
    let c2 := if 0 < c1.freeWords j then twinSend j 2 c1.beaconBody c1 else c1
    -- one FWD half a tick later than the other (R417): a message waits for its tick
    let due := c2.tw.txMsg.filter (fun m => decide (0 ≤ tdiff c2.now m.1))
    let n := c2.freeWords 0
    let go := due.take n
    let c3 := go.foldl (fun c m => twinSend 0 m.2.1 m.2.2 c)
      (c2.modTw (fun t => { t with txMsg := due.drop n ++ t.txMsg.filter (fun m => decide (tdiff c2.now m.1 < 0)) }))
    send 1 (·.txRec) (fun x t => { t with txRec := x }) c3

/-- R44, R46: how far the partner's tally lies ahead, of which `count` gives 32 bits of the twin cycle: of the tallies that the
count can mean the one nearest to this device's own, across the wrap as well (log entry 160). -/
def Ctl.partnerAhead (c : Ctl) (count : Nat) : Int :=
  let now : Int := (c.now : Nat)
  let lap : Int := (2 ^ 48 : Nat)
  let near := fun (e : Int) =>
    let own := (now - e) / 20
    own + sgn 32 (code 32 ((count : Int) - own))
  [0, lap, -lap].foldl (fun (b : Int) e =>
    let p := 20 * near e
    let d := p + e - now
    if 0 ≤ p ∧ p < lap ∧ d.natAbs < b.natAbs then d else b) (20 * near 0 - now)

/-- ALIGN (R405, R44): COUNT on lane `k`: that lane's blocks of the record begin, which other lanes may have begun before. -/
def alignBlock (k body : Nat) (c : Ctl) : Ctl :=
  if ¬ isTwin k then discardBlock k 2 c
  else if ¬ c.usedLanes.contains (k - 56) then c
  else
    let count := slice body 8 32
    let known := c.tw.rx.any (fun e => e.2.1 == count)
    c.modTw (fun t => { t with
      ahead := c.partnerAhead count
      rx := tput t.rx k (count, [])
      rxAt := if known then t.rxAt else some c.now })

/-- ALIGN with its CHECK (R324). -/
def align (k body check : Nat) (c : Ctl) : Ctl := ctlBlock k bAlign body check (alignBlock k body) c

/-! ### BEACON, the loss of the link, TWIN_ALIVE (R397, R404, R430 to R433) -/

/-- BEACON (R398, R404). -/
def beacon (k body chk : Nat) (c : Ctl) : Ctl :=
  twinRx k 2 body chk (fun c =>
    let role := slice body 8 4
    let c1 := (c.put R.TWIN_STAT_PARTNER_ROLE role).setReg R.TWIN_PEER_HEALTH (slice body 16 32)
    let off := (c.now + 256 - slice body 0 8) % 256
    let c2 := c1.modTw (fun t => { t with beaconAt := c.now, peerReady := bitOf body 12, tickOk := off == 0 || off == 1 })
    if c2.role = rQuery then twinEval (setRole rDetached c2)
    else if c2.role = rDetached ∧ c2.tw.up ∧ role = rActive then
      twinEval ((setRole rStandby c2).modTw (fun t => { t with
        verified := false, rejoin := c2.get1 R.TWIN_TIMING_REJOIN_CYCLES, judged := c2.boundaryTick }))
    else c2) c

/-- R398: SUSPECT with a silent TWIN_ALIVE[1]. -/
def suspectOn (c : Ctl) : Ctl :=
  if c.role = rSuspect ∧ c.tw.silent then setRole (if c.duplicate then rTakeover else rQuery) c else c

/-- BEACON_LOSS (R398, R430). -/
def beaconLoss (c : Ctl) : Ctl :=
  if c.role = rStandby ∧ c.get1 R.TWIN_TIMING_BEACON_LOSS ≤ c.sinceT c.tw.beaconAt then
    twinEval (suspectOn (((setRole rSuspect c).irq pgTwin twLost).modTw (fun t => { t with verified := false, handed := [] })))
  else c

/-- TWIN_ALIVE_TOGGLE (R397). -/
def aliveToggle (domains : Bool) (c : Ctl) : Ctl :=
  let ok := c.is R.TWIN_CTRL_EN && domains && c.role != rFailed && (!c.duplicate || c.role == rActive || c.role == rUnpaired)
  if ok ∧ 10 ≤ c.sinceT c.tw.toggledAt then c.modTw (fun t => { t with aliveOut := !t.aliveOut, toggledAt := c.now }) else c

/-- TWIN_ALIVE_EDGE (R397, R398, R431). -/
def aliveEdge (c : Ctl) : Ctl :=
  let c1 := c.modTw (fun t => { t with edgeAt := c.now, silent := false })
  twinEval (if c1.role = rSuspect ∨ c1.role = rQuery then setRole rDetached c1 else c1)

/-- ALIVE_SILENT (R397, R398). -/
def aliveSilent (c : Ctl) : Ctl :=
  if c.get1 R.TWIN_TIMING_ALIVE_SILENT ≤ c.sinceT c.tw.edgeAt then
    twinEval (suspectOn (c.modTw (fun t => { t with silent := true })))
  else c

/-- R401: every head and laser uplink has reported the other port silent for at least 80 ticks. -/
def Ctl.othersQuiet (c : Ctl) : Bool :=
  !c.hlActive.isEmpty && c.hlActive.all (fun k => match (c.ln k).quietFrom with
    | some t => decide (80 ≤ c.sinceT t)
    | none => false)

/-- SOLO (R401). -/
def solo (c : Ctl) : Ctl :=
  if c.role = rUnpaired ∧ c.is R.TWIN_CTRL_EN then
    if (if c.duplicate then c.tw.silent else c.othersQuiet) then { c with soloOn := true }
    else c.flag R.TWIN_STAT_SOLO_REFUSED true
  else c

/-! ### Uplinks in a pair (R401, R423, R428, R432, R436) -/

/-- R432: a channel reports. -/
def Ctl.reports (c : Ctl) (n : Nat) : Bool :=
  [n, 24 + n].all (fun k => c.lst k == lnActive && c.is (R.PROTO_STAT_CAP_VALID k))

/-- The other port's ACT bit in the last uplink of a lane. -/
def Ctl.otherAct (c : Ctl) (k : Nat) : Bool := if c.portOf k = 0 then (c.ln k).seen1 else (c.ln k).seen0

/-- R432: the active's port is silent on every reporting channel. -/
def Ctl.allSilent (c : Ctl) : Bool :=
  let r := (upto 24).filter c.reports
  !r.isEmpty && r.all (fun n => !c.otherAct n && !c.otherAct (24 + n))

/-- R436: a lane's first valid uplink after S, and the seam event of its channel's laser. -/
def gapEnd (k : Nat) (c : Ctl) : Ctl :=
  if ¬ c.tw.gaps.contains k then c
  else
    let c1 := c.modTw (fun t => { t with gaps := t.gaps.filter (fun g => decide (g ≠ k)) })
    if isLaser k then
      match tget? c.tw.gapPts (chanOf k) with
      | some p => (c1.event pgTwin 0x09 (chanOf k) p.tag p.x p.y [4, c.tw.dupAt % 2 ^ 32, c.sinceT c.tw.dupAt]).modTw (fun t => { t with
          gapPts := tdel t.gapPts (chanOf k) })
      | none => c1
    else c1

/-- A valid HSTAT or MPOWER has arrived on lane `k`, with its BUF_UNDER for tick `t`. -/
def twinUplink (k t : Nat) (under : Bool) (c : Ctl) : Ctl :=
  let other := c.otherAct k
  let c1 := c.modLn k (fun l => { l with quietFrom := if other then none else some (l.quietFrom.getD c.now) })
  let c2 := gapEnd k c1
  let c3 := if isLaser k then c2.modTw (fun w => { w with
      under := if under then tput w.under (chanOf k) (tget w.under (chanOf k) t) else tdel w.under (chanOf k) }) else c2
  if other ∧ c3.isActive then
    let c4 := (setRole rFailed c3).inc R.TWIN_CNT2_STEP_DOWN
    twinEval { c4 with soloOn := false }
  else if c3.role = rQuery ∧ c3.allSilent then setRole rTakeover c3
  else c3

/-- R414: an uplink is kept while the device shadows. -/
def keepUplink (k kind body chk : Nat) (c : Ctl) : Ctl :=
  if c.shadows then c.modTw (fun t => { t with
    log := { tick := c.now, lane := k, kind := kind, body := body, chk := chk } :: t.log.filter (fun e => decide (c.sinceT e.tick ≤ 64)) })
  else c

/-! ### The state record at the standby (R405 to R407, R414 to R416) -/

/-- REC (R406). -/
def recBlock (k body chk : Nat) (c : Ctl) : Ctl :=
  twinRx k 1 body chk (fun c => match tget? c.tw.rx k with
    | some e => c.modTw (fun t => { t with rx := tput t.rx k (e.1, e.2 ++ [body % 2 ^ 56]) })
    | none => c) c

/-- R405, R406: the first `n` of the seven-byte units that the lanes in use have brought, in order; none while one is
missing. -/
def Ctl.unitsIn (c : Ctl) (n : Nat) (rx : Nat → List Nat) : Option (List Byte) :=
  let ls := c.sendLanes
  if ls = [] then none
  else
    let us := (upto n).map (fun u => (rx (56 + ls[u % ls.length]?.getD 0))[u / ls.length]?)
    if us.all (·.isSome) then some (us.flatMap (fun u => leBytes 7 (u.getD 0))) else none

/-- R405, R406: the record whose 867 units have come behind ALIGN blocks of one COUNT. -/
def Ctl.rxRecord (c : Ctl) : Option (List Byte) :=
  let counts := c.sendLanes.map (fun i => (tget? c.tw.rx (56 + i)).map (·.1))
  if counts.all (fun n => n.isSome && n == counts.headD none) then
    (c.unitsIn 867 (fun k => (tget c.tw.rx k (0, [])).2)).map (List.take 6064)
  else none

/-- R407: a record fails; after a rejoin the run of clean records begins anew (R418). -/
def recordFail (c : Ctl) : Ctl :=
  twinEval (((c.inc R.TWIN_CNT0_RECORD_ERR).health 6 true).modTw (fun t => { t with
    verified := false, rxAt := none, rx := [], judged := c.boundaryTick
    rejoin := if 0 < t.rejoin then c.get1 R.TWIN_TIMING_REJOIN_CYCLES else 0 }))

/-- R414: a good record is compared; diverging channels (every one when the hopper, fantail or global section differs)
are resynchronised. -/
def compareRecord (l : List Byte) (s : State) : State :=
  let s1 := repairs l s
  let c := s1.ctl
  let chans := (upto 24).filter c.hasChan
  let f := chans.map (fun n => (n, c.finding l n))
  let c1 := f.foldl (fun c e => if e.2 = 1 then c.inc R.TWIN_CNT1_PWR_REPAIRED else c) c
  let div := (f.filter (fun e => e.2 == 2 || wholeDiffers l c.tw.own)).map (·.1)
  let c2 := div.foldl (fun c n => (c.setBits R.TWIN_DIVERGED (2 ^ n)).inc R.TWIN_CNT0_RESYNCS) c1
  let c3 := if div.isEmpty then c2 else c2.irq pgTwin twDiverged
  let c4 := c3.modTw (fun t => { t with
    verified := true
    rejoin := if div.isEmpty then t.rejoin - 1 else if 0 < t.rejoin then c3.get1 R.TWIN_TIMING_REJOIN_CYCLES else 0
    replay := if div.isEmpty then none
      else some { boundary := fieldAt l 6 6, start := (c.now + 1) % 2 ^ 48, chans := maskOf div, record := l
                  own := t.own, spin := t.snapSpin, tent := t.snapTent, led := t.snapLed } })
  { s1 with ctl := twinEval c4 }

/-- R624: the newest LINK of a good record; summaries of layers that closed before its boundary are the active's. -/
def takeLink (l : List Byte) (c : Ctl) : Ctl :=
  let link := (l.drop 5568).take 32
  if c.tw.link = link then c
  else c.modTw (fun t => { t with
    link := link
    shadow := t.shadow.filter (fun e => decide (0 ≤ tdiff e.2.tally (fieldAt l 6 6)))
    anchor := match t.anchorDue with
      | some k => some (link, k)
      | none => t.anchor
    anchorDue := none })

/-- STATE_RECORD_COMPLETE (R407, R414, R415). -/
def recordComplete (s : State) : State :=
  let c := s.ctl
  match c.role == rStandby, c.rxRecord with
  | true, some l =>
    let at_ := c.tw.rxAt.getD c.now
    let c1 := (c.metric 94 (c.sinceT at_ : Nat)).modTw (fun t => { t with rxAt := none, rx := [], judged := c.boundaryTick })
    if ¬ recordOk l then { s with ctl := recordFail c1 }
    else
      let c2 := takeLink l (c1.health 6 false)
      if c2.tw.replay.isSome then { s with ctl := c2.modTw (fun t => { t with waiting := some l }) }
      else compareRecord l { s with ctl := c2 }
  | _, _ => s

/-- RECORD_DEADLINE (R407, R406): 13 ticks after the boundary with 8 lanes, 17 with 6 or 7; a standby that has lost the
link misses every record (R430). -/
def recordDeadline (c : Ctl) : Ctl :=
  if (c.role = rStandby ∨ c.role = rSuspect ∨ c.role = rQuery) ∧ c.tw.judged ≠ c.boundaryTick ∧
      (if c.sendLanes.length = 8 then 13 else 17) ≤ c.sinceT c.boundaryTick then recordFail c
  else c

/-- REPLAY_COMPLETE (R414, R415): two ticks re-formed in each tick have caught up with the present. -/
def replayComplete (s : State) : State :=
  let c := s.ctl
  match c.tw.replay with
  | none => s
  | some r =>
    if tdiff c.now r.start < 0 ∨ c.sinceT r.start < since r.start r.boundary then s
    else { s with ctl := twinEval ((reform r c).modTw (fun t => { t with replay := none })) }

/-- R415: a record that waited for a replay is compared in the tick after the replay has completed. -/
def waitingRecord (s : State) : State :=
  match s.ctl.tw.waiting, s.ctl.tw.replay, s.ctl.shadows with
  | some l, none, true => compareRecord l { s with ctl := s.ctl.modTw (fun t => { t with waiting := none }) }
  | _, _, _ => s

/-! ### Forwarded commands (R411 to R413) -/

/-- R52, R411: a shadowing device records a write of its host (address, word). -/
def recordCmd (h : Nat × Word) (c : Ctl) : Ctl := c.modTw (fun t => { t with wrote := tput t.wrote h.1 h.2 })

/-- R411: a command held for four ticks and forwarded by the active, by the host's write `h` if it is one. -/
def holdCommand (kind arg : Nat) (h : Option (Nat × Word)) (c : Ctl) : Ctl :=
  let t := (c.now + 4) % 2 ^ 48
  (fwdSend kind t arg c).modTw (fun w => { w with fwd := w.fwd ++ [{ tick := t, kind := kind, arg := arg, host := h }] })

/-- R411: the host's write `h` of a command: held for four ticks and forwarded by the active, recorded by a shadowing
device, carried out at once by any other. -/
def forwarded (kind arg : Nat) (h : Nat × Word) (act : Ctl → Ctl) (c : Ctl) : Ctl :=
  if c.role = rActive then holdCommand kind arg (some h) c
  else if c.shadows then recordCmd h c
  else act c

/-- R412: the standby's own doorbell has come: a forwarded TAIL that waited for it takes effect. -/
def catchUp (x : Nat) (c : Ctl) : Ctl :=
  match tget? c.tw.lag x with
  | none => c
  | some t =>
    let own := tget c.tw.ownTail x 0
    if c.ringSub x t (c.headIx x) ≤ c.ringSub x own (c.headIx x) then
      twinEval (doorbellEffect (x * 2 ^ 25 + t) (c.modTw (fun w => { w with lag := tdel w.lag x })))
    else doorbellEffect (x * 2 ^ 25 + own) c

/-- R411, R412: a doorbell the host has rung by the write `h`, or the loader has. The TAIL of the last one that R96 accepts is
kept in every role. -/
def doorbellPair (h : Option (Nat × Word)) (w : Nat) (c : Ctl) : Ctl :=
  let x := slice w 25 7
  let cause := c.doorbellCause w
  let c1 := if cause = 0 then c.modTw (fun t => { t with ownTail := tput t.ownTail x (slice w 0 25) }) else c
  if c.shadows then (if cause = 0 then catchUp x c1 else doorbellReject w cause c)
  else if c.role = rActive then holdCommand 1 w h c1
  else doorbellEffect w c1

/-- R412: a forwarded TAIL at the standby. -/
def forwardedTail (w : Nat) (c : Ctl) : Ctl :=
  let x := slice w 25 7
  let t := slice w 0 25
  let own := tget c.tw.ownTail x 0
  if c.ringSub x own (c.headIx x) < c.ringSub x t (c.headIx x) then
    twinEval ((doorbellEffect (x * 2 ^ 25 + own) c).inc R.TWIN_CNT1_FEED_LAG |>.modTw (fun w => { w with lag := tput w.lag x t }))
  else doorbellEffect w c

/-- R413: the shadow's brake changes at the tick that a forwarded brake command names. -/
def shadowBrake (arg : Nat) (c : Ctl) : Ctl :=
  let on := bitOf arg 0
  let c1 :=
    if on ∧ ¬ c.engaged then
      let c1 := c.flag R.GLOBAL_BRK_STAT_ENGAGED true
      ((drivePins false c1).each (upto 24) spBrake).axesBrake
    else if ¬ on ∧ c.engaged then
      let c1 := c.flag R.GLOBAL_BRK_STAT_ENGAGED false
      drivePins true c1
    else c
  { c1 with pwr := { c1.pwr with bseq := slice arg 8 8 } }

/-- R411: a forwarded command takes effect: the active's own, or the standby's copy. -/
def fwdEffect (f : Fwd) (c : Ctl) : Ctl :=
  let x := slice f.arg 0 7
  match f.kind with
  | 1 => if c.shadows then forwardedTail f.arg c else doorbellEffect f.arg c
  | 2 => streamAction x (bitOf f.arg 8) (bitOf f.arg 9) c
  | 3 =>
    let w := match f.host with
      | some h => h.2
      | none => BitVec.ofNat 32 (c.reg (R.CTX_CTRL x))
    if bitOf f.arg 8 then streamEnable x w c else streamDisable x w c
  | 4 =>
    spCmd (slice f.arg 0 5) (bitOf f.arg 8) (bitOf f.arg 9) c
  | 5 =>
    let n := slice f.arg 0 5
    let c1 := if bitOf f.arg 8 then haltClear c else c
    if bitOf f.arg 9 then mpClear n c1 else c1
  | 6 => publish c
  | 7 => shadowBrake f.arg c
  | _ => c

/-- FWD_APPLY (R411): every forwarded command whose tick has come. -/
def fwdApply (c : Ctl) : Ctl :=
  let due := c.tw.fwd.filter (fun f => decide (0 ≤ tdiff c.now f.tick))
  due.foldl (fun c f => fwdEffect f c) (c.modTw (fun t => { t with
    fwd := t.fwd.filter (fun f => decide (tdiff c.now f.tick < 0))
    done := if c.shadows then due.map (fun f => { f with tick := c.now }) ++ t.done.filter (fun f => decide (c.sinceT f.tick ≤ 64))
      else [] }))

/-! ### Configuration digests (R417) -/

/-- The writable bits of every register of a page, in ascending address: those of its header, then the rows'. -/
def Ctl.pageWords (c : Ctl) (base : Nat) (rows : List RegRow) : List Byte :=
  (if base = pgHopper then [] else leBytes 4 (c.get (R.BLK_CTRL_ENABLE base))) ++ leBytes 4 (c.reg (R.BLK_IRQ_EN base)) ++
  rows.flatMap (fun r =>
    if r.rw ||| r.rwl = 0 then []
    else (upto (max 1 r.n1)).flatMap (fun i => (upto (max 1 r.n2)).flatMap (fun j =>
      leBytes 4 (c.reg (base + r.off + i * r.s1 + j * r.s2) &&& (r.rw ||| r.rwl)))))

/-- R417: what the configuration digest covers. -/
def Ctl.configBytes (c : Ctl) : List Byte :=
  let copy := 1 - c.get R.GLOBAL_PROF_CTRL_STAGED
  c.pageWords pgHopper rowsHopper ++ (upto 24).flatMap (fun n => c.pageWords (pgSpindle n) rowsSpindle) ++
  c.pageWords pgFantail rowsFantail ++ c.pageWords pgLedger rowsLedger ++
  (upto 1024).flatMap (fun i => c.profEntry copy i) ++
  (upto (48 * 16641)).flatMap (fun i =>
    let g := tget c.tab.grid i (0, 0, 0)
    leInt 4 g.1 ++ leInt 4 g.2.1 ++ leInt 4 g.2.2)

/-- R417: the halves are compared once both are here for the layer tag of the device's own digest. -/
def digestCompare (c : Ctl) : Ctl :=
  match c.tw.digest, c.tw.digLo, c.tw.digHi with
  | some (tag, d), some (t0, _, lo), some (t1, _, hi) =>
    if t0 = tag ∧ t1 = tag then
      twinEval ((c.health 10 (d != lo + hi * 2 ^ 32)).modTw (fun t => { t with digLo := none, digHi := none, digest := none }))
    else c
  | _, _, _ => c

/-- CONFIG_DIGEST (R417): the digest of the layer closed last is complete and goes out in two ticks. -/
def configDigest (c : Ctl) : Ctl :=
  match c.tw.closed with
  | none => c
  | some (tag, at_) =>
    let d := crc64 c.configBytes
    let t := tag % 256
    let half := fun (kind v : Nat) => kind + (at_ % 256) * 2 ^ 8 + (v % 2 ^ 32) * 2 ^ 16 + t * 2 ^ 48
    digestCompare (c.modTw (fun w => { w with
      closed := none
      digest := some (t, d)
      txMsg := if c.tw.up ∧ (c.role = rActive ∨ c.role = rStandby) then
          w.txMsg ++ [(c.now, 4, half 8 d), ((c.now + 1) % 2 ^ 48, 4, half 9 (d / 2 ^ 32))]
        else w.txMsg }))

/-- FWD (R411, R412, R417): a command waits for its tick; a digest half is held. -/
def fwdBlock (k body chk : Nat) (c : Ctl) : Ctl :=
  twinRx k 4 body chk (fun c =>
    let kind := slice body 0 8
    let arg := slice body 16 40
    if kind = 8 then digestCompare (c.modTw (fun t => { t with digLo := some (slice arg 32 8, c.now, slice arg 0 32) }))
    else if kind = 9 then digestCompare (c.modTw (fun t => { t with digHi := some (slice arg 32 8, c.now, slice arg 0 32) }))
    else if 1 ≤ kind ∧ kind ≤ 7 ∧ c.shadows then
      -- the tick named lies up to 127 ticks ahead or behind
      let d := sgn 8 (code 8 (((slice body 8 8 : Nat) : Int) - (c.now : Int)))
      let t := (((c.now : Nat) : Int) + d + ((2 ^ 48 : Nat) : Int)).toNat % 2 ^ 48
      c.modTw (fun w => { w with fwd := w.fwd ++ [{ tick := t, kind := kind, arg := arg }] })
    else c) c

/-- DIGEST_HALF_TIMEOUT (R417): a half alone for 2 ms. -/
def digestTimeout (c : Ctl) : Ctl :=
  let late := fun (h o : Option (Nat × Nat × Nat)) => match h with
    | some (tag, t, _) => decide (msTicks 2 ≤ c.sinceT t) && !(match o with | some q => q.1 == tag | none => false)
    | none => false
  let lo := late c.tw.digLo c.tw.digHi
  let hi := late c.tw.digHi c.tw.digLo
  let c1 := c.add R.TWIN_CNT0_LINK_ERR (b2n lo + b2n hi)
  c1.modTw (fun t => { t with digLo := if lo then none else t.digLo, digHi := if hi then none else t.digHi })

/-! ### Handing over (R421 to R425) -/

/-- HANDOVER_CMD (R422). -/
def handoverCmd (c : Ctl) : Ctl :=
  if c.role = rActive ∧ c.tw.peerReady then c.modTw (fun t => { t with asked := true })
  else c.flag R.TWIN_STAT_HANDOVER_REFUSED true

/-- R424: the handover record for last sample tick `f`. -/
def Ctl.handoverRecord (c : Ctl) (f : Nat) : List Byte :=
  let b := f / 20 * 20
  let body := leBytes 6 f ++ (upto 24).flatMap (fun n => leBytes 8 (c.posDigest n b f) ++ leBytes 8 (c.pwrDigest n b f)) ++
    (upto 24).flatMap (fun n => leBytes 1 (c.tn n).seq) ++ leBytes 2 c.pwr.bseq ++ zeros 60
  body ++ leBytes 4 (crc32 body)

/-- R421: a health bit whose handover is enabled is set. -/
def Ctl.mustHandOver (c : Ctl) : Bool := (c.reg R.TWIN_HEALTH &&& c.get R.TWIN_CTRL_HANDOVER_MASK) % 2 ^ 15 != 0

/-- HANDOVER_SEND (R421, R424): F is the tick before, the last in which samples went out. -/
def handoverSend (c : Ctl) : Ctl :=
  if c.role = rActive ∧ (c.tw.asked ∨ c.mustHandOver) then
    let f := tickBack c.now 1
    twinEval ((setRole rFailed c).modTw (fun t => { t with asked := false, txHo := unitsOf (c.handoverRecord f), txRec := [] }))
  else c

/-- A HANDOVER block (R403): seven bytes of the handover record on lane `k`. -/
def handoverBlock (k body chk : Nat) (c : Ctl) : Ctl :=
  twinRx k 3 body chk (fun c =>
    if c.role = rStandby then c.modTw (fun t => { t with hoRx := tmod t.hoRx k [] (fun l => l ++ [body % 2 ^ 56]) }) else c) c

/-- R424, R425, R398: the 480 bytes are here: with a good CRC the standby takes over. -/
def handoverTake (c : Ctl) : Ctl :=
  match c.unitsIn 69 (fun k => tget c.tw.hoRx k []) with
  | none => c
  | some l =>
    let record := l.take 480
    if crc32 (record.take 476) = fieldAt record 476 4 then
      twinEval ((setRole rTakeover c).modTw (fun t => { t with handed := record }))
    else c.modTw (fun t => { t with hoRx := [] })

/-- HANDOVER (R403, R425): HANDOVER blocks arrive, each with its lane, its body and its CHK. -/
def handover (blocks : List (Nat × Nat × Nat)) (c : Ctl) : Ctl :=
  handoverTake (blocks.foldl (fun c b => handoverBlock b.1 b.2.1 b.2.2 c) c)

/-! ### Switch-over (R424 to R429, R436, R624) -/

/-- R425: the partial digests of the samples up to F agree. -/
def Ctl.handMatch (c : Ctl) : Bool :=
  let l := c.tw.handed
  let f := fieldAt l 0 6
  let b := f / 20 * 20
  ((upto 24).filter c.hasChan).all (fun n => c.posDigest n b f == fieldAt l (6 + 16 * n) 8 && c.pwrDigest n b f == fieldAt l (14 + 16 * n) 8)

/-- R425: native switch-over is possible in this tick. -/
def Ctl.nativeOk (c : Ctl) : Bool :=
  c.tw.handed.length == 480 && c.readyBase && c.tw.waiting.isNone && c.handMatch &&
    decide (c.sinceT (fieldAt c.tw.handed 0 6) ≤ 30)

/-- R427: the switch-over is logged, counted and recorded with F and S. -/
def switchLogged (f : Nat) (c : Ctl) : Ctl :=
  let s := c.now
  let c1 := c.setReg R.TWIN_LAST_F_LO (f % 2 ^ 32) |>.setReg R.TWIN_LAST_F_HI (f / 2 ^ 32) |>.setReg R.TWIN_LAST_S_LO (s % 2 ^ 32)
    |>.setReg R.TWIN_LAST_S_HI (s / 2 ^ 32)
  let c2 := (c1.inc R.TWIN_CNT2_SWITCHOVERS).irq pgTwin twSwitch
  let c3 := c2.event pgTwin 0x17 0xFF 0 0 0 [f % 2 ^ 32, f / 2 ^ 32, s % 2 ^ 32, s / 2 ^ 32, c.reg R.TWIN_PEER_HEALTH]
  c3.scopesMod (fun t => { t with lastF := f, lastS := s })

/-- R427: what the handover record hands on. -/
def takeHanded (c : Ctl) : Ctl :=
  let l := c.tw.handed
  if l.length ≠ 480 then c
  else
    let c1 := c.each (upto 24) (fun n c => c.modTn n (fun t => { t with seq := fieldAt l (390 + n) 1 }))
    { c1 with pwr := { c1.pwr with bseq := fieldAt l 414 1 } }

/-- R427: on no head or laser lane does a CORRECTION or BRAKE block go out before the first sample. -/
def muteLanes (c : Ctl) : Ctl :=
  c.each (hlLanes.filter c.hasLane) (fun k c => c.modLn k (fun l => { l with mute := true }))

/-- NATIVE_SWITCHOVER (R425 to R427): the present tick is S. -/
def nativeSwitchover (c : Ctl) : Ctl :=
  if c.role = rTakeover ∧ ¬ c.duplicate ∧ c.nativeOk then
    let f := fieldAt c.tw.handed 0 6
    let c1 := takeChain (takeHanded (setRole rActive c))
    let c2 := (muteLanes c1).each (hlLanes.filter c.hasLane) (fun k c =>
      c.modLn k (fun l => { l with catchUp := some ((f + 1) % 2 ^ 48) }))
    twinEval ((switchLogged f c2).modTw (fun t => { t with handed := [], verified := false }))
  else c

/-- R428 step 3: the spot of spindle `n` rests at the planned point `p`. -/
def restAt (n : Nat) (p : PlanPt) (c : Ctl) : Ctl :=
  c.modSp n (fun s => { s with
    px := p.x * 65536, py := p.y * 65536, v := 0, a := 0, exec := none, stop := none, stopEnd := none })

/-- R428, R163: what is to be done again on a channel whose first uncovered point is `bp`; a channel braked before goes on from
where that brake left it, unless `bp` lies further back. -/
def Ctl.seamRedo (c : Ctl) (n : Nat) (bp : PlanPt) : List (Item × From) :=
  let old := if c.sst n = stBraking ∨ c.sst n = stBraked then (c.sp n).redo else []
  (c.redoAfter n bp).map (fun r => match old.find? (fun q => r.1.same q.1) with
    | some q => if q.2.reach < r.2.reach then q else r
    | none => r)

/-- R428 step 3: a channel whose sample for the first uncovered tick `u` is lit or lies in a run goes to BRAKED at the
planned point of the tick before, with its seam event. -/
def seamChannel (n u : Nat) (c : Ctl) : Ctl :=
  match c.pointAt n u with
  | none => c
  | some bp =>
    if ¬ (bp.lit ∨ bp.run ≠ 0) ∨ c.sst n = stDisabled then c
    else
      let rest := (c.pointAt n (tickBack u 1)).getD bp
      let c1 := (brakeAt n bp (c.seamRedo n bp) stBraked (restAt n rest) c).irq (pgSpindle n) 2
      c1.event pgTwin 0x09 n bp.tag bp.x bp.y [3, u % 2 ^ 32]

/-- R428: the first uncovered tick of a channel. -/
def Ctl.uncovered (c : Ctl) (n : Nat) : Nat :=
  if c.tw.handed.length = 480 then (fieldAt c.tw.handed 0 6 + 33) % 2 ^ 48 else tget c.tw.under n c.now

/-- R428 with R429: the brake engages, lit channels stop where they are. -/
def seamBrake (u : Nat → Nat) (c : Ctl) : Ctl :=
  let c1 := c.each (upto 24) (fun n c => seamChannel n (u n) c)
  (brakeSource brkSeam false c1).modTw (fun t => { t with seam := if c.is R.TWIN_CTRL_AUTO_RESUME then 1 else 0 })

/-- SEAM_SWITCHOVER (R425, R428): the present tick is S. -/
def seamSwitchover (c : Ctl) : Ctl :=
  if c.role = rTakeover ∧ ¬ c.duplicate ∧ c.tw.replay.isNone ∧ ¬ c.nativeOk then
    let f := if c.tw.handed.length = 480 then fieldAt c.tw.handed 0 6 else 0
    let c1 := muteLanes (takeChain (takeHanded (setRole rActive c)))
    let c2 := seamBrake c1.uncovered c1
    let c3 := (switchLogged f c2).inc R.TWIN_CNT2_SEAMS |>.irq pgTwin twSeam
    twinEval (c3.modTw (fun t => { t with handed := [], verified := false }))
  else c

/-- AUTO_RESUME (R429): once every spindle is BRAKED and nothing else holds the brake, it is released; the spindles
resume when it has been. -/
def autoResume (c : Ctl) : Ctl :=
  let run := (upto 24).filter (fun n => c.sst n != stDisabled && c.sst n != stStopped)
  if c.tw.seam = 1 ∧ c.is R.TWIN_CTRL_AUTO_RESUME ∧ run.all (fun n => c.sst n == stBraked) ∧ c.get R.GLOBAL_BRK_STAT_LEVELS = 0 then
    (release c).modTw (fun t => { t with seam := 2 })
  else c

/-- R429: after the tick edge that releases the brake every braked spindle resumes. -/
def seamResume (c : Ctl) : Ctl :=
  if c.tw.seam = 2 ∧ ¬ c.engaged then (c.each (upto 24) spResume).modTw (fun t => { t with seam := 0 }) else c

/-- DUPLICATE_TAKEOVER (R436): the present tick is S. -/
def duplicateTakeover (c : Ctl) : Ctl :=
  if c.role = rTakeover ∧ c.duplicate ∧ c.tw.replay.isNone then
    let f := if c.tw.handed.length = 480 then fieldAt c.tw.handed 0 6 else 0
    let lit := (upto 24).filterMap (fun n => match c.pointAt n c.now with
      | some p => if p.lit then some (n, ({ x := p.x, y := p.y, tag := p.tag } : GapPt)) else none
      | none => none)
    let c1 := takeChain (takeHanded (setRole rActive c))
    let c2 := c1.modTw (fun t => { t with
      aliveOut := !t.aliveOut, toggledAt := c.now, dupAt := c.now, gaps := hlLanes.filter c.hasLane, gapPts := lit })
    let c3 := if c.is R.TWIN_CTRL_DUP_BRAKE then seamBrake (fun _ => c.now) c2 else c2
    let c4 := (switchLogged f c3).inc R.TWIN_CNT2_SEAMS |>.irq pgTwin twSeam
    twinEval (c4.modTw (fun t => { t with handed := [], verified := false }))
  else c

/-- DUP_RELOCK (R436, R370): lane `k` has had no valid uplink since S. -/
def dupRelock (k : Nat) (c : Ctl) : Ctl :=
  if c.tw.gaps.contains k ∧ c.get1 R.TWIN_TIMING2_DUP_RELOCK ≤ c.sinceT c.tw.dupAt then
    if c.lst k ≠ lnActive then gapEnd k c
    else
      let c1 := laneLoss k lnDown (gapEnd k c)
      if isHead k then tentLaneLost k c1 else if isLaser k then ledgerLaneLost (k - 24) c1 else c1
  else c

end Sys2Proof.Machine
end

