-- ==== Sys2Proof/Machine/Power.lean ====
section
/-! DEFINITION. Reset and boot (R643 to R647, R612 to R616, R594, R309), the start-up order (R648 to R650), power states
(R652 to R660), die temperature (R661 to R665), supplies (R666 to R668). -/

namespace Sys2Proof.Machine

def Ctl.modPwr (c : Ctl) (f : PwrSt → PwrSt) : Ctl := { c with pwr := f c.pwr }

/-! ### Resets (R643 to R647) -/

/-- R644, R24: the device enters reset with a cause. What lies in the NVM, the fuses and the flash stays; every register,
buffer and memory loses what it held. -/
def fullReset (cause : Nat) (s : State) : State :=
  let c := s.ctl
  let fresh : Ctl := {
    half := c.half
    nv := c.nv
    drawn := c.drawn
    -- R460: the draws go on with another seed
    mc := c.mc.map (fun e => (e.1, { draws := e.2.draws }))
    host := { smbAddr := c.host.smbAddr }
    pwr := { inReset := true, released := c.pwr.released && cause != 1 }
    rc := { booted := false } }
  let bad := fun (f : Fld) (d : Ctl) => d.put f (c.get f)
  { s with
    mem := {}
    ctl := (fresh.put R.GLOBAL_RST_STAT_CAUSE cause) |> bad R.ID_STAT_BAD_A |> bad R.ID_STAT_BAD_B |> bad R.ID_STAT_INT_PRESENT
      |> bad R.ID_STAT_STORED_SVN |> bad R.ID_UID_LO_UID |> bad R.ID_UID_HI_UID }

/-- POWER_ON_RESET (R643, R644 cause 1). -/
def powerOnReset (s : State) : State := fullReset 1 s

/-- BROWN_OUT (R668). -/
def brownOut (s : State) : State := fullReset 3 s

/-- R652: the build is armed. -/
def Ctl.armed (c : Ctl) : Bool :=
  (upto 128).any (fun x => c.cst x != csDisabled) || c.is R.REC_STAT_BUILD_OPEN || c.is R.TWIN_CTRL_EN

/-- CHIP_RESET (R646). -/
def chipReset (s : State) : State :=
  if s.ctl.armed then { s with ctl := s.ctl.flag R.GLOBAL_RST_STAT_CHIP_RESET_REFUSED true } else fullReset 4 s

/-- WARM_PERST (R645): an assertion of PERST_N; with PERST_FULL 1 it begins the reset of cause 2. -/
def warmPerst (s : State) : State :=
  if s.ctl.is R.GLOBAL_RST_CTRL_PERST_FULL then fullReset 2 s
  else { s with ctl := linkDown (s.ctl.inc R.GLOBAL_RST_STAT_WARM_PERST) }

/-! ### Boot (R309, R579, R594, R597, R612 to R616) -/

/-- The first 256 bytes of a slot: pages that host software has programmed, else what the boot ROM reads there. -/
def Ctl.slotHeader (c : Ctl) (slot : Nat) (h : BootHeader) : List Byte :=
  match tget? c.nv.flash (slot * 4096) with
  | some pg => pg.take 256
  | none => h.bytes

/-- R614: a header is valid. -/
def Ctl.headerValid (c : Ctl) (l : List Byte) (bad : Bool) : Bool :=
  fieldAt l 0 4 == 0x464E4D4C && decide (fieldAt l 12 4 ≤ 2 ^ 23 - 4096) && Config.headerVerifies l &&
    decide (c.nv.svn ≤ fieldAt l 8 4) && !bad

/-- R614: the slot chosen, if a header is valid. -/
def Ctl.chooseSlot (c : Ctl) (a b : List Byte) : Option (Nat × List Byte) :=
  let va := c.headerValid a (c.is R.ID_STAT_BAD_A)
  let vb := c.headerValid b (c.is R.ID_STAT_BAD_B)
  if va ∧ (¬ vb ∨ fieldAt b 4 4 ≤ fieldAt a 4 4) then some (0, a)
  else if vb then some (1, b)
  else none

/-- R616: RECOVERY with its cause. -/
def enterRecovery (cause : Nat) (c : Ctl) : Ctl :=
  ((c.put R.ID_STAT_RECOVERY 1).put R.ID_STAT_BOOT_CAUSE cause).irq pgIdentity 6

/-- R309: the sequence number of the newest thermal-halt record (R307). -/
def NvSt.newestHalt (v : NvSt) : Nat := match v.halts.getLast? with | some b => fieldAt b 36 4 | none => 0

/-- R309, R579, R594, R597: the scans of the NVM. `fault`: 0 none, 3 a header area that cannot be read, 4 no response. -/
def nvScan (fault : Nat) (c : Ctl) : Ctl :=
  let f := if fault = 4 then some 4 else if fault = 3 ∨ c.nv.mark then some 3 else none
  let nv := c.nv
  let c1 := if fault = 4 then c.put R.GLOBAL_EPOCH_EPOCH 1
    else
      let c1 := c.put R.GLOBAL_EPOCH_EPOCH (match nv.topEpoch with | some e => (e + 1) % 65536 | none => 1)
      let c2 := c1.put R.REC_SEQ_NEXT (match nv.topSeq with | some q => (q + 1) % 2 ^ 32 | none => 0)
      let c3 := c2.put R.LEDGER_NV_HALTS_COUNT (min nv.halts.length 65535) |>.put R.LEDGER_NV_HALTS_LAST_SEQ (nv.newestHalt % 65536)
      { c3 with nv := { c3.nv with haltCount := nv.newestHalt }, rc := { c3.rc with
          life := nv.lifeScope
          buildNum := nv.buildNo
          wearHist := nv.wearHist
          wearAcc := nv.wearSaved
          wearFrom := tickBack 0 nv.wearPos } }
  let c2 := { c1 with nv := { c1.nv with bootCount := nv.bootCount + 1 }, rc := { c1.rc with bootFault := f } }
  (c2.setReg R.ID_UID_LO (nv.uid % 2 ^ 32) |>.setReg R.ID_UID_HI (nv.uid / 2 ^ 32) |>.put R.ID_STAT_STORED_SVN nv.svn |>.put R.ID_STAT_INT_PRESENT (b2n nv.intCert.isSome)).each (upto 80) (fun i c =>
    let h := tget c2.rc.wearHist i []
    if h.isEmpty then c else c.put (R.WEAR_CFG_POINTS i) h.length)

/-- DEVICE_RESET (R644, R42, R614, R615): reset is released; the boot ROM reads both headers. -/
def deviceReset (hA hB : BootHeader) (fault : Nat) (s : State) : State :=
  let c := s.ctl
  if ¬ c.pwr.inReset then s
  else
    let c1 := nvScan fault { c with tally := 0, pwr := { c.pwr with inReset := false, released := true } }
    let c2 := match c1.chooseSlot (c1.slotHeader 0 hA) (c1.slotHeader 1 hB) with
      | none => enterRecovery 1 c1
      | some (k, l) =>
        let c2 := c1.put R.ID_STAT_SLOT k |>.put R.ID_STAT_RUN_SVN (fieldAt l 8 4) |>.setReg R.ID_FW (fieldAt l 4 4)
        { c2 with ident := { c2.ident with fwVersion := fieldAt l 4 4, runSvn := fieldAt l 8 4 } }
    { s with ctl := c2 }

/-- R594, R599, R601: the recorder starts: a STORE_FAULT event if the boot check found one, then BOOT. -/
def recorderStarts (c : Ctl) : Ctl :=
  let top := (c.nv.topSeq).getD 0
  let c1 := { c with rc := { c.rc with booted := true } }
  let c2 := match c.rc.bootFault with
    | some f => Ctl.commitRec (c1.storeFault f false) (mk c1 0x02 [f, top, 0])
    | none => c1
  Ctl.commitRec c2 (mk c2 0x01 [c.nv.bootCount, top])
where
  /-- an EVENT record of the recorder page -/
  mk (c : Ctl) (cd : Nat) (args : List Nat) : Rec :=
    { tally := c.now, epoch := c.get R.GLOBAL_EPOCH_EPOCH, wall := c.wallNs, typ := 1, flags := c.recFlags, code := cd,
      body := eventBody pgRecorder 0xFF cd 0 0 0 args }

/-- BOOT_VERIFY_END (R614 to R616, R648 steps 1 and 2, R473). -/
def bootVerifyEnd (bodyOk : Bool) (c : Ctl) : Ctl :=
  if c.is R.GLOBAL_START_STAT_BOOT_DONE ∨ c.pwr.inReset then c
  else
    let done := fun (c : Ctl) => (c.flag R.GLOBAL_START_STAT_BOOT_DONE true).flag R.GLOBAL_START_STAT_PCIE_DONE true
    if c.is R.ID_STAT_RECOVERY then done c
    else if ¬ bodyOk then
      done (enterRecovery 2 (c.flag (if c.is R.ID_STAT_SLOT then R.ID_STAT_BAD_B else R.ID_STAT_BAD_A) true))
    else recorderStarts (trimLoad (done c))

/-! ### The start-up order (R648 to R650) -/

/-- The order runs: verification has ended and the device is not in RECOVERY. -/
def Ctl.orderRuns (c : Ctl) : Bool := c.is R.GLOBAL_START_STAT_BOOT_DONE && !c.is R.ID_STAT_RECOVERY && !c.pwr.stopped

/-- A lane is finished for the order: ACTIVE or ABSENT once started, or not to be started. -/
def Ctl.laneFinished (c : Ctl) (k : Nat) : Bool :=
  !c.hasLane k || !c.enabled (pgLane k) || c.xy2On k || c.lst k == lnActive || c.lst k == lnAbsent || c.lst k == lnElecIdle

/-- R650: the steps that have ended set their bits. -/
def startEnds (c : Ctl) : Ctl :=
  if ¬ c.orderRuns ∨ c.is R.GLOBAL_START_STAT_ALL_DONE then c
  else
    let mc := fun (m : Nat) => let st := c.get (R.MC_STAT_STATE m)
      st == mcService || st == mcFault || (st == mcOff && !c.enabled (pgMillrace m))
    let c1 := if c.pwr.step3End.isNone ∧ c.pwr.steps ≠ 0 ∧ mc 0 ∧ mc 1 then
        (c.flag R.GLOBAL_START_STAT_MC_DONE true).modPwr (fun p => { p with step3End := some c.now })
      else c
    if c1.pwr.step3End.isNone then c1
    else
      let all := fun (a n : Nat) => (upto n).all (fun i => c1.laneFinished (a + i))
      let twin := all 56 8
      let roles := twin && c1.role != rPairing && !(c1.is R.TWIN_CTRL_EN && c1.tw.up && c1.role == rUnpaired && !c1.tw.refused)
      let hl := c1.orderPermits (if c1.half then 11 else 23) && all 0 48
      let aux := c1.orderPermits 48 && all 48 8
      let set := fun (f : Fld) (b : Bool) (c : Ctl) => if b then c.flag f true else c
      let c2 := c1 |> set R.GLOBAL_START_STAT_TWIN_DONE twin |> set R.GLOBAL_START_STAT_ROLES_DONE roles
        |> set R.GLOBAL_START_STAT_HL_DONE hl |> set R.GLOBAL_START_STAT_AUX_DONE aux
      if twin ∧ roles ∧ hl ∧ aux ∧ (upto 64).all (fun k => !(c2.ln k).capOpen) then
        (c2.flag R.GLOBAL_START_STAT_ALL_DONE true |>.put R.GLOBAL_START_STAT_ALL_MS (min 65535 (c.now / 20000))).irq pgGlobal 4
      else c2

/-- START_STEP (R648): every step whose place has come begins. -/
def startStep (c : Ctl) : Ctl :=
  if ¬ c.orderRuns then c
  else
    let c1 := if c.pwr.steps = 0 then
        ((upto 2).filter (fun m => c.enabled (pgMillrace m) && c.get (R.MC_STAT_STATE m) == mcOff)).foldl (fun c m => c.mcGo m mcInit)
          (c.modPwr (fun p => { p with steps := 1 }))
      else c
    orderLanes (startEnds c1)

/-! ### Power states (R652 to R660) -/

/-- Exit times of the states, in ticks (R654's table). -/
def exitTicks (s : Nat) : Nat := if s = 1 then 40 else if s = 2 then 80000 else if s = 3 then 1200000 else 0

/-- R653: Lane-idle's conditions. -/
def Ctl.laneIdleOk (c : Ctl) : Bool :=
  let down := c.get R.GLOBAL_PWR_STAT_STATE
  !c.armed && (upto 64).all (fun k => let st := c.lst k
    st == lnActive || st == lnDown || st == lnAbsent || (down != 0 && st == lnElecIdle))

/-- R653: Deep-idle's and Dormant's conditions. -/
def Ctl.deepIdleOk (c : Ctl) : Bool :=
  let down := c.get R.GLOBAL_PWR_STAT_STATE
  c.laneIdleOk && !c.activePage pgLedger && !c.is R.FANTAIL_FAN_CTRL_TERR_EN &&
  (upto 8).all (fun i => !c.is (R.CAM_CTRL_EN (48 + i))) && !c.is R.GLOBAL_LDR_STAT_BUSY &&
  (upto 2).all (fun m => let st := c.get (R.MC_STAT_STATE m)
    st == mcService || st == mcFault || st == mcOff || (down != 0 && st == mcSelfRefresh))

/-- R654: a state is allowed and within the tolerance. -/
def Ctl.permits (c : Ctl) (s : Nat) : Bool :=
  s == 0 || (bitOf (c.get R.GLOBAL_PWR_CTRL_ALLOW) (s - 1) && decide (exitTicks s ≤ 20 * c.reg R.GLOBAL_PWR_TOL))

/-- R654: since when the conditions of each state have held. -/
def idleTrack (c : Ctl) : Ctl :=
  let ok := fun (i : Nat) => if i = 0 then c.laneIdleOk else c.deepIdleOk
  c.modPwr (fun p => { p with
    idleFrom := (upto 3).map (fun i => if ok i then some (((p.idleFrom[i]?).join).getD c.now) else none) })

/-- R654: the target. -/
def Ctl.powerTarget (c : Ctl) : Nat :=
  let held : Nat → Bool := fun s =>
    match (c.pwr.idleFrom[s - 1]?).join with
    | some t => decide (msTicks (c.get1 R.GLOBAL_PWR_CTRL_IDLE_HOLD_MS) ≤ c.sinceT t)
    | none => false
  if c.permits 3 && held 3 then 3 else if c.permits 2 && held 2 then 2 else if c.permits 1 && held 1 then 1 else 0

/-- The entry of a state (R651's table): lanes go to electrical idle, millraces to SELF_REFRESH. -/
def powerEnter (s : Nat) (c : Ctl) : Ctl :=
  let c1 := c.each (upto 64) laneIdle
  let c2 := if 2 ≤ s then c1.each ((upto 2).filter (fun m => c1.inService m)) (fun m c => c.mcGo m mcSelfRefresh) else c1
  (c2.put R.GLOBAL_PWR_STAT_STATE s).irq pgGlobal 5

/-- R655: the return to Ready starts; from Lane-idle the lanes make their fast exit at once. -/
def powerExit (c : Ctl) : Ctl :=
  if c.get R.GLOBAL_PWR_STAT_STATE = 0 ∨ c.pwr.exitFrom.isSome then c
  else
    let c1 := (c.flag R.GLOBAL_PWR_STAT_TRANSITION true |>.put R.GLOBAL_PWR_STAT_TARGET 0).modPwr (fun p => { p with exitFrom := some c.now })
    if c.get R.GLOBAL_PWR_STAT_STATE = 1 then c1.each (upto 64) laneWake else c1

/-- POWER_STATE_CHOICE (R654). -/
def powerChoice (c : Ctl) : Ctl :=
  if c.now % 20000 ≠ 0 ∨ c.pwr.exitFrom.isSome ∨ c.pwr.stopped then c
  else
    let t := c.powerTarget
    let s := c.get R.GLOBAL_PWR_STAT_STATE
    let c1 := c.put R.GLOBAL_PWR_STAT_TARGET t
    if s < t then powerEnter t c1 else if t < s then powerExit c1 else c1

/-- POWER_STATE_EXIT (R655, R656): the build is armed or about to be, or the present state is no longer permitted. -/
def powerStateExit (c : Ctl) : Ctl :=
  if c.armed ∨ c.pwr.heldWrites ≠ [] ∨ ¬ c.permits (c.get R.GLOBAL_PWR_STAT_STATE) then powerExit c else c

/-- Ticks from the start of an exit to the beginning of the sequence of R658. -/
def exitLead (s : Nat) : Nat := if s = 3 then 1120000 else 0

/-- R656 to R658: the spindle domain runs. -/
def Ctl.spindleOn (c : Ctl) : Bool :=
  let s := c.get R.GLOBAL_PWR_STAT_STATE
  !c.pwr.stopped && (decide (s < 2) || (match c.pwr.exitFrom with
    | some t => decide (exitLead s + 4000 ≤ c.sinceT t)
    | none => false))

/-- R658, R659, R469: the steps of an exit that fall due in a tick. -/
def exitTick (c : Ctl) : Ctl :=
  match c.pwr.exitFrom with
  | none => c
  | some t =>
    let s := c.get R.GLOBAL_PWR_STAT_STATE
    let e := c.sinceT t
    if s < 2 then c
    else if e = exitLead s + 4000 then
      c.each ((upto 2).filter (fun m => c.get (R.MC_STAT_STATE m) == mcSelfRefresh)) (fun m c =>
        (c.put (R.MC_STAT_TRAIN_STEP m) 4).mcMod m (fun t => { t with leaving := true }))
    else if e = exitLead s + 24000 then c.each (upto 64) laneWake
    else c

/-- PWR_CHG (R655, R656, R658): the exit is complete; writes held in Lane-idle take effect, in order.
R654: the hold begins anew. -/
def powerChanged (effect : Nat → Word → Ctl → Ctl) (c : Ctl) : Ctl :=
  match c.pwr.exitFrom with
  | none => c
  | some t =>
    let s := c.get R.GLOBAL_PWR_STAT_STATE
    let e := c.sinceT t
    let idle := (upto 64).any (fun k => c.lst k == lnElecIdle || c.lst k == lnWake)
    let asleep := (upto 2).any (fun m => c.get (R.MC_STAT_STATE m) == mcSelfRefresh)
    if idle ∨ asleep ∨ (2 ≤ s ∧ e < exitLead s + 78000) then c
    else
      let failed := (upto 64).any (fun k => let st := c.lst k
        st == lnDetect || st == lnTrain || st == lnLock || st == lnExchange || st == lnBackoff)
      let c1 := c.put R.GLOBAL_PWR_STAT_STATE 0 |>.flag R.GLOBAL_PWR_STAT_TRANSITION false |>.irq pgGlobal 5
      let c2 := if exitTicks s < e ∨ failed then c1.flag R.GLOBAL_PWR_STAT_WAKE_LATE true else c1
      let held := c2.pwr.heldWrites
      held.foldl (fun c w => effect w.1 w.2 c) (c2.modPwr (fun p => { p with
        exitFrom := none, heldWrites := [], idleFrom := [none, none, none] }))

/-- R656: a write that arms the build waits in Lane-idle. -/
def armingWrite (addr : Nat) (w : Word) (act : Ctl → Ctl) (c : Ctl) : Ctl :=
  if c.get R.GLOBAL_PWR_STAT_STATE = 1 then c.modPwr (fun p => { p with heldWrites := p.heldWrites ++ [(addr, w)] }) else act c

/-- R652: ARMED as read. -/
def showArmed (c : Ctl) : Ctl := if c.is R.GLOBAL_PWR_STAT_ARMED = c.armed then c else c.flag R.GLOBAL_PWR_STAT_ARMED c.armed

/-! ### Die temperature (R661 to R665) -/

/-- R665: WARN_C as it acts, in 1/16 degree. -/
def Ctl.warnC (c : Ctl) : Int := ((max 85 (min 110 (c.get R.DT_CTRL_WARN_C)) : Nat) : Int) * 16

/-- The hottest of the diodes, with its number; the lowest number of equal ones. -/
def hottest (l : List Int) : Nat × Int :=
  ((upto l.length).zip l).foldl (fun (b : Nat × Int) e => if b.2 < e.2 then e else b) (0, l.headD 0)

/-- R662: the warning after a round. -/
def dieWarning (hot : Nat) (t : Int) (c : Ctl) : Ctl :=
  let w := c.warnC
  let up := if w ≤ t then c.pwr.warnRun + 1 else 0
  let dn := if t ≤ w - 80 then c.pwr.coolRun + 1 else 0
  let c1 := c.modPwr (fun p => { p with warnRun := up, coolRun := dn })
  if ¬ c.is R.DT_STAT_WARN ∧ 10 ≤ up then
    ((((c1.inc R.DT_CNT_WARN_EVENTS).irq pgThermal 0).flag R.DT_STAT_WARN true).health 1 true).event pgThermal 0x1C 0xFF 0 0 0
      [1, hot, code 32 t]
  else if c.is R.DT_STAT_WARN ∧ 10 ≤ dn then
    ((c1.irq pgThermal 1).flag R.DT_STAT_WARN false).health 1 false
  else c1

/-- R663: the critical condition. -/
def dieCritical (hot : Nat) (t : Int) (late : Bool) (c : Ctl) : Ctl :=
  let run := if 1840 ≤ t then c.pwr.critRun + 1 else 0
  let c1 := c.modPwr (fun p => { p with critRun := run })
  if 10 ≤ run ∧ ¬ c.is R.DT_STAT_CRIT then
    let c2 := ((c1.flag R.DT_STAT_CRIT true).health 2 true).irq pgThermal 2
    let c3 := c2.event pgThermal 0x1C 0xFF 0 0 0 [2, hot, code 32 t]
    (brakeLevel brkDie true late c3).modPwr (fun p => { p with critAt := some c.now })
  else c1

/-- DIODE_ROUND (R661 to R663): the eight readings in 1/16 °C. -/
def diodeRound (temps : List Int) (late : Bool) (c : Ctl) : Ctl :=
  let h := hottest temps
  let c1 := ((upto temps.length).zip temps).foldl (fun c e => c.putS (R.DT_TEMP_TEMP e.1) e.2) c
  let peak := max (c1.getS R.DT_PEAK_PEAK) h.2
  let c2 := c1.put R.DT_STAT_HOT_DIODE h.1 |>.putS R.DT_STAT_T_MAX h.2 |>.putS R.DT_PEAK_PEAK peak
  let c3 := if c2.is R.REC_CTRL_WEAR_EN then
      { c2 with rc := { c2.rc with wearAcc := tmod c2.rc.wearAcc 0x72 (h.2, 0) (fun e => (max e.1 h.2, e.2 + 1)) } }
    else c2
  twinEval (dieCritical h.1 h.2 late (dieWarning h.1 h.2 c3))

/-- DIE_SHUTDOWN (R664): 400 ticks after the critical condition. -/
def dieShutdown (c : Ctl) : Ctl :=
  match c.pwr.critAt with
  | none => c
  | some t =>
    if c.pwr.stopped ∨ c.sinceT t < 400 then c
    else
      let c1 := c.each ((upto 64).filter (fun k => c.lst k != lnDown)) (fun k c => partnerDrop k ((c.put (R.LANE_STAT_STATE k) lnDown).setActive (pgLane k) false))
      let c2 := c1.each ((upto 2).filter (fun m => c1.inService m)) (fun m c => c.mcGo m mcSelfRefresh)
      (c2.flag R.DT_STAT_SHUTDOWN true).modPwr (fun p => { p with stopped := true })

/-- R584: metrics 86 and 87, every millisecond. -/
def powerMetrics (c : Ctl) : Ctl :=
  if c.now % 20000 = 0 then (c.metric 86 (c.getS R.DT_STAT_T_MAX)).metric 87 (c.get (R.RAIL_MV_MV 0) : Nat) else c

/-! ### Supplies (R666, R667) -/

/-- Nominal values of the rails in mV (R666, the supply table). -/
def railNominal : List Nat := [750, 800, 900, 1200, 1100, 1800, 3300]

/-- R667 for one rail. -/
def railSample (r mv : Nat) (c : Ctl) : Ctl :=
  let nom := railNominal.getD r 0
  let low := if mv * 100 < nom * 96 then tget c.pwr.railLow r 0 + 1 else 0
  let good := if nom * 98 < mv * 100 then tget c.pwr.railOk r 0 + 1 else 0
  let c1 := (c.put (R.RAIL_MV_MV r) mv).modPwr (fun p => { p with railLow := tput p.railLow r low, railOk := tput p.railOk r good })
  let warns := c.is (R.RAIL_MV_WARN r)
  if ¬ warns ∧ 2 ≤ low then ((c1.flag (R.RAIL_MV_WARN r) true).setBits R.RAIL_WARN (2 ^ r)).irq pgThermal 3
  else if warns ∧ 100 ≤ good then c1.flag (R.RAIL_MV_WARN r) false
  else c1

/-- RAIL_SAMPLE (R666, R667): the seven rails in mV. -/
def railSamples (mv : List Nat) (c : Ctl) : Ctl :=
  let c1 := ((upto mv.length).zip mv).foldl (fun c e => railSample e.1 e.2 c) c
  c1.health 14 ((upto 7).any (fun r => c1.is (R.RAIL_MV_WARN r)))

end Sys2Proof.Machine
end

