-- ==== Sys2Proof/Machine/BarAccess.lean ====
section
/-! DEFINITION. Reads of BAR0 (R14 to R25, R683 to R694), its refused accesses, and the table window (R192 to R194). -/

namespace Sys2Proof.Machine

/-- Where the table window begins (R682). -/
def winBase : Nat := 0x400000

/-- Whether a BAR0 offset lies in the table window. -/
def inWindow (a : Nat) : Bool := decide (winBase ≤ a) && decide (a < 0x800000)

/-- Whether a BAR0 offset lies in a page of R682. -/
def inPage (a : Nat) : Bool := inWindow a || (pageOf a).isSome

/-- R480: the MSI-X structures, which take aligned 64-bit accesses too (R480). -/
def inMsix (a : Nat) : Bool := decide (0xC00 ≤ a) && decide (a < 0xE08)

/-- R14, R480: a permitted size and alignment. -/
def sizeOk (a n : Nat) : Bool := (n == 4 && a % 4 == 0) || (n == 8 && a % 8 == 0 && inMsix a && inMsix (a + 7))

/-- R3: a page of an absent channel. -/
def Ctl.absentPage (c : Ctl) (a : Nat) : Bool :=
  match pageOf a with
  | some (.spindle, n, _) => !c.hasChan n
  | some (.lane, k, _) => !c.hasLane k
  | _ => false

/-- R616: a page that does not run in RECOVERY. -/
def Ctl.silentPage (c : Ctl) (a : Nat) : Bool :=
  c.is R.ID_STAT_RECOVERY && (match pageOf a with
    | some (.global, _, _) | some (.identity, _, _) | some (.thermal, _, _) => false
    | _ => true)

/-- R656, R664: a page that has stopped. -/
def Ctl.stoppedPage (c : Ctl) (a : Nat) : Bool :=
  let page : Option Page := (pageOf a).map (·.1)
  (c.pwr.stopped && (match page with
    | some .global | some .recorder | some .identity | some .thermal => false
    | _ => true)) ||
  (decide (2 ≤ c.get R.GLOBAL_PWR_STAT_STATE) && (match page with
    | some .global | some .sluice | some .axes | some .light | some .recorder | some .trim | some .identity
    | some .thermal => false
    | _ => true))

/-- What becomes of an access of permitted size. -/
inductive Access where
  | ok
  | zero
  /-- R690: a register from offset 0x40 onwards of a page in soft reset: a write is discarded -/
  | busy
  | refused (cause : Nat)
  deriving DecidableEq, Repr

/-- R690: the address lies from offset 0x40 onwards of a page whose soft reset is in progress. -/
def Ctl.inSoftReset (c : Ctl) (a : Nat) : Bool :=
  match pageOf a with
  | some (_, _, base) => decide (0x40 ≤ a - base) && c.is (R.BLK_STAT_SRST_BUSY base)
  | none => false

/-- R3, R616, R683, R684, R690. -/
def Ctl.access (c : Ctl) (a : Nat) : Access :=
  if ¬ inPage a then .refused 2
  else if c.absentPage a || c.silentPage a then .zero
  else if c.stoppedPage a then .refused 3
  else if c.inSoftReset a then .busy
  else .ok

/-- R15, R685: a refused access. -/
def accErr (write : Bool) (cause a : Nat) (c : Ctl) : Ctl :=
  let c1 := (c.setReg R.GLOBAL_ACC_ERR (2 ^ 31 + b2n write * 2 ^ 30 + cause % 4 * 2 ^ 28 + a % 2 ^ 24)).irq pgGlobal 0
  if write then c1 else c1.modHost (fun h => { h with lastRead := 0xFFFFFFFF })

/-! ### The table window -/

/-- Nodes of a grid bank (R192), and the bytes of the tables that the window shows. -/
def gridNodes : Nat := 129 * 129
def winSize (kind : Bool) : Nat := if kind then 1024 * 64 else gridNodes * 16

/-- The key of a node of the bank that TABLE_WIN selects. -/
def Ctl.winNode (c : Ctl) (off : Nat) : Nat :=
  (c.get R.GLOBAL_TABLE_WIN_SPINDLE * 2 + c.get R.GLOBAL_TABLE_WIN_BANK) * gridNodes + off / 16

/-- The key of the profile entry of the staging copy. -/
def Ctl.winProf (c : Ctl) (off : Nat) : Nat := c.get R.GLOBAL_PROF_CTRL_STAGED * 1024 + off / 64

/-- R177, R182, R194: a discarded write; its interrupt condition holds while VALID is set (R693). -/
def tableErr (cause off : Nat) (c : Ctl) : Ctl :=
  (c.setReg R.GLOBAL_TABLE_ERR (2 ^ 31 + cause * 2 ^ 24 + off % 2 ^ 22)).level pgGlobal 1 true

/-- R192 to R194: the word shown at window offset `off`. -/
def Ctl.tableRead (c : Ctl) (off : Nat) : Nat :=
  let kind := c.is R.GLOBAL_TABLE_WIN_KIND
  if winSize kind ≤ off then 0
  else if kind then fieldAt (tget c.tab.prof (c.winProf off) (zeros 64)) (off % 64) 4
  else if c.absent (c.get R.GLOBAL_TABLE_WIN_SPINDLE) then 0
  else
    let g := tget c.tab.grid (c.winNode off) (0, 0, 0)
    match off % 16 / 4 with
    | 0 => code 32 g.1
    | 1 => code 32 g.2.1
    | 2 => code 32 g.2.2
    | _ => 0

/-! ### Wide values and counters -/

/-- R21, R22: the offsets of the least significant words of values wider than 32 bits. -/
def wideLo : Page → List Nat
  | .global => [0x80, 0x200, 0x220, 0x228, 0x250, 0x258, 0x288, 0x290]
  | .millrace => [0x64]
  | .ctx => [0x4, 0x28]
  | .fantail => [0x60]
  | .ledger => [0x44]
  | .lane => [0x78, 0x84, 0x144]
  | .twin => [0x5C, 0x64, 0x6C]
  | .recorder => [0x6C, 0x74]
  | .identity => [0x40, 0x64]
  | _ => []

/-- The offset within a page, or within a context (R85). -/
def localOff (p : Page) (o : Nat) : Nat :=
  match p with
  | .ctx => if o < 0x40 then 0x1000 else (o - 0x40) % 0x40
  | _ => o

/-- The address is the least significant word of a wide value. -/
def isWideLo (a : Nat) : Bool :=
  match pageOf a with
  | some (p, _, base) => (wideLo p).contains (localOff p (a - base))
  | none => false

/-- The address is the more significant word of a wide value. -/
def isWideHi (a : Nat) : Bool := decide (4 ≤ a) && isWideLo (a - 4)

/-- The RC bits of a register. -/
def rcMask (a : Nat) : Nat :=
  match pageOf a with
  | none => 0
  | some (p, _, base) =>
    let o := localOff p (a - base)
    match p with
    | .global => if o = 0x114 then 0xFF00 else if o = 0x20C then 0xFFFF else if o = 0x26C then 0xFFFFFFFF else 0
    | .millrace => if o = 0x58 then 0xFFFF000F else if o = 0x5C then 0xFFFF0000
        else if o = 0x60 ∨ o = 0x6C ∨ o = 0x70 then 0xFFFFFFFF else 0
    | .ctx => if o = 0x38 ∨ o = 0x3C then 0xFFFFFFFF else 0
    | .spindle => if [0x84, 0x88, 0x8C, 0x128, 0x12C, 0x130].contains o then 0xFFFFFFFF else 0
    | .fantail => if [0x88, 0x8C, 0x90].contains o || (decide (0x100 ≤ o) && decide (o < 0x160)) then 0xFFFFFFFF else 0
    | .ledger => if [0x9C, 0xA0, 0xA4].contains o then 0xFFFFFFFF else 0
    | .lane => if o = 0x64 then 0xFF0000 else if o = 0x80 then 0xFFFF
        else if [0x68, 0x6C, 0x70, 0x8C, 0x118, 0x11C, 0x154].contains o then 0xFFFFFFFF else 0
    | .twin => if [0x78, 0x7C, 0x80].contains o then 0xFFFFFFFF else 0
    | .recorder => if o = 0x50 ∨ o = 0x54 then 0xFFFF0000 else 0
    | .axes => if [0x110, 0x130, 0x150, 0x170].contains o then 0xFFFF else 0
    | .light => if o = 0x64 then 0xFFFFFFFF else 0
    | .identity => if o = 0x74 then 0xFFFFFFFF else 0
    | .thermal => if o = 0x48 then 0xFFFF else if o = 0x4C then 0xFFFF0000 else 0
    | _ => 0

/-- R19: the RC bits of a register return to their reset value. -/
def rcClear (a : Nat) (c : Ctl) : Ctl :=
  let m := rcMask a
  if m = 0 then c else c.setReg a ((c.reg a &&& (0xFFFFFFFF ^^^ m)) ||| (regReset a &&& m))

/-! ### Which fields a write may set -/

/-- R86, R558, R574, R689 and the rings' own conditions: the RWL fields of the register are closed to writes. -/
def Ctl.locked (c : Ctl) (a : Nat) : Bool :=
  match pageOf a with
  | none => false
  | some (p, inst, base) =>
    let o := a - base
    match p with
    | .global => if 0x220 ≤ o ∧ o ≤ 0x230 then c.is R.GLOBAL_LDR_CFG_EN else if 0x250 ≤ o ∧ o ≤ 0x260 then c.is R.GLOBAL_LOG_CFG_EN
        else false
    | .hopper =>
      let g := (o - 0x100) / 4
      (upto 128).any (fun x => c.isShare x && c.cst x != csDisabled && c.bindOf x == g)
    | .ctx => c.cst (32 * inst + (o - 0x40) / 0x40) != csDisabled
    | .twin => !(c.role == rUnpaired || c.role == rFailed || c.role == rDetached)
    | .lane => if 0x140 ≤ o ∧ o < 0x158 then c.is (R.CAM_CTRL_EN inst) else if o = 0x180 then c.enabled base else c.activePage base
    | .identity => c.is R.NG_CTRL_EN
    | .axes => if 0x100 ≤ o ∧ o < 0x180 then c.is (R.ENC_CFG_EN ((o - 0x100) / 0x20))
        else if 0x200 ≤ o ∧ o < 0x600 then c.is (R.AX_CTRL_ENABLE ((o - 0x200) / 0x80)) else false
    | .light => c.enabled base
    | _ => c.activePage base

/-- The bits of a register that a write may set now. -/
def Ctl.openBits (c : Ctl) (a : Nat) : Nat :=
  match regRow a with
  | none => 0
  | some r => if c.locked a then r.rw else r.rw ||| r.rwl

/-! ### Writes that wait (R49, R52, R55, R411, R656, R679) -/

/-- The base of the page or sub-page that holds `a`; the table window and the space between pages are none. -/
def pageBase (a : Nat) : Option Nat := (pageOf a).map (fun p => p.2.2)

/-- The host's own writes that are held for four ticks (R411), oldest first: address and word. -/
def Ctl.heldCommands (c : Ctl) : List (Nat × Word) := c.tw.fwd.filterMap (fun f => f.host)

/-- A write to the page at `base` has been received whose own action is still to come: an ordered doorbell (R53), an
axis command (R537), a write that arms the build in Lane-idle (R656), a command of an ACTIVE device held four ticks
(R411), a release of the brake before its tick edge (R679). -/
def Ctl.writesInFlight (c : Ctl) (base : Nat) : Bool :=
  (base == pgHopper && !c.hop.ordDoorbells.isEmpty) || (base == pgAxes && !c.axCmds.isEmpty) ||
  (base == pgGlobal && c.pwr.release) || c.pwr.heldWrites.any (fun w => pageBase w.1 == some base) ||
  c.heldCommands.any (fun w => pageBase w.1 == some base)

/-- Writes that join the queue of those in flight on their page, which keeps their order: doorbells, AX_CMD, and the
commands of R411. -/
def Ctl.joins (c : Ctl) (a : Nat) : Bool :=
  match pageOf a with
  | some (.hopper, _, base) => a == base + 0x40 || a == base + 0x44
  | some (.axes, _, base) => decide (0x200 ≤ a - base ∧ a - base < 0x600) && (a - base) % 0x80 == 0x28
  | some (.ctx, _, base) => ((a - base) % 0x40 == 0 || (a - base) % 0x40 == 0x20) &&
      !c.pwr.heldWrites.any (fun w => pageBase w.1 == some base)
  | some (.spindle, _, base) => a == base + 0x48
  | some (.ledger, _, base) => a == base + 0x7C
  | some (.global, _, _) => a == R.GLOBAL_PROF_CTRL && !c.pwr.release
  | _ => false

/-- R49: a write at `a` waits, because one before it on its page does. -/
def Ctl.mustWait (c : Ctl) (a : Nat) : Bool :=
  match pageBase a with
  | none => false
  | some base => c.host.held.any (fun h => pageBase h.addr == some base) || (c.writesInFlight base && !c.joins a)

/-- R20: BRK_CMD.RELEASE written while a release is on its way to its tick edge has no effect: what is left of the word. -/
def Ctl.runningCleared (c : Ctl) (a : Nat) (w : Word) : Word :=
  if a = R.GLOBAL_BRK_CMD ∧ c.pwr.release then w &&& 1 else w

/-- R49: a write waits; `k` BAR2 writes were received before it and are not visible. -/
def Ctl.holdWrite (c : Ctl) (a k : Nat) (w : Word) : Ctl :=
  c.modHost (fun h => { h with held := h.held ++ [{ addr := a, word := c.runningCleared a w, bar2 := k }] })

/-- R52: the writes at `a` that wait, oldest first. -/
def Ctl.waitingAt (c : Ctl) (a : Nat) : List Word :=
  (c.pwr.heldWrites.filter (fun w => w.1 == a)).map (fun w => w.2) ++
  (c.heldCommands.filter (fun w => w.1 == a)).map (fun w => w.2) ++
  (c.host.held.filter (fun h => h.addr == a)).map (fun h => h.word)

/-- The W1S bits of a register: they read 1 while a write that sets them waits (R52). -/
def w1sBits (a : Nat) : Nat :=
  match pageOf a with
  | none => 0
  | some (p, _, base) =>
    let o := localOff p (a - base)
    if a - base = 0x8 then (if p = .ctx ∨ p.fixed then 0 else 2)
    else match p with
    | .global => if o = 0x94 then 2 ^ 31 else if o = 0x110 then 1 else if o = 0x124 ∨ o = 0x240 then 3 else 0
    | .millrace => if o = 0x44 then 2 ^ 31 else 0
    | .ctx => if o = 0x20 then 3 else 0
    | .spindle => if o = 0x48 then 3 else 0
    | .ledger => if o = 0x7C then 3 else 0
    | .lane => if o = 0x44 then 3 else if o = 0x94 then 3 * 2 ^ 30 else if o = 0x120 then 2 ^ 31 else 0
    | .twin => if o = 0x50 then 3 else 0
    | .recorder => if o = 0x44 then 3 else 0
    | .light => if o = 0x48 then 7 else 0
    | .trim => if o = 0x4C then 3 else 0
    | .identity => if o = 0x4C then 7 else if o = 0x7C then 3 else 0
    | _ => 0

/-- The RW fields of a register as they stand: those of the header too (R686, R687). -/
def Ctl.rwBits (c : Ctl) (a : Nat) : Nat :=
  match pageOf a with
  | none => 0
  | some (p, _, base) =>
    if a - base = 0x14 then 2 ^ p.irqBits - 1
    else if a - base = 0x8 then b2n (!p.fixed)
    else c.openBits a

/-- R52: the word of a register as it was last written, actions that have not taken effect included. -/
def Ctl.written (c : Ctl) (a : Nat) : Nat :=
  let m := c.rwBits a
  let put := fun (s : Nat) (v : Nat) (w : Word) => (v &&& (0xFFFFFFFF ^^^ m)) ||| (w.toNat &&& (m ||| s))
  -- R411: what a shadowing device has recorded stands for its RW fields
  let v0 := match c.shadows, tget? c.tw.wrote a with
    | true, some w => put 0 (c.reg a) w
    | _, _ => c.reg a
  (c.waitingAt a).foldl (put (w1sBits a)) v0

/-- TABLE_WINDOW_WRITE (R177, R182, R192 to R194). A grid write for an absent spindle is reported with cause 3 beyond the table
too (log entry 108). -/
def tableWrite (off : Nat) (w : Word) (c : Ctl) : Ctl :=
  if c.is R.GLOBAL_TABLE_WIN_KIND then
    if winSize true ≤ off then c
    -- R182: PUBLISH reads 1, a command held four ticks included (R411)
    else if bitOf (c.written R.GLOBAL_PROF_CTRL) 31 then tableErr 2 off c
    else
      let k := c.winProf off
      let e := tget c.tab.prof k (zeros 64)
      let e' := e.take (off % 64) ++ leBytes 4 w.toNat ++ e.drop (off % 64 + 4)
      { c with tab := { c.tab with prof := tput c.tab.prof k e' } }
  else
    let n := c.get R.GLOBAL_TABLE_WIN_SPINDLE
    if c.absent n then tableErr 3 off c
    else if winSize false ≤ off then c
    else if c.get (R.SPINDLE_STAT_BANK n) = c.get R.GLOBAL_TABLE_WIN_BANK ∧ c.sst n ≠ stStopped then tableErr 1 off c
    else
      let k := c.winNode off
      let g := tget c.tab.grid k (0, 0, 0)
      let v := sgn 20 w.toNat
      let g' := match off % 16 / 4 with
        | 0 => (v, g.2.1, g.2.2)
        | 1 => (g.1, v, g.2.2)
        | 2 => (g.1, g.2.1, v)
        | _ => g
      { c with tab := { c.tab with grid := tput c.tab.grid k g' } }

/-- R57: a BAR0 write to any page has not taken effect. -/
def Ctl.anyWaits (c : Ctl) : Bool :=
  !c.hop.ordDoorbells.isEmpty || !c.axCmds.isEmpty || c.pwr.release || !c.pwr.heldWrites.isEmpty || !c.host.held.isEmpty ||
  !c.pwr.srst.isEmpty || !c.heldCommands.isEmpty

/-! ### Accesses that are not refused -/

/-- A write of BAR0 at `a`, the word `w`, that is to have the effect `f` once every write before it on its page has had
its own (R49). -/
def guardW (a : Nat) (w : Word) (f : Ctl → Ctl) (c : Ctl) : Ctl :=
  match c.access a with
  | .ok => if c.mustWait a then c.holdWrite a 0 w else f c
  | .zero | .busy => c
  | .refused n => accErr true n a c

/-- The same for an effect that reaches the DRAM side. -/
def guardWS (a : Nat) (w : Word) (f : State → State) (s : State) : State :=
  match s.ctl.access a with
  | .ok => if s.ctl.mustWait a then { s with ctl := s.ctl.holdWrite a s.mem.bar2.length w } else f s
  | .zero | .busy => s
  | .refused n => { s with ctl := accErr true n a s.ctl }

/-- A read of BAR0 at `a` that is to have the effect `f`. -/
def guardR (a : Nat) (f : State → State) (s : State) : State :=
  match s.ctl.access a with
  | .ok | .busy => f s
  | .zero => { s with ctl := s.ctl.modHost (fun h => { h with lastRead := 0 }) }
  | .refused n => { s with ctl := accErr false n a s.ctl }

/-! ### What registers show -/

/-- R589: the scope that the window shows. -/
def Ctl.shownScope (c : Ctl) : Scope :=
  let live := [c.rc.layer, c.rc.last, c.rc.build, c.rc.life]
  let l := match c.rc.frozen with
    | some f => f.scopes
    | none => live
  l.getD (c.get R.REC_HSEL_SCOPE) {}

/-- R585: the histogram that the window shows. -/
def Ctl.shownHist (c : Ctl) : Hist :=
  let m := c.get R.REC_HSEL_METRIC
  if m < 96 then tget c.shownScope.hists m {} else {}

/-- A page of the recorder as read. -/
def Ctl.showRecorder (c : Ctl) (a o : Nat) : Nat :=
  let h := c.shownHist
  if o = 0x64 then code 32 h.mn
  else if o = 0x68 then code 32 h.mx
  else if o = 0x6C then code 64 h.sum % 2 ^ 32
  else if o = 0x70 then code 64 h.sum / 2 ^ 32
  else if o = 0x74 then h.count % 2 ^ 32
  else if o = 0x78 then h.count / 2 ^ 32
  else if o = 0x7C then h.scale * 2 ^ 24 + (if c.get R.REC_HSEL_SCOPE < 2 then c.shownScope.tag else 0)
  else if o = 0x80 then (c.reg a / 2 ^ 16) * 2 ^ 16 + min (c.sinceT c.rc.wearFrom / 20000000) 28799
  else if 0x100 ≤ o ∧ o < 0x200 then tget h.bins ((o - 0x100) / 4) 0
  else if 0x200 ≤ o ∧ o < 0x240 then
    match c.rc.fallback[c.get R.REC_FB_SEL]? with
    | some b => fieldAt b (o - 0x200) 4
    | none => 0
  else c.written a

/-- The sluice page as read. -/
def Ctl.showSluice (c : Ctl) (a o : Nat) : Nat :=
  if 0xE0 ≤ o ∧ o < 0x100 then
    match c.stack ((o - 0xE0) / 4) with
    | [] => 0
    | (src, p) :: t => (t.length + 1) * 2 ^ 16 + src * 2 ^ 8 + p
  else if 0x140 ≤ o ∧ o < 0x160 then
    let g := (o - 0x140) / 4
    maskOf ((upto 24).filter (fun i => c.srcPending (64 + 24 * g + i)))
  else if 0x180 ≤ o ∧ o < 0x1A0 then
    let g := (o - 0x180) / 4
    c.reg a &&& maskOf ((upto 24).filter (fun i => c.srcExists (64 + 24 * g + i) || !c.half))
  else if 0x800 ≤ o ∧ o < 0xC00 then
    let n := (o - 0x800) / 4
    b2n (c.srcPending n) * 2 ^ 31 + b2n (bitOf c.slu.claimed n) * 2 ^ 30 + b2n (c.srcFiltered n) * 2 ^ 29 +
      b2n (c.srcRaw n) * 2 ^ 28 + c.get (R.SLUICE_SRC_STAT_OVERFLOW n) * 2 ^ 27 + b2n (bitOf c.slu.latch n) * 2 ^ 26 +
      tget c.slu.counts n 0
  else c.written a

/-- R25, R690: a write to the page at `base` has not taken effect. -/
def Ctl.pageWaits (c : Ctl) (base : Nat) : Bool :=
  c.writesInFlight base || c.is (R.BLK_STAT_SRST_BUSY base) || c.host.held.any (fun h => pageBase h.addr == some base)

/-- The word that a register shows now. -/
def State.readWord (s : State) (a : Nat) : Nat :=
  let c := s.ctl
  if inWindow a then c.tableRead (a - winBase)
  else
    match pageOf a with
    | none => 0
    | some (p, m, base) =>
      let o := a - base
      if o < 0x40 then
        if o = 0x1C then b2n (c.pageWaits base)
        else if p = .ctx ∧ 8 ≤ o then 0
        else if o < 0x1C then c.written a else 0
      else
        match p with
        | .global =>
          if o = 0x40 then c.chipId
          else if o = 0x80 then c.now % 2 ^ 32
          else if o = 0x84 then c.now / 2 ^ 32
          else if o = 0x88 then
            b2n (!s.mem.bar2.isEmpty) * 2 + b2n c.anyWaits
          else if o = 0x108 then (showArmed c).reg a
          else if o = 0x288 then c.wallNs % 2 ^ 32
          else if o = 0x28C then c.wallNs / 2 ^ 32
          else if o = 0xE00 then c.host.msixPend % 2 ^ 16
          else c.written a
        | .sluice => c.showSluice a o
        | .millrace =>
          if o = 0x4C ∧ a ≠ R.MC_MAP 0 then 0
          else if o = 0x58 then (c.refreshShown m).written a
          else c.written a
        | .recorder => c.showRecorder a o
        | .lane =>
          if o = 0x54 then
            let t := c.reg (a + 4)
            if bitOf t 31 then t % 2 ^ 22 else splice (c.reg a) 16 6 (slice t 16 6)
          else c.written a
        | .fantail =>
          if a = R.FANTAIL_GRANTED then c.spotMask false
          else if a = R.FANTAIL_WAITING then c.spotMask true
          else c.written a
        | .identity =>
          if 0x400 ≤ o ∧ o < 0xC00 then c.winWord ((o - 0x400) / 4)
          else if a = R.ID_WIN_SEL then (c.put R.ID_WIN_SEL_LEN c.winLen).written a
          else c.written a
        | _ => c.written a

/-- R21: the word that a read returns, the captured one for a more significant word. -/
def State.readValue (s : State) (a : Nat) : Nat :=
  if isWideHi a then (match tget? s.ctl.host.captured a with
    | some w => w.toNat
    | none => s.readWord a)
  else s.readWord a

/-- A read by host software of the register at `a` (R19, R21). -/
def State.regRead (s : State) (a : Nat) : State :=
  let v := BitVec.ofNat 32 (s.readValue a)
  let hi := BitVec.ofNat 32 (s.readWord (a + 4))
  let c := s.ctl.modHost (fun h => { h with
    lastRead := v
    captured := if isWideLo a then tput h.captured (a + 4) hi else h.captured })
  { s with ctl := rcClear a c }

/-- The claim context whose CTX_CLAIM is at `a`. -/
def claimAt (a : Nat) : Option Nat :=
  if 0x100A0 ≤ a ∧ a < 0x100C0 then some ((a - 0x100A0) / 4) else none

/-- A read by host software at a permitted address. -/
def State.hostRead (a : Nat) (s : State) : State :=
  guardR a (fun s =>
    match claimAt a with
    | some x => { s with ctl := ctxClaim x s.ctl }
    | none => s.regRead a) s

end Sys2Proof.Machine
end

