-- ==== Sys2Proof/Machine/HostWrite.lean ====
section
/-! DEFINITION. Writes of BAR0 (R16 to R22, R49 to R58, R86, R558, R574, R688 to R692): the fields that a write sets, and
the action of every register that has one. -/

namespace Sys2Proof.Machine

/-! ### Fields -/

/-- The W1C bits of a register. -/
def w1cBits (a : Nat) : Nat := ((regRow a).map (·.w1c)).getD 0

/-- R16 and the access types: the fields of a register that the write `w` sets or clears, `keep` left out. -/
def putFields (a keep : Nat) (w : Word) (c : Ctl) : Ctl :=
  let m := c.openBits a &&& (0xFFFFFFFF ^^^ keep)
  let clr := w1cBits a &&& w.toNat
  if m = 0 ∧ clr = 0 then c
  else c.setReg a ((((c.reg a &&& (0xFFFFFFFF ^^^ m)) ||| (w.toNat &&& m)) &&& (0xFFFFFFFF ^^^ clr)))

/-- R22: the write of a least significant word commits the words staged before it. -/
def commitWide (a : Nat) (w : Word) (c : Ctl) : Ctl :=
  let c1 := match tget? c.host.stagedHi (a + 4) with
    | some h => putFields (a + 4) 0 h c
    | none => c
  (putFields a 0 w c1).modHost (fun h => { h with stagedHi := tdel h.stagedHi (a + 4) })

/-! ### The common header (R686 to R692) -/

/-- R690: the registers of a page from offset 0x40 return to their reset words; the sine table is loaded again. -/
def pageReset (p : Page) (base : Nat) (c : Ctl) : Ctl :=
  let live := fun (a : Nat) => a == R.GPI_STATE || a == R.GPI_RAW
  let c1 := { c with regs := c.regs.filter (fun e =>
    !(decide (base + 0x40 ≤ e.1) && decide (e.1 < base + p.size)) || live e.1) }
  let c2 := (c1.setReg (R.BLK_IRQ_EN base) 0).setReg (R.BLK_IRQ_STAT base) (c1.reg (R.BLK_IRQ_RAW base))
  let c3 := (c2.flag (R.BLK_STAT_SRST_REFUSED base) false).flag (R.BLK_CTRL_ENABLE base) false
  match p with
  | .sluice => ({ c3 with slu := {} } : Ctl).setReg (R.BLK_IRQ_RAW base) 0 |>.setReg (R.BLK_IRQ_STAT base) 0
  | .axes => loadSine { c3 with ax := [], axCmds := [] }
  | _ => c3

/-- R690: the whole ticks that lie in the 64 clocks of a page's soft reset. -/
def Ctl.resetTicks (c : Ctl) (p : Page) (base : Nat) : Nat :=
  match p with
  | .millrace => if c.get (R.MC_CTRL_RATE ((base - 0x20000) / 0x1000)) = 2 then 1 else 0
  | .lane => if c.is (R.LANE_CTRL_RATE ((base - 0xD0000) / 0x400)) then 13 else 6
  | .axes | .light => 5
  | _ => 1

/-- R690: an accepted soft reset: the registers return at once; SRST_BUSY reads 1 for the ticks that follow. -/
def resetPage (p : Page) (base : Nat) (c : Ctl) : Ctl :=
  let n := c.resetTicks p base
  let c1 := pageReset p base c
  if n = 0 then c1
  else (c1.flag (R.BLK_STAT_SRST_BUSY base) true).modPwr (fun q => { q with srst := tput q.srst base ((c.now + n) % 2 ^ 48) })

/-- R690: soft resets that are complete. -/
def resetsDone (c : Ctl) : Ctl :=
  let done := c.pwr.srst.filter (fun e => e.2 == c.now)
  (c.modPwr (fun q => { q with srst := q.srst.filter (fun e => e.2 != c.now) })).each (done.map (·.1)) (fun base c =>
    c.flag (R.BLK_STAT_SRST_BUSY base) false)

/-- R688: BLK_CTRL.ENABLE of a page written `en`. -/
def blkEnable (p : Page) (inst : Nat) (en : Bool) (c : Ctl) : Ctl :=
  match p with
  | .sluice => sluiceEnable en c
  | .millrace => millraceEnable inst en c
  | .spindle => if en then spindleEnable inst c else spindleDisable inst c
  | .fantail => (c.flag (R.BLK_CTRL_ENABLE pgFantail) en).setActive pgFantail en
  | .ledger => if en then ledgerEnable c else ledgerDisable c
  | .lane => if en then laneEnable inst c else laneDisable inst c
  | .axes => axesEnable en c
  | .light => lightEnable en c
  | _ => c

/-- R690, R688, R589: a write of BLK_CTRL. -/
def blkCtrl (p : Page) (inst base : Nat) (w : Word) (c : Ctl) : Ctl :=
  if p = .recorder then freeze (bitOf w.toNat 2) c
  else if p.fixed then c
  else if bitOf w.toNat 1 then
    if c.is (R.BLK_STAT_SRST_BUSY base) then c
    else if c.activePage base ∨ bitOf w.toNat 0 then c.flag (R.BLK_STAT_SRST_REFUSED base) true else resetPage p base c
  else if c.enabled base = bitOf w.toNat 0 then c
  else blkEnable p inst (bitOf w.toNat 0) c

/-- SOFT_RESET (R690): a write of SOFT_RESET 1 with the given ENABLE at the page that holds `a`. -/
def softReset (a : Nat) (en : Bool) (c : Ctl) : Ctl :=
  match pageOf a with
  | some (p, inst, base) => if p.fixed then c else blkCtrl p inst base (BitVec.ofNat 32 (2 + b2n en)) c
  | none => c

/-- A write of a header word. -/
def headerWrite (p : Page) (inst base o : Nat) (w : Word) (c : Ctl) : Ctl :=
  if p = .ctx then c
  else if o = 0x8 then blkCtrl p inst base w c
  else if o = 0xC then (if bitOf w.toNat 31 then c.flag (R.BLK_STAT_SRST_REFUSED base) false else c)
  else if o = 0x14 then c.setReg (R.BLK_IRQ_EN base) (w.toNat % 2 ^ p.irqBits)
  else if o = 0x18 then
    c.setReg (R.BLK_IRQ_STAT base) ((c.reg (R.BLK_IRQ_STAT base) &&& (0xFFFFFFFF ^^^ w.toNat)) ||| c.reg (R.BLK_IRQ_RAW base))
  else c

/-! ### Commands that a pair forwards (R411) and writes that arm the build (R656) -/

/-- A doorbell that follows `k` BAR2 writes not yet visible (R53, R55): it waits for them and for the doorbells before it. -/
def ringBehind (k a : Nat) (w : Word) (c : Ctl) : Ctl :=
  if c.hop.ordDoorbells.isEmpty ∧ k = 0 then doorbellPair (some (a, w)) w.toNat c
  else { c with hop := { c.hop with ordDoorbells := c.hop.ordDoorbells ++ [(w.toNat, k)] } }

/-- DOORBELL (R54, R55, R411): the write of HOPPER.DOORBELL. -/
def ringDoorbell (w : Word) (c : Ctl) : Ctl := ringBehind 0 R.HOPPER_DOORBELL w c

/-- R100, R411: a doorbell that the loader rings: no write of a page (R49), so it waits for none. -/
def ringLoader (w : Word) (c : Ctl) : Ctl := doorbellPair none w.toNat c

/-- DOORBELL_ORD (R53, R411). -/
def ringOrdered (w : Word) (s : State) : State :=
  { s with ctl := ringBehind s.mem.bar2.length R.HOPPER_DOORBELL_ORD w s.ctl }

/-- ORDERED_DOORBELL_EFFECT (R53, R55, R411): the oldest waiting doorbell, once the BAR2 writes before it are visible. -/
def orderedRings (c : Ctl) : Ctl :=
  match c.hop.ordDoorbells with
  | (w, 0) :: rest => doorbellPair (some (R.HOPPER_DOORBELL_ORD, BitVec.ofNat 32 w)) w { c with hop := { c.hop with ordDoorbells := rest } }
  | _ => c

/-- R411: CTX[x].CTRL at a shadowing device: only ENABLE is a command that it leaves to the active. -/
def shadowFields (x : Nat) (w : Word) (c : Ctl) : Ctl := if c.shadows then ctxCtrlFields x w c else c

/-- A write of CTX[x].CTRL with ENABLE 1 (R87, R411, R656). -/
def ctxOn (x : Nat) (w : Word) (c : Ctl) : Ctl :=
  armingWrite (R.CTX_CTRL x) w
    (fun c => forwarded 3 (x + 256) (R.CTX_CTRL x, w) (streamEnable x w) (shadowFields x w c)) c

/-- A write of CTX[x].CTRL with ENABLE 0 (R89, R411). -/
def ctxOff (x : Nat) (w : Word) (c : Ctl) : Ctl :=
  forwarded 3 x (R.CTX_CTRL x, w) (streamDisable x w) (shadowFields x w c)

/-- A write of CTX[x].ACTION (R90, R411). -/
def ctxAction (x : Nat) (skip resume : Bool) (c : Ctl) : Ctl :=
  if skip ∨ resume then
    forwarded 2 (x + 256 * b2n skip + 512 * b2n resume) (R.CTX_ACTION x, BitVec.ofNat 32 (b2n resume + 2 * b2n skip))
      (streamAction x skip resume) c
  else c

/-- RESUME (R90, R411). -/
def ctxResume (x : Nat) (c : Ctl) : Ctl := ctxAction x false true c

/-- SKIP (R90, R411). -/
def ctxSkip (x : Nat) (c : Ctl) : Ctl := ctxAction x true false c

/-- BRAKE_RESUME (R163, R411): with the brake released. -/
def cmdBrakeResume (n : Nat) (c : Ctl) : Ctl :=
  forwarded 4 (n + 512) (R.SPINDLE_CMD n, 2) (fun c => if c.engaged then c else spResume n c) c

/-- CMD.GRID_SWAP (R176, R411). -/
def cmdGridSwap (n : Nat) (c : Ctl) : Ctl := forwarded 4 (n + 256) (R.SPINDLE_CMD n, 1) (gridSwap n) c

/-- LEDGER.CMD.HALT_CLEAR and MP_CLEAR (R308, R312, R411). -/
def cmdHaltClear (c : Ctl) : Ctl := forwarded 5 256 (R.LEDGER_CMD, 1) haltClear c
def cmdMpClear (n : Nat) (c : Ctl) : Ctl := forwarded 5 (n + 512) (R.LEDGER_CMD, BitVec.ofNat 32 (2 + n * 2 ^ 16)) (mpClear n) c

/-- PROF_CTRL.PUBLISH (R180, R411). -/
def cmdPublish (c : Ctl) : Ctl := forwarded 6 0 (R.GLOBAL_PROF_CTRL, 0x80000000) publish c

/-- A write of BRK_CMD (R672, R679); at a shadowing device it is recorded, and the brake follows the active's (R411, R413). -/
def brkCmd (late : Bool) (w : Word) (c : Ctl) : Ctl :=
  if c.shadows then recordCmd (R.GLOBAL_BRK_CMD, w) c
  else
    let c1 := if bitOf w.toNat 0 then engage late c else c
    if bitOf w.toNat 1 then release c1 else c1

/-- TWIN.CTRL.EN written (R398, R656). -/
def twinSwitch (w : Word) (c : Ctl) : Ctl :=
  let en := bitOf w.toNat 31
  if c.locked R.TWIN_CTRL ∨ (en ∧ c.is R.TWIN_CTRL_EN) then c
  else if en then armingWrite R.TWIN_CTRL w (twinEnable true) c else twinEnable false c

/-- BUILD_OPEN (R588, R656). -/
def cmdBuildOpen (c : Ctl) : Ctl := armingWrite R.REC_CMD 1 buildOpen c

/-! ### Pages -/

/-- The Global page. -/
def writeGlobal (o : Nat) (w : Word) (c : Ctl) : Ctl :=
  let v := w.toNat
  let on := fun (k : Nat) (f : Ctl → Ctl) (c : Ctl) => if bitOf v k then f c else c
  if o = 0x94 then on 31 cmdPublish c
  else if o = 0x98 then
    let c1 := putFields o 0 w c
    c1.level pgGlobal 1 (bitOf (c1.reg R.GLOBAL_TABLE_ERR) 31)
  else if o = 0x124 then brkCmd false w c
  else if o = 0x200 then bar2WinWrite w c
  else if o = 0x230 then ldrEnable w c
  else if o = 0x234 then ldrDb w c
  else if o = 0x240 then on 1 ldrAbort (on 0 ldrResume c)
  else if o = 0x260 then (if bitOf v 31 then logEnable w c else logDisable w c)
  else if o = 0x280 then
    let c1 := putFields o 0 w c
    if bitOf v 31 then c1 else c1.modHost (fun h => { h with ptmSynced := false })
  else if o = 0x290 then wallSet w c
  else if 0xC00 ≤ o ∧ o < 0xE00 ∧ o % 16 = 12 then
    let c1 := putFields o 0 w c
    if c.is (R.MSIX_MASK ((o - 0xC00) / 16)) ∧ ¬ bitOf v 0 then c1.msixUnmask ((o - 0xC00) / 16) else c1
  else putFields o 0 w c

/-- The sluice page. -/
def writeSluice (o : Nat) (w : Word) (c : Ctl) : Ctl :=
  let v := w.toNat
  if o = 0x40 then (if bitOf v 8 then swPendClear (v % 256) c else swPendSet (v % 256) c)
  else if 0x80 ≤ o ∧ o < 0xA0 then ctxThreshWrite ((o - 0x80) / 4) (v % 16) c
  else if 0xC0 ≤ o ∧ o < 0xE0 then
    if bitOf v 31 then ctxCompleteFlush ((o - 0xC0) / 4) c else ctxComplete ((o - 0xC0) / 4) (v % 256) c
  else if 0x160 ≤ o ∧ o < 0x180 then scanAck ((o - 0x160) / 4) (v % 2 ^ 24) c
  else
    let c1 := putFields (pgSluice + o) 0 w c
    let c2 := if o = 0x44 then c1.level pgSluice 0 (c1.is R.SLUICE_ERR_VALID) else c1
    if c2.sluOn then c2.sluEval else c2

/-- A millrace page. -/
def writeMillrace (m o : Nat) (w : Word) (c : Ctl) : Ctl :=
  let v := w.toNat
  let a := pgMillrace m + o
  if o = 0x44 then
    let c1 := putFields a 0x60000000 w c
    let c2 := if slice v 29 2 = c.get (R.MC_CTRL_RATE m) then c1 else mcRateWrite m (slice v 29 2) c1
    if bitOf v 31 then mcRetrain m c2 else c2
  else if o = 0x4C then (if m = 1 then c else mapErr (putFields a 0 w c))
  else putFields a 0 w c

/-- A context: `x`, and the offset within its 64 bytes. -/
def writeCtx (x o : Nat) (w : Word) (c : Ctl) : Ctl :=
  let v := w.toNat
  if o = 0x0 then (if bitOf v 31 then ctxOn x w c else ctxOff x w c)
  else if o = 0x20 then ctxAction x (bitOf v 1) (bitOf v 0) c
  else putFields (R.ctxBase x + o) 0 w c

/-- A spindle page. -/
def writeSpindle (n o : Nat) (w : Word) (c : Ctl) : Ctl :=
  let v := w.toNat
  if o = 0x48 then
    let c1 := if bitOf v 0 then cmdGridSwap n c else c
    if bitOf v 1 then cmdBrakeResume n c1 else c1
  else putFields (pgSpindle n + o) 0 w c

/-- The ledger page. -/
def writeLedger (o : Nat) (w : Word) (c : Ctl) : Ctl :=
  let v := w.toNat
  if o = 0x7C then
    let c1 := if bitOf v 0 then cmdHaltClear c else c
    if bitOf v 1 then cmdMpClear (slice v 16 5) c1 else c1
  else if o = 0x84 ∨ o = 0x90 then ledgerW1c (pgLedger + o) (w &&& BitVec.ofNat 32 (w1cBits (pgLedger + o))) c
  else putFields (pgLedger + o) 0 w c

/-- A lane's sub-page. -/
def writeLane (k o : Nat) (w : Word) (c : Ctl) : Ctl :=
  let v := w.toNat
  let a := pgLane k + o
  if o = 0x40 then laneRateWrite k (bitOf v 2) (putFields a 4 w c)
  else if o = 0x44 then
    let c1 := if bitOf v 1 then retrain k c else c
    if bitOf v 0 then laneStart k c1 else c1
  else if o = 0x74 then laneTestMode k v c
  else if o = 0x94 then
    let c1 := putFields a 0 w c
    let c2 := if bitOf v 30 then injStop k c1 else c1
    if bitOf v 31 ∧ ¬ c2.is (R.LANE_INJ_CTL_GO k) then injGo k c2 else c2
  else if o = 0x120 then
    let c1 := putFields a 0 w c
    if bitOf v 31 then mgmtGo k c1 else c1
  else if o = 0x140 then camEnable k v c
  else if o = 0x180 then xy2Enable k v c
  else putFields a 0 w c

/-- The twin page. -/
def writeTwin (o : Nat) (w : Word) (c : Ctl) : Ctl :=
  let v := w.toNat
  let a := pgTwin + o
  if o = 0x40 then twinSwitch w (putFields a (2 ^ 31) w c)
  else if o = 0x50 then
    let c1 := if bitOf v 1 then solo c else c
    if bitOf v 0 then handoverCmd c1 else c1
  else putFields a 0 w c

/-- The recorder page. -/
def writeRecorder (o : Nat) (w : Word) (c : Ctl) : Ctl :=
  let v := w.toNat
  if o = 0x44 then
    let c1 := if bitOf v 1 then buildClose c else c
    if bitOf v 0 then cmdBuildOpen c1 else c1
  else if 0x400 ≤ o ∧ o < 0x700 ∧ o % 8 = 4 then recMwWrite ((o - 0x404) / 8) w c
  else if 0x800 ≤ o ∧ o < 0xD00 ∧ o % 16 = 0 then wearCfgWrite ((o - 0x800) / 16) w c
  else putFields (pgRecorder + o) 0 w c

/-- The axes page. -/
def writeAxes (o : Nat) (w : Word) (c : Ctl) : Ctl :=
  let v := w.toNat
  let a := pgAxes + o
  if 0x100 ≤ o ∧ o < 0x180 ∧ (o - 0x100) % 0x20 = 8 then encSet ((o - 0x100) / 0x20) w c
  else if 0x200 ≤ o ∧ o < 0x600 ∧ (o - 0x200) % 0x80 = 0 then
    let n := (o - 0x200) / 0x80
    let c1 := putFields a (2 ^ 31) w c
    if c.is (R.AX_CTRL_ENABLE n) = bitOf v 31 then c1 else axisEnable n (bitOf v 31) c1
  else if 0x200 ≤ o ∧ o < 0x600 ∧ (o - 0x200) % 0x80 = 0x28 then axWrite ((o - 0x200) / 0x80) (v % 16) c
  else putFields a 0 w c

/-- The bed lighting page; STAT.CAM follows CAM_EN (R566). -/
def writeLight (o : Nat) (w : Word) (c : Ctl) : Ctl :=
  let v := w.toNat
  let on := fun (k : Nat) (f : Ctl → Ctl) (c : Ctl) => if bitOf v k then f c else c
  if o = 0x48 then on 2 shortTest (on 1 patClear (on 0 swap c))
  else
    let c1 := putFields (pgLight + o) 0 w c
    c1.flag R.LIGHT_STAT_CAM c1.camSync

/-- The trim page. -/
def writeTrim (o : Nat) (w : Word) (c : Ctl) : Ctl :=
  let v := w.toNat
  if o = 0x4C then
    let c1 := if bitOf v 1 then trimApply c else c
    if bitOf v 0 then trimRun c1 else c1
  else putFields (pgTrim + o) 0 w c

/-- The identity page. -/
def writeIdentity (o : Nat) (w : Word) (c : Ctl) : Ctl :=
  let v := w.toNat
  let on := fun (k : Nat) (f : Ctl → Ctl) (c : Ctl) => if bitOf v k then f c else c
  if o = 0x4C then on 2 commitSvn (on 1 intErase (on 0 intInstall c))
  else if o = 0x7C then on 1 flashProgram (on 0 flashErase c)
  else if o = 0x60 then ngEnable w c
  else if 0x400 ≤ o ∧ o < 0xC00 then
    if c.get R.ID_WIN_SEL_OBJECT = 3 then c.setReg (R.ID_WIN ((o - 0x400) / 4)) v else c
  else putFields (pgIdentity + o) 0 w c

/-- The die thermal and power page: a write of WARN_C starts the round counts again (R665). -/
def writeThermal (o : Nat) (w : Word) (c : Ctl) : Ctl :=
  let c1 := putFields (pgThermal + o) 0 w c
  if o = 0x40 then c1.modPwr (fun p => { p with warnRun := 0, coolRun := 0 }) else c1

/-- A write at offset `o` of a page from 0x40 onwards. -/
def pageWrite (p : Page) (inst base o : Nat) (w : Word) (c : Ctl) : Ctl :=
  let a := base + o
  if p = .lane ∧ 0x140 < o ∧ o < 0x158 ∧ ¬ isAux inst then c
  else if isWideHi a ∧ 0 < (regRow a).elim 0 (fun r => r.rw ||| r.rwl) ∨ a = R.GLOBAL_WALL_SET_HI then
    c.modHost (fun h => { h with stagedHi := tput h.stagedHi a w })
  else if isWideLo a ∧ a ≠ R.GLOBAL_BAR2_WIN_LO ∧ a ≠ R.GLOBAL_WALL_SET_LO then commitWide a w c
  else
    match p with
    | .global => writeGlobal o w c
    | .sluice => writeSluice o w c
    | .millrace => writeMillrace inst o w c
    | .hopper => if o = 0x40 then ringDoorbell w c else putFields a 0 w c
    | .ctx => if o < 0x840 then writeCtx (32 * inst + (o - 0x40) / 0x40) ((o - 0x40) % 0x40) w c else c
    | .spindle => writeSpindle inst o w c
    | .fantail => putFields a 0 w c
    | .ledger => writeLedger o w c
    | .lane => writeLane inst o w c
    | .twin => writeTwin o w c
    | .recorder => writeRecorder o w c
    | .axes => writeAxes o w c
    | .light => writeLight o w c
    | .trim => writeTrim o w c
    | .identity => writeIdentity o w c
    | .thermal => writeThermal o w c

/-- A write of BAR0 by host software at an aligned address that is not refused (R49). -/
def State.regWrite (a : Nat) (w : Word) (s : State) : State :=
  if inWindow a then { s with ctl := tableWrite (a - winBase) w s.ctl }
  else if a = R.HOPPER_DOORBELL_ORD then ringOrdered w s
  else if a = R.GLOBAL_RST_CMD then (if bitOf w.toNat 0 then chipReset s else s)
  else
    match pageOf a with
    | none => s
    | some (p, inst, base) =>
      let o := a - base
      { s with ctl := if o < 0x40 then headerWrite p inst base o w s.ctl else pageWrite p inst base o w s.ctl }

/-- R49: a write that waited, in its turn: it takes effect, or waits on behind one before it. -/
def State.takeHeld (s : State) (h : Held) : State :=
  if s.ctl.pwr.inReset then s
  else if s.ctl.mustWait h.addr then { s with ctl := s.ctl.holdWrite h.addr h.bar2 h.word }
  else if h.addr = R.HOPPER_DOORBELL_ORD then { s with ctl := ringBehind h.bar2 h.addr h.word s.ctl }
  else s.regWrite h.addr h.word

/-- R49: the writes `l` that waited, in the order in which they came. -/
def State.releaseHeld (l : List Held) (s : State) : State :=
  if l.isEmpty then s else l.foldl State.takeHeld { s with ctl := s.ctl.modHost (fun h => { h with held := [] }) }

/-- R656: the writes that Lane-idle holds, as they take effect at Ready. -/
def heldWrite (a : Nat) (w : Word) (c : Ctl) : Ctl :=
  match pageOf a with
  | some (p, inst, base) => pageWrite p inst base (a - base) w c
  | none => c

end Sys2Proof.Machine
end

