-- ==== Sys2Proof/Machine/Tick.lean ====
section
/-! DEFINITION. The tick (R28, R34 to R38, R42, R45): what ends with a tick, the tally's step, and what the next tick begins
with. The order within a tick is log entry 5. -/

namespace Sys2Proof.Machine

/-- The channels that send samples. -/
def Ctl.samplers (c : Ctl) : List Nat := (upto 24).filter c.sampling

/-- The channels of the part. -/
def Ctl.channels (c : Ctl) : List Nat := (upto 24).filter c.hasChan

/-- The lanes of partners: heads and lasers that the part has. -/
def Ctl.partners (c : Ctl) : List Nat := (upto 48).filter c.hasLane

/-- R688, R616: the pages whose enable waits for nothing accept the 1 that they hold after reset; in RECOVERY they do not
run. -/
def acceptEnables (c : Ctl) : Ctl :=
  let go := fun (pg : Nat) (c : Ctl) => if c.enabled pg ∧ ¬ c.activePage pg then c.setActive pg true else c
  if c.is R.ID_STAT_RECOVERY then c else go pgAxes (go pgFantail c)

/-- R310: the ticks in which the brake was engaged are kept. -/
def noteBrake (c : Ctl) : Ctl :=
  if c.engaged then c.modLed (fun l => { l with braked := (c.now :: l.braked).take 72 }) else c

/-- The head and laser lanes that are ACTIVE. -/
def Ctl.lanesActive (c : Ctl) : List Nat := hlLanes.filter (fun k => c.lst k == lnActive)

/-- What follows for tentering, the measured powers and the twin when lanes leave ACTIVE. -/
def afterLanes (before : List Nat) (c : Ctl) : Ctl :=
  let lost := before.filter (fun k => c.lst k != lnActive)
  let c1 := c.each lost (fun k => if isHead k then tentLaneLost k else ledgerLaneLost (chanOf k))
  twinEval c1

/-- The end of a tick in the spindle domain: the samples are complete and leave. -/
def tickEnd (c : Ctl) : Ctl :=
  let c0 := fencesExpire c
  let c1 := fantailEval (c0.each c0.samplers tentFormed)
  let c2 := noteBrake (latchCeilings (takeDeposits (twinPowers c1)))
  let c3 := fanDeliver (c2.each c2.samplers (fun n c => noteMsgs n (commitSample n c)))
  let twins := (upto 64).filter isTwin
  let c4 := (twinTx ((c3.each (upto 56) laneTx).each twins heldTx)).each twins laneTx
  -- R363: a RETRAIN_ACK held back may have taken its lane to TRAIN
  let c5 := if c3.lanesActive = c4.lanesActive then c4 else afterLanes c3.lanesActive c4
  (c5.each c5.channels tentEnd).modLed (fun l => { l with tagOld := c5.layerTag })

/-- R42, R45: the tally's step; the recorder logs a wrap. -/
def tallyEdge (c : Ctl) : Ctl :=
  let c1 := { c with tally := c.tally + 1, wire := [], sent := c.wire }
  if c1.tally = 0 then (c1.irq pgGlobal 3).event pgGlobal 0x04 0xFF 0 0 0 [] else c1

/-- The beginning of a tick in the spindle domain. -/
def tickBegin (c : Ctl) : Ctl :=
  -- blocks made ready before this tick go ahead of those of its edge (R359, R717)
  let c0 := (brakePins (twinTake c)).each (upto 64) laneBegin
  let c1 := fantailLatch (ledgerLatch (seamResume (brakeEdge c0)))
  let c2 := fencePasses (handOffs c1)
  let c3 := c2.each c2.partners partnerTick
  let c4 := ((c3.each c3.samplers showHead).each c3.channels tentBegin).each (upto 64) laneManage
  let c5 := c4.each c4.samplers formNext
  let c6 := c5.each c5.samplers ledgerFeed
  twinEval (startEnds (trimTick (terrTraffic (cellTraffic c6))))

/-- What a tick brings in every power state. -/
def tickAlways (c : Ctl) : Ctl := powerMetrics (exitTick (idleTrack (resetsDone (acceptEnables c))))

/-- TICK (R42). -/
def tickStep (c : Ctl) : Ctl :=
  let c1 := (if c.spindleOn then tickEnd c else c).endRecords
  let c2 := tallyEdge (wallTick c1)
  -- R657, R679: the brake changes at the edge though the spindle domain is off
  tickAlways (if c2.spindleOn then tickBegin c2 else brakeEdge (brakePins c2))

/-- TALLY_WRAP (R45): the tick edge at which the tally wraps. -/
def tallyWrap (c : Ctl) : Ctl := if c.now = 2 ^ 48 - 1 then tickStep c else c

/-- RECORD_START (R128): the record's first sample takes the place of the one held, with the ledger's factor for it. -/
def recordStarts (n : Nat) (c : Ctl) : Ctl :=
  let c1 := recordStart n c
  if c1.sampling n ∧ (c1.sp n).sample ≠ (c.sp n).sample then refeed n c1 else c1

end Sys2Proof.Machine
end

