-- ==== Sys2Proof/WellFormed.lean ====
section
/-! DEFINITION. Which commands a sender can form: every operand within the range of the field that carries it (chapters 7,
8, 9 and 19 give the fields; R16, R39 the addresses of BAR0). -/

namespace Sys2Proof
open Machine

/-- R472, R474: a value that its configuration field can name. -/
def CfgReq.wellFormed : CfgReq → Bool
  | .mrrs b => [128, 256, 512, 1024, 2048, 4096].contains b
  | .mps b => [128, 256, 512].contains b
  | .bar two a => a < 2 ^ 64 && a % (if two then 2 ^ 28 else 2 ^ 24) == 0
  | .read (.bar k) => k < 6
  | _ => true

/-- The operands of a command lie within their ranges. -/
def Instr.wellFormed : Instr → Bool
  | .bar0AccessError _ addr size => addr < 2 ^ 24 && 0 < size && size ≤ 4096
  | .bar0NoPageAccess _ addr => addr < 2 ^ 24 && addr % 4 == 0
  | .stoppedPageAccess _ addr => addr < 2 ^ 24 && addr % 4 == 0
  | .registerWrite addr _ => addr < 2 ^ 24 && addr % 4 == 0
  | .wideValueRead addr => addr < 2 ^ 24 && addr % 4 == 0
  | .wideValueCommit addr _ => addr < 2 ^ 24 && addr % 4 == 0
  | .counterReadClear addr => addr < 2 ^ 24 && addr % 4 == 0
  | .blkEnable addr _ => addr < 2 ^ 24 && addr % 0x400 == 0
  | .softReset addr _ => addr < 2 ^ 24 && addr % 0x400 == 0
  | .tick => true
  | .tallyWrap => true
  | .doorbell _ => true
  | .doorbellOrd _ => true
  | .orderedDoorbellEffect => true
  | .ctxEnable x w => x < 128 && bitOf w.toNat 31
  | .ctxDisable x w => x < 128 && !bitOf w.toNat 31
  | .ctxDrainComplete x => x < 128
  | .resume x => x < 128
  | .skip x => x < 128
  | .hopperReadRequest => true
  | .hopperReadReturn x _ => x < 128
  | .recordStart n => n < 24
  | .recordRetire n => n < 24
  | .shareOffer x => x < 128
  | .fenceArrive n => n < 24
  | .fenceTimeout n => n < 24
  | .layerEndArrive n => n < 24
  | .layerEndPass n => n < 24
  | .ldrEnable _ => true
  | .ldrDb _ => true
  | .ldrDescriptorReturn data => data.length ≤ 256 && data.length % 32 == 0
  | .ldrDataReturn k data err => k < 4096 && data.length ≤ 4096 && err ≤ 2
  | .ldrCompletion => true
  | .ldrResume => true
  | .ldrAbort => true
  | .spindleEnable n => n < 24
  | .spindleDisable n => n < 24
  | .mirrorAtRest n => n < 24
  | .brakeResume n => n < 24
  | .spindleGridSwap n => n < 24
  | .publish => true
  | .profDone => true
  | .tableWindowWrite off _ => off < 2 ^ 22 && off % 4 == 0
  | .waitAlarm n => n < 24
  | .terrFetchReturn k _ => k < 2 ^ 20
  | .flowLost => true
  | .flowRestored => true
  | .meas k body chk _ => k < 24 && body < 2 ^ 56 && chk < 16
  | .measMissing n _ => n < 24
  | .keeper n => n < 24
  | .ledgerEnable => true
  | .ledgerFillDone => true
  | .ledgerDisable => true
  | .mpower k body chk => 24 ≤ k && k < 48 && body < 2 ^ 56 && chk < 16
  | .mpowerMissing n => n < 24
  | .mpClear n => n < 32
  | .haltClear => true
  | .ledgerEvaluation _ => true
  | .ledgerCellReturn k _ => k < 2 ^ 24
  | .ledgerSweep => true
  | .laneEnable k => k < 64
  | .laneDisable k => k < 64
  | .start k => k < 64
  | .retrain k => k < 64
  | .laneRateWrite k _ => k < 64
  | .detectProbe k _ _ => k < 64
  | .train k body check _ fom ctle => k < 64 && body < 2 ^ 48 && check < 256 && fom < 256 && ctle < 16
  | .idle k body check => k < 64 && body < 2 ^ 48 && check < 256
  | .exchOffer k body check => k < 64 && body < 2 ^ 48 && check < 256 && body % 16 == 0
  | .exchConfirm k body check => k < 64 && body < 2 ^ 48 && check < 256 && body % 16 == 1
  | .laneTimeout k => k < 64
  | .backoffExpiry k => k < 64
  | .blockLockLost k => k < 64
  | .relockTimeout k => k < 64
  | .signalLost k => k < 64
  | .retrainReq k body check => k < 64 && body < 2 ^ 48 && check < 256 && body % 16 == 1
  | .retrainAck k body check => k < 64 && body < 2 ^ 48 && check < 256 && body % 16 == 2
  | .retrainReqTimeout k => k < 64
  | .fomWindowEnd k count => k < 64 && count ≤ 64 * 4096
  | .dfeStep k d => k < 64 && d.length == 5
  | .adaptFrozen k => k < 64
  | .lineKeeperSend k => k < 64
  | .lineKeeper k body => k < 64 && body < 2 ^ 56
  | .blockDiscard k b => k < 64 && b.cause ≤ 3 && b.payload < 2 ^ 64
  | .eiEnter k body check => k < 64 && body < 2 ^ 48 && check < 256
  | .wakeTimeout k => k < 64
  | .laneTestMode k _ => k < 64
  | .injGo k w => k < 64 && bitOf w.toNat 31
  | .injStop k w => k < 64 && bitOf w.toNat 30
  | .tickMark => true
  | .mgmtGo k w => k < 64 && bitOf w.toNat 31
  | .mgmtRetry k => k < 64
  | .mgmtRsp k body chk => k < 64 && body < 2 ^ 56 && chk < 16
  | .galvo k body chk => k < 24 && body < 2 ^ 56 && chk < 16
  | .hstat k body chk => k < 24 && body < 2 ^ 56 && chk < 16
  | .partnerTickMark k tally check => k < 48 && tally < 2 ^ 48 && check < 256
  | .partnerSample k port mt body chk => k < 48 && port < 2 && mt < 16 && body < 2 ^ 56 && chk < 16
  | .correction k port body check => 24 ≤ k && k < 48 && port < 2 && body < 2 ^ 48 && check < 256
  | .brake k port body check => k < 48 && port < 2 && body < 2 ^ 48 && check < 256
  | .brakeEcho k => k < 64
  | .camCredit k => 48 ≤ k && k < 56
  | .camSof k body chk => 48 ≤ k && k < 56 && body < 2 ^ 56 && chk < 16
  | .camData k body chk => 48 ≤ k && k < 56 && body < 2 ^ 56 && chk < 16
  | .camEof k body chk => 48 ≤ k && k < 56 && body < 2 ^ 56 && chk < 16
  | .camEnable k _ => 48 ≤ k && k < 56
  | .xy2Enable k _ => 52 ≤ k && k < 56
  | .xy2Frame k => 52 ≤ k && k < 56
  | .brakeInEdge k _ _ => k < 2
  | .brakePeriodic => true
  | .engage _ => true
  | .release => true
  | .brkInMismatch => true
  | .twinEnable _ => true
  | .pairOffer k body chk => 56 ≤ k && k < 64 && body < 2 ^ 56 && chk < 16
  | .pairUid k body chk => 56 ≤ k && k < 64 && body < 2 ^ 56 && chk < 16
  | .pairConfirm k body chk => 56 ≤ k && k < 64 && body < 2 ^ 56 && chk < 16
  | .pairTimeout => true
  | .twinCycleBoundary _ => true
  | .beacon k body chk => 56 ≤ k && k < 64 && body < 2 ^ 56 && chk < 16
  | .beaconLoss => true
  | .align k body check => 56 ≤ k && k < 64 && body < 2 ^ 48 && check < 256
  | .recBlockIn k body chk => 56 ≤ k && k < 64 && body < 2 ^ 56 && chk < 16
  | .stateRecordComplete => true
  | .recordDeadline => true
  | .replayComplete => true
  | .fwd k body chk => 56 ≤ k && k < 64 && body < 2 ^ 56 && chk < 16
  | .fwdApply => true
  | .configDigest => true
  | .digestHalfTimeout => true
  | .twinAliveToggle _ => true
  | .twinAliveEdge => true
  | .aliveSilent => true
  | .solo => true
  | .handoverCmd => true
  | .handoverSend => true
  | .handover blocks => blocks.all (fun b => decide (56 ≤ b.1) && decide (b.1 < 64) && decide (b.2.1 < 2 ^ 56) && decide (b.2.2 < 16))
  | .nativeSwitchover => true
  | .seamSwitchover => true
  | .autoResume => true
  | .duplicateTakeover => true
  | .dupRelock k => k < 48
  | .millraceEnable m _ => m < 2
  | .initDone m => m < 2
  | .trainStepDone m _ => m < 2
  | .trainRetry m => m < 2
  | .mcRetrain m => m < 2
  | .mcRateWrite m rate => m < 2 && rate < 4
  | .rtRead m _ a len _ => m < 2 && a < 2 ^ 40 && 0 < len && len ≤ 4096
  | .rtReadReturn m _ errs => m < 2 && errs.all (·.ok 33)
  | .bulkRead m a errs => m < 2 && a < 2 ^ 40 && errs.all (·.ok 1)
  | .dramWrite _ => true
  | .writeBatch b => b.m < 2 && b.errs.all (·.ok 16)
  | .refreshDue m rank idx => m < 2 && rank < 2 && idx < 4
  | .refreshRepay m rank idx => m < 2 && rank < 2 && idx < 4
  | .nrr m => m < 2
  | .dramTempRead m _ => m < 2
  | .periodicCalibration m => m < 2
  | .scrubRead m errs => m < 2 && errs.all (·.ok 1)
  | .rowClose m bank => m < 2 && bank < 64
  | .bar2Write off data => off + data.length ≤ 2 ^ 28 && 0 < data.length && data.length ≤ 4096
  | .bar2Read off en => off + en.length ≤ 2 ^ 28 && 0 < en.length && en.length ≤ 4096
  | .bar2WinWrite _ => true
  | .flr => true
  | .linkDown => true
  | .configRequest q => q.wellFormed
  | .msixMessage v => v < 16
  | .msixEnable _ _ => true
  | .ptmDialogue clk => clk < 60
  | .ptmResponse t2 p clk _ => t2 < 2 ^ 64 && p < 2 ^ 32 && clk < 60
  | .wallSet _ => true
  | .logEnable w => bitOf w.toNat 31
  | .logRecordWrite => true
  | .logDrop => true
  | .logWriteback => true
  | .smbChipId => true
  | .smbHealth => true
  | .smbDiodes => true
  | .smbRails => true
  | .smbTally => true
  | .smbLink => true
  | .smbHalts => true
  | .smbUnknown cmd => cmd < 256 && (cmd == 0 || 7 < cmd)
  | .smbAlertResponse => true
  | .sluiceEnable _ => true
  | .sourceLevel src => src < 256
  | .sourceEdge src => src < 256
  | .swPendSet src => src < 256
  | .swPendClear src => src < 256
  | .ctxClaim x => x < 8
  | .ctxComplete x src => x < 8 && src < 256
  | .ctxCompleteFlush x => x < 8
  | .ctxThreshWrite x t => x < 8 && t < 16
  | .scanAck g mask => g < 8 && mask < 2 ^ 24
  | .coalesceRelease v => v < 16
  | .gpiChange k _ => k < 32
  | .encoderEdge e _ _ => e < 4
  | .encZEdge e => e < 4
  | .encSet e _ => e < 4
  | .axisEnable a _ => a < 8
  | .moveAbs a => a < 8
  | .moveRel a => a < 8
  | .velocity a => a < 8
  | .stop a => a < 8
  | .qstop a => a < 8
  | .home a => a < 8
  | .gear a => a < 8
  | .setPos a => a < 8
  | .armRatio a => a < 8
  | .disarm a => a < 8
  | .axCmdUnassigned a op => a < 8 && op < 16 && (op == 0 || 10 < op)
  | .axisUpdate => true
  | .standstill a => a < 8
  | .wakeDone a => a < 8
  | .rowSlot stuck lampSense padsA padsB camAt => stuck < 2 ^ 16 && lampSense < 2 ^ 16 && padsA < 2 ^ 21 &&
      padsB < 2 ^ 21 && camAt.all (fun k => decide (0 < k ∧ k < 6250))
  | .swap => true
  | .patClear => true
  | .shortTest => true
  | .camSyncEdge _ => true
  | .buildOpen => true
  | .buildClose => true
  | .freeze _ => true
  | .freezeExpired => true
  | .recMwWrite k _ => k < 96
  | .nvWrite _ => true
  | .nvTokenRefill => true
  | .lifetime => true
  | .wearIntervalEnd => true
  | .wearCfgWrite k _ => k < 80
  | .intInstall => true
  | .intErase => true
  | .commitSvn => true
  | .flashErase => true
  | .flashProgram => true
  | .flashDone => true
  | .ngEntrySigned => true
  | .ngRingWrite => true
  | .ngEnable _ => true
  | .trimRun => true
  | .trimMeasureEnd => true
  | .apply => true
  | .powerOnReset => true
  | .deviceReset hA hB fault => hA.bytes.length == 256 && hB.bytes.length == 256 && (fault == 0 || fault == 3 || fault == 4)
  | .bootVerifyEnd _ => true
  | .warmPerst => true
  | .chipReset => true
  | .brownOut => true
  | .startStep => true
  | .powerStateChoice => true
  | .powerStateExit => true
  | .pwrChg => true
  | .diodeRound temps _ => temps.length == 8
  | .dieShutdown => true
  | .railSample mv => mv.length == 7 && mv.all (fun v => decide (v < 2 ^ 16))
  | .checkerBlock k line drift => k < 64 && line < 2 ^ 64 && drift ≤ 2
  | .trimStoreDone _ => true

end Sys2Proof
end

