-- ==== Sys2Proof/Machine/Run.lean ====
section
/-! DEFINITION. How a command runs: a sender can form it (WellFormed.lean), the device is not held in reset (R643), and
the consequences that several rows share. -/

namespace Sys2Proof.Machine

/-! ### The shape of every meaning -/

/-- What a command does leaves the queue of commands that wait as it is. -/
def keepQueue (f : State → State) (s : State) : State := { f s with pending := s.pending }

/-- A command that acts on the whole machine; while the device is held in reset only the commands of `runAlways` act. -/
def run (i : Instr) (f : State → State) (s : State) : Host.Outcome State Fault Refusal :=
  if i.wellFormed then .next (if s.ctl.pwr.inReset then s else keepQueue f s) else .fault .illFormed

/-- A command that leaves DRAM alone. -/
def runCtl (i : Instr) (f : Ctl → Ctl) (s : State) : Host.Outcome State Fault Refusal :=
  run i (fun s => { s with ctl := f s.ctl }) s

/-- A command of the control state that may end what writes wait for (R49). -/
def runHeld (i : Instr) (f : Ctl → Ctl) (s : State) : Host.Outcome State Fault Refusal :=
  run i (fun s => State.releaseHeld s.ctl.host.held { s with ctl := f s.ctl }) s

/-- A tick (R42): what it does to the control state, then the record that waited for a replay (R415) and the writes that
waited (R49). -/
def runTick (i : Instr) (f : Ctl → Ctl) (s : State) : Host.Outcome State Fault Refusal :=
  run i (fun s => State.releaseHeld s.ctl.host.held (waitingRecord { s with ctl := f s.ctl })) s

/-- A command that acts in reset too: power and resets (R643, R644, R646). -/
def runAlways (i : Instr) (f : State → State) (s : State) : Host.Outcome State Fault Refusal :=
  if i.wellFormed then .next (keepQueue f s) else .fault .illFormed

/-- A change of the machine that may change the address map of DRAM (R444) and end the reads of a millrace. -/
def onMap (f : State → State) (s : State) : State :=
  let t := f s
  bar2Collect { t with mem := t.mem.remap s.ctl t.ctl }

/-- A write at an address of BAR0: those to the millrace pages may change the address map of DRAM. -/
def onMapAt (addr : Nat) (f : State → State) : State → State :=
  if 0x20000 ≤ addr ∧ addr < 0x40000 then onMap f else f

/-- A change of the control state that may change the address map of DRAM (R444). -/
def runMap (i : Instr) (f : Ctl → Ctl) (s : State) : Host.Outcome State Fault Refusal :=
  run i (onMap (fun s => { s with ctl := f s.ctl })) s

/-! ### A lane that leaves ACTIVE (R268, R311) -/

/-- A change of the control state that may move lanes. -/
def withLanes (f : Ctl → Ctl) (c : Ctl) : Ctl := afterLanes c.lanesActive (f c)

/-- A change of the machine that may move lanes. -/
def onLanes (f : State → State) (s : State) : State :=
  let t := f s
  { t with ctl := afterLanes s.ctl.lanesActive t.ctl }

/-- R385: the camera records whose header no write that waits holds any more. -/
def State.camerasSee (s : State) : State :=
  { s with ctl := s.ctl.each ((upto 64).filter isAux) (camVisible (s.ctl.memOut ++ s.mem.waiting)) }

/-! ### Blocks that arrive -/

/-- R335: the fields of an EXCH OFFER: ROLE, LANE, capabilities, FOM (unused by the device), PEER and PORT. -/
def offerBlock (k body : Nat) : Ctl → Ctl :=
  exchOffer k (slice body 4 4) (slice body 8 6) (bitOf body 14) (bitOf body 15) (slice body 24 16) (b2n (bitOf body 40))

/-- R436: a valid data block on an ACTIVE lane ends a gap. -/
def uplinkEnds (k mt body chk : Nat) (before c : Ctl) : Ctl :=
  if dataGood mt body chk && before.lst k == lnActive then gapEnd k c else c

/-- R241, R414: a MEAS arrives. -/
def upMeas (k body chk : Nat) (late : Bool) (c : Ctl) : Ctl :=
  let c0 := if c.lst k = lnActive then keepUplink k 0 body chk c else c
  uplinkEnds k 1 body chk c (meas k body chk late c0)

/-- R309, R414, R433: an MPOWER arrives. -/
def upMpower (k body chk : Nat) (c : Ctl) : Ctl :=
  let c0 := if c.lst k = lnActive then keepUplink k 1 body chk c else c
  let c1 := mpower k body chk c0
  if dataGood 1 body chk && c.lst k == lnActive then twinUplink k (c.upTick k (slice body 0 8)) (bitOf body 44) c1 else c1

/-- R355, R433: an HSTAT arrives. -/
def upHstat (k body chk : Nat) (c : Ctl) : Ctl :=
  let c1 := hstat k body chk c
  if dataGood 3 body chk && isHead k && c.lst k == lnActive then
    twinUplink k (c.upTick k (slice body 0 8)) (bitOf body 34) c1
  else c1

/-- R190: a GALVO arrives. -/
def upGalvo (k body chk : Nat) (c : Ctl) : Ctl := uplinkEnds k 2 body chk c (galvo k body chk c)

/-- R374, R394: an MGMT_RSP arrives: RSEQ, RSTAT, DATA. -/
def upMgmt (k body chk : Nat) (c : Ctl) : Ctl :=
  let c1 := uplink k 4 body chk (mgmtRsp k (slice body 0 8) (slice body 8 4) (slice body 24 32)) c
  if isHead k || isLaser k then uplinkEnds k 4 body chk c c1 else c1

end Sys2Proof.Machine
end

