-- ==== Sys2Proof/Machine/ExecAxes.lean ====
section
/-! DEFINITION. The meanings of the commands of the axes (chapter 13). -/

namespace Sys2Proof.Machine

/-- GPI_CHANGE (R522): A general input's filtered state changes after holding for FILTER clocks. -/
def execGpiChange (k : Nat) (on : Bool) (s : State) : Host.Outcome State Fault Refusal :=
  runCtl (.gpiChange k on) (gpiChange k on) s

/-- ENCODER_EDGE (R525): A quadrature change counts ±1, or both inputs changing counts an error. -/
def execEncoderEdge (e : Nat) (a b : Bool) (s : State) : Host.Outcome State Fault Refusal :=
  runCtl (.encoderEdge e a b) (encoderEdge e a b) s

/-- ENC_Z_EDGE (R527): A rising Z edge copies the count into ENC_ZLATCH and sets Z_SEEN. -/
def execEncZEdge (e : Nat) (s : State) : Host.Outcome State Fault Refusal :=
  runCtl (.encZEdge e) (encZEdge e) s

/-- ENC_SET (R526): A write of ENC_SET sets the encoder count, or is refused while a geared axis is bound. -/
def execEncSet (e : Nat) (w : Word) (s : State) : Host.Outcome State Fault Refusal :=
  runCtl (.encSet e w) (guardW (R.ENC_SET e) w (encSet e w)) s

/-- AXIS_ENABLE (R538): A write of AX_CTRL.ENABLE 1 moves the axis to IDLE; 0 stops it and disables it. -/
def execAxisEnable (a : Nat) (on : Bool) (s : State) : Host.Outcome State Fault Refusal :=
  runCtl (.axisEnable a on) (guardW (R.AX_CTRL a) (BitVec.ofNat 32 (splice (s.ctl.written (R.AX_CTRL a)) 31 1 (b2n on))) (axisEnable a on)) s

/-- MOVE_ABS (R537): AX_CMD OP 0x1 moves the axis to TARGET, or is refused. -/
def execMoveAbs (a : Nat) (s : State) : Host.Outcome State Fault Refusal :=
  runCtl (.moveAbs a) (guardW (R.AX_CMD a) 1 (axOrder a 0x1)) s

/-- MOVE_REL (R537): AX_CMD OP 0x2 moves the axis by TARGET, or is refused. -/
def execMoveRel (a : Nat) (s : State) : Host.Outcome State Fault Refusal :=
  runCtl (.moveRel a) (guardW (R.AX_CMD a) 2 (axOrder a 0x2)) s

/-- VELOCITY (R537): AX_CMD OP 0x3 runs the axis at VJOG, or is refused. -/
def execVelocity (a : Nat) (s : State) : Host.Outcome State Fault Refusal :=
  runCtl (.velocity a) (guardW (R.AX_CMD a) 3 (axOrder a 0x3)) s

/-- STOP (R537): AX_CMD OP 0x4 decelerates the axis to rest at DECEL. -/
def execStop (a : Nat) (s : State) : Host.Outcome State Fault Refusal :=
  runCtl (.stop a) (guardW (R.AX_CMD a) 4 (axOrder a 0x4)) s

/-- QSTOP (R547): AX_CMD OP 0x5 stops the axis immediately. -/
def execQstop (a : Nat) (s : State) : Host.Outcome State Fault Refusal :=
  runCtl (.qstop a) (guardW (R.AX_CMD a) 5 (axOrder a 0x5)) s

/-- HOME (R553): AX_CMD OP 0x6 starts the homing sequence, or is refused. -/
def execHome (a : Nat) (s : State) : Host.Outcome State Fault Refusal :=
  runCtl (.home a) (guardW (R.AX_CMD a) 6 (axOrder a 0x6)) s

/-- GEAR (R544): AX_CMD OP 0x7 enters gearing to the bound encoder, or is refused. -/
def execGear (a : Nat) (s : State) : Host.Outcome State Fault Refusal :=
  runCtl (.gear a) (guardW (R.AX_CMD a) 7 (axOrder a 0x7)) s

/-- SET_POS (R537): AX_CMD OP 0x8 sets the position to TARGET and clears POS_LOST. -/
def execSetPos (a : Nat) (s : State) : Host.Outcome State Fault Refusal :=
  runCtl (.setPos a) (guardW (R.AX_CMD a) 8 (axOrder a 0x8)) s

/-- ARM_RATIO (R537): AX_CMD OP 0x9 latches the second ratio and switch count and arms the switch. -/
def execArmRatio (a : Nat) (s : State) : Host.Outcome State Fault Refusal :=
  runCtl (.armRatio a) (guardW (R.AX_CMD a) 9 (axOrder a 0x9)) s

/-- DISARM (R537): AX_CMD OP 0xA clears RATIO_ARMED. -/
def execDisarm (a : Nat) (s : State) : Host.Outcome State Fault Refusal :=
  runCtl (.disarm a) (guardW (R.AX_CMD a) 10 (axOrder a 0xA)) s

/-- AX_CMD_UNASSIGNED (R537): An unassigned AX_CMD OP is refused with cause 9. -/
def execAxCmdUnassigned (a op : Nat) (s : State) : Host.Outcome State Fault Refusal :=
  runCtl (.axCmdUnassigned a op) (guardW (R.AX_CMD a) (BitVec.ofNat 32 op) (axOrder a op)) s

/-- AXIS_UPDATE (R528): Every 0.5 µs each enabled axis's profile, gearing and homing advance. -/
def execAxisUpdate (s : State) : Host.Outcome State Fault Refusal :=
  runHeld .axisUpdate axisUpdate s

/-- STANDSTILL (R543): After STILL_MS at rest the axis enters OFF, SHORT or HOLD. -/
def execStandstill (a : Nat) (s : State) : Host.Outcome State Fault Refusal :=
  runCtl (.standstill a) (standstill a) s

/-- WAKE_DONE (R543): After WAKE_MS of driving from OFF or SHORT the axis starts to move. -/
def execWakeDone (a : Nat) (s : State) : Host.Outcome State Fault Refusal :=
  runCtl (.wakeDone a) (wakeDone a) s

end Sys2Proof.Machine
end

