-- ==== Sys2Proof/Machine/ExecBar.lean ====
section
/-! DEFINITION. The meanings of the commands of accesses of BAR0 (chapters 1 and 19). -/

namespace Sys2Proof.Machine

/-- BAR0_ACCESS_ERROR (R15): A BAR0 access that is not 32-bit and 4-byte aligned reads 0xFFFF_FFFF or is discarded, is
recorded in ACC_ERR and raises a claim-class interrupt. -/
def execBar0AccessError (write : Bool) (addr size : Nat) (s : State) : Host.Outcome State Fault Refusal :=
  runCtl (.bar0AccessError write addr size) (fun c => if sizeOk addr size then c else accErr write 1 addr c) s

/-- BAR0_NO_PAGE_ACCESS (R683): An aligned access to an offset in no page is refused with ACC_ERR cause 2. -/
def execBar0NoPageAccess (write : Bool) (addr : Nat) (s : State) : Host.Outcome State Fault Refusal :=
  runCtl (.bar0NoPageAccess write addr) (fun c => if inPage addr then c else accErr write 2 addr c) s

/-- STOPPED_PAGE_ACCESS (R684): An access to a page stopped by a power state is refused with ACC_ERR cause 3. -/
def execStoppedPageAccess (write : Bool) (addr : Nat) (s : State) : Host.Outcome State Fault Refusal :=
  runCtl (.stoppedPageAccess write addr) (fun c => if c.access addr = .refused 3 then accErr write 3 addr c else c) s

/-- REGISTER_WRITE (R49): A write to a register that has no row of its own takes effect in page order. -/
def execRegisterWrite (addr : Nat) (w : Word) (s : State) : Host.Outcome State Fault Refusal :=
  run (.registerWrite addr w) (guardWS addr w (onMapAt addr (onLanes (fun s => s.regWrite addr w)))) s

/-- WIDE_VALUE_READ (R21): A read of the least significant word of a wide value captures the whole value for the
following reads. -/
def execWideValueRead (addr : Nat) (s : State) : Host.Outcome State Fault Refusal :=
  run (.wideValueRead addr) (State.hostRead addr) s

/-- WIDE_VALUE_COMMIT (R22): A write of the least significant word of a wide value commits the whole value in one
step. -/
def execWideValueCommit (addr : Nat) (w : Word) (s : State) : Host.Outcome State Fault Refusal :=
  run (.wideValueCommit addr w) (guardWS addr w (onMapAt addr (onLanes (fun s => s.regWrite addr w)))) s

/-- COUNTER_READ_CLEAR (R19): A read of an RC field returns it and clears it, an event in the same clock being kept
for the next read. -/
def execCounterReadClear (addr : Nat) (s : State) : Host.Outcome State Fault Refusal :=
  run (.counterReadClear addr) (State.hostRead addr) s

/-- BLK_ENABLE (R688): A write of BLK_CTRL.ENABLE to a page with no enable row of its own enables or disables the
block. -/
def execBlkEnable (addr : Nat) (en : Bool) (s : State) : Host.Outcome State Fault Refusal :=
  run (.blkEnable addr en)
    (guardWS (R.BLK_CTRL addr) (BitVec.ofNat 32 (b2n en)) (onMapAt addr (onLanes (fun s => s.regWrite (R.BLK_CTRL addr) (BitVec.ofNat 32 (b2n en)))))) s

/-- SOFT_RESET (R690): A write of SOFT_RESET with ENABLE 0 on an inactive page returns the page registers to reset
values, or is refused. -/
def execSoftReset (addr : Nat) (en : Bool) (s : State) : Host.Outcome State Fault Refusal :=
  run (.softReset addr en) (onMapAt addr (fun s => { s with ctl := guardW (R.BLK_CTRL addr) (BitVec.ofNat 32 (2 + b2n en)) (softReset addr en) s.ctl })) s

/-- TICK (R42): At every tick edge the tally increments and the per-tick work of spindles, fantail and ledger runs. -/
def execTick (s : State) : Host.Outcome State Fault Refusal :=
  runTick .tick tickStep s

/-- TALLY_WRAP (R45): The tally wraps from 2^48 − 1 to 0 and the recorder logs the wrap. -/
def execTallyWrap (s : State) : Host.Outcome State Fault Refusal :=
  runTick .tallyWrap tallyWrap s

end Sys2Proof.Machine
end

