-- ==== Sys2Proof/Machine/ExecBrake.lean ====
section
/-! DEFINITION. The meanings of the commands of the brake (chapters 8 and 18). -/

namespace Sys2Proof.Machine

/-- BRAKE_IN_EDGE (R675): A filtered change on BRAKE_IN asserts or deasserts its level source. -/
def execBrakeInEdge (k : Nat) (high late : Bool) (s : State) : Host.Outcome State Fault Refusal :=
  runCtl (.brakeInEdge k high late) (brakeInEdge k high late) s

/-- BRAKE_PERIODIC (R371): While engaged, the brake state block is resent in every tick whose tally is a multiple of
64. -/
def execBrakePeriodic (s : State) : Host.Outcome State Fault Refusal :=
  runCtl .brakePeriodic brakePeriodic s

/-- ENGAGE (R672): A write of BRK_CMD.ENGAGE asserts brake source 3. -/
def execEngage (late : Bool) (s : State) : Host.Outcome State Fault Refusal :=
  runCtl (.engage late) (guardW R.GLOBAL_BRK_CMD 1 (brkCmd late 1)) s

/-- RELEASE (R679): A write of BRK_CMD.RELEASE releases the brake at the next tick edge, or is refused while a level
source asserts. -/
def execRelease (s : State) : Host.Outcome State Fault Refusal :=
  runCtl .release (guardW R.GLOBAL_BRK_CMD 2 (brkCmd false 2)) s

/-- BRK_IN_MISMATCH (R670): BRAKE_IN inputs disagreeing for MISMATCH_US set IN_MISMATCH. -/
def execBrkInMismatch (s : State) : Host.Outcome State Fault Refusal :=
  runCtl .brkInMismatch brkInMismatch s

end Sys2Proof.Machine
end

