-- ==== Sys2Proof/Machine/ExecFantail.lean ====
section
/-! DEFINITION. The meanings of the commands of the fantail and interlock flow (chapter 4). -/

namespace Sys2Proof.Machine

/-- WAIT_ALARM (R209): A request ungranted for WAIT_LIMIT ticks raises WAIT_ALARM. -/
def execWaitAlarm (n : Nat) (s : State) : Host.Outcome State Fault Refusal :=
  runCtl (.waitAlarm n) (waitAlarm n) s

/-- TERR_FETCH_RETURN (R220): A territory cell fetch returns; an uncorrectable error names no spindle and raises
TERR_FETCH_ERR. -/
def execTerrFetchReturn (k : Nat) (ue : Bool) (s : State) : Host.Outcome State Fault Refusal :=
  run (.terrFetchReturn k ue) (fun s => bar2Collect (terrReturn k ue s)) s

/-- FLOW_LOST (R216): The gas-flow input reads 0: grants are withheld and a brake may be requested. -/
def execFlowLost (s : State) : Host.Outcome State Fault Refusal :=
  runCtl .flowLost flowLoss s

/-- FLOW_RESTORED (R216): The gas-flow input reads 1 again and grants resume. -/
def execFlowRestored (s : State) : Host.Outcome State Fault Refusal :=
  runCtl .flowRestored flowRestored s

end Sys2Proof.Machine
end

