-- ==== Sys2Proof/Machine/ExecHeat.lean ====
section
/-! DEFINITION. The meanings of the commands of tentering and the heat ledger (chapters 5 and 6). -/

namespace Sys2Proof.Machine

/-- MEAS (R240): A head MEAS message arrives and is paired with the history entry of its tick. -/
def execMeas (k body chk : Nat) (late : Bool) (s : State) : Host.Outcome State Fault Refusal :=
  runCtl (.meas k body chk late) (upMeas k body chk late) s

/-- MEAS_MISSING (R241): No measurement for tick t by the end of tick t + 3 counts one bad measurement. -/
def execMeasMissing (n : Nat) (late : Bool) (s : State) : Host.Outcome State Fault Refusal :=
  runCtl (.measMissing n late) (measMissing n late) s

/-- KEEPER (R263): After KEEPER ticks without a correction block, a KEEPER block repeats the factor. -/
def execKeeper (n : Nat) (s : State) : Host.Outcome State Fault Refusal :=
  runCtl (.keeper n) (keeper n) s

/-- LEDGER_ENABLE (R283): A write of the ledger's BLK_CTRL enable 1 checks configuration, resets channel state and
starts the fill. -/
def execLedgerEnable (s : State) : Host.Outcome State Fault Refusal :=
  runCtl .ledgerEnable (guardW (R.BLK_CTRL pgLedger) 1 (blkCtrl .ledger 0 pgLedger 1)) s

/-- LEDGER_FILL_DONE (R283): The last fill write becomes visible and STAT.READY is set. -/
def execLedgerFillDone (s : State) : Host.Outcome State Fault Refusal :=
  run .ledgerFillDone ledgerFillDone s

/-- LEDGER_DISABLE (R284): While the ledger is disabled it delivers factor 1.0 and full ceilings and makes no
deposits. -/
def execLedgerDisable (s : State) : Host.Outcome State Fault Refusal :=
  runCtl .ledgerDisable (guardW (R.BLK_CTRL pgLedger) 0 (blkCtrl .ledger 0 pgLedger 0)) s

/-- MPOWER (R292): A laser MPOWER message arrives and its measured power is paired with its tick's planned point. -/
def execMpower (k body chk : Nat) (s : State) : Host.Outcome State Fault Refusal :=
  runCtl (.mpower k body chk) (upMpower k body chk) s

/-- MPOWER_MISSING (R310): A bad or missing measured power is replaced by a substitute deposit. -/
def execMpowerMissing (n : Nat) (s : State) : Host.Outcome State Fault Refusal :=
  runCtl (.mpowerMissing n) (mpowerMissing n) s

/-- MP_CLEAR (R312): A write of LEDGER.CMD.MP_CLEAR unfreezes a recovered channel's throttle. -/
def execMpClear (n : Nat) (s : State) : Host.Outcome State Fault Refusal :=
  runCtl (.mpClear n) (guardW R.LEDGER_CMD (BitVec.ofNat 32 (2 + n * 2 ^ 16)) (cmdMpClear n)) s

/-- HALT_CLEAR (R308): A write of LEDGER.CMD.HALT_CLEAR requests the clear of the thermal halt at the next evaluation.
-/
def execHaltClear (s : State) : Host.Outcome State Fault Refusal :=
  runCtl .haltClear (guardW R.LEDGER_CMD 1 cmdHaltClear) s

/-- LEDGER_EVALUATION (R299): Every 40 ticks the ledger evaluates T_spot, rise, throttle, warnings and halt
conditions. -/
def execLedgerEvaluation (late : Bool) (s : State) : Host.Outcome State Fault Refusal :=
  run (.ledgerEvaluation late) (ledgerEvaluation late) s

/-- LEDGER_CELL_RETURN (R291): A ledger cell fetch returns and is converted, or taken as 0 on an uncorrectable error.
-/
def execLedgerCellReturn (k : Nat) (ue : Bool) (s : State) : Host.Outcome State Fault Refusal :=
  run (.ledgerCellReturn k ue) (fun s => bar2Collect (ledgerCellReturn k ue s)) s

/-- LEDGER_SWEEP (R288): The background sweep reads every cell and rewrites cold cells with EXCESS 0. -/
def execLedgerSweep (s : State) : Host.Outcome State Fault Refusal :=
  run .ledgerSweep ledgerSweep s

end Sys2Proof.Machine
end

