-- ==== Sys2Proof/Machine/ExecHost.lean ====
section
/-! DEFINITION. The meanings of the commands of the host port (chapter 11). -/

namespace Sys2Proof.Machine

/-- BAR2_WRITE (R479): A BAR2 write is made visible in DRAM in order received, or refused. -/
def execBar2Write (off : Nat) (data : List (Option Byte)) (s : State) : Host.Outcome State Fault Refusal :=
  run (.bar2Write off data) (bar2Write off data) s

/-- BAR2_READ (R479): A BAR2 read returns DRAM data after every earlier BAR2 write is visible, or is refused. -/
def execBar2Read (off : Nat) (en : List Bool) (s : State) : Host.Outcome State Fault Refusal :=
  run (.bar2Read off en) (bar2Read off en) s

/-- BAR2_WIN_WRITE (R477): A write of BAR2_WIN moves the window for later BAR2 requests. -/
def execBar2WinWrite (w : Word) (s : State) : Host.Outcome State Fault Refusal :=
  runCtl (.bar2WinWrite w) (guardW R.GLOBAL_BAR2_WIN_LO w (bar2WinWrite w)) s

/-- FLR (R475): A Function Level Reset resets only the host port. -/
def execFlr (s : State) : Host.Outcome State Fault Refusal :=
  runCtl .flr flr s

/-- LINK_DOWN (R475): A loss of the data link resets only the host port. -/
def execLinkDown (s : State) : Host.Outcome State Fault Refusal :=
  runCtl .linkDown linkDown s

/-- CONFIG_REQUEST (R473): A configuration request is completed with retry status until verification ends, normally
after. -/
def execConfigRequest (q : CfgReq) (s : State) : Host.Outcome State Fault Refusal :=
  runCtl (.configRequest q) (configRequest q) s

/-- MSIX_MESSAGE (R518): The host port decides a requested message against masks and condition and sends or withholds
it. -/
def execMsixMessage (v : Nat) (s : State) : Host.Outcome State Fault Refusal :=
  runCtl (.msixMessage v) (msixMessage v) s

/-- MSIX_ENABLE (R519): Enabling MSI-X sends one message for every vector whose condition holds. -/
def execMsixEnable (on mask : Bool) (s : State) : Host.Outcome State Fault Refusal :=
  runCtl (.msixEnable on mask) (msixEnable on mask) s

/-- PTM_DIALOGUE (R493): Every PERIOD_MS the device sends a PTM request. -/
def execPtmDialogue (clk : Nat) (s : State) : Host.Outcome State Fault Refusal :=
  runCtl (.ptmDialogue clk) (ptmDialogue clk) s

/-- PTM_RESPONSE (R494): A PTM response arrives and the wall time is slewed or stepped. -/
def execPtmResponse (t2 p clk : Nat) (ok : Bool) (s : State) : Host.Outcome State Fault Refusal :=
  runCtl (.ptmResponse t2 p clk ok) (ptmResponse t2 p clk ok) s

/-- WALL_SET (R495): A write of WALL_SET steps the wall time to the written value. -/
def execWallSet (w : Word) (s : State) : Host.Outcome State Fault Refusal :=
  runCtl (.wallSet w) (guardW R.GLOBAL_WALL_SET_LO w (wallSet w)) s

/-- LOG_ENABLE (R488): A write of LOG_CFG.EN 1 sets LOG_WR to LOG_RD, or is refused. -/
def execLogEnable (w : Word) (s : State) : Host.Outcome State Fault Refusal :=
  runCtl (.logEnable w) (guardW R.GLOBAL_LOG_CFG w (logEnable w)) s

/-- LOG_RECORD_WRITE (R489): A staged record is written to the log ring when it has room. -/
def execLogRecordWrite (s : State) : Host.Outcome State Fault Refusal :=
  runCtl .logRecordWrite logRecordWrite s

/-- LOG_DROP (R489): A record that the staging buffer cannot take is dropped and counted. -/
def execLogDrop (s : State) : Host.Outcome State Fault Refusal :=
  runCtl .logDrop logDrop s

/-- LOG_WRITEBACK (R490): After WB_UNITS units or on idle the log writeback record is written. -/
def execLogWriteback (s : State) : Host.Outcome State Fault Refusal :=
  runCtl .logWriteback logWriteback s

/-- SMB_CHIP_ID (R497): SMBus command 0x01 returns CHIP_ID and the device UID. -/
def execSmbChipId (s : State) : Host.Outcome State Fault Refusal :=
  runCtl .smbChipId smbChipId s

/-- SMB_HEALTH (R497): SMBus command 0x02 returns the health word, role, power state and armed flag. -/
def execSmbHealth (s : State) : Host.Outcome State Fault Refusal :=
  runCtl .smbHealth (fun c => smbHealth c.armed c) s

/-- SMB_DIODES (R497): SMBus command 0x03 returns the eight die diode readings. -/
def execSmbDiodes (s : State) : Host.Outcome State Fault Refusal :=
  runCtl .smbDiodes smbDiodes s

/-- SMB_RAILS (R497): SMBus command 0x04 returns the seven rail monitor readings. -/
def execSmbRails (s : State) : Host.Outcome State Fault Refusal :=
  runCtl .smbRails smbRails s

/-- SMB_TALLY (R497): SMBus command 0x05 returns the tally captured at the command byte. -/
def execSmbTally (s : State) : Host.Outcome State Fault Refusal :=
  runCtl .smbTally smbTally s

/-- SMB_LINK (R497): SMBus command 0x06 returns the PCIe link state, width, rate and link-down count. -/
def execSmbLink (s : State) : Host.Outcome State Fault Refusal :=
  runCtl .smbLink smbLink s

/-- SMB_HALTS (R497): SMBus command 0x07 returns NV_HALTS, STORE_FAULT and LAYER_COUNT. -/
def execSmbHalts (s : State) : Host.Outcome State Fault Refusal :=
  runCtl .smbHalts smbHalts s

/-- SMB_UNKNOWN (R497): Any other SMBus command code is answered with a block of length 0. -/
def execSmbUnknown (cmd : Nat) (s : State) : Host.Outcome State Fault Refusal :=
  runCtl (.smbUnknown cmd) smbUnknown s

/-- SMB_ALERT_RESPONSE (R496): The device answers the Alert Response Address while it asserts SMB_ALERT_N. -/
def execSmbAlertResponse (s : State) : Host.Outcome State Fault Refusal :=
  runCtl .smbAlertResponse smbAlertResponse s

end Sys2Proof.Machine
end

