-- ==== Sys2Proof/Machine/ExecIdentity.lean ====
section
/-! DEFINITION. The meanings of the commands of identity, flash and Ngabenor (chapter 16). -/

namespace Sys2Proof.Machine

/-- INT_INSTALL (R611): A write of ID_CMD.INT_INSTALL installs the staged integrator certificate, or is refused. -/
def execIntInstall (s : State) : Host.Outcome State Fault Refusal :=
  runCtl .intInstall (guardW R.ID_CMD 1 intInstall) s

/-- INT_ERASE (R611): A write of ID_CMD.INT_ERASE removes the current integrator certificate, or is refused. -/
def execIntErase (s : State) : Host.Outcome State Fault Refusal :=
  runCtl .intErase (guardW R.ID_CMD 2 intErase) s

/-- COMMIT_SVN (R618): A write of ID_CMD.COMMIT_SVN raises the stored security version. -/
def execCommitSvn (s : State) : Host.Outcome State Fault Refusal :=
  runCtl .commitSvn (guardW R.ID_CMD 4 commitSvn) s

/-- FLASH_ERASE (R617): A write of ID_FLASH_CMD.ERASE erases a 64 KiB flash sector, or is refused. -/
def execFlashErase (s : State) : Host.Outcome State Fault Refusal :=
  runCtl .flashErase (guardW R.ID_FLASH_CMD 1 flashErase) s

/-- FLASH_PROGRAM (R617): A write of ID_FLASH_CMD.PROGRAM writes the staging object to flash, or is refused. -/
def execFlashProgram (s : State) : Host.Outcome State Fault Refusal :=
  runCtl .flashProgram (guardW R.ID_FLASH_CMD 2 flashProgram) s

/-- FLASH_DONE (R617): A flash command or certificate install completes. -/
def execFlashDone (s : State) : Host.Outcome State Fault Refusal :=
  runCtl .flashDone flashDone s

/-- NG_ENTRY_SIGNED (R622): An entry's signature completes and it is queued for the ring and window. -/
def execNgEntrySigned (s : State) : Host.Outcome State Fault Refusal :=
  runCtl .ngEntrySigned ngEntrySigned s

/-- NG_RING_WRITE (R623): A queued signed entry is written to the Ngabenor ring when it has room. -/
def execNgRingWrite (s : State) : Host.Outcome State Fault Refusal :=
  runCtl .ngRingWrite ngRingWrite s

/-- NG_ENABLE (R623): A write of NG_CTRL.EN enables the ring output, or is refused. -/
def execNgEnable (w : Word) (s : State) : Host.Outcome State Fault Refusal :=
  runCtl (.ngEnable w) (guardW R.NG_CTRL w (ngEnable w)) s

end Sys2Proof.Machine
end

