-- ==== Sys2Proof/Machine/ExecLane.lean ====
section
/-! DEFINITION. The meanings of the commands of lanes (chapter 7). -/

namespace Sys2Proof.Machine

/-- LANE_ENABLE (R329): A write of a lane's BLK_CTRL enable 1 starts bring-up in DETECT when the start-up order
permits. -/
def execLaneEnable (k : Nat) (s : State) : Host.Outcome State Fault Refusal :=
  runCtl (.laneEnable k) (guardW (R.BLK_CTRL (pgLane k)) 1 (withLanes (blkCtrl .lane k (pgLane k) 1))) s

/-- LANE_DISABLE (R329): A write of a lane's BLK_CTRL enable 0 puts the lane DOWN in electrical idle. -/
def execLaneDisable (k : Nat) (s : State) : Host.Outcome State Fault Refusal :=
  runCtl (.laneDisable k) (guardW (R.BLK_CTRL (pgLane k)) 0 (withLanes (blkCtrl .lane k (pgLane k) 0))) s

/-- START (R329): A write of LANE_CMD.START starts bring-up of a DOWN or ABSENT lane. -/
def execStart (k : Nat) (s : State) : Host.Outcome State Fault Refusal :=
  runCtl (.start k) (guardW (R.LANE_CMD k) 1 (withLanes (laneStart k))) s

/-- RETRAIN (R337): A write of LANE_CMD.RETRAIN sends RETRAIN_REQ and leads the lane to TRAIN. -/
def execRetrain (k : Nat) (s : State) : Host.Outcome State Fault Refusal :=
  runCtl (.retrain k) (guardW (R.LANE_CMD k) 2 (withLanes (retrain k))) s

/-- LANE_RATE_WRITE (R333): A write of LANE_CTRL.RATE restarts training at the new rate or sets RATE_PENDING. -/
def execLaneRateWrite (k : Nat) (slow : Bool) (s : State) : Host.Outcome State Fault Refusal :=
  runCtl (.laneRateWrite k slow) (guardW (R.LANE_CTRL k) (BitVec.ofNat 32 (4 * b2n slow)) (withLanes (laneRateWrite k slow))) s

/-- DETECT_PROBE (R331): Every 100 µs the transmitter probes for the partner's termination and leaves DETECT when
found. -/
def execDetectProbe (k : Nat) (found signal : Bool) (s : State) : Host.Outcome State Fault Refusal :=
  runCtl (.detectProbe k found signal) (withLanes (detectProbe k found signal)) s

/-- TRAIN (R332): A TRAIN control block arrives and drives the training steps and cursor requests. -/
def execTrain (k body check : Nat) (stepEnd : Bool) (fom ctle : Nat) (s : State) : Host.Outcome State Fault Refusal :=
  runCtl (.train k body check stepEnd fom ctle) (withLanes (ctlBlock k bTrain body check (trainBlock k body stepEnd fom ctle))) s

/-- IDLE (R334): A received IDLE block counts towards the lock or relock criterion. -/
def execIdle (k body check : Nat) (s : State) : Host.Outcome State Fault Refusal :=
  runCtl (.idle k body check) (withLanes (ctlBlock k bIdle body check (idleBlock k))) s

/-- EXCH_OFFER (R335): EXCH OFFER blocks arrive and after 4 are checked against role, lane and rate. -/
def execExchOffer (k body check : Nat) (s : State) : Host.Outcome State Fault Refusal :=
  runCtl (.exchOffer k body check) (withLanes (ctlBlock k bExch body check (offerBlock k body))) s

/-- EXCH_CONFIRM (R335): After 4 CONFIRM blocks each way the lane enters ACTIVE and records LANE_PEER. -/
def execExchConfirm (k body check : Nat) (s : State) : Host.Outcome State Fault Refusal :=
  runCtl (.exchConfirm k body check) (withLanes (ctlBlock k bExch body check (exchConfirm k))) s

/-- LANE_TIMEOUT (R329): A DETECT, TRAIN, LOCK or EXCHANGE timeout fails the attempt into BACKOFF. -/
def execLaneTimeout (k : Nat) (s : State) : Host.Outcome State Fault Refusal :=
  runCtl (.laneTimeout k) (withLanes (laneTimeout k)) s

/-- BACKOFF_EXPIRY (R329): After BACKOFF_MS the lane starts its next attempt or enters ABSENT. -/
def execBackoffExpiry (k : Nat) (s : State) : Host.Outcome State Fault Refusal :=
  runCtl (.backoffExpiry k) (withLanes (backoffExpiry k)) s

/-- BLOCK_LOCK_LOST (R326): 16 invalid headers in 64 lose block lock and send an ACTIVE lane to relock. -/
def execBlockLockLost (k : Nat) (s : State) : Host.Outcome State Fault Refusal :=
  runCtl (.blockLockLost k) (withLanes (blockLockLost k)) s

/-- RELOCK_TIMEOUT (R329): A relock not completed within 10 µs sends the lane to TRAIN. -/
def execRelockTimeout (k : Nat) (s : State) : Host.Outcome State Fault Refusal :=
  runCtl (.relockTimeout k) (withLanes (relockTimeout k)) s

/-- SIGNAL_LOST (R329): Loss of the receive signal without EI_ENTER sends an ACTIVE lane to TRAIN. -/
def execSignalLost (k : Nat) (s : State) : Host.Outcome State Fault Refusal :=
  runCtl (.signalLost k) (withLanes (signalLost k)) s

/-- RETRAIN_REQ (R337): A received RETRAIN_REQ is answered with RETRAIN_ACK and the lane enters TRAIN. -/
def execRetrainReq (k body check : Nat) (s : State) : Host.Outcome State Fault Refusal :=
  runCtl (.retrainReq k body check) (withLanes (ctlBlock k bLinkMgmt body check (retrainReq k))) s

/-- RETRAIN_ACK (R337): A received RETRAIN_ACK moves the requesting lane into TRAIN. -/
def execRetrainAck (k body check : Nat) (s : State) : Host.Outcome State Fault Refusal :=
  runCtl (.retrainAck k body check) (withLanes (ctlBlock k bLinkMgmt body check (retrainAck k))) s

/-- RETRAIN_REQ_TIMEOUT (R337): 1 µs after sending RETRAIN_REQ the lane enters TRAIN. -/
def execRetrainReqTimeout (k : Nat) (s : State) : Host.Outcome State Fault Refusal :=
  runCtl (.retrainReqTimeout k) (withLanes (retrainReqTimeout k)) s

/-- FOM_WINDOW_END (R338): At each window end the figure-of-merit threshold moves and FOM is updated. -/
def execFomWindowEnd (k count : Nat) (s : State) : Host.Outcome State Fault Refusal :=
  runCtl (.fomWindowEnd k count) (withLanes (fomWindowEnd k count)) s

/-- DFE_STEP (R339): After every 256 data blocks each DFE tap moves by at most one step. -/
def execDfeStep (k : Nat) (d : List Int) (s : State) : Host.Outcome State Fault Refusal :=
  runCtl (.dfeStep k d) (withLanes (dfeStep k d)) s

/-- ADAPT_FROZEN (R340): 64 consecutive non-data blocks freeze adaptation. -/
def execAdaptFrozen (k : Nat) (s : State) : Host.Outcome State Fault Refusal :=
  runCtl (.adaptFrozen k) (withLanes (adaptFrozen k)) s

/-- LINE_KEEPER_SEND (R341): After 8 µs of non-data blocks the transmitter sends a line keeper. -/
def execLineKeeperSend (k : Nat) (s : State) : Host.Outcome State Fault Refusal :=
  runCtl (.lineKeeperSend k) (withLanes (lineKeeperSend k)) s

/-- LINE_KEEPER (R342): A received line keeper is checked against the PRBS31 sequence. -/
def execLineKeeper (k body : Nat) (s : State) : Host.Outcome State Fault Refusal :=
  runCtl (.lineKeeper k body) (withLanes (lineKeeper k body)) s

/-- BLOCK_DISCARD (R324): A block with an invalid header, failed CHECK or unassigned type is discarded and counted. -/
def execBlockDiscard (k : Nat) (b : Discarded) (s : State) : Host.Outcome State Fault Refusal :=
  runCtl (.blockDiscard k b) (withLanes (blockDiscard k b.cause b.payload)) s

/-- EI_ENTER (R345): A received EI_ENTER makes the receiver treat its input as idle and hold its settings. -/
def execEiEnter (k body check : Nat) (s : State) : Host.Outcome State Fault Refusal :=
  runCtl (.eiEnter k body check) (withLanes (ctlBlock k bEiEnter body check (eiEnter k (body % 4)))) s

/-- WAKE_TIMEOUT (R329): A fast exit without lock 80 ticks after it began sends the lane to TRAIN. -/
def execWakeTimeout (k : Nat) (s : State) : Host.Outcome State Fault Refusal :=
  runCtl (.wakeTimeout k) (withLanes (wakeTimeout k)) s

/-- LANE_TEST_MODE (R347): A write of LANE_TEST.MODE enters or leaves a test mode, or is refused. -/
def execLaneTestMode (k : Nat) (w : Word) (s : State) : Host.Outcome State Fault Refusal :=
  runCtl (.laneTestMode k w) (guardW (R.LANE_TEST k) w (withLanes (laneTestMode k w.toNat))) s

/-- INJ_GO (R350): A write of LANE_INJ_CTL.GO starts error injection, or is refused. -/
def execInjGo (k : Nat) (w : Word) (s : State) : Host.Outcome State Fault Refusal :=
  runCtl (.injGo k w) (guardW (R.LANE_INJ_CTL k) w (writeLane k 0x94 w)) s

/-- INJ_STOP (R350): A write of LANE_INJ_CTL.STOP ends error injection. -/
def execInjStop (k : Nat) (w : Word) (s : State) : Host.Outcome State Fault Refusal :=
  runCtl (.injStop k w) (guardW (R.LANE_INJ_CTL k) w (writeLane k 0x94 w)) s

/-- CHECKER_BLOCK (R349): In TEST mode a received data block is compared by the pattern checker (or looped back in
FAR_PARALLEL), updating SYNC, PC_BITS, PC_ERRS and slips. -/
def execCheckerBlock (k line drift : Nat) (s : State) : Host.Outcome State Fault Refusal :=
  runCtl (.checkerBlock k line drift) (checkerBlock k line drift) s

end Sys2Proof.Machine
end

