-- ==== Sys2Proof/Machine/ExecLight.lean ====
section
/-! DEFINITION. The meanings of the commands of bed lighting (chapter 14). -/

namespace Sys2Proof.Machine

/-- ROW_SLOT (R560): Every 25 µs the next lamp row is selected and its columns pulsed. -/
def execRowSlot (stuck lampSense padsA padsB : Nat) (camAt : Option Nat) (s : State) : Host.Outcome State Fault Refusal :=
  runCtl (.rowSlot stuck lampSense padsA padsB camAt) (rowSlot stuck lampSense padsA padsB camAt) s

/-- SWAP (R565): A write of LIGHT.CMD.SWAP sets SWAP_PENDING. -/
def execSwap (s : State) : Host.Outcome State Fault Refusal :=
  runCtl .swap (guardW R.LIGHT_CMD 1 swap) s

/-- PAT_CLEAR (R569): A write of LIGHT.CMD.PAT_CLEAR ends the recovery pattern. -/
def execPatClear (s : State) : Host.Outcome State Fault Refusal :=
  runCtl .patClear (guardW R.LIGHT_CMD 2 patClear) s

/-- SHORT_TEST (R573): A write of LIGHT.CMD.SHORT_TEST schedules the neighbour-pin short test for the next frame. -/
def execShortTest (s : State) : Host.Outcome State Fault Refusal :=
  runCtl .shortTest (guardW R.LIGHT_CMD 4 shortTest) s

/-- CAM_SYNC_EDGE (R567): An asserting filtered CAM_SYNC edge truncates the row slot and starts a frame. -/
def execCamSyncEdge (on : Bool) (s : State) : Host.Outcome State Fault Refusal :=
  runCtl (.camSyncEdge on) (camSyncEdge on) s

end Sys2Proof.Machine
end

