-- ==== Sys2Proof/Machine/ExecMemory.lean ====
section
/-! DEFINITION. The meanings of the commands of the millraces and DRAM (chapter 10). -/

namespace Sys2Proof.Machine

/-- MILLRACE_ENABLE (R465): A write of a millrace's BLK_CTRL enable 1 starts INIT when the start-up order permits; 0
turns it OFF. -/
def execMillraceEnable (m : Nat) (en : Bool) (s : State) : Host.Outcome State Fault Refusal :=
  runMap (.millraceEnable m en) (guardW (R.BLK_CTRL (pgMillrace m)) (BitVec.ofNat 32 (b2n en)) (blkCtrl .millrace m (pgMillrace m) (BitVec.ofNat 32 (b2n en)))) s

/-- INIT_DONE (R466): The INIT sequence completes and training attempt 1 begins. -/
def execInitDone (m : Nat) (s : State) : Host.Outcome State Fault Refusal :=
  runMap (.initDone m) (initDone m) s

/-- TRAIN_STEP_DONE (R466): A training step completes, passing to the next step, to SERVICE or to a failure. -/
def execTrainStepDone (m : Nat) (pass : Bool) (s : State) : Host.Outcome State Fault Refusal :=
  runMap (.trainStepDone m pass) (trainStepDone m pass) s

/-- TRAIN_RETRY (R465): 10 ms after a failed first attempt, training attempt 2 begins. -/
def execTrainRetry (m : Nat) (s : State) : Host.Outcome State Fault Refusal :=
  runCtl (.trainRetry m) (trainRetry m) s

/-- MC_RETRAIN (R468): A write of MC_CTRL.RETRAIN retrains a millrace, or is refused while RT requesters can reach it.
-/
def execMcRetrain (m : Nat) (s : State) : Host.Outcome State Fault Refusal :=
  runMap (.mcRetrain m) (guardW (R.MC_CTRL m) (BitVec.ofNat 32 (2 ^ 31)) (mcRetrain m)) s

/-- MC_RATE_WRITE (R467): A write of MC_CTRL.RATE restarts training or sets RATE_PENDING. -/
def execMcRateWrite (m rate : Nat) (s : State) : Host.Outcome State Fault Refusal :=
  runCtl (.mcRateWrite m rate) (guardW (R.MC_CTRL m) (BitVec.ofNat 32 (rate * 2 ^ 29)) (mcRateWrite m rate)) s

/-- RT_READ (R449): A real-time read request reaches the millrace and is queued ahead of writes. -/
def execRtRead (m who a len : Nat) (bulk : Bool) (s : State) : Host.Outcome State Fault Refusal :=
  runCtl (.rtRead m who a len bulk) (rtRead m who a len bulk) s

/-- RT_READ_RETURN (R449): A real-time read returns its data within the bound and its latency is measured. -/
def execRtReadReturn (m ns : Nat) (errs : List SymbolError) (s : State) : Host.Outcome State Fault Refusal :=
  run (.rtReadReturn m ns errs) (fun s => bar2Collect (rtReadReturn m ns errs s)) s

/-- BULK_READ (R448): A bulk read is served before writes except during a drain. -/
def execBulkRead (m a : Nat) (errs : List SymbolError) (s : State) : Host.Outcome State Fault Refusal :=
  run (.bulkRead m a errs) (fun s => bar2Collect (bulkRead m a errs s)) s

/-- DRAM_WRITE (R451): A write is accepted into the write queue and becomes visible, merging with an existing entry.
-/
def execDramWrite (host : Bool) (s : State) : Host.Outcome State Fault Refusal :=
  run (.dramWrite host) (fun s => (dramWriteOf host s).camerasSee) s

/-- WRITE_BATCH (R453): The millrace commits a batch of whole-granule writes when no RT read waits. -/
def execWriteBatch (b : WriteBatch) (s : State) : Host.Outcome State Fault Refusal :=
  run (.writeBatch b) (fun s => bar2Collect (writeBatch b.m b.errs s)) s

/-- REFRESH_DUE (R457): A refresh interval falls due for a rank and bank index. -/
def execRefreshDue (m rank idx : Nat) (s : State) : Host.Outcome State Fault Refusal :=
  runCtl (.refreshDue m rank idx) (refreshDue m rank idx) s

/-- REFRESH_REPAY (R458): Refresh debt is repaid when no RT read concerns the bank index. -/
def execRefreshRepay (m rank idx : Nat) (s : State) : Host.Outcome State Fault Refusal :=
  runCtl (.refreshRepay m rank idx) (refreshRepay m rank idx) s

/-- NRR (R460): A triggered neighbour-row refresh activates and precharges the adjacent rows after any RT access. -/
def execNrr (m : Nat) (s : State) : Host.Outcome State Fault Refusal :=
  runCtl (.nrr m) (nrr m) s

/-- DRAM_TEMP_READ (R457): Every 16 ms the DRAM temperature is read and HOT set or cleared. -/
def execDramTempRead (m : Nat) (degC : Int) (s : State) : Host.Outcome State Fault Refusal :=
  runCtl (.dramTempRead m degC) (dramTempRead m degC) s

/-- PERIODIC_CALIBRATION (R470): Every 100 ms per rank one calibration step runs when no RT read waits. -/
def execPeriodicCalibration (m : Nat) (s : State) : Host.Outcome State Fault Refusal :=
  runCtl (.periodicCalibration m) (periodicCalibration m) s

/-- SCRUB_READ (R462): The patrol scrub reads the next granule and writes back corrected errors. -/
def execScrubRead (m : Nat) (errs : List SymbolError) (s : State) : Host.Outcome State Fault Refusal :=
  run (.scrubRead m errs) (scrubRead m errs) s

/-- ROW_CLOSE (R456): A row idle for PAGE_IDLE clocks is closed. -/
def execRowClose (m bank : Nat) (s : State) : Host.Outcome State Fault Refusal :=
  run (.rowClose m bank) (fun s => { s with ctl := rowClose m bank (s.mem.wq m) s.ctl }) s

end Sys2Proof.Machine
end

