-- ==== Sys2Proof/Machine/ExecPower.lean ====
section
/-! DEFINITION. The meanings of the commands of resets, power states and temperatures (chapter 18). -/

namespace Sys2Proof.Machine

/-- POWER_ON_RESET (R643): The internal power-on reset holds the device until every rail has been good for 1 ms. -/
def execPowerOnReset (s : State) : Host.Outcome State Fault Refusal :=
  runAlways .powerOnReset powerOnReset s

/-- DEVICE_RESET (R644): A full device reset releases and boot with slot selection and NVM scans runs. -/
def execDeviceReset (hA hB : BootHeader) (fault : Nat) (s : State) : Host.Outcome State Fault Refusal :=
  runAlways (.deviceReset hA hB fault) (deviceReset hA hB fault) s

/-- BOOT_VERIFY_END (R615): Boot image verification ends, the firmware starts or RECOVERY is entered. -/
def execBootVerifyEnd (bodyOk : Bool) (s : State) : Host.Outcome State Fault Refusal :=
  runCtl (.bootVerifyEnd bodyOk) (bootVerifyEnd bodyOk) s

/-- WARM_PERST (R645): A PERST_N assertion with PERST_FULL 0 resets only the host port. -/
def execWarmPerst (s : State) : Host.Outcome State Fault Refusal :=
  run .warmPerst warmPerst s

/-- CHIP_RESET (R646): A write of RST_CMD.CHIP_RESET resets the device, or is refused while armed. -/
def execChipReset (s : State) : Host.Outcome State Fault Refusal :=
  run .chipReset (guardWS R.GLOBAL_RST_CMD 1 chipReset) s

/-- BROWN_OUT (R668): A rail below 92 % for 2 µs resets the device with cause 3. -/
def execBrownOut (s : State) : Host.Outcome State Fault Refusal :=
  runAlways .brownOut brownOut s

/-- START_STEP (R648): A start-up step begins once its predecessor ends or its delay has passed. -/
def execStartStep (s : State) : Host.Outcome State Fault Refusal :=
  runCtl .startStep (withLanes startStep) s

/-- POWER_STATE_CHOICE (R654): Every millisecond the device chooses a target power state and enters it if deeper. -/
def execPowerStateChoice (s : State) : Host.Outcome State Fault Refusal :=
  runMap .powerStateChoice (withLanes powerChoice) s

/-- POWER_STATE_EXIT (R655): Arming the build or a tolerance change starts the return to Ready. -/
def execPowerStateExit (s : State) : Host.Outcome State Fault Refusal :=
  runCtl .powerStateExit (withLanes powerStateExit) s

/-- PWR_CHG (R658): An exit sequence completes and PWR_STAT reads Ready. -/
def execPwrChg (s : State) : Host.Outcome State Fault Refusal :=
  runHeld .pwrChg (withLanes (powerChanged heldWrite)) s

/-- DIODE_ROUND (R661): Every 100 µs all 8 die diodes are measured and T_max formed. -/
def execDiodeRound (temps : List Int) (late : Bool) (s : State) : Host.Outcome State Fault Refusal :=
  runCtl (.diodeRound temps late) (diodeRound temps late) s

/-- DIE_SHUTDOWN (R664): 400 ticks after the critical condition the spindle domain and lanes stop. -/
def execDieShutdown (s : State) : Host.Outcome State Fault Refusal :=
  runMap .dieShutdown (withLanes dieShutdown) s

/-- RAIL_SAMPLE (R666): Every 10 µs each rail is sampled. -/
def execRailSample (mv : List Nat) (s : State) : Host.Outcome State Fault Refusal :=
  runCtl (.railSample mv) (railSamples mv) s

end Sys2Proof.Machine
end

