-- ==== Sys2Proof/Machine/ExecProto.lean ====
section
/-! DEFINITION. The meanings of the commands of the head and laser protocol (chapter 8). -/

namespace Sys2Proof.Machine

/-- TICK_MARK (R359): At each superframe tick a TICK_MARK is sent on every head and laser downlink. -/
def execTickMark (s : State) : Host.Outcome State Fault Refusal :=
  runCtl .tickMark tickMark s

/-- MGMT_GO (R374): A write of MGMT_CMD.GO sends a MGMT_REQ with a new RSEQ. -/
def execMgmtGo (k : Nat) (w : Word) (s : State) : Host.Outcome State Fault Refusal :=
  runCtl (.mgmtGo k w) (guardW (R.MGMT_CMD k) w (writeLane k 0x120 w)) s

/-- MGMT_RETRY (R375): A request without response in 2,000 ticks is resent, and abandoned after the third resend. -/
def execMgmtRetry (k : Nat) (s : State) : Host.Outcome State Fault Refusal :=
  runCtl (.mgmtRetry k) (mgmtRetry k) s

/-- MGMT_RSP (R374): A MGMT_RSP arrives and completes its request. -/
def execMgmtRsp (k body chk : Nat) (s : State) : Host.Outcome State Fault Refusal :=
  runCtl (.mgmtRsp k body chk) (upMgmt k body chk) s

/-- GALVO (R190): A GALVO message arrives and its feedback is compared for tracking errors. -/
def execGalvo (k body chk : Nat) (s : State) : Host.Outcome State Fault Refusal :=
  runCtl (.galvo k body chk) (upGalvo k body chk) s

/-- HSTAT (R355): An HSTAT message arrives with Z feedback and status bits. -/
def execHstat (k body chk : Nat) (s : State) : Host.Outcome State Fault Refusal :=
  runCtl (.hstat k body chk) (upHstat k body chk) s

/-- PARTNER_TICK_MARK (R360): A head or laser takes a TICK_MARK as its tick edge and resynchronises its count. -/
def execPartnerTickMark (k tally check : Nat) (s : State) : Host.Outcome State Fault Refusal :=
  runCtl (.partnerTickMark k tally check) (partnerTickMark k tally check) s

/-- PARTNER_SAMPLE (R365): A head or laser accepts a downlink sample and holds it until its tick. -/
def execPartnerSample (k port mt body chk : Nat) (s : State) : Host.Outcome State Fault Refusal :=
  runCtl (.partnerSample k port mt body chk) (partnerSample k port mt body chk) s

/-- CORRECTION (R368): A laser applies a CORRECTION block to its emission from its next emission on. -/
def execCorrection (k port body check : Nat) (s : State) : Host.Outcome State Fault Refusal :=
  runCtl (.correction k port body check) (correction k port body check) s

/-- BRAKE (R372): A laser engages on a BRAKE with ENGAGE 1 and releases only on a newer release. -/
def execBrake (k port body check : Nat) (s : State) : Host.Outcome State Fault Refusal :=
  runCtl (.brake k port body check) (brakeBlock k port body check) s

/-- BRAKE_ECHO (R373): A laser not echoing a new BSEQ within 8 ticks sets PROTO_EVT.BRAKE_ECHO. -/
def execBrakeEcho (k : Nat) (s : State) : Host.Outcome State Fault Refusal :=
  runCtl (.brakeEcho k) (brakeEcho k) s

/-- CAM_CREDIT (R383): The device grants CAM_DATA credits as ring space allows. -/
def execCamCredit (k : Nat) (s : State) : Host.Outcome State Fault Refusal :=
  runCtl (.camCredit k) (camCredit k) s

/-- CAM_SOF (R384): A CAM_SOF starts a frame record, truncating any frame in progress. -/
def execCamSof (k body chk : Nat) (s : State) : Host.Outcome State Fault Refusal :=
  runCtl (.camSof k body chk) (uplink k 6 body chk (camSof k (slice body 0 8) (slice body 8 16) (slice body 24 32))) s

/-- CAM_DATA (R383): A CAM_DATA block is stored, or discarded and counted as overrun without credit. -/
def execCamData (k body chk : Nat) (s : State) : Host.Outcome State Fault Refusal :=
  runCtl (.camData k body chk) (uplink k 5 body chk (camData k (slice body 0 8) (slice body 8 48))) s

/-- CAM_EOF (R385): A CAM_EOF closes the frame, writes its header and advances CAM_WR. -/
def execCamEof (k body chk : Nat) (s : State) : Host.Outcome State Fault Refusal :=
  runCtl (.camEof k body chk) (uplink k 7 body chk (camEof k (slice body 0 8) (slice body 8 24))) s

/-- CAM_ENABLE (R386): A write of CAM_CTRL.EN enables the camera stream or refuses it with SIZE_ERR. -/
def execCamEnable (k : Nat) (w : Word) (s : State) : Host.Outcome State Fault Refusal :=
  runCtl (.camEnable k w) (guardW (R.CAM_CTRL k) w (camEnable k w.toNat)) s

/-- XY2_ENABLE (R392): A write of XY2_CTRL.EN enables the XY2-100 output or refuses it with ERR. -/
def execXy2Enable (k : Nat) (w : Word) (s : State) : Host.Outcome State Fault Refusal :=
  runCtl (.xy2Enable k w) (guardW (R.XY2_CTRL k) w (xy2Enable k w.toNat)) s

/-- XY2_FRAME (R391): Every 200 ticks an XY2-100 frame carrying the bound spindle's position sample starts. -/
def execXy2Frame (k : Nat) (s : State) : Host.Outcome State Fault Refusal :=
  runCtl (.xy2Frame k) (xy2Frame k) s

end Sys2Proof.Machine
end

