-- ==== Sys2Proof/Machine/ExecRecorder.lean ====
section
/-! DEFINITION. The meanings of the commands of the recorder (chapter 15). -/

namespace Sys2Proof.Machine

/-- BUILD_OPEN (R588): A write of REC_CMD.BUILD_OPEN closes any open build, clears and opens the build scope. -/
def execBuildOpen (s : State) : Host.Outcome State Fault Refusal :=
  runCtl .buildOpen (guardW R.REC_CMD 1 cmdBuildOpen) s

/-- BUILD_CLOSE (R588): A write of REC_CMD.BUILD_CLOSE emits the BUILD_CLOSE event and BUILD_SUMMARY. -/
def execBuildClose (s : State) : Host.Outcome State Fault Refusal :=
  runCtl .buildClose (guardW R.REC_CMD 2 buildClose) s

/-- FREEZE (R589): A write of the recorder BLK_CTRL freeze bit freezes or unfreezes the histogram view. -/
def execFreeze (on : Bool) (s : State) : Host.Outcome State Fault Refusal :=
  runCtl (.freeze on) (guardW (R.BLK_CTRL pgRecorder) (BitVec.ofNat 32 (4 * b2n on)) (freeze on)) s

/-- FREEZE_EXPIRED (R590): A freeze older than 200,000 ticks ends and emits FREEZE_EXPIRED. -/
def execFreezeExpired (s : State) : Host.Outcome State Fault Refusal :=
  runCtl .freezeExpired freezeExpired s

/-- REC_MW_WRITE (R587): A write of REC_MW with width 0 is rejected and sets CFG_ERR. -/
def execRecMwWrite (k : Nat) (w : Word) (s : State) : Host.Outcome State Fault Refusal :=
  runCtl (.recMwWrite k w) (guardW (R.REC_MW k) w (recMwWrite k w)) s

/-- NV_WRITE (R598): An NV record is programmed into the NVM when a token is available. -/
def execNvWrite (o : NvOutcome) (s : State) : Host.Outcome State Fault Refusal :=
  runCtl (.nvWrite o) (nvWrite o) s

/-- NV_TOKEN_REFILL (R598): Every second one token is added to the NV bucket. -/
def execNvTokenRefill (s : State) : Host.Outcome State Fault Refusal :=
  runCtl .nvTokenRefill nvTokenRefill s

/-- LIFETIME (R597): Every LIFE_HOURS a LIFETIME record is written. -/
def execLifetime (s : State) : Host.Outcome State Fault Refusal :=
  runCtl .lifetime lifetime s

/-- WEAR_INTERVAL_END (R603): Every 8 h each enabled wear item appends a point and is refitted. -/
def execWearIntervalEnd (s : State) : Host.Outcome State Fault Refusal :=
  runCtl .wearIntervalEnd wearIntervalEnd s

/-- WEAR_CFG_WRITE (R603): A write changing a wear item's EN or SOURCE clears its history. -/
def execWearCfgWrite (k : Nat) (w : Word) (s : State) : Host.Outcome State Fault Refusal :=
  runCtl (.wearCfgWrite k w) (guardW (R.WEAR_CFG k) w (wearCfgWrite k w)) s

end Sys2Proof.Machine
end

