-- ==== Sys2Proof/Machine/ExecSluice.lean ====
section
/-! DEFINITION. The meanings of the commands of the sluice (chapter 12). -/

namespace Sys2Proof.Machine

/-- SLUICE_ENABLE (R505): Enabling the sluice takes present filtered states as previous states and arms contexts and
groups. -/
def execSluiceEnable (en : Bool) (s : State) : Host.Outcome State Fault Refusal :=
  runCtl (.sluiceEnable en) (guardW (R.BLK_CTRL pgSluice) (BitVec.ofNat 32 (b2n en)) (blkCtrl .sluice 0 pgSluice (BitVec.ofNat 32 (b2n en)))) s

/-- SOURCE_LEVEL (R503): An asserted LEVEL source that is not claimed becomes pending. -/
def execSourceLevel (src : Nat) (s : State) : Host.Outcome State Fault Refusal :=
  runCtl (.sourceLevel src) (sourceLevel src) s

/-- SOURCE_EDGE (R504): A selected edge of an edge-mode source increments its event count. -/
def execSourceEdge (src : Nat) (s : State) : Host.Outcome State Fault Refusal :=
  runCtl (.sourceEdge src) (sourceEdge src) s

/-- SW_PEND_SET (R506): A write of SW_PEND with CLEAR 0 sets the named source's software latch. -/
def execSwPendSet (src : Nat) (s : State) : Host.Outcome State Fault Refusal :=
  runCtl (.swPendSet src) (guardW R.SLUICE_SW_PEND (BitVec.ofNat 32 src) (swPendSet src)) s

/-- SW_PEND_CLEAR (R506): A write of SW_PEND with CLEAR 1 clears the named source's software latch. -/
def execSwPendClear (src : Nat) (s : State) : Host.Outcome State Fault Refusal :=
  runCtl (.swPendClear src) (guardW R.SLUICE_SW_PEND (BitVec.ofNat 32 (2 ^ 8 + src)) (swPendClear src)) s

/-- CTX_CLAIM (R510): A read of CTX_CLAIM claims the highest deliverable source and pushes its priority. -/
def execCtxClaim (x : Nat) (s : State) : Host.Outcome State Fault Refusal :=
  run (.ctxClaim x) (State.hostRead (R.SLUICE_CTX_CLAIM x)) s

/-- CTX_COMPLETE (R511): A write of CTX_COMPLETE with FLUSH 0 completes the source on top of the stack. -/
def execCtxComplete (x src : Nat) (s : State) : Host.Outcome State Fault Refusal :=
  runCtl (.ctxComplete x src) (guardW (R.SLUICE_CTX_COMPLETE x) (BitVec.ofNat 32 src) (ctxComplete x src)) s

/-- CTX_COMPLETE_FLUSH (R512): A write of CTX_COMPLETE with FLUSH 1 completes every claim on the stack. -/
def execCtxCompleteFlush (x : Nat) (s : State) : Host.Outcome State Fault Refusal :=
  runCtl (.ctxCompleteFlush x) (guardW (R.SLUICE_CTX_COMPLETE x) (BitVec.ofNat 32 (2 ^ 31)) (ctxCompleteFlush x)) s

/-- CTX_THRESH_WRITE (R509): A write of CTX_THRESH sets the threshold and arms the context. -/
def execCtxThreshWrite (x t : Nat) (s : State) : Host.Outcome State Fault Refusal :=
  runCtl (.ctxThreshWrite x t) (guardW (R.SLUICE_CTX_THRESH x) (BitVec.ofNat 32 t) (ctxThreshWrite x t)) s

/-- SCAN_ACK (R515): A write of SCAN_ACK acknowledges the named sources and arms the group. -/
def execScanAck (g mask : Nat) (s : State) : Host.Outcome State Fault Refusal :=
  runCtl (.scanAck g mask) (guardW (R.SLUICE_SCAN_ACK g) (BitVec.ofNat 32 mask) (scanAck g mask)) s

/-- COALESCE_RELEASE (R516): A held message is released when COUNT pendings or TIME_US have passed. -/
def execCoalesceRelease (v : Nat) (s : State) : Host.Outcome State Fault Refusal :=
  runCtl (.coalesceRelease v) (coalesceRelease v) s

end Sys2Proof.Machine
end

