-- ==== Sys2Proof/Machine/ExecSpindle.lean ====
section
/-! DEFINITION. The meanings of the commands of spindles, profiles and tables (chapter 3). -/

namespace Sys2Proof.Machine

/-- SPINDLE_ENABLE (R132): A write of the spindle's BLK_CTRL enable 1 checks its configuration and enters STOPPED or
records CFG_ERR. -/
def execSpindleEnable (n : Nat) (s : State) : Host.Outcome State Fault Refusal :=
  runCtl (.spindleEnable n) (guardW (R.BLK_CTRL (pgSpindle n)) 1 (blkCtrl .spindle n (pgSpindle n) 1)) s

/-- SPINDLE_DISABLE (R131): A write of the spindle's BLK_CTRL enable 0 ends emission, brings the mirror to rest and
disables its stream. -/
def execSpindleDisable (n : Nat) (s : State) : Host.Outcome State Fault Refusal :=
  runCtl (.spindleDisable n) (guardW (R.BLK_CTRL (pgSpindle n)) 0 (blkCtrl .spindle n (pgSpindle n) 0)) s

/-- MIRROR_AT_REST (R130): A BRAKING spindle whose mirror comes to rest enters BRAKED, or DISABLED after a disable. -/
def execMirrorAtRest (n : Nat) (s : State) : Host.Outcome State Fault Refusal :=
  runCtl (.mirrorAtRest n) (mirrorAtRest n) s

/-- BRAKE_RESUME (R163): A write of CMD.BRAKE_RESUME with the brake released restarts the spindle from its brake
point. -/
def execBrakeResume (n : Nat) (s : State) : Host.Outcome State Fault Refusal :=
  runCtl (.brakeResume n) (guardW (R.SPINDLE_CMD n) 2 (cmdBrakeResume n)) s

/-- SPINDLE_GRID_SWAP (R176): A write of CMD.GRID_SWAP switches the bank of a STOPPED spindle at once. -/
def execSpindleGridSwap (n : Nat) (s : State) : Host.Outcome State Fault Refusal :=
  runCtl (.spindleGridSwap n) (guardW (R.SPINDLE_CMD n) 1 (cmdGridSwap n)) s

/-- PUBLISH (R180): A write of PROF_CTRL.PUBLISH makes the staging copy the newest and moves idle spindles to it. -/
def execPublish (s : State) : Host.Outcome State Fault Refusal :=
  runCtl .publish (guardW R.GLOBAL_PROF_CTRL (BitVec.ofNat 32 (2 ^ 31)) cmdPublish) s

/-- PROF_DONE (R181): After OLD_USERS reaches 0 the device copies the profile table and opens the staging copy. -/
def execProfDone (s : State) : Host.Outcome State Fault Refusal :=
  runCtl .profDone profDone s

/-- TABLE_WINDOW_WRITE (R192): A write through the table window updates a grid node or staging profile entry, or is
discarded into TABLE_ERR. -/
def execTableWindowWrite (off : Nat) (w : Word) (s : State) : Host.Outcome State Fault Refusal :=
  runCtl (.tableWindowWrite off w) (guardW (winBase + off) w (tableWrite off w)) s

end Sys2Proof.Machine
end

