-- ==== Sys2Proof/Machine/ExecStream.lean ====
section
/-! DEFINITION. The meanings of the commands of vector streams, the hopper and the host loader (chapter 2). -/

namespace Sys2Proof.Machine

/-- DOORBELL (R54): A write of HOPPER.DOORBELL sets the stream's TAIL without waiting for BAR2 writes. -/
def execDoorbell (w : Word) (s : State) : Host.Outcome State Fault Refusal :=
  runCtl (.doorbell w) (guardW R.HOPPER_DOORBELL w (ringDoorbell w)) s

/-- DOORBELL_ORD (R53): A write of HOPPER.DOORBELL_ORD is held until every earlier BAR2 write is visible in DRAM. -/
def execDoorbellOrd (w : Word) (s : State) : Host.Outcome State Fault Refusal :=
  run (.doorbellOrd w) (guardWS R.HOPPER_DOORBELL_ORD w (ringOrdered w)) s

/-- ORDERED_DOORBELL_EFFECT (R53): A waiting ordered doorbell takes effect once the BAR2 writes before it are visible.
-/
def execOrderedDoorbellEffect (s : State) : Host.Outcome State Fault Refusal :=
  runHeld .orderedDoorbellEffect orderedRings s

/-- CTX_ENABLE (R87): A write of CTX[n].CTRL.ENABLE 1 checks the configuration and moves the context to IDLE or
records ENABLE_ERR. -/
def execCtxEnable (x : Nat) (w : Word) (s : State) : Host.Outcome State Fault Refusal :=
  runCtl (.ctxEnable x w) (guardW (R.CTX_CTRL x) w (ctxOn x w)) s

/-- CTX_DISABLE (R89): A write of ENABLE 0 stops reading, finishes the record in execution, discards unstarted records
and enters DRAINING. -/
def execCtxDisable (x : Nat) (w : Word) (s : State) : Host.Outcome State Fault Refusal :=
  runCtl (.ctxDisable x w) (guardW (R.CTX_CTRL x) w (ctxOff x w)) s

/-- CTX_DRAIN_COMPLETE (R90): When the spindle has stopped, a DRAINING context reaches DISABLED. -/
def execCtxDrainComplete (x : Nat) (s : State) : Host.Outcome State Fault Refusal :=
  runCtl (.ctxDrainComplete x) (drainComplete x) s

/-- RESUME (R90): A write of CTX[n].ACTION.RESUME continues a HALTED or LAYER_HOLD stream. -/
def execResume (x : Nat) (s : State) : Host.Outcome State Fault Refusal :=
  runCtl (.resume x) (guardW (R.CTX_ACTION x) 1 (ctxResume x)) s

/-- SKIP (R90): A write of CTX[n].ACTION.SKIP discards the faulting record of a HALTED stream and continues. -/
def execSkip (x : Nat) (s : State) : Host.Outcome State Fault Refusal :=
  runCtl (.skip x) (guardW (R.CTX_ACTION x) 2 (ctxSkip x)) s

/-- HOPPER_READ_REQUEST (R103): The hopper requests a real-time read of up to 128 records when a stream's buffer has
room. -/
def execHopperReadRequest (s : State) : Host.Outcome State Fault Refusal :=
  runCtl .hopperReadRequest hopperRequest s

/-- HOPPER_READ_RETURN (R77): Returned records are checked and placed in the prefetch buffer or staging queue in ring
order. -/
def execHopperReadReturn (x id : Nat) (s : State) : Host.Outcome State Fault Refusal :=
  run (.hopperReadReturn x id) (fun s => bar2Collect (hopperReturn x id s)) s

/-- RECORD_START (R128): A spindle starts the next record in its buffer by sending its first sample. -/
def execRecordStart (n : Nat) (s : State) : Host.Outcome State Fault Refusal :=
  runCtl (.recordStart n) (recordStarts n) s

/-- RECORD_RETIRE (R75): A record retires when the spindle has sent its last sample, advancing HEAD. -/
def execRecordRetire (n : Nat) (s : State) : Host.Outcome State Fault Refusal :=
  runCtl (.recordRetire n) (recordRetire n) s

/-- SHARE_OFFER (R110): The hopper offers the head record of a share staging queue to the fantail when a member has
room. -/
def execShareOffer (x : Nat) (s : State) : Host.Outcome State Fault Refusal :=
  runCtl (.shareOffer x) (shareOffer x) s

/-- FENCE_ARRIVE (R114): A spindle arrives at a FENCE when it is next and every earlier record has retired. -/
def execFenceArrive (n : Nat) (s : State) : Host.Outcome State Fault Refusal :=
  runCtl (.fenceArrive n) (fenceArrive n) s

/-- FENCE_TIMEOUT (R121): A waiting spindle's fence timeout expires and the fence is held, released or halted by
TIMEOUT_ACTION. -/
def execFenceTimeout (n : Nat) (s : State) : Host.Outcome State Fault Refusal :=
  runCtl (.fenceTimeout n) (fenceTimeout n) s

/-- LAYER_END_ARRIVE (R130): A spindle reaches its LAYER_END and holds in LAYER_HOLD, becoming eligible for share
records. -/
def execLayerEndArrive (n : Nat) (s : State) : Host.Outcome State Fault Refusal :=
  runCtl (.layerEndArrive n) (layerEndArrive n) s

/-- LAYER_END_PASS (R113): A held member passes its LAYER_END once its share streams have ended and its share records
retired. -/
def execLayerEndPass (n : Nat) (s : State) : Host.Outcome State Fault Refusal :=
  runCtl (.layerEndPass n) (layerEndPass n) s

/-- LDR_ENABLE (R484): A write of LDR_CFG.EN 1 sets HEAD and TAIL to 0 and PHASE to 1, or is refused. -/
def execLdrEnable (w : Word) (s : State) : Host.Outcome State Fault Refusal :=
  runCtl (.ldrEnable w) (guardW R.GLOBAL_LDR_CFG w (ldrEnable w)) s

/-- LDR_DB (R485): A write of LDR_DB sets the loader's tail and lets it read descriptors up to it. -/
def execLdrDb (w : Word) (s : State) : Host.Outcome State Fault Refusal :=
  runCtl (.ldrDb w) (guardW R.GLOBAL_LDR_DB w (ldrDb w)) s

/-- LDR_DESCRIPTOR_RETURN (R486): Fetched descriptors are checked, and malformed ones complete with STATUS 4. -/
def execLdrDescriptorReturn (data : List Byte) (s : State) : Host.Outcome State Fault Refusal :=
  runCtl (.ldrDescriptorReturn data) (ldrReturn data) s

/-- LDR_DATA_RETURN (R485): Host read data for a descriptor returns and is written to device DRAM. -/
def execLdrDataReturn (k : Nat) (data : List Byte) (err : Nat) (s : State) : Host.Outcome State Fault Refusal :=
  runCtl (.ldrDataReturn k data err) (ldrData k data err) s

/-- LDR_COMPLETION (R56): The loader writes a completion record once every copied byte is visible in DRAM. -/
def execLdrCompletion (s : State) : Host.Outcome State Fault Refusal :=
  run .ldrCompletion (ldrCompletion ringLoader) s

/-- LDR_RESUME (R487): A write of LDR_CMD.RESUME clears HALTED and continues with the next descriptor. -/
def execLdrResume (s : State) : Host.Outcome State Fault Refusal :=
  runCtl .ldrResume (guardW R.GLOBAL_LDR_CMD 1 ldrResume) s

/-- LDR_ABORT (R487): A write of LDR_CMD.ABORT completes every unstarted descriptor with STATUS 5. -/
def execLdrAbort (s : State) : Host.Outcome State Fault Refusal :=
  runCtl .ldrAbort (guardW R.GLOBAL_LDR_CMD 2 ldrAbort) s

end Sys2Proof.Machine
end

