-- ==== Sys2Proof/Machine/ExecTrim.lean ====
section
/-! DEFINITION. The meanings of the commands of trim (chapter 17). -/

namespace Sys2Proof.Machine

/-- TRIM_RUN (R633): A write of TRIM_CMD.RUN starts a dark-offset measurement and store. -/
def execTrimRun (s : State) : Host.Outcome State Fault Refusal :=
  runCtl .trimRun (guardW R.TRIM_CMD 1 trimRun) s

/-- TRIM_MEASURE_END (R635): After 512 blocks the offsets are computed and tested, and the record is stored. -/
def execTrimMeasureEnd (s : State) : Host.Outcome State Fault Refusal :=
  runCtl .trimMeasureEnd trimMeasureEnd s

/-- APPLY (R639): A write of TRIM_CMD.APPLY copies TRIM_DARK into every channel's TENT_OFFSET. -/
def execApply (s : State) : Host.Outcome State Fault Refusal :=
  runCtl .apply (guardW R.TRIM_CMD 2 trimApply) s

/-- TRIM_STORE_DONE (R637): The erase, program and read-back of the machine trim slot complete, and the run ends with
PASS and TRIM_DARK updated, or with FAIL cause 9. -/
def execTrimStoreDone (ok : Bool) (s : State) : Host.Outcome State Fault Refusal :=
  runCtl (.trimStoreDone ok) (trimStoreDone ok) s

end Sys2Proof.Machine
end

