-- ==== Sys2Proof/Machine/ExecTwin.lean ====
section
/-! DEFINITION. The meanings of the commands of the twin (chapter 9). -/

namespace Sys2Proof.Machine

/-- TWIN_ENABLE (R398): A write of TWIN.CTRL.EN enables or disables twin operation. -/
def execTwinEnable (w : Word) (s : State) : Host.Outcome State Fault Refusal :=
  runCtl (.twinEnable w) (guardW R.TWIN_CTRL w (writeTwin 0x40 w)) s

/-- PAIR_OFFER (R399): A PAIR OFFER arrives carrying the partner's channels, preference, mode and port. -/
def execPairOffer (k body chk : Nat) (s : State) : Host.Outcome State Fault Refusal :=
  runCtl (.pairOffer k body chk) (pairOffer k body chk) s

/-- PAIR_UID (R399): A PAIR UID arrives carrying the partner's upper UID bits. -/
def execPairUid (k body chk : Nat) (s : State) : Host.Outcome State Fault Refusal :=
  runCtl (.pairUid k body chk) (pairUid k body chk) s

/-- PAIR_CONFIRM (R399): A PAIR CONFIRM arrives; roles take effect after both confirms. -/
def execPairConfirm (k body chk : Nat) (s : State) : Host.Outcome State Fault Refusal :=
  runCtl (.pairConfirm k body chk) (pairConfirm k body chk) s

/-- PAIR_TIMEOUT (R400): PAIR_TIMEOUT expires without both confirms and pairing is refused. -/
def execPairTimeout (s : State) : Host.Outcome State Fault Refusal :=
  runCtl .pairTimeout pairTimeout s

/-- TWIN_CYCLE_BOUNDARY (R405): Every 20 ticks ALIGN blocks are sent and the state record is taken and sent. -/
def execTwinCycleBoundary (testOk : Bool) (s : State) : Host.Outcome State Fault Refusal :=
  runCtl (.twinCycleBoundary testOk) (twinCycle testOk) s

/-- BEACON (R404): A BEACON arrives with the partner's role and health word. -/
def execBeacon (k body chk : Nat) (s : State) : Host.Outcome State Fault Refusal :=
  runCtl (.beacon k body chk) (beacon k body chk) s

/-- BEACON_LOSS (R430): No valid BEACON for BEACON_LOSS ticks moves the standby to SUSPECT. -/
def execBeaconLoss (s : State) : Host.Outcome State Fault Refusal :=
  runCtl .beaconLoss beaconLoss s

/-- ALIGN (R405): An ALIGN block arrives and the receiver deskews the link lanes. -/
def execAlign (k body check : Nat) (s : State) : Host.Outcome State Fault Refusal :=
  runCtl (.align k body check) (align k body check) s

/-- REC (R406): A REC block arrives carrying seven bytes of the state record. -/
def execRecBlockIn (k body chk : Nat) (s : State) : Host.Outcome State Fault Refusal :=
  runCtl (.recBlockIn k body chk) (recBlock k body chk) s

/-- STATE_RECORD_COMPLETE (R407): A complete state record is CRC-checked and compared with the standby's own state. -/
def execStateRecordComplete (s : State) : Host.Outcome State Fault Refusal :=
  run .stateRecordComplete recordComplete s

/-- RECORD_DEADLINE (R407): A state record incomplete at its deadline counts RECORD_ERR and sets RECORD_FAIL. -/
def execRecordDeadline (s : State) : Host.Outcome State Fault Refusal :=
  runCtl .recordDeadline recordDeadline s

/-- REPLAY_COMPLETE (R415): A replay completes and a waiting record is compared. -/
def execReplayComplete (s : State) : Host.Outcome State Fault Refusal :=
  run .replayComplete replayComplete s

/-- FWD (R411): A FWD block arrives carrying a forwarded command or a configuration digest half. -/
def execFwd (k body chk : Nat) (s : State) : Host.Outcome State Fault Refusal :=
  runCtl (.fwd k body chk) (fwdBlock k body chk) s

/-- FWD_APPLY (R411): A forwarded command is applied in the tick its APPLY8 names. -/
def execFwdApply (s : State) : Host.Outcome State Fault Refusal :=
  runHeld .fwdApply fwdApply s

/-- CONFIG_DIGEST (R417): After a layer close the configuration digest completes and is sent in two FWD blocks. -/
def execConfigDigest (s : State) : Host.Outcome State Fault Refusal :=
  runCtl .configDigest configDigest s

/-- DIGEST_HALF_TIMEOUT (R417): A digest half without its partner half within 2 ms is discarded and counted. -/
def execDigestHalfTimeout (s : State) : Host.Outcome State Fault Refusal :=
  runCtl .digestHalfTimeout digestTimeout s

/-- TWIN_ALIVE_TOGGLE (R397): Every 10 ticks TWIN_ALIVE[0] toggles while the device qualifies. -/
def execTwinAliveToggle (domains : Bool) (s : State) : Host.Outcome State Fault Refusal :=
  runCtl (.twinAliveToggle domains) (aliveToggle domains) s

/-- TWIN_ALIVE_EDGE (R431): An edge on TWIN_ALIVE[1] in SUSPECT or QUERY moves the standby to DETACHED. -/
def execTwinAliveEdge (s : State) : Host.Outcome State Fault Refusal :=
  runCtl .twinAliveEdge aliveEdge s

/-- ALIVE_SILENT (R397): No TWIN_ALIVE[1] edge for ALIVE_SILENT ticks marks it silent and moves SUSPECT onwards. -/
def execAliveSilent (s : State) : Host.Outcome State Fault Refusal :=
  runCtl .aliveSilent aliveSilent s

/-- SOLO (R401): A write of TWIN.CMD.SOLO lets an unpaired device drive, or is refused. -/
def execSolo (s : State) : Host.Outcome State Fault Refusal :=
  runCtl .solo (guardW R.TWIN_CMD 2 solo) s

/-- HANDOVER_CMD (R422): A write of TWIN.CMD.HANDOVER is accepted while the partner is READY, otherwise refused. -/
def execHandoverCmd (s : State) : Host.Outcome State Fault Refusal :=
  runCtl .handoverCmd (guardW R.TWIN_CMD 1 handoverCmd) s

/-- HANDOVER_SEND (R424): The active stops samples after tick F, sends the handover record and enters FAILED. -/
def execHandoverSend (s : State) : Host.Outcome State Fault Refusal :=
  runCtl .handoverSend handoverSend s

/-- HANDOVER (R425): The standby receives the handover record and enters TAKEOVER. -/
def execHandover (blocks : List (Nat × Nat × Nat)) (s : State) : Host.Outcome State Fault Refusal :=
  runCtl (.handover blocks) (handover blocks) s

/-- NATIVE_SWITCHOVER (R426): The new active sends the samples from F + 33 onwards and catches up without a seam. -/
def execNativeSwitchover (s : State) : Host.Outcome State Fault Refusal :=
  runCtl .nativeSwitchover nativeSwitchover s

/-- SEAM_SWITCHOVER (R428): The new active engages its brake, puts lit spindles into BRAKED and logs seams. -/
def execSeamSwitchover (s : State) : Host.Outcome State Fault Refusal :=
  runCtl .seamSwitchover seamSwitchover s

/-- AUTO_RESUME (R429): Once every spindle is BRAKED the new active releases the brake and resumes them. -/
def execAutoResume (s : State) : Host.Outcome State Fault Refusal :=
  runCtl .autoResume autoResume s

/-- DUPLICATE_TAKEOVER (R436): A DUPLICATE-mode standby becomes active, starts TWIN_ALIVE[0] and logs seams. -/
def execDuplicateTakeover (s : State) : Host.Outcome State Fault Refusal :=
  runCtl .duplicateTakeover duplicateTakeover s

/-- DUP_RELOCK (R436): A lane without a valid uplink DUP_RELOCK ticks after takeover is treated as lost. -/
def execDupRelock (k : Nat) (s : State) : Host.Outcome State Fault Refusal :=
  runCtl (.dupRelock k) (dupRelock k) s

end Sys2Proof.Machine
end

