-- ==== Sys2Proof/Machine/Dispatch.lean ====
section
/-! DEFINITION. The dispatch: one arm for each command. -/

namespace Sys2Proof.Machine

/-- The effect of a command on everything but the queue. -/
def exec (i : Instr) (s : State) : Host.Outcome State Fault Refusal :=
  match i with
  | .bar0AccessError write addr size => Sys2Proof.Machine.execBar0AccessError write addr size s
  | .bar0NoPageAccess write addr => Sys2Proof.Machine.execBar0NoPageAccess write addr s
  | .stoppedPageAccess write addr => Sys2Proof.Machine.execStoppedPageAccess write addr s
  | .registerWrite addr w => Sys2Proof.Machine.execRegisterWrite addr w s
  | .wideValueRead addr => Sys2Proof.Machine.execWideValueRead addr s
  | .wideValueCommit addr w => Sys2Proof.Machine.execWideValueCommit addr w s
  | .counterReadClear addr => Sys2Proof.Machine.execCounterReadClear addr s
  | .blkEnable addr en => Sys2Proof.Machine.execBlkEnable addr en s
  | .softReset addr en => Sys2Proof.Machine.execSoftReset addr en s
  | .tick => Sys2Proof.Machine.execTick s
  | .tallyWrap => Sys2Proof.Machine.execTallyWrap s
  | .doorbell w => Sys2Proof.Machine.execDoorbell w s
  | .doorbellOrd w => Sys2Proof.Machine.execDoorbellOrd w s
  | .orderedDoorbellEffect => Sys2Proof.Machine.execOrderedDoorbellEffect s
  | .ctxEnable x w => Sys2Proof.Machine.execCtxEnable x w s
  | .ctxDisable x w => Sys2Proof.Machine.execCtxDisable x w s
  | .ctxDrainComplete x => Sys2Proof.Machine.execCtxDrainComplete x s
  | .resume x => Sys2Proof.Machine.execResume x s
  | .skip x => Sys2Proof.Machine.execSkip x s
  | .hopperReadRequest => Sys2Proof.Machine.execHopperReadRequest s
  | .hopperReadReturn x id => Sys2Proof.Machine.execHopperReadReturn x id s
  | .recordStart n => Sys2Proof.Machine.execRecordStart n s
  | .recordRetire n => Sys2Proof.Machine.execRecordRetire n s
  | .shareOffer x => Sys2Proof.Machine.execShareOffer x s
  | .fenceArrive n => Sys2Proof.Machine.execFenceArrive n s
  | .fenceTimeout n => Sys2Proof.Machine.execFenceTimeout n s
  | .layerEndArrive n => Sys2Proof.Machine.execLayerEndArrive n s
  | .layerEndPass n => Sys2Proof.Machine.execLayerEndPass n s
  | .ldrEnable w => Sys2Proof.Machine.execLdrEnable w s
  | .ldrDb w => Sys2Proof.Machine.execLdrDb w s
  | .ldrDescriptorReturn data => Sys2Proof.Machine.execLdrDescriptorReturn data s
  | .ldrDataReturn k data err => Sys2Proof.Machine.execLdrDataReturn k data err s
  | .ldrCompletion => Sys2Proof.Machine.execLdrCompletion s
  | .ldrResume => Sys2Proof.Machine.execLdrResume s
  | .ldrAbort => Sys2Proof.Machine.execLdrAbort s
  | .spindleEnable n => Sys2Proof.Machine.execSpindleEnable n s
  | .spindleDisable n => Sys2Proof.Machine.execSpindleDisable n s
  | .mirrorAtRest n => Sys2Proof.Machine.execMirrorAtRest n s
  | .brakeResume n => Sys2Proof.Machine.execBrakeResume n s
  | .spindleGridSwap n => Sys2Proof.Machine.execSpindleGridSwap n s
  | .publish => Sys2Proof.Machine.execPublish s
  | .profDone => Sys2Proof.Machine.execProfDone s
  | .tableWindowWrite off w => Sys2Proof.Machine.execTableWindowWrite off w s
  | .waitAlarm n => Sys2Proof.Machine.execWaitAlarm n s
  | .terrFetchReturn k ue => Sys2Proof.Machine.execTerrFetchReturn k ue s
  | .flowLost => Sys2Proof.Machine.execFlowLost s
  | .flowRestored => Sys2Proof.Machine.execFlowRestored s
  | .meas k body chk late => Sys2Proof.Machine.execMeas k body chk late s
  | .measMissing n late => Sys2Proof.Machine.execMeasMissing n late s
  | .keeper n => Sys2Proof.Machine.execKeeper n s
  | .ledgerEnable => Sys2Proof.Machine.execLedgerEnable s
  | .ledgerFillDone => Sys2Proof.Machine.execLedgerFillDone s
  | .ledgerDisable => Sys2Proof.Machine.execLedgerDisable s
  | .mpower k body chk => Sys2Proof.Machine.execMpower k body chk s
  | .mpowerMissing n => Sys2Proof.Machine.execMpowerMissing n s
  | .mpClear n => Sys2Proof.Machine.execMpClear n s
  | .haltClear => Sys2Proof.Machine.execHaltClear s
  | .ledgerEvaluation late => Sys2Proof.Machine.execLedgerEvaluation late s
  | .ledgerCellReturn k ue => Sys2Proof.Machine.execLedgerCellReturn k ue s
  | .ledgerSweep => Sys2Proof.Machine.execLedgerSweep s
  | .laneEnable k => Sys2Proof.Machine.execLaneEnable k s
  | .laneDisable k => Sys2Proof.Machine.execLaneDisable k s
  | .start k => Sys2Proof.Machine.execStart k s
  | .retrain k => Sys2Proof.Machine.execRetrain k s
  | .laneRateWrite k slow => Sys2Proof.Machine.execLaneRateWrite k slow s
  | .detectProbe k found signal => Sys2Proof.Machine.execDetectProbe k found signal s
  | .train k body check stepEnd fom ctle => Sys2Proof.Machine.execTrain k body check stepEnd fom ctle s
  | .idle k body check => Sys2Proof.Machine.execIdle k body check s
  | .exchOffer k body check => Sys2Proof.Machine.execExchOffer k body check s
  | .exchConfirm k body check => Sys2Proof.Machine.execExchConfirm k body check s
  | .laneTimeout k => Sys2Proof.Machine.execLaneTimeout k s
  | .backoffExpiry k => Sys2Proof.Machine.execBackoffExpiry k s
  | .blockLockLost k => Sys2Proof.Machine.execBlockLockLost k s
  | .relockTimeout k => Sys2Proof.Machine.execRelockTimeout k s
  | .signalLost k => Sys2Proof.Machine.execSignalLost k s
  | .retrainReq k body check => Sys2Proof.Machine.execRetrainReq k body check s
  | .retrainAck k body check => Sys2Proof.Machine.execRetrainAck k body check s
  | .retrainReqTimeout k => Sys2Proof.Machine.execRetrainReqTimeout k s
  | .fomWindowEnd k count => Sys2Proof.Machine.execFomWindowEnd k count s
  | .dfeStep k d => Sys2Proof.Machine.execDfeStep k d s
  | .adaptFrozen k => Sys2Proof.Machine.execAdaptFrozen k s
  | .lineKeeperSend k => Sys2Proof.Machine.execLineKeeperSend k s
  | .lineKeeper k body => Sys2Proof.Machine.execLineKeeper k body s
  | .blockDiscard k b => Sys2Proof.Machine.execBlockDiscard k b s
  | .eiEnter k body check => Sys2Proof.Machine.execEiEnter k body check s
  | .wakeTimeout k => Sys2Proof.Machine.execWakeTimeout k s
  | .laneTestMode k w => Sys2Proof.Machine.execLaneTestMode k w s
  | .injGo k w => Sys2Proof.Machine.execInjGo k w s
  | .injStop k w => Sys2Proof.Machine.execInjStop k w s
  | .tickMark => Sys2Proof.Machine.execTickMark s
  | .mgmtGo k w => Sys2Proof.Machine.execMgmtGo k w s
  | .mgmtRetry k => Sys2Proof.Machine.execMgmtRetry k s
  | .mgmtRsp k body chk => Sys2Proof.Machine.execMgmtRsp k body chk s
  | .galvo k body chk => Sys2Proof.Machine.execGalvo k body chk s
  | .hstat k body chk => Sys2Proof.Machine.execHstat k body chk s
  | .partnerTickMark k tally check => Sys2Proof.Machine.execPartnerTickMark k tally check s
  | .partnerSample k port mt body chk => Sys2Proof.Machine.execPartnerSample k port mt body chk s
  | .correction k port body check => Sys2Proof.Machine.execCorrection k port body check s
  | .brake k port body check => Sys2Proof.Machine.execBrake k port body check s
  | .brakeEcho k => Sys2Proof.Machine.execBrakeEcho k s
  | .camCredit k => Sys2Proof.Machine.execCamCredit k s
  | .camSof k body chk => Sys2Proof.Machine.execCamSof k body chk s
  | .camData k body chk => Sys2Proof.Machine.execCamData k body chk s
  | .camEof k body chk => Sys2Proof.Machine.execCamEof k body chk s
  | .camEnable k w => Sys2Proof.Machine.execCamEnable k w s
  | .xy2Enable k w => Sys2Proof.Machine.execXy2Enable k w s
  | .xy2Frame k => Sys2Proof.Machine.execXy2Frame k s
  | .brakeInEdge k high late => Sys2Proof.Machine.execBrakeInEdge k high late s
  | .brakePeriodic => Sys2Proof.Machine.execBrakePeriodic s
  | .engage late => Sys2Proof.Machine.execEngage late s
  | .release => Sys2Proof.Machine.execRelease s
  | .brkInMismatch => Sys2Proof.Machine.execBrkInMismatch s
  | .twinEnable w => Sys2Proof.Machine.execTwinEnable w s
  | .pairOffer k body chk => Sys2Proof.Machine.execPairOffer k body chk s
  | .pairUid k body chk => Sys2Proof.Machine.execPairUid k body chk s
  | .pairConfirm k body chk => Sys2Proof.Machine.execPairConfirm k body chk s
  | .pairTimeout => Sys2Proof.Machine.execPairTimeout s
  | .twinCycleBoundary testOk => Sys2Proof.Machine.execTwinCycleBoundary testOk s
  | .beacon k body chk => Sys2Proof.Machine.execBeacon k body chk s
  | .beaconLoss => Sys2Proof.Machine.execBeaconLoss s
  | .align k body check => Sys2Proof.Machine.execAlign k body check s
  | .recBlockIn k body chk => Sys2Proof.Machine.execRecBlockIn k body chk s
  | .stateRecordComplete => Sys2Proof.Machine.execStateRecordComplete s
  | .recordDeadline => Sys2Proof.Machine.execRecordDeadline s
  | .replayComplete => Sys2Proof.Machine.execReplayComplete s
  | .fwd k body chk => Sys2Proof.Machine.execFwd k body chk s
  | .fwdApply => Sys2Proof.Machine.execFwdApply s
  | .configDigest => Sys2Proof.Machine.execConfigDigest s
  | .digestHalfTimeout => Sys2Proof.Machine.execDigestHalfTimeout s
  | .twinAliveToggle domains => Sys2Proof.Machine.execTwinAliveToggle domains s
  | .twinAliveEdge => Sys2Proof.Machine.execTwinAliveEdge s
  | .aliveSilent => Sys2Proof.Machine.execAliveSilent s
  | .solo => Sys2Proof.Machine.execSolo s
  | .handoverCmd => Sys2Proof.Machine.execHandoverCmd s
  | .handoverSend => Sys2Proof.Machine.execHandoverSend s
  | .handover blocks => Sys2Proof.Machine.execHandover blocks s
  | .nativeSwitchover => Sys2Proof.Machine.execNativeSwitchover s
  | .seamSwitchover => Sys2Proof.Machine.execSeamSwitchover s
  | .autoResume => Sys2Proof.Machine.execAutoResume s
  | .duplicateTakeover => Sys2Proof.Machine.execDuplicateTakeover s
  | .dupRelock k => Sys2Proof.Machine.execDupRelock k s
  | .millraceEnable m en => Sys2Proof.Machine.execMillraceEnable m en s
  | .initDone m => Sys2Proof.Machine.execInitDone m s
  | .trainStepDone m pass => Sys2Proof.Machine.execTrainStepDone m pass s
  | .trainRetry m => Sys2Proof.Machine.execTrainRetry m s
  | .mcRetrain m => Sys2Proof.Machine.execMcRetrain m s
  | .mcRateWrite m rate => Sys2Proof.Machine.execMcRateWrite m rate s
  | .rtRead m who a len bulk => Sys2Proof.Machine.execRtRead m who a len bulk s
  | .rtReadReturn m ns f => Sys2Proof.Machine.execRtReadReturn m ns f s
  | .bulkRead m a f => Sys2Proof.Machine.execBulkRead m a f s
  | .dramWrite host => Sys2Proof.Machine.execDramWrite host s
  | .writeBatch b => Sys2Proof.Machine.execWriteBatch b s
  | .refreshDue m rank idx => Sys2Proof.Machine.execRefreshDue m rank idx s
  | .refreshRepay m rank idx => Sys2Proof.Machine.execRefreshRepay m rank idx s
  | .nrr m => Sys2Proof.Machine.execNrr m s
  | .dramTempRead m degC => Sys2Proof.Machine.execDramTempRead m degC s
  | .periodicCalibration m => Sys2Proof.Machine.execPeriodicCalibration m s
  | .scrubRead m f => Sys2Proof.Machine.execScrubRead m f s
  | .rowClose m bank => Sys2Proof.Machine.execRowClose m bank s
  | .bar2Write off data => Sys2Proof.Machine.execBar2Write off data s
  | .bar2Read off en => Sys2Proof.Machine.execBar2Read off en s
  | .bar2WinWrite w => Sys2Proof.Machine.execBar2WinWrite w s
  | .flr => Sys2Proof.Machine.execFlr s
  | .linkDown => Sys2Proof.Machine.execLinkDown s
  | .configRequest q => Sys2Proof.Machine.execConfigRequest q s
  | .msixMessage v => Sys2Proof.Machine.execMsixMessage v s
  | .msixEnable on mask => Sys2Proof.Machine.execMsixEnable on mask s
  | .ptmDialogue clk => Sys2Proof.Machine.execPtmDialogue clk s
  | .ptmResponse t2 p clk ok => Sys2Proof.Machine.execPtmResponse t2 p clk ok s
  | .wallSet w => Sys2Proof.Machine.execWallSet w s
  | .logEnable w => Sys2Proof.Machine.execLogEnable w s
  | .logRecordWrite => Sys2Proof.Machine.execLogRecordWrite s
  | .logDrop => Sys2Proof.Machine.execLogDrop s
  | .logWriteback => Sys2Proof.Machine.execLogWriteback s
  | .smbChipId => Sys2Proof.Machine.execSmbChipId s
  | .smbHealth => Sys2Proof.Machine.execSmbHealth s
  | .smbDiodes => Sys2Proof.Machine.execSmbDiodes s
  | .smbRails => Sys2Proof.Machine.execSmbRails s
  | .smbTally => Sys2Proof.Machine.execSmbTally s
  | .smbLink => Sys2Proof.Machine.execSmbLink s
  | .smbHalts => Sys2Proof.Machine.execSmbHalts s
  | .smbUnknown cmd => Sys2Proof.Machine.execSmbUnknown cmd s
  | .smbAlertResponse => Sys2Proof.Machine.execSmbAlertResponse s
  | .sluiceEnable en => Sys2Proof.Machine.execSluiceEnable en s
  | .sourceLevel src => Sys2Proof.Machine.execSourceLevel src s
  | .sourceEdge src => Sys2Proof.Machine.execSourceEdge src s
  | .swPendSet src => Sys2Proof.Machine.execSwPendSet src s
  | .swPendClear src => Sys2Proof.Machine.execSwPendClear src s
  | .ctxClaim x => Sys2Proof.Machine.execCtxClaim x s
  | .ctxComplete x src => Sys2Proof.Machine.execCtxComplete x src s
  | .ctxCompleteFlush x => Sys2Proof.Machine.execCtxCompleteFlush x s
  | .ctxThreshWrite x t => Sys2Proof.Machine.execCtxThreshWrite x t s
  | .scanAck g mask => Sys2Proof.Machine.execScanAck g mask s
  | .coalesceRelease v => Sys2Proof.Machine.execCoalesceRelease v s
  | .gpiChange k on => Sys2Proof.Machine.execGpiChange k on s
  | .encoderEdge e a b => Sys2Proof.Machine.execEncoderEdge e a b s
  | .encZEdge e => Sys2Proof.Machine.execEncZEdge e s
  | .encSet e w => Sys2Proof.Machine.execEncSet e w s
  | .axisEnable a on => Sys2Proof.Machine.execAxisEnable a on s
  | .moveAbs a => Sys2Proof.Machine.execMoveAbs a s
  | .moveRel a => Sys2Proof.Machine.execMoveRel a s
  | .velocity a => Sys2Proof.Machine.execVelocity a s
  | .stop a => Sys2Proof.Machine.execStop a s
  | .qstop a => Sys2Proof.Machine.execQstop a s
  | .home a => Sys2Proof.Machine.execHome a s
  | .gear a => Sys2Proof.Machine.execGear a s
  | .setPos a => Sys2Proof.Machine.execSetPos a s
  | .armRatio a => Sys2Proof.Machine.execArmRatio a s
  | .disarm a => Sys2Proof.Machine.execDisarm a s
  | .axCmdUnassigned a op => Sys2Proof.Machine.execAxCmdUnassigned a op s
  | .axisUpdate => Sys2Proof.Machine.execAxisUpdate s
  | .standstill a => Sys2Proof.Machine.execStandstill a s
  | .wakeDone a => Sys2Proof.Machine.execWakeDone a s
  | .rowSlot stuck lampSense padsA padsB camAt => Sys2Proof.Machine.execRowSlot stuck lampSense padsA padsB camAt s
  | .swap => Sys2Proof.Machine.execSwap s
  | .patClear => Sys2Proof.Machine.execPatClear s
  | .shortTest => Sys2Proof.Machine.execShortTest s
  | .camSyncEdge on => Sys2Proof.Machine.execCamSyncEdge on s
  | .buildOpen => Sys2Proof.Machine.execBuildOpen s
  | .buildClose => Sys2Proof.Machine.execBuildClose s
  | .freeze on => Sys2Proof.Machine.execFreeze on s
  | .freezeExpired => Sys2Proof.Machine.execFreezeExpired s
  | .recMwWrite k w => Sys2Proof.Machine.execRecMwWrite k w s
  | .nvWrite o => Sys2Proof.Machine.execNvWrite o s
  | .nvTokenRefill => Sys2Proof.Machine.execNvTokenRefill s
  | .lifetime => Sys2Proof.Machine.execLifetime s
  | .wearIntervalEnd => Sys2Proof.Machine.execWearIntervalEnd s
  | .wearCfgWrite k w => Sys2Proof.Machine.execWearCfgWrite k w s
  | .intInstall => Sys2Proof.Machine.execIntInstall s
  | .intErase => Sys2Proof.Machine.execIntErase s
  | .commitSvn => Sys2Proof.Machine.execCommitSvn s
  | .flashErase => Sys2Proof.Machine.execFlashErase s
  | .flashProgram => Sys2Proof.Machine.execFlashProgram s
  | .flashDone => Sys2Proof.Machine.execFlashDone s
  | .ngEntrySigned => Sys2Proof.Machine.execNgEntrySigned s
  | .ngRingWrite => Sys2Proof.Machine.execNgRingWrite s
  | .ngEnable w => Sys2Proof.Machine.execNgEnable w s
  | .trimRun => Sys2Proof.Machine.execTrimRun s
  | .trimMeasureEnd => Sys2Proof.Machine.execTrimMeasureEnd s
  | .apply => Sys2Proof.Machine.execApply s
  | .powerOnReset => Sys2Proof.Machine.execPowerOnReset s
  | .deviceReset hA hB fault => Sys2Proof.Machine.execDeviceReset hA hB fault s
  | .bootVerifyEnd bodyOk => Sys2Proof.Machine.execBootVerifyEnd bodyOk s
  | .warmPerst => Sys2Proof.Machine.execWarmPerst s
  | .chipReset => Sys2Proof.Machine.execChipReset s
  | .brownOut => Sys2Proof.Machine.execBrownOut s
  | .startStep => Sys2Proof.Machine.execStartStep s
  | .powerStateChoice => Sys2Proof.Machine.execPowerStateChoice s
  | .powerStateExit => Sys2Proof.Machine.execPowerStateExit s
  | .pwrChg => Sys2Proof.Machine.execPwrChg s
  | .diodeRound temps late => Sys2Proof.Machine.execDiodeRound temps late s
  | .dieShutdown => Sys2Proof.Machine.execDieShutdown s
  | .railSample mv => Sys2Proof.Machine.execRailSample mv s
  | .checkerBlock k line drift => Sys2Proof.Machine.execCheckerBlock k line drift s
  | .trimStoreDone ok => Sys2Proof.Machine.execTrimStoreDone ok s

end Sys2Proof.Machine
end

