-- ==== Sys2Proof/Safety.lean ====
section
/-! DEFINITION. What a safe run is. The device never stops by itself: the one stop of the model is a command that no
sender can form (WellFormed.lean). A state is orderly when every command that waits is well formed; it is sound when
the memory keeps its canonical form and the write queues keep what R450 says of them. -/

open Sys2Proof.Machine

namespace Sys2Proof

/-- The commands that run on in reset: those that begin a reset or release it (R643, R644, R668). -/
def Instr.ofReset : Instr → Bool
  | .powerOnReset | .deviceReset _ _ _ | .brownOut => true
  | _ => false

/-- The commands whose effect reaches DRAM, its poison, its write queues or the requests that wait for them, those that
may change its address map (R444) included. Every other command leaves the memory as it is, a write of a register other
than RST_CMD outside the millrace pages included. -/
def Instr.reachesMemory : Instr → Bool
  | .registerWrite addr _ | .wideValueCommit addr _ => addr == R.GLOBAL_RST_CMD || decide (0x20000 ≤ addr ∧ addr < 0x40000)
  | .blkEnable addr _ | .softReset addr _ => decide (0x20000 ≤ addr ∧ addr < 0x40000)
  | .millraceEnable _ _ | .initDone _ | .trainStepDone _ _ | .mcRetrain _ | .powerStateChoice | .dieShutdown => true
  | .hopperReadReturn _ _ | .ledgerFillDone | .rtReadReturn _ _ _ | .bulkRead _ _ _ | .scrubRead _ _ => true
  | .terrFetchReturn _ _ | .ledgerCellReturn _ _ | .ledgerSweep => true
  | .dramWrite _ | .writeBatch _ | .bar2Write _ _ | .bar2Read _ _ => true
  | .warmPerst | .chipReset | .powerOnReset | .brownOut => true
  | _ => false

end Sys2Proof

namespace Sys2Proof.Machine

/-- Every command that waits can be formed by its sender. -/
def State.orderly (s : State) : Bool := s.pending.all (·.wellFormed)

/-- R450: a write queue holds at most 64 entries, each of an aligned granule, one for a granule. -/
def wqSound (l : List WqEntry) : Bool :=
  decide (l.length ≤ 64) && l.all (fun e => e.granule % 128 == 0) && decide ((l.map (·.granule)).Nodup)

/-- What holds of the memory in every run: the cells in canonical form and both write queues sound. -/
def State.sound (s : State) : Bool := s.mem.wf && wqSound s.mem.wq0 && wqSound s.mem.wq1

/-- The state a run of `k` steps answers, none when it stops. -/
def runsTo (k : Nat) (s : State) : Option State :=
  match k with
  | 0 => some s
  | k + 1 => match step s with
    | .next t => runsTo k t
    | _ => none

/-- The device takes the command: its sender can form it and the device is not held in reset (R643). -/
def taken (i : Instr) (s : State) : Prop := i.wellFormed = true ∧ s.ctl.pwr.inReset = false

/-- The device is in no pair: what the host writes acts at once (R411 delays it in a pair). -/
def Ctl.single (c : Ctl) : Bool := decide (c.role ≠ rActive) && !c.shadows

/-- A received block with a valid header is decoded: the lane's receiver is at work and hears it, has block lock, and its
descrambler has taken a block since (R322, R326); in FAR_PARALLEL it goes into the buffer instead (R347). -/
def Ctl.decodes (c : Ctl) (k : Nat) (ctrl : Bool) (payload : Nat) : Bool :=
  !c.deaf k && c.hears k ctrl payload && !c.seeksLock k && !(c.ln k).drop &&
    !(c.lst k == lnTest && c.get (R.LANE_TEST_MODE k) == 3)

/-- The receiver once it has counted such a block. -/
def received (k : Nat) (ctrl : Bool) (payload : Nat) (c : Ctl) : Ctl := rxRuns k ctrl (payload % 256) (heard k ctrl payload c)

/-- What a refused access of BAR0 leaves: ACC_ERR newly written, its interrupt bit set, all ones for a read, and every
other register as it was. -/
def recordsRefusal (write : Bool) (cause addr : Nat) (c d : Ctl) : Prop :=
  d.get R.GLOBAL_ACC_ERR_VALID = 1 ∧ d.get R.GLOBAL_ACC_ERR_WRITE = b2n write ∧ d.get R.GLOBAL_ACC_ERR_CAUSE = cause ∧
  d.get R.GLOBAL_ACC_ERR_OFFSET = addr ∧ d.bit (R.BLK_IRQ_STAT pgGlobal) 0 = true ∧
  d.host.lastRead = (if write then c.host.lastRead else 0xFFFFFFFF) ∧
  ∀ a, a ≠ R.GLOBAL_ACC_ERR → a ≠ R.BLK_IRQ_STAT pgGlobal → d.reg a = c.reg a

/-- The answer of the sideband to a Block Read (R496). -/
def State.answered (s : State) (l : List Byte) : State := { s with ctl := s.ctl.modHost (fun h => { h with smbResp := l }) }

/-- The write that DRAM_WRITE takes next (R455), its address and its bytes in the granule: of the host, the oldest of BAR2,
where it lies in installed DRAM; of the device, the oldest that has waited for room and has it, else the next, where a
millrace in SERVICE holds it. None is taken for a corrected granule that a newer write or poison has overtaken (R463). -/
def State.nextWrite (host : Bool) (s : State) : Option (Nat × Table Byte) :=
  let own := fun (w : Nat × List Byte) =>
    if s.mem.staleFix w.1 w.2 then none else some (w.1, inGranule w.1 (s.mem.bytesOf w.1 w.2))
  if host then
    match s.mem.bar2 with
    | w :: _ => if s.ctl.installed w.1 then some (w.1, enabledIn w.1 w.2) else none
    | [] => none
  else
    match takeFirst (fun w => s.mem.staleFix w.1 w.2 || s.roomFor w.1) s.mem.waiting, s.ctl.memOut with
    | some (w, _), _ => own w
    | none, w :: _ => if (if w.2.isEmpty then s.ctl.held w.1 else s.ctl.installed w.1) then own w else none
    | none, [] => none

/-- A safe run: no step of it stops. -/
def safe (s : State) : Prop := ∀ k, (runsTo k s).isSome

end Sys2Proof.Machine
end

