-- ==== Sys2Proof/Certificates/Slice0/Obligations.lean ====
section
/-! DEFINITION. The statements for the provers: the machine as a whole, rules of the spec one by one, and for every family
of commands where its commands complete and what they do. -/

set_option linter.unusedVariables false

open Sys2Proof Sys2Proof.Machine

/-- A step runs the command at the front of the queue. The commands of the host, the far devices, the clock and the
timers act one after the other, first in, first out. -/
def Obligations.StepRunsFrontCommand : Prop :=
  ∀ (i : Instr) (rest : List Instr) (s : State), s.pending = i :: rest → step s = exec i { s with pending := rest }

/-- An empty queue leaves the device as it is (the model's choice, log entry 3). Log entry 3 (DESIGN CHOICE): a step
on an empty queue idles. -/
def Obligations.StepIdlesOnEmptyQueue : Prop :=
  ∀ s : State, s.pending = [] → step s = .next s

/-- What reset leaves: CHIP_ID, the tally, the state and enable of every block, the role, the brake, the memory and
the queue. The reset columns of the register tables; DRAM reads as zeros by log entry 2. -/
def Obligations.ResetLeavesSoundDevice : Prop :=
  let c := State.reset.ctl
  c.chipId = 0x24001811 ∧ c.now = 0 ∧ c.role = rUnpaired ∧ c.engaged = true ∧
  (∀ n, n < 24 → c.enabled (pgSpindle n) = false ∧ c.sst n = stDisabled) ∧
  (∀ x, x < 128 → c.is (R.CTX_CTRL_ENABLE x) = false ∧ c.cst x = csDisabled) ∧
  (∀ k, k < 56 → c.enabled (pgLane k) = true ∧ c.lst k = lnDown) ∧
  (∀ m, m < 2 → c.enabled (pgMillrace m) = true ∧ c.get (R.MC_STAT_STATE m) = mcOff) ∧
  (∀ a, a < 8 → c.is (R.AX_CTRL_ENABLE a) = false ∧ c.get (R.AX_STAT_STATE a) = axDisabled) ∧
  c.reg (R.BLK_IRQ_STAT pgGlobal) = 0 ∧ c.reg R.GLOBAL_ACC_ERR = 0 ∧
  State.reset.mem.dram = [] ∧ State.reset.sound = true ∧ State.reset.pending = []

/-- Every well-formed command answers a next state and leaves the waiting commands; an ill-formed one faults. The
device never stops: whatever arrives has the effect the spec gives it, or none. -/
def Obligations.WellFormedCommandsComplete : Prop :=
  ∀ (i : Instr) (s : State),
    (i.wellFormed = true → ∃ t, exec i s = .next t ∧ t.pending = s.pending) ∧
    (i.wellFormed = false → exec i s = .fault .illFormed)

/-- While reset is held, no command but those of reset has an effect. R643: the power-on reset holds the device; R644
releases it. -/
def Obligations.ResetHoldsDevice : Prop :=
  ∀ (i : Instr) (s : State), i.wellFormed = true → s.ctl.pwr.inReset = true → i.ofReset = false →
    exec i s = .next s

/-- Commands that do not reach DRAM leave all of it as it was. The frame of memory: writes of the device itself wait
in a list of their own until DRAM_WRITE accepts them. -/
def Obligations.OnlyMemoryCommandsReachDram : Prop :=
  (∀ (i : Instr) (s t : State), i.reachesMemory = false → (∀ h ∈ s.ctl.host.held, h.addr ≠ R.GLOBAL_RST_CMD) →
    exec i s = .next t → t.mem = s.mem) ∧
  ∀ (x k : Nat) (s t : State), (∀ m, (s.ctl.mcSt m).reads = []) → s.mem.bar2Reads = [] →
    exec (.hopperReadReturn x k) s = .next t → t.mem = s.mem

/-- Every step keeps the memory canonical and both write queues as R450 describes them. R450: a write queue has 64
entries, and a write to a granule that has an entry merges into it. -/
def Obligations.StepKeepsMemorySound : Prop :=
  ∀ s t : State, s.sound = true → step s = .next t → t.sound = true

/-- From a sound state, well-formed commands run to the end of the queue in order. No run of commands that their
senders can form ever stops. -/
def Obligations.SoundRunsNeverStop : Prop :=
  ∀ (s : State) (k : Nat), s.sound = true → s.orderly = true →
    ∃ t, runsTo k s = some t ∧ t.sound = true ∧ t.orderly = true ∧ t.pending = s.pending.drop k

/-- Every refused access of BAR0 overwrites ACC_ERR, raises its interrupt bit and has no other effect on registers.
R685. -/
def Obligations.RefusedAccessIsRecorded : Prop :=
  (∀ (s : State) (a n : Nat), s.ctl.pwr.inReset = false → a < 2 ^ 24 → s.ctl.access a = .refused n →
    (n = 2 ∨ n = 3) ∧
    (∀ w f, recordsRefusal true n a s.ctl (guardW a w f s.ctl)) ∧
    (∀ w g, ∃ d, guardWS a w g s = { s with ctl := d } ∧ recordsRefusal true n a s.ctl d) ∧
    (a % 4 = 0 →
      (∀ w, ∃ d, exec (.registerWrite a w) s = .next { s with ctl := d } ∧ recordsRefusal true n a s.ctl d) ∧
      (∀ w, ∃ d, exec (.wideValueCommit a w) s = .next { s with ctl := d } ∧ recordsRefusal true n a s.ctl d) ∧
      (∃ d, exec (.counterReadClear a) s = .next { s with ctl := d } ∧ recordsRefusal false n a s.ctl d) ∧
      ∃ d, exec (.wideValueRead a) s = .next { s with ctl := d } ∧ recordsRefusal false n a s.ctl d)) ∧
  (∀ (s : State) (write : Bool) (a size : Nat), taken (.bar0AccessError write a size) s → sizeOk a size = false →
    ∃ d, exec (.bar0AccessError write a size) s = .next { s with ctl := d } ∧ recordsRefusal write 1 a s.ctl d) ∧
  (∀ (s : State) (write : Bool) (a : Nat), taken (.bar0NoPageAccess write a) s → inPage a = false →
    ∃ d, exec (.bar0NoPageAccess write a) s = .next { s with ctl := d } ∧ recordsRefusal write 2 a s.ctl d) ∧
  (∀ (s : State) (write : Bool) (a : Nat), taken (.stoppedPageAccess write a) s → s.ctl.access a = .refused 3 →
    ∃ d, exec (.stoppedPageAccess write a) s = .next { s with ctl := d } ∧ recordsRefusal write 3 a s.ctl d)

/-- On the LMN-1200 the pages of channels 12 to 23 read as zero and ignore every write. R3. -/
def Obligations.AbsentChannelsReadZeroAndIgnoreWrites : Prop :=
  ∀ (s : State) (n a : Nat) (w : Word) (en : Bool), s.ctl.pwr.inReset = false → s.ctl.half = true → 12 ≤ n → n < 24 →
    (pgSpindle n ≤ a ∧ a < pgSpindle n + 0x1000) ∨ (pgLane n ≤ a ∧ a < pgLane n + 0x400) ∨
      (pgLane (24 + n) ≤ a ∧ a < pgLane (24 + n) + 0x400) →
    (∀ f, guardW a w f s.ctl = s.ctl) ∧ (∀ f, guardWS a w f s = s) ∧
    (a % 4 = 0 →
      exec (.registerWrite a w) s = .next s ∧ exec (.wideValueCommit a w) s = .next s ∧
      exec (.counterReadClear a) s = .next { s with ctl := s.ctl.modHost (fun h => { h with lastRead := 0 }) } ∧
      exec (.wideValueRead a) s = .next { s with ctl := s.ctl.modHost (fun h => { h with lastRead := 0 }) }) ∧
    (a % 0x400 = 0 → exec (.blkEnable a en) s = .next s ∧ exec (.softReset a en) s = .next s)

/-- A doorbell that follows a waiting ordered doorbell waits behind it. R55. -/
def Obligations.DoorbellWaitsBehindOrderedDoorbell : Prop :=
  ∀ (s : State) (w : Word), taken (.doorbell w) s → s.ctl.access R.HOPPER_DOORBELL = .ok → s.ctl.hop.ordDoorbells ≠ [] →
    (s.ctl.mustWait R.HOPPER_DOORBELL = false → exec (.doorbell w) s = .next { s with ctl :=
      { s.ctl with hop := { s.ctl.hop with ordDoorbells := s.ctl.hop.ordDoorbells ++ [(w.toNat, 0)] } } }) ∧
    (s.ctl.mustWait R.HOPPER_DOORBELL = true → exec (.doorbell w) s = .next
      { s with ctl := s.ctl.holdWrite R.HOPPER_DOORBELL 0 w })

/-- A write behind one of its page that has not taken effect waits, and those that wait take effect in order. R49. -/
def Obligations.WritesOfAPageWaitInOrder : Prop :=
  (∀ (s : State) (a : Nat) (w : Word), s.ctl.pwr.inReset = false → s.ctl.access a = .ok → s.ctl.mustWait a = true →
    (∀ f, guardW a w f s.ctl = s.ctl.holdWrite a 0 w) ∧
    (∀ g, guardWS a w g s = { s with ctl := s.ctl.holdWrite a s.mem.bar2.length w }) ∧
    (a < 2 ^ 24 → a % 4 = 0 →
      exec (.registerWrite a w) s = .next { s with ctl := s.ctl.holdWrite a s.mem.bar2.length w } ∧
      exec (.wideValueCommit a w) s = .next { s with ctl := s.ctl.holdWrite a s.mem.bar2.length w }) ∧
    ∀ k, (s.ctl.holdWrite a k w).host.held = s.ctl.host.held ++ [{ addr := a, word := s.ctl.runningCleared a w, bar2 := k }] ∧
      (∀ r, (s.ctl.holdWrite a k w).reg r = s.ctl.reg r) ∧ (s.ctl.holdWrite a k w).mustWait a = true) ∧
  (∀ (c : Ctl) (h : Held) (a base : Nat), h ∈ c.host.held → pageBase h.addr = some base → pageBase a = some base →
    c.mustWait a = true) ∧
  (∀ (h : Held) (l : List Held) (s : State), State.releaseHeld (h :: l) s =
    l.foldl State.takeHeld (({ s with ctl := s.ctl.modHost (fun u => { u with held := [] }) } : State).takeHeld h)) ∧
  ∀ (s : State) (h : Held), s.ctl.pwr.inReset = false →
    (s.ctl.mustWait h.addr = true → s.takeHeld h = { s with ctl := s.ctl.holdWrite h.addr h.bar2 h.word }) ∧
    (s.ctl.mustWait h.addr = false → h.addr ≠ R.HOPPER_DOORBELL_ORD → s.takeHeld h = s.regWrite h.addr h.word)

/-- Enabling a stream context clears HEAD, FETCH and TAIL; a refused enable reports its error. R84, R87. -/
def Obligations.EnablingContextClearsItsIndices : Prop :=
  ∀ (s : State) (x : Nat) (w : Word), taken (.ctxEnable x w) s → s.ctl.access (R.CTX_CTRL x) = .ok →
    s.ctl.mustWait (R.CTX_CTRL x) = false →
    s.ctl.get R.GLOBAL_PWR_STAT_STATE ≠ 1 → s.ctl.single = true → s.ctl.cst x = csDisabled →
    ((ctxCtrlFields x w s.ctl).enableErr x = 0 →
      ∃ d, exec (.ctxEnable x w) s = .next { s with ctl := d } ∧ d.headIx x = 0 ∧ d.fetchIx x = 0 ∧ d.tailIx x = 0 ∧
        d.cst x = csIdle ∧ d.is (R.CTX_CTRL_ENABLE x) = true ∧ d.get (R.CTX_STAT_ENABLE_ERR x) = 0) ∧
    ((ctxCtrlFields x w s.ctl).enableErr x ≠ 0 →
      ∃ d, exec (.ctxEnable x w) s = .next { s with ctl := d } ∧ d.cst x = csDisabled ∧
        d.get (R.CTX_STAT_ENABLE_ERR x) = (ctxCtrlFields x w s.ctl).enableErr x)

/-- A fence timeout acts at the end of its tick, with every arrival of the tick known, and once. R120, R121, R122. -/
def Obligations.FenceTimeoutActsAtTheTicksEnd : Prop :=
  (∀ c : Ctl, c.hop.expired = [] → fencesExpire c = c) ∧
  (∀ (c : Ctl) (n : Nat), c.hop.expired = [n] →
    fencesExpire c = fenceExpired n { allArrivals c with hop := { (allArrivals c).hop with expired := [] } }) ∧
  ∀ (c : Ctl) (n t : Nat) (j : Item), (c.sp n).fence = some (j, t) →
    let lim := if j.timeoutMs ≠ 0 then j.timeoutMs * 20000 else c.get R.HOPPER_FENCE_TIMEOUT_TICKS
    ((c.sp n).fencePass = true ∨ (c.sp n).timedOut = true ∨ lim = 0 ∨ c.sinceT t < lim → fenceExpired n c = c) ∧
    ((c.sp n).fencePass = false → (c.sp n).timedOut = false → lim ≠ 0 → lim ≤ c.sinceT t →
      c.get R.HOPPER_FENCE_CTRL_TIMEOUT_ACTION = 0 →
      (c.hop.timedOut.contains (j.fenceId, j.mask) = true →
        fenceExpired n c = c.modSp n (fun u => { u with timedOut := true })) ∧
      (c.hop.timedOut.contains (j.fenceId, j.mask) = false → fenceExpired n c =
        Ctl.irq { c.modSp n (fun u => { u with timedOut := true }) with
          hop := { c.hop with timedOut := c.hop.timedOut ++ [(j.fenceId, j.mask)] } } pgHopper 4))

/-- Speeds are clamped to their bounds, and a zero speed or acceleration reads as its least value. R72, R138, R139. -/
def Obligations.SpeedAndAccelerationDefaults : Prop :=
  ∀ (p : Prof) (i : Item),
    (fieldAt p 4 2 = 0 → pMarkAccel p = accelLsb) ∧ (fieldAt p 6 2 = 0 → pJumpAccel p = accelLsb) ∧
    (fieldAt p 4 2 ≠ 0 → pMarkAccel p = fieldAt p 4 2 * accelLsb) ∧
    (fieldAt p 6 2 ≠ 0 → pJumpAccel p = fieldAt p 6 2 * accelLsb) ∧
    (100 ≤ i.speed → i.speed ≤ 24000 → markSpeed i p = i.speed * speedLsb) ∧
    (0 < i.speed → i.speed < 100 → markSpeed i p = 100 * speedLsb) ∧
    (24000 < i.speed → markSpeed i p = 24000 * speedLsb) ∧
    (i.speed = 0 → pMarkSpeed p = 0 → markSpeed i p = 100 * speedLsb) ∧
    (∀ raw, 60000 < raw → jumpSpeed raw p = 60000 * speedLsb) ∧
    (∀ raw, 0 < raw → raw ≤ 60000 → jumpSpeed raw p = raw * speedLsb)

/-- While PUBLISH reads 1, a profile write through the window changes no table and reports TABLE_ERR with cause 2.
R182. -/
def Obligations.PublishKeepsProfileWritesOut : Prop :=
  ∀ (s : State) (off : Nat) (w : Word), taken (.tableWindowWrite off w) s → s.ctl.access (winBase + off) = .ok →
    s.ctl.mustWait (winBase + off) = false →
    s.ctl.is R.GLOBAL_TABLE_WIN_KIND = true → off < winSize true →
    bitOf (s.ctl.written R.GLOBAL_PROF_CTRL) 31 = true →
    ∃ d, exec (.tableWindowWrite off w) s = .next { s with ctl := d } ∧
      exec (.registerWrite (winBase + off) w) s = .next { s with ctl := afterLanes s.ctl.lanesActive d } ∧
      d.tab = s.ctl.tab ∧ d.get R.GLOBAL_TABLE_ERR_VALID = 1 ∧ d.get R.GLOBAL_TABLE_ERR_CAUSE = 2 ∧
      ∀ a, a ≠ R.GLOBAL_TABLE_ERR → a ≠ R.BLK_IRQ_RAW pgGlobal → a ≠ R.BLK_IRQ_STAT pgGlobal → d.reg a = s.ctl.reg a

/-- The 15-bit key of the fantail orders spindles by priority, then class, then number, without ties. R203, R38. -/
def Obligations.FantailKeyIsATotalOrder : Prop :=
  ∀ p q c d n m : Nat, p < 16 → q < 16 → c < 64 → d < 64 → n < 24 → m < 24 →
    rankKey p c n = (p <<< 11 ||| (63 - c) <<< 5 ||| (31 - n)) ∧ rankKey p c n < 2 ^ 15 ∧
    (rankKey p c n = rankKey q d m ↔ p = q ∧ c = d ∧ n = m) ∧
    (rankKey q d m < rankKey p c n ↔ q < p ∨ (q = p ∧ (c < d ∨ (c = d ∧ n < m))))

/-- Cell (i, j) of the heat ledger lies at its address and covers exactly its square of the bed. R280. -/
def Obligations.LedgerCellsTileTheBed : Prop :=
  ∀ (c : Ctl) (i j : Nat), i < c.gridNx → j < c.gridNy →
    (∃ k, c.gridKey i j = some k ∧ c.cellAddr k = c.gridBase + (j * c.gridNx + i) * 8) ∧
    ∀ x y : Int, c.gridIx x y = ((i : Int), (j : Int)) ↔
      (c.getS R.LEDGER_GRID_X0_ORIGIN + i * c.gridPitch ≤ x ∧ x < c.getS R.LEDGER_GRID_X0_ORIGIN + (i + 1) * c.gridPitch) ∧
      c.getS R.LEDGER_GRID_Y0_ORIGIN + j * c.gridPitch ≤ y ∧ y < c.getS R.LEDGER_GRID_Y0_ORIGIN + (j + 1) * c.gridPitch

/-- MP_CLEAR and HALT_CLEAR act at the tick boundary, and HALT_CLEAR is decided by the evaluation. R308, R312, R314.
-/
def Obligations.LedgerRequestsActAtTheTickBoundary : Prop :=
  (∀ (c : Ctl) (n : Nat), n < 24 → c.bit R.LEDGER_FROZEN n = true → c.led.mpClears = [n] → c.led.clears = [] →
    c.is R.LEDGER_CMD_HALT_CLEAR = false →
    (c.bit R.LEDGER_MP_FAILED n = false → ledgerRequests c =
      (((c.modLed (fun l => { l with mpClears := [], clears := [] })).clearBits R.LEDGER_FROZEN (2 ^ n)).flag
        (R.LEDGER_CH_MP_FROZEN n) false).modLch n (fun l => { l with below := 0 })) ∧
    (c.bit R.LEDGER_MP_FAILED n = true → ledgerRequests c = c.modLed (fun l => { l with mpClears := [], clears := [] }))) ∧
  (∀ c : Ctl, c.led.mpClears = [] → c.led.clears = [] → c.is R.LEDGER_CMD_HALT_CLEAR = true →
    c.activePage pgLedger = false → ledgerRequests c = haltCleared (c.modLed (fun l => { l with mpClears := [], clears := [] }))) ∧
  (∀ c : Ctl, haltCleared c = brakeLevel brkHalt false false
    ((c.flag R.LEDGER_HALT_STAT_HALTED false).flag R.LEDGER_CMD_HALT_CLEAR false)) ∧
  ∀ c : Ctl, c.live R.LEDGER_CMD_HALT_CLEAR ≠ 0 → c.is R.LEDGER_HALT_STAT_HALTED = true →
    let below := ∀ n ∈ bitList 24 (c.get R.LEDGER_HALT_STAT_CHANNELS), ((c.lch n).tspot : Int) ≤
      (c.live R.LEDGER_TEMP_TH_T_HALT : Int) - 16 * (c.live R.LEDGER_HOLD_CFG_T_HYST : Int)
    (below → decideClear c = haltCleared c) ∧
    (¬ below → decideClear c = (c.flag R.LEDGER_HALT_STAT_CLEAR_REFUSED true).flag R.LEDGER_CMD_HALT_CLEAR false)

/-- An uplink TICK8 stands for the most recent tick whose low eight bits equal it. R357. -/
def Obligations.UplinkTickIsTheMostRecentMatch : Prop :=
  ∀ (c : Ctl) (k t8 : Nat), c.compat k = false → t8 < 256 →
    c.upTick k t8 < 2 ^ 48 ∧ c.upTick k t8 % 256 = t8 ∧
    ∀ t, t < 2 ^ 48 → t % 256 = t8 → c.sinceT (c.upTick k t8) ≤ c.sinceT t

/-- The receiver recovers from the line the payload that the transmitter scrambled. R322. -/
def Obligations.DescramblerUndoesScrambler : Prop :=
  ∀ st d : Nat, st < 2 ^ 58 → d < 2 ^ 64 →
    let line := st + scramble st d * 2 ^ 58
    scramble st d < 2 ^ 64 ∧ descramble st (scramble st d) = d ∧ lineTail (scramble st d) = line / 2 ^ 64 ∧
    ∀ i, i < 64 → line.testBit (58 + i) = (d.testBit i ^^ line.testBit (i + 19) ^^ line.testBit i)

/-- The active takes HANDOVER only while the partner reports READY. R422. -/
def Obligations.HandoverNeedsReadyPartner : Prop :=
  ∀ (s : State), taken .handoverCmd s → s.ctl.access R.TWIN_CMD = .ok →
    s.ctl.mustWait R.TWIN_CMD = false → s.ctl.role = rActive →
    (s.ctl.tw.peerReady = true →
      exec .handoverCmd s = .next { s with ctl := s.ctl.modTw (fun t => { t with asked := true }) }) ∧
    (s.ctl.tw.peerReady = false →
      ∃ d, exec .handoverCmd s = .next { s with ctl := d } ∧ d.get R.TWIN_STAT_HANDOVER_REFUSED = 1 ∧ d.tw = s.ctl.tw ∧
        d.role = rActive ∧ ∀ a, a ≠ R.TWIN_STAT → d.reg a = s.ctl.reg a)

/-- A write accepted into a write queue is what every later read sees, and no other byte changes. R450, R451. -/
def Obligations.AcceptedWriteIsVisible : Prop :=
  ∀ (s : State) (host : Bool) (a : Nat) (l : Table Byte), taken (.dramWrite host) s → s.nextWrite host = some (a, l) →
    (∀ e ∈ l, e.1 < 128) → (l.map (·.1)).Nodup → s.mem.hasRoom (s.ctl.millOf a) (granule a) = true →
    (∀ e ∈ s.mem.wq (1 - s.ctl.millOf a), e.granule ≠ granule a) →
    (host = true → ∀ m, ∀ r ∈ (s.ctl.mcSt m).reads, r.errs = []) →
    ∃ t, exec (.dramWrite host) s = .next t ∧ (∀ e ∈ l, t.mem.byte (granule a + e.1) = (e.2, false)) ∧
      ∀ b, (∀ e ∈ l, b ≠ granule a + e.1) → t.mem.byte b = s.mem.byte b

/-- Committing a batch from a write queue to DRAM changes no byte that a reader sees. R450, R451, R453, R454. -/
def Obligations.WriteBatchKeepsWhatReadersSee : Prop :=
  ∀ (s : State) (m : Nat), taken (.writeBatch ⟨m, []⟩) s → s.sound = true →
    (∀ e ∈ s.mem.wq m, (e.bytes.map (·.1)).Nodup ∧ ∀ x ∈ e.bytes, x.1 < 128) →
    (∀ e ∈ s.mem.wq0, ∀ f ∈ s.mem.wq1, e.granule ≠ f.granule) → s.mem.poisoned = [] →
    (∀ r ∈ (s.ctl.mcSt m).reads, r.errs = []) →
    ∃ t, exec (.writeBatch ⟨m, []⟩) s = .next t ∧ ∀ b, t.mem.byte b = s.mem.byte b

/-- A read that meets one wrong symbol returns the granule as it was written and reports the symbol. R441, R442. -/
def Obligations.SingleSymbolErrorIsCorrected : Prop :=
  (∀ (l : List Byte) (e : SymbolError), l.length = 128 → e.word < 8 → e.symbol < 20 → 0 < e.bits → e.bits < 256 →
    eccRead l [e] = (.corrected e.symbol, l)) ∧
  ∀ (s : State) (m a cls : Nat) (e : SymbolError), s.mem.poisoned.contains (granule a) = false →
    e.word < 8 → e.symbol < 20 → 0 < e.bits → e.bits < 256 →
    readGranule m a cls [e] s = s.finding m a cls (.corrected e.symbol)

/-- The sideband answers each command code with its block, and any other code with an empty one. R497. -/
def Obligations.SidebandAnswersByCommandCode : Prop :=
  ∀ s : State, s.ctl.pwr.inReset = false →
    exec .smbChipId s = .next (s.answered (leBytes 4 s.ctl.chipId ++ leBytes 8 s.ctl.nv.uid)) ∧
    exec .smbHealth s = .next (s.answered (leBytes 4 (s.ctl.reg R.TWIN_HEALTH) ++ leBytes 1 s.ctl.role ++
      leBytes 1 (s.ctl.get R.GLOBAL_PWR_STAT_STATE) ++ leBytes 1 (b2n s.ctl.armed) ++ [0#8])) ∧
    exec .smbDiodes s = .next (s.answered ((upto 8).flatMap (fun d => leBytes 2 (s.ctl.get (R.DT_TEMP_TEMP d))))) ∧
    exec .smbRails s = .next (s.answered ((upto 7).flatMap (fun r => leBytes 2 (s.ctl.get (R.RAIL_MV_MV r))))) ∧
    exec .smbTally s = .next (s.answered (leBytes 6 s.ctl.now)) ∧
    exec .smbLink s = .next (s.answered (leBytes 1 s.ctl.host.pcieState ++ leBytes 1 (s.ctl.get R.GLOBAL_HP_STAT_WIDTH) ++
      leBytes 1 (s.ctl.get R.GLOBAL_HP_STAT_RATE) ++ leBytes 1 (s.ctl.get R.GLOBAL_HP_STAT_LINK_DOWNS))) ∧
    exec .smbHalts s = .next (s.answered (leBytes 4 (s.ctl.reg R.LEDGER_NV_HALTS) ++
      leBytes 1 (b2n (s.ctl.is R.REC_STAT_STORE_FAULT)) ++ leBytes 4 (s.ctl.reg R.HOPPER_LAYER_COUNT) ++ [0#8])) ∧
    ∀ cmd, cmd < 256 → cmd = 0 ∨ 7 < cmd → exec (.smbUnknown cmd) s = .next (s.answered [])

/-- The source that a claim takes has the highest priority and, between equal ones, the lowest number. R510. -/
def Obligations.ClaimTakesBestDeliverableSource : Prop :=
  (∀ (c : Ctl) (x s : Nat), c.bestSource x = some s ↔
      s < 64 ∧ c.deliverable x s = true ∧
      ∀ t, t < 64 → c.deliverable x t = true → c.srcPrio t < c.srcPrio s ∨ (c.srcPrio t = c.srcPrio s ∧ s ≤ t)) ∧
  (∀ (c : Ctl) (x : Nat), c.bestSource x = none ↔ ∀ t, t < 64 → c.deliverable x t = false)

/-- A rising edge of Z copies the count into the latch and sets Z_SEEN. R527. -/
def Obligations.EncoderLatchesAtIndexEdge : Prop :=
  ∀ (s : State) (e : Nat), taken (.encZEdge e) s →
    ∃ d, exec (.encZEdge e) s = .next { s with ctl := d } ∧ d.reg (R.ENC_ZLATCH e) = s.ctl.reg (R.ENC_COUNT e) ∧
      d.get (R.ENC_STAT_Z_SEEN e) = 1 ∧ d.reg (R.ENC_COUNT e) = s.ctl.reg (R.ENC_COUNT e) ∧
      ∀ a, a ≠ R.ENC_ZLATCH e → a ≠ R.ENC_STAT e → d.reg a = s.ctl.reg a

/-- APPLY writes the dark values of every channel into its offsets, and does nothing while a trim runs. R639. -/
def Obligations.ApplyWritesTheDarkOffsets : Prop :=
  ∀ (s : State), taken .apply s → s.ctl.access R.TRIM_CMD = .ok →
    s.ctl.mustWait R.TRIM_CMD = false →
    (s.ctl.is R.TRIM_CMD_RUN = true → exec .apply s = .next s) ∧
    (s.ctl.is R.TRIM_CMD_RUN = false → ∃ d, exec .apply s = .next { s with ctl := d } ∧
      (∀ n, n < 24 → s.ctl.hasChan n = true →
        d.get (R.SPINDLE_TENT_OFFSET_AB_OFFSET_A n) = s.ctl.get (R.TRIM_DARK_AB_OFFSET_A n) ∧
        d.get (R.SPINDLE_TENT_OFFSET_AB_OFFSET_B n) = s.ctl.get (R.TRIM_DARK_AB_OFFSET_B n) ∧
        d.get (R.SPINDLE_TENT_OFFSET_R_OFFSET_R n) = s.ctl.get (R.TRIM_DARK_R_OFFSET_R n)) ∧
      ∀ a, (∀ n, n < 24 → a ≠ R.SPINDLE_TENT_OFFSET_AB n ∧ a ≠ R.SPINDLE_TENT_OFFSET_R n) → d.reg a = s.ctl.reg a)

/-- CHIP_RESET is refused while the build is armed, and resets the whole device otherwise. R646. -/
def Obligations.ChipResetRefusedWhileArmed : Prop :=
  ∀ (s : State), taken .chipReset s → s.ctl.access R.GLOBAL_RST_CMD = .ok →
    s.ctl.mustWait R.GLOBAL_RST_CMD = false →
    (s.ctl.armed = true → ∃ d, exec .chipReset s = .next { s with ctl := d } ∧
      d.get R.GLOBAL_RST_STAT_CHIP_RESET_REFUSED = 1 ∧ d.pwr = s.ctl.pwr ∧ ∀ a, a ≠ R.GLOBAL_RST_STAT → d.reg a = s.ctl.reg a) ∧
    (s.ctl.armed = false → ∃ t, exec .chipReset s = .next t ∧ t.ctl.pwr.inReset = true ∧ t.ctl.get R.GLOBAL_RST_STAT_CAUSE = 4)

/-- Commands of accesses of BAR0, block enables and the tick complete, with the effect named. Where each command of
accesses of BAR0, block enables and the tick completes, and with which operation. -/
def Obligations.BarCommandsComplete : Prop :=
  (∀ (write : Bool) (addr size : Nat) (s : State), taken (.bar0AccessError write addr size) s →
    exec (.bar0AccessError write addr size) s = .next { s with
        ctl := if sizeOk addr size then s.ctl else accErr write 1 addr s.ctl }) ∧
  (∀ (write : Bool) (addr : Nat) (s : State), taken (.bar0NoPageAccess write addr) s →
    exec (.bar0NoPageAccess write addr) s = .next { s with
        ctl := if inPage addr then s.ctl else accErr write 2 addr s.ctl }) ∧
  (∀ (write : Bool) (addr : Nat) (s : State), taken (.stoppedPageAccess write addr) s →
    exec (.stoppedPageAccess write addr) s = .next { s with
        ctl := if s.ctl.access addr = .refused 3 then accErr write 3 addr s.ctl else s.ctl }) ∧
  (∀ (addr : Nat) (w : Word) (s : State), taken (.registerWrite addr w) s → s.ctl.access addr = .ok → s.ctl.mustWait
    addr = false →
    exec (.registerWrite addr w) s = .next (keepQueue (onMapAt addr (onLanes (fun s => s.regWrite addr w))) s)) ∧
  (∀ (addr : Nat) (s : State), taken (.wideValueRead addr) s →
    exec (.wideValueRead addr) s = .next (keepQueue (State.hostRead addr) s)) ∧
  (∀ (addr : Nat) (w : Word) (s : State), taken (.wideValueCommit addr w) s → s.ctl.access addr = .ok → s.ctl.mustWait
    addr = false →
    exec (.wideValueCommit addr w) s = .next (keepQueue (onMapAt addr (onLanes (fun s => s.regWrite addr w))) s)) ∧
  (∀ (addr : Nat) (s : State), taken (.counterReadClear addr) s →
    exec (.counterReadClear addr) s = .next (keepQueue (State.hostRead addr) s)) ∧
  (∀ (addr : Nat) (en : Bool) (s : State), taken (.blkEnable addr en) s → s.ctl.access (R.BLK_CTRL addr) = .ok →
    s.ctl.mustWait (R.BLK_CTRL addr) = false →
    exec (.blkEnable addr en) s = .next (keepQueue (onMapAt addr (onLanes (fun s => s.regWrite (R.BLK_CTRL addr)
        (BitVec.ofNat 32 (b2n en))))) s)) ∧
  (∀ (addr : Nat) (en : Bool) (s : State), taken (.softReset addr en) s → s.ctl.access (R.BLK_CTRL addr) = .ok →
    s.ctl.mustWait (R.BLK_CTRL addr) = false →
    exec (.softReset addr en) s = .next (keepQueue (onMapAt addr (fun s => { s with ctl := softReset addr en s.ctl }))
        s)) ∧
  (∀ (s : State), taken .tick s →
    exec .tick s = .next (keepQueue (fun s => State.releaseHeld s.ctl.host.held (waitingRecord
        { s with ctl := tickStep s.ctl })) s)) ∧
  (∀ (s : State), taken .tallyWrap s →
    exec .tallyWrap s = .next (keepQueue (fun s => State.releaseHeld s.ctl.host.held (waitingRecord
        { s with ctl := tallyWrap s.ctl })) s))

/-- Commands of vector streams, the hopper and the loader complete, with the effect named. Where each command of
vector streams, the hopper and the loader completes, and with which operation. -/
def Obligations.StreamCommandsComplete : Prop :=
  (∀ (w : Word) (s : State), taken (.doorbell w) s → s.ctl.access R.HOPPER_DOORBELL = .ok → s.ctl.mustWait
    R.HOPPER_DOORBELL = false →
    exec (.doorbell w) s = .next { s with ctl := ringDoorbell w s.ctl }) ∧
  (∀ (w : Word) (s : State), taken (.doorbellOrd w) s → s.ctl.access R.HOPPER_DOORBELL_ORD = .ok → s.ctl.mustWait
    R.HOPPER_DOORBELL_ORD = false →
    exec (.doorbellOrd w) s = .next (keepQueue (ringOrdered w) s)) ∧
  (∀ (s : State), taken .orderedDoorbellEffect s →
    exec .orderedDoorbellEffect s = .next (keepQueue (State.releaseHeld s.ctl.host.held)
        { s with ctl := orderedRings s.ctl })) ∧
  (∀ (x : Nat) (w : Word) (s : State), taken (.ctxEnable x w) s → s.ctl.access (R.CTX_CTRL x) = .ok → s.ctl.mustWait
    (R.CTX_CTRL x) = false →
    exec (.ctxEnable x w) s = .next { s with ctl := ctxOn x w s.ctl }) ∧
  (∀ (x : Nat) (w : Word) (s : State), taken (.ctxDisable x w) s → s.ctl.access (R.CTX_CTRL x) = .ok → s.ctl.mustWait
    (R.CTX_CTRL x) = false →
    exec (.ctxDisable x w) s = .next { s with ctl := ctxOff x w s.ctl }) ∧
  (∀ (x : Nat) (s : State), taken (.ctxDrainComplete x) s →
    exec (.ctxDrainComplete x) s = .next { s with ctl := drainComplete x s.ctl }) ∧
  (∀ (x : Nat) (s : State), taken (.resume x) s → s.ctl.access (R.CTX_ACTION x) = .ok → s.ctl.mustWait (R.CTX_ACTION x)
    = false →
    exec (.resume x) s = .next { s with ctl := ctxResume x s.ctl }) ∧
  (∀ (x : Nat) (s : State), taken (.skip x) s → s.ctl.access (R.CTX_ACTION x) = .ok → s.ctl.mustWait (R.CTX_ACTION x) =
    false →
    exec (.skip x) s = .next { s with ctl := ctxSkip x s.ctl }) ∧
  (∀ (s : State), taken .hopperReadRequest s →
    exec .hopperReadRequest s = .next { s with ctl := hopperRequest s.ctl }) ∧
  (∀ (x id : Nat) (s : State), taken (.hopperReadReturn x id) s →
    exec (.hopperReadReturn x id) s = .next (keepQueue (fun s => bar2Collect (hopperReturn x id s)) s)) ∧
  (∀ (n : Nat) (s : State), taken (.recordStart n) s →
    exec (.recordStart n) s = .next { s with ctl := recordStarts n s.ctl }) ∧
  (∀ (n : Nat) (s : State), taken (.recordRetire n) s →
    exec (.recordRetire n) s = .next { s with ctl := recordRetire n s.ctl }) ∧
  (∀ (x : Nat) (s : State), taken (.shareOffer x) s →
    exec (.shareOffer x) s = .next { s with ctl := shareOffer x s.ctl }) ∧
  (∀ (n : Nat) (s : State), taken (.fenceArrive n) s →
    exec (.fenceArrive n) s = .next { s with ctl := fenceArrive n s.ctl }) ∧
  (∀ (n : Nat) (s : State), taken (.fenceTimeout n) s →
    exec (.fenceTimeout n) s = .next { s with ctl := fenceTimeout n s.ctl }) ∧
  (∀ (n : Nat) (s : State), taken (.layerEndArrive n) s →
    exec (.layerEndArrive n) s = .next { s with ctl := layerEndArrive n s.ctl }) ∧
  (∀ (n : Nat) (s : State), taken (.layerEndPass n) s →
    exec (.layerEndPass n) s = .next { s with ctl := layerEndPass n s.ctl }) ∧
  (∀ (w : Word) (s : State), taken (.ldrEnable w) s → s.ctl.access R.GLOBAL_LDR_CFG = .ok → s.ctl.mustWait
    R.GLOBAL_LDR_CFG = false →
    exec (.ldrEnable w) s = .next { s with ctl := ldrEnable w s.ctl }) ∧
  (∀ (w : Word) (s : State), taken (.ldrDb w) s → s.ctl.access R.GLOBAL_LDR_DB = .ok → s.ctl.mustWait R.GLOBAL_LDR_DB =
    false →
    exec (.ldrDb w) s = .next { s with ctl := ldrDb w s.ctl }) ∧
  (∀ (data : List Byte) (s : State), taken (.ldrDescriptorReturn data) s →
    exec (.ldrDescriptorReturn data) s = .next { s with ctl := ldrReturn data s.ctl }) ∧
  (∀ (k : Nat) (data : List Byte) (err : Nat) (s : State), taken (.ldrDataReturn k data err) s →
    exec (.ldrDataReturn k data err) s = .next { s with ctl := ldrData k data err s.ctl }) ∧
  (∀ (s : State), taken .ldrCompletion s → exec .ldrCompletion s = .next (keepQueue (ldrCompletion ringLoader) s)) ∧
  (∀ (s : State), taken .ldrResume s → s.ctl.access R.GLOBAL_LDR_CMD = .ok → s.ctl.mustWait R.GLOBAL_LDR_CMD = false →
    exec .ldrResume s = .next { s with ctl := ldrResume s.ctl }) ∧
  (∀ (s : State), taken .ldrAbort s → s.ctl.access R.GLOBAL_LDR_CMD = .ok → s.ctl.mustWait R.GLOBAL_LDR_CMD = false →
    exec .ldrAbort s = .next { s with ctl := ldrAbort s.ctl })

/-- Commands of spindles, profiles and the table window and the fantail complete, with the effect named. Where each
command of spindles, profiles and the table window and the fantail completes, and with which operation. -/
def Obligations.SpindleFantailCommandsComplete : Prop :=
  (∀ (n : Nat) (s : State), taken (.spindleEnable n) s → s.ctl.access (R.BLK_CTRL (pgSpindle n)) = .ok → s.ctl.mustWait
    (R.BLK_CTRL (pgSpindle n)) = false →
    exec (.spindleEnable n) s = .next { s with ctl := blkCtrl .spindle n (pgSpindle n) 1 s.ctl }) ∧
  (∀ (n : Nat) (s : State), taken (.spindleDisable n) s → s.ctl.access (R.BLK_CTRL (pgSpindle n)) = .ok → s.ctl.mustWait
    (R.BLK_CTRL (pgSpindle n)) = false →
    exec (.spindleDisable n) s = .next { s with ctl := blkCtrl .spindle n (pgSpindle n) 0 s.ctl }) ∧
  (∀ (n : Nat) (s : State), taken (.mirrorAtRest n) s →
    exec (.mirrorAtRest n) s = .next { s with ctl := mirrorAtRest n s.ctl }) ∧
  (∀ (n : Nat) (s : State), taken (.brakeResume n) s → s.ctl.access (R.SPINDLE_CMD n) = .ok → s.ctl.mustWait
    (R.SPINDLE_CMD n) = false →
    exec (.brakeResume n) s = .next { s with ctl := cmdBrakeResume n s.ctl }) ∧
  (∀ (n : Nat) (s : State), taken (.spindleGridSwap n) s → s.ctl.access (R.SPINDLE_CMD n) = .ok → s.ctl.mustWait
    (R.SPINDLE_CMD n) = false →
    exec (.spindleGridSwap n) s = .next { s with ctl := cmdGridSwap n s.ctl }) ∧
  (∀ (s : State), taken .publish s → s.ctl.access R.GLOBAL_PROF_CTRL = .ok → s.ctl.mustWait R.GLOBAL_PROF_CTRL = false →
    exec .publish s = .next { s with ctl := cmdPublish s.ctl }) ∧
  (∀ (s : State), taken .profDone s → exec .profDone s = .next { s with ctl := profDone s.ctl }) ∧
  (∀ (off : Nat) (w : Word) (s : State), taken (.tableWindowWrite off w) s → s.ctl.access (winBase + off) = .ok →
    s.ctl.mustWait (winBase + off) = false →
    exec (.tableWindowWrite off w) s = .next { s with ctl := tableWrite off w s.ctl }) ∧
  (∀ (n : Nat) (s : State), taken (.waitAlarm n) s →
    exec (.waitAlarm n) s = .next { s with ctl := waitAlarm n s.ctl }) ∧
  (∀ (k : Nat) (ue : Bool) (s : State), taken (.terrFetchReturn k ue) s →
    exec (.terrFetchReturn k ue) s = .next (keepQueue (fun s => bar2Collect (terrReturn k ue s)) s)) ∧
  (∀ (s : State), taken .flowLost s → exec .flowLost s = .next { s with ctl := flowLoss s.ctl }) ∧
  (∀ (s : State), taken .flowRestored s → exec .flowRestored s = .next { s with ctl := flowRestored s.ctl })

/-- Commands of tentering and the heat ledger complete, with the effect named. Where each command of tentering and the
heat ledger completes, and with which operation. -/
def Obligations.HeatCommandsComplete : Prop :=
  (∀ (k body chk : Nat) (late : Bool) (s : State), taken (.meas k body chk late) s →
    exec (.meas k body chk late) s = .next { s with ctl := upMeas k body chk late s.ctl }) ∧
  (∀ (n : Nat) (late : Bool) (s : State), taken (.measMissing n late) s →
    exec (.measMissing n late) s = .next { s with ctl := measMissing n late s.ctl }) ∧
  (∀ (n : Nat) (s : State), taken (.keeper n) s → exec (.keeper n) s = .next { s with ctl := keeper n s.ctl }) ∧
  (∀ (s : State), taken .ledgerEnable s → s.ctl.access (R.BLK_CTRL pgLedger) = .ok → s.ctl.mustWait (R.BLK_CTRL
    pgLedger) = false →
    exec .ledgerEnable s = .next { s with ctl := blkCtrl .ledger 0 pgLedger 1 s.ctl }) ∧
  (∀ (s : State), taken .ledgerFillDone s → exec .ledgerFillDone s = .next (keepQueue ledgerFillDone s)) ∧
  (∀ (s : State), taken .ledgerDisable s → s.ctl.access (R.BLK_CTRL pgLedger) = .ok → s.ctl.mustWait (R.BLK_CTRL
    pgLedger) = false →
    exec .ledgerDisable s = .next { s with ctl := blkCtrl .ledger 0 pgLedger 0 s.ctl }) ∧
  (∀ (k body chk : Nat) (s : State), taken (.mpower k body chk) s →
    exec (.mpower k body chk) s = .next { s with ctl := upMpower k body chk s.ctl }) ∧
  (∀ (n : Nat) (s : State), taken (.mpowerMissing n) s →
    exec (.mpowerMissing n) s = .next { s with ctl := mpowerMissing n s.ctl }) ∧
  (∀ (n : Nat) (s : State), taken (.mpClear n) s → s.ctl.access R.LEDGER_CMD = .ok → s.ctl.mustWait R.LEDGER_CMD = false →
    exec (.mpClear n) s = .next { s with ctl := cmdMpClear n s.ctl }) ∧
  (∀ (s : State), taken .haltClear s → s.ctl.access R.LEDGER_CMD = .ok → s.ctl.mustWait R.LEDGER_CMD = false →
    exec .haltClear s = .next { s with ctl := cmdHaltClear s.ctl }) ∧
  (∀ (late : Bool) (s : State), taken (.ledgerEvaluation late) s →
    exec (.ledgerEvaluation late) s = .next (keepQueue (ledgerEvaluation late) s)) ∧
  (∀ (k : Nat) (ue : Bool) (s : State), taken (.ledgerCellReturn k ue) s →
    exec (.ledgerCellReturn k ue) s = .next (keepQueue (fun s => bar2Collect (ledgerCellReturn k ue s)) s)) ∧
  (∀ (s : State), taken .ledgerSweep s → exec .ledgerSweep s = .next (keepQueue ledgerSweep s))

/-- Commands of lanes complete, with the effect named. Where each command of lanes completes, and with which
operation. -/
def Obligations.LaneCommandsComplete : Prop :=
  (∀ (k : Nat) (s : State), taken (.laneEnable k) s → s.ctl.access (R.BLK_CTRL (pgLane k)) = .ok → s.ctl.mustWait
    (R.BLK_CTRL (pgLane k)) = false →
    exec (.laneEnable k) s = .next { s with ctl := withLanes (blkCtrl .lane k (pgLane k) 1) s.ctl }) ∧
  (∀ (k : Nat) (s : State), taken (.laneDisable k) s → s.ctl.access (R.BLK_CTRL (pgLane k)) = .ok → s.ctl.mustWait
    (R.BLK_CTRL (pgLane k)) = false →
    exec (.laneDisable k) s = .next { s with ctl := withLanes (blkCtrl .lane k (pgLane k) 0) s.ctl }) ∧
  (∀ (k : Nat) (s : State), taken (.start k) s → s.ctl.access (R.LANE_CMD k) = .ok → s.ctl.mustWait (R.LANE_CMD k) =
    false →
    exec (.start k) s = .next { s with ctl := withLanes (laneStart k) s.ctl }) ∧
  (∀ (k : Nat) (s : State), taken (.retrain k) s → s.ctl.access (R.LANE_CMD k) = .ok → s.ctl.mustWait (R.LANE_CMD k) =
    false →
    exec (.retrain k) s = .next { s with ctl := withLanes (retrain k) s.ctl }) ∧
  (∀ (k : Nat) (slow : Bool) (s : State), taken (.laneRateWrite k slow) s → s.ctl.access (R.LANE_CTRL k) = .ok →
    s.ctl.mustWait (R.LANE_CTRL k) = false →
    exec (.laneRateWrite k slow) s = .next { s with ctl := withLanes (laneRateWrite k slow) s.ctl }) ∧
  (∀ (k : Nat) (found signal : Bool) (s : State), taken (.detectProbe k found signal) s →
    exec (.detectProbe k found signal) s = .next { s with ctl := withLanes (detectProbe k found signal) s.ctl }) ∧
  (∀ (k body check : Nat) (stepEnd : Bool) (fom ctle : Nat) (s : State), taken (.train k body check stepEnd fom ctle) s →
    exec (.train k body check stepEnd fom ctle) s = .next { s with
        ctl := withLanes (ctlBlock k bTrain body check (trainBlock k body stepEnd fom ctle)) s.ctl }) ∧
  (∀ (k body check : Nat) (s : State), taken (.idle k body check) s →
    exec (.idle k body check) s = .next { s with ctl := withLanes (ctlBlock k bIdle body check (idleBlock k)) s.ctl }) ∧
  (∀ (k body check : Nat) (s : State), taken (.exchOffer k body check) s →
    exec (.exchOffer k body check) s = .next { s with
        ctl := withLanes (ctlBlock k bExch body check (offerBlock k body)) s.ctl }) ∧
  (∀ (k body check : Nat) (s : State), taken (.exchConfirm k body check) s →
    exec (.exchConfirm k body check) s = .next { s with
        ctl := withLanes (ctlBlock k bExch body check (exchConfirm k)) s.ctl }) ∧
  (∀ (k : Nat) (s : State), taken (.laneTimeout k) s →
    exec (.laneTimeout k) s = .next { s with ctl := withLanes (laneTimeout k) s.ctl }) ∧
  (∀ (k : Nat) (s : State), taken (.backoffExpiry k) s →
    exec (.backoffExpiry k) s = .next { s with ctl := withLanes (backoffExpiry k) s.ctl }) ∧
  (∀ (k : Nat) (s : State), taken (.blockLockLost k) s →
    exec (.blockLockLost k) s = .next { s with ctl := withLanes (blockLockLost k) s.ctl }) ∧
  (∀ (k : Nat) (s : State), taken (.relockTimeout k) s →
    exec (.relockTimeout k) s = .next { s with ctl := withLanes (relockTimeout k) s.ctl }) ∧
  (∀ (k : Nat) (s : State), taken (.signalLost k) s →
    exec (.signalLost k) s = .next { s with ctl := withLanes (signalLost k) s.ctl }) ∧
  (∀ (k body check : Nat) (s : State), taken (.retrainReq k body check) s →
    exec (.retrainReq k body check) s = .next { s with
        ctl := withLanes (ctlBlock k bLinkMgmt body check (retrainReq k)) s.ctl }) ∧
  (∀ (k body check : Nat) (s : State), taken (.retrainAck k body check) s →
    exec (.retrainAck k body check) s = .next { s with
        ctl := withLanes (ctlBlock k bLinkMgmt body check (retrainAck k)) s.ctl }) ∧
  (∀ (k : Nat) (s : State), taken (.retrainReqTimeout k) s →
    exec (.retrainReqTimeout k) s = .next { s with ctl := withLanes (retrainReqTimeout k) s.ctl }) ∧
  (∀ (k count : Nat) (s : State), taken (.fomWindowEnd k count) s →
    exec (.fomWindowEnd k count) s = .next { s with ctl := withLanes (fomWindowEnd k count) s.ctl }) ∧
  (∀ (k : Nat) (d : List Int) (s : State), taken (.dfeStep k d) s →
    exec (.dfeStep k d) s = .next { s with ctl := withLanes (dfeStep k d) s.ctl }) ∧
  (∀ (k : Nat) (s : State), taken (.adaptFrozen k) s →
    exec (.adaptFrozen k) s = .next { s with ctl := withLanes (adaptFrozen k) s.ctl }) ∧
  (∀ (k : Nat) (s : State), taken (.lineKeeperSend k) s →
    exec (.lineKeeperSend k) s = .next { s with ctl := withLanes (lineKeeperSend k) s.ctl }) ∧
  (∀ (k body : Nat) (s : State), taken (.lineKeeper k body) s →
    exec (.lineKeeper k body) s = .next { s with ctl := withLanes (lineKeeper k body) s.ctl }) ∧
  (∀ (k cause payload : Nat) (s : State), taken (.blockDiscard k ⟨cause, payload⟩) s →
    exec (.blockDiscard k ⟨cause, payload⟩) s = .next { s with ctl := withLanes (blockDiscard k cause payload) s.ctl }) ∧
  (∀ (k body check : Nat) (s : State), taken (.eiEnter k body check) s →
    exec (.eiEnter k body check) s = .next { s with
        ctl := withLanes (ctlBlock k bEiEnter body check (eiEnter k (body % 4))) s.ctl }) ∧
  (∀ (k : Nat) (s : State), taken (.wakeTimeout k) s →
    exec (.wakeTimeout k) s = .next { s with ctl := withLanes (wakeTimeout k) s.ctl }) ∧
  (∀ (k : Nat) (w : Word) (s : State), taken (.laneTestMode k w) s → s.ctl.access (R.LANE_TEST k) = .ok → s.ctl.mustWait
    (R.LANE_TEST k) = false →
    exec (.laneTestMode k w) s = .next { s with ctl := withLanes (laneTestMode k w.toNat) s.ctl }) ∧
  (∀ (k : Nat) (w : Word) (s : State), taken (.injGo k w) s → s.ctl.access (R.LANE_INJ_CTL k) = .ok → s.ctl.mustWait
    (R.LANE_INJ_CTL k) = false →
    exec (.injGo k w) s = .next { s with ctl := writeLane k 0x94 w s.ctl }) ∧
  (∀ (k : Nat) (w : Word) (s : State), taken (.injStop k w) s → s.ctl.access (R.LANE_INJ_CTL k) = .ok → s.ctl.mustWait
    (R.LANE_INJ_CTL k) = false →
    exec (.injStop k w) s = .next { s with ctl := writeLane k 0x94 w s.ctl }) ∧
  (∀ (k line drift : Nat) (s : State), taken (.checkerBlock k line drift) s →
    exec (.checkerBlock k line drift) s = .next { s with ctl := checkerBlock k line drift s.ctl })

/-- Commands of the head and laser protocol and the brake complete, with the effect named. Where each command of the
head and laser protocol and the brake completes, and with which operation. -/
def Obligations.ProtoBrakeCommandsComplete : Prop :=
  (∀ (s : State), taken .tickMark s → exec .tickMark s = .next { s with ctl := tickMark s.ctl }) ∧
  (∀ (k : Nat) (w : Word) (s : State), taken (.mgmtGo k w) s → s.ctl.access (R.MGMT_CMD k) = .ok → s.ctl.mustWait
    (R.MGMT_CMD k) = false →
    exec (.mgmtGo k w) s = .next { s with ctl := writeLane k 0x120 w s.ctl }) ∧
  (∀ (k : Nat) (s : State), taken (.mgmtRetry k) s →
    exec (.mgmtRetry k) s = .next { s with ctl := mgmtRetry k s.ctl }) ∧
  (∀ (k body chk : Nat) (s : State), taken (.mgmtRsp k body chk) s →
    exec (.mgmtRsp k body chk) s = .next { s with ctl := upMgmt k body chk s.ctl }) ∧
  (∀ (k body chk : Nat) (s : State), taken (.galvo k body chk) s →
    exec (.galvo k body chk) s = .next { s with ctl := upGalvo k body chk s.ctl }) ∧
  (∀ (k body chk : Nat) (s : State), taken (.hstat k body chk) s →
    exec (.hstat k body chk) s = .next { s with ctl := upHstat k body chk s.ctl }) ∧
  (∀ (k tally check : Nat) (s : State), taken (.partnerTickMark k tally check) s →
    exec (.partnerTickMark k tally check) s = .next { s with ctl := partnerTickMark k tally check s.ctl }) ∧
  (∀ (k port mt body chk : Nat) (s : State), taken (.partnerSample k port mt body chk) s →
    exec (.partnerSample k port mt body chk) s = .next { s with ctl := partnerSample k port mt body chk s.ctl }) ∧
  (∀ (k port body check : Nat) (s : State), taken (.correction k port body check) s →
    exec (.correction k port body check) s = .next { s with ctl := correction k port body check s.ctl }) ∧
  (∀ (k port body check : Nat) (s : State), taken (.brake k port body check) s →
    exec (.brake k port body check) s = .next { s with ctl := brakeBlock k port body check s.ctl }) ∧
  (∀ (k : Nat) (s : State), taken (.brakeEcho k) s →
    exec (.brakeEcho k) s = .next { s with ctl := brakeEcho k s.ctl }) ∧
  (∀ (k : Nat) (s : State), taken (.camCredit k) s →
    exec (.camCredit k) s = .next { s with ctl := camCredit k s.ctl }) ∧
  (∀ (k body chk : Nat) (s : State), taken (.camSof k body chk) s →
    exec (.camSof k body chk) s = .next { s with
        ctl := uplink k 6 body chk (camSof k (slice body 0 8) (slice body 8 16) (slice body 24 32)) s.ctl }) ∧
  (∀ (k body chk : Nat) (s : State), taken (.camData k body chk) s →
    exec (.camData k body chk) s = .next { s with
        ctl := uplink k 5 body chk (camData k (slice body 0 8) (slice body 8 48)) s.ctl }) ∧
  (∀ (k body chk : Nat) (s : State), taken (.camEof k body chk) s →
    exec (.camEof k body chk) s = .next { s with
        ctl := uplink k 7 body chk (camEof k (slice body 0 8) (slice body 8 24)) s.ctl }) ∧
  (∀ (k : Nat) (w : Word) (s : State), taken (.camEnable k w) s → s.ctl.access (R.CAM_CTRL k) = .ok → s.ctl.mustWait
    (R.CAM_CTRL k) = false →
    exec (.camEnable k w) s = .next { s with ctl := camEnable k w.toNat s.ctl }) ∧
  (∀ (k : Nat) (w : Word) (s : State), taken (.xy2Enable k w) s → s.ctl.access (R.XY2_CTRL k) = .ok → s.ctl.mustWait
    (R.XY2_CTRL k) = false →
    exec (.xy2Enable k w) s = .next { s with ctl := xy2Enable k w.toNat s.ctl }) ∧
  (∀ (k : Nat) (s : State), taken (.xy2Frame k) s →
    exec (.xy2Frame k) s = .next { s with ctl := xy2Frame k s.ctl }) ∧
  (∀ (k : Nat) (high late : Bool) (s : State), taken (.brakeInEdge k high late) s →
    exec (.brakeInEdge k high late) s = .next { s with ctl := brakeInEdge k high late s.ctl }) ∧
  (∀ (s : State), taken .brakePeriodic s → exec .brakePeriodic s = .next { s with ctl := brakePeriodic s.ctl }) ∧
  (∀ (late : Bool) (s : State), taken (.engage late) s → s.ctl.access R.GLOBAL_BRK_CMD = .ok → s.ctl.mustWait
    R.GLOBAL_BRK_CMD = false →
    exec (.engage late) s = .next { s with ctl := brkCmd late 1 s.ctl }) ∧
  (∀ (s : State), taken .release s → s.ctl.access R.GLOBAL_BRK_CMD = .ok → s.ctl.mustWait R.GLOBAL_BRK_CMD = false →
    exec .release s = .next { s with ctl := brkCmd false 2 s.ctl }) ∧
  (∀ (s : State), taken .brkInMismatch s → exec .brkInMismatch s = .next { s with ctl := brkInMismatch s.ctl })

/-- Commands of the twin complete, with the effect named. Where each command of the twin completes, and with which
operation. -/
def Obligations.TwinCommandsComplete : Prop :=
  (∀ (w : Word) (s : State), taken (.twinEnable w) s → s.ctl.access R.TWIN_CTRL = .ok → s.ctl.mustWait R.TWIN_CTRL =
    false →
    exec (.twinEnable w) s = .next { s with ctl := writeTwin 0x40 w s.ctl }) ∧
  (∀ (k body chk : Nat) (s : State), taken (.pairOffer k body chk) s →
    exec (.pairOffer k body chk) s = .next { s with ctl := pairOffer k body chk s.ctl }) ∧
  (∀ (k body chk : Nat) (s : State), taken (.pairUid k body chk) s →
    exec (.pairUid k body chk) s = .next { s with ctl := pairUid k body chk s.ctl }) ∧
  (∀ (k body chk : Nat) (s : State), taken (.pairConfirm k body chk) s →
    exec (.pairConfirm k body chk) s = .next { s with ctl := pairConfirm k body chk s.ctl }) ∧
  (∀ (s : State), taken .pairTimeout s → exec .pairTimeout s = .next { s with ctl := pairTimeout s.ctl }) ∧
  (∀ (testOk : Bool) (s : State), taken (.twinCycleBoundary testOk) s →
    exec (.twinCycleBoundary testOk) s = .next { s with ctl := twinCycle testOk s.ctl }) ∧
  (∀ (k body chk : Nat) (s : State), taken (.beacon k body chk) s →
    exec (.beacon k body chk) s = .next { s with ctl := beacon k body chk s.ctl }) ∧
  (∀ (s : State), taken .beaconLoss s → exec .beaconLoss s = .next { s with ctl := beaconLoss s.ctl }) ∧
  (∀ (k body check : Nat) (s : State), taken (.align k body check) s →
    exec (.align k body check) s = .next { s with ctl := align k body check s.ctl }) ∧
  (∀ (k body chk : Nat) (s : State), taken (.recBlockIn k body chk) s →
    exec (.recBlockIn k body chk) s = .next { s with ctl := recBlock k body chk s.ctl }) ∧
  (∀ (s : State), taken .stateRecordComplete s → exec .stateRecordComplete s = .next (keepQueue recordComplete s)) ∧
  (∀ (s : State), taken .recordDeadline s → exec .recordDeadline s = .next { s with ctl := recordDeadline s.ctl }) ∧
  (∀ (s : State), taken .replayComplete s → exec .replayComplete s = .next (keepQueue replayComplete s)) ∧
  (∀ (k body chk : Nat) (s : State), taken (.fwd k body chk) s →
    exec (.fwd k body chk) s = .next { s with ctl := fwdBlock k body chk s.ctl }) ∧
  (∀ (s : State), taken .fwdApply s →
    exec .fwdApply s = .next (keepQueue (State.releaseHeld s.ctl.host.held) { s with ctl := fwdApply s.ctl })) ∧
  (∀ (s : State), taken .configDigest s → exec .configDigest s = .next { s with ctl := configDigest s.ctl }) ∧
  (∀ (s : State), taken .digestHalfTimeout s →
    exec .digestHalfTimeout s = .next { s with ctl := digestTimeout s.ctl }) ∧
  (∀ (domains : Bool) (s : State), taken (.twinAliveToggle domains) s →
    exec (.twinAliveToggle domains) s = .next { s with ctl := aliveToggle domains s.ctl }) ∧
  (∀ (s : State), taken .twinAliveEdge s → exec .twinAliveEdge s = .next { s with ctl := aliveEdge s.ctl }) ∧
  (∀ (s : State), taken .aliveSilent s → exec .aliveSilent s = .next { s with ctl := aliveSilent s.ctl }) ∧
  (∀ (s : State), taken .solo s → s.ctl.access R.TWIN_CMD = .ok → s.ctl.mustWait R.TWIN_CMD = false →
    exec .solo s = .next { s with ctl := solo s.ctl }) ∧
  (∀ (s : State), taken .handoverCmd s → s.ctl.access R.TWIN_CMD = .ok → s.ctl.mustWait R.TWIN_CMD = false →
    exec .handoverCmd s = .next { s with ctl := handoverCmd s.ctl }) ∧
  (∀ (s : State), taken .handoverSend s → exec .handoverSend s = .next { s with ctl := handoverSend s.ctl }) ∧
  (∀ (blocks : List (Nat × Nat × Nat)) (s : State), taken (.handover blocks) s →
    exec (.handover blocks) s = .next { s with ctl := handover blocks s.ctl }) ∧
  (∀ (s : State), taken .nativeSwitchover s →
    exec .nativeSwitchover s = .next { s with ctl := nativeSwitchover s.ctl }) ∧
  (∀ (s : State), taken .seamSwitchover s → exec .seamSwitchover s = .next { s with ctl := seamSwitchover s.ctl }) ∧
  (∀ (s : State), taken .autoResume s → exec .autoResume s = .next { s with ctl := autoResume s.ctl }) ∧
  (∀ (s : State), taken .duplicateTakeover s →
    exec .duplicateTakeover s = .next { s with ctl := duplicateTakeover s.ctl }) ∧
  (∀ (k : Nat) (s : State), taken (.dupRelock k) s →
    exec (.dupRelock k) s = .next { s with ctl := dupRelock k s.ctl })

/-- Commands of the millraces complete, with the effect named. Where each command of the millraces completes, and with
which operation. -/
def Obligations.MemoryCommandsComplete : Prop :=
  (∀ (m : Nat) (en : Bool) (s : State), taken (.millraceEnable m en) s → s.ctl.access (R.BLK_CTRL (pgMillrace m)) = .ok
    → s.ctl.mustWait (R.BLK_CTRL (pgMillrace m)) = false →
    exec (.millraceEnable m en) s = .next (bar2Collect
        { s with ctl := blkCtrl .millrace m (pgMillrace m) (BitVec.ofNat 32 (b2n en)) s.ctl, mem := s.mem.remap s.ctl (blkCtrl .millrace m (pgMillrace m) (BitVec.ofNat 32 (b2n en)) s.ctl) })) ∧
  (∀ (m : Nat) (s : State), taken (.initDone m) s →
    exec (.initDone m) s = .next (bar2Collect
        { s with ctl := initDone m s.ctl, mem := s.mem.remap s.ctl (initDone m s.ctl) })) ∧
  (∀ (m : Nat) (pass : Bool) (s : State), taken (.trainStepDone m pass) s →
    exec (.trainStepDone m pass) s = .next (bar2Collect
        { s with ctl := trainStepDone m pass s.ctl, mem := s.mem.remap s.ctl (trainStepDone m pass s.ctl) })) ∧
  (∀ (m : Nat) (s : State), taken (.trainRetry m) s →
    exec (.trainRetry m) s = .next { s with ctl := trainRetry m s.ctl }) ∧
  (∀ (m : Nat) (s : State), taken (.mcRetrain m) s → s.ctl.access (R.MC_CTRL m) = .ok → s.ctl.mustWait (R.MC_CTRL m) =
    false →
    exec (.mcRetrain m) s = .next (bar2Collect
        { s with ctl := mcRetrain m s.ctl, mem := s.mem.remap s.ctl (mcRetrain m s.ctl) })) ∧
  (∀ (m rate : Nat) (s : State), taken (.mcRateWrite m rate) s → s.ctl.access (R.MC_CTRL m) = .ok → s.ctl.mustWait
    (R.MC_CTRL m) = false →
    exec (.mcRateWrite m rate) s = .next { s with ctl := mcRateWrite m rate s.ctl }) ∧
  (∀ (m who a len : Nat) (bulk : Bool) (s : State), taken (.rtRead m who a len bulk) s →
    exec (.rtRead m who a len bulk) s = .next { s with ctl := rtRead m who a len bulk s.ctl }) ∧
  (∀ (m ns : Nat) (errs : List SymbolError) (s : State), taken (.rtReadReturn m ns errs) s →
    exec (.rtReadReturn m ns errs) s = .next (keepQueue (fun s => bar2Collect (rtReadReturn m ns errs s)) s)) ∧
  (∀ (m a : Nat) (errs : List SymbolError) (s : State), taken (.bulkRead m a errs) s →
    exec (.bulkRead m a errs) s = .next (keepQueue (fun s => bar2Collect (bulkRead m a errs s)) s)) ∧
  (∀ (host : Bool) (s : State), taken (.dramWrite host) s →
    exec (.dramWrite host) s = .next (keepQueue (fun s => (dramWriteOf host s).camerasSee) s)) ∧
  (∀ (m : Nat) (errs : List SymbolError) (s : State), taken (.writeBatch ⟨m, errs⟩) s →
    exec (.writeBatch ⟨m, errs⟩) s = .next (keepQueue (fun s => bar2Collect (writeBatch m errs s)) s)) ∧
  (∀ (m rank idx : Nat) (s : State), taken (.refreshDue m rank idx) s →
    exec (.refreshDue m rank idx) s = .next { s with ctl := refreshDue m rank idx s.ctl }) ∧
  (∀ (m rank idx : Nat) (s : State), taken (.refreshRepay m rank idx) s →
    exec (.refreshRepay m rank idx) s = .next { s with ctl := refreshRepay m rank idx s.ctl }) ∧
  (∀ (m : Nat) (s : State), taken (.nrr m) s → exec (.nrr m) s = .next { s with ctl := nrr m s.ctl }) ∧
  (∀ (m : Nat) (degC : Int) (s : State), taken (.dramTempRead m degC) s →
    exec (.dramTempRead m degC) s = .next { s with ctl := dramTempRead m degC s.ctl }) ∧
  (∀ (m : Nat) (s : State), taken (.periodicCalibration m) s →
    exec (.periodicCalibration m) s = .next { s with ctl := periodicCalibration m s.ctl }) ∧
  (∀ (m : Nat) (errs : List SymbolError) (s : State), taken (.scrubRead m errs) s →
    exec (.scrubRead m errs) s = .next (keepQueue (scrubRead m errs) s)) ∧
  (∀ (m bank : Nat) (s : State), taken (.rowClose m bank) s →
    exec (.rowClose m bank) s = .next (keepQueue (fun s => { s with ctl := rowClose m bank (s.mem.wq m) s.ctl }) s))

/-- Commands of the host port complete, with the effect named. Where each command of the host port completes, and with
which operation. -/
def Obligations.HostCommandsComplete : Prop :=
  (∀ (off : Nat) (data : List (Option Byte)) (s : State), taken (.bar2Write off data) s →
    exec (.bar2Write off data) s = .next (keepQueue (bar2Write off data) s)) ∧
  (∀ (off : Nat) (en : List Bool) (s : State), taken (.bar2Read off en) s →
    exec (.bar2Read off en) s = .next (keepQueue (bar2Read off en) s)) ∧
  (∀ (w : Word) (s : State), taken (.bar2WinWrite w) s → s.ctl.access R.GLOBAL_BAR2_WIN_LO = .ok → s.ctl.mustWait
    R.GLOBAL_BAR2_WIN_LO = false →
    exec (.bar2WinWrite w) s = .next { s with ctl := bar2WinWrite w s.ctl }) ∧
  (∀ (s : State), taken .flr s → exec .flr s = .next { s with ctl := flr s.ctl }) ∧
  (∀ (s : State), taken .linkDown s → exec .linkDown s = .next { s with ctl := linkDown s.ctl }) ∧
  (∀ (q : CfgReq) (s : State), taken (.configRequest q) s →
    exec (.configRequest q) s = .next { s with ctl := configRequest q s.ctl }) ∧
  (∀ (v : Nat) (s : State), taken (.msixMessage v) s →
    exec (.msixMessage v) s = .next { s with ctl := msixMessage v s.ctl }) ∧
  (∀ (on mask : Bool) (s : State), taken (.msixEnable on mask) s →
    exec (.msixEnable on mask) s = .next { s with ctl := msixEnable on mask s.ctl }) ∧
  (∀ (clk : Nat) (s : State), taken (.ptmDialogue clk) s →
    exec (.ptmDialogue clk) s = .next { s with ctl := ptmDialogue clk s.ctl }) ∧
  (∀ (t2 p clk : Nat) (ok : Bool) (s : State), taken (.ptmResponse t2 p clk ok) s →
    exec (.ptmResponse t2 p clk ok) s = .next { s with ctl := ptmResponse t2 p clk ok s.ctl }) ∧
  (∀ (w : Word) (s : State), taken (.wallSet w) s → s.ctl.access R.GLOBAL_WALL_SET_LO = .ok → s.ctl.mustWait
    R.GLOBAL_WALL_SET_LO = false →
    exec (.wallSet w) s = .next { s with ctl := wallSet w s.ctl }) ∧
  (∀ (w : Word) (s : State), taken (.logEnable w) s → s.ctl.access R.GLOBAL_LOG_CFG = .ok → s.ctl.mustWait
    R.GLOBAL_LOG_CFG = false →
    exec (.logEnable w) s = .next { s with ctl := logEnable w s.ctl }) ∧
  (∀ (s : State), taken .logRecordWrite s → exec .logRecordWrite s = .next { s with ctl := logRecordWrite s.ctl }) ∧
  (∀ (s : State), taken .logDrop s → exec .logDrop s = .next { s with ctl := logDrop s.ctl }) ∧
  (∀ (s : State), taken .logWriteback s → exec .logWriteback s = .next { s with ctl := logWriteback s.ctl }) ∧
  (∀ (s : State), taken .smbChipId s → exec .smbChipId s = .next { s with ctl := smbChipId s.ctl }) ∧
  (∀ (s : State), taken .smbHealth s → exec .smbHealth s = .next { s with ctl := smbHealth s.ctl.armed s.ctl }) ∧
  (∀ (s : State), taken .smbDiodes s → exec .smbDiodes s = .next { s with ctl := smbDiodes s.ctl }) ∧
  (∀ (s : State), taken .smbRails s → exec .smbRails s = .next { s with ctl := smbRails s.ctl }) ∧
  (∀ (s : State), taken .smbTally s → exec .smbTally s = .next { s with ctl := smbTally s.ctl }) ∧
  (∀ (s : State), taken .smbLink s → exec .smbLink s = .next { s with ctl := smbLink s.ctl }) ∧
  (∀ (s : State), taken .smbHalts s → exec .smbHalts s = .next { s with ctl := smbHalts s.ctl }) ∧
  (∀ (cmd : Nat) (s : State), taken (.smbUnknown cmd) s →
    exec (.smbUnknown cmd) s = .next { s with ctl := smbUnknown s.ctl }) ∧
  (∀ (s : State), taken .smbAlertResponse s →
    exec .smbAlertResponse s = .next { s with ctl := smbAlertResponse s.ctl })

/-- Commands of the sluice and the recorder complete, with the effect named. Where each command of the sluice and the
recorder completes, and with which operation. -/
def Obligations.SluiceRecorderCommandsComplete : Prop :=
  (∀ (en : Bool) (s : State), taken (.sluiceEnable en) s → s.ctl.access (R.BLK_CTRL pgSluice) = .ok → s.ctl.mustWait
    (R.BLK_CTRL pgSluice) = false →
    exec (.sluiceEnable en) s = .next { s with ctl := blkCtrl .sluice 0 pgSluice (BitVec.ofNat 32 (b2n en)) s.ctl }) ∧
  (∀ (src : Nat) (s : State), taken (.sourceLevel src) s →
    exec (.sourceLevel src) s = .next { s with ctl := sourceLevel src s.ctl }) ∧
  (∀ (src : Nat) (s : State), taken (.sourceEdge src) s →
    exec (.sourceEdge src) s = .next { s with ctl := sourceEdge src s.ctl }) ∧
  (∀ (src : Nat) (s : State), taken (.swPendSet src) s → s.ctl.access R.SLUICE_SW_PEND = .ok → s.ctl.mustWait
    R.SLUICE_SW_PEND = false →
    exec (.swPendSet src) s = .next { s with ctl := swPendSet src s.ctl }) ∧
  (∀ (src : Nat) (s : State), taken (.swPendClear src) s → s.ctl.access R.SLUICE_SW_PEND = .ok → s.ctl.mustWait
    R.SLUICE_SW_PEND = false →
    exec (.swPendClear src) s = .next { s with ctl := swPendClear src s.ctl }) ∧
  (∀ (x : Nat) (s : State), taken (.ctxClaim x) s →
    exec (.ctxClaim x) s = .next (keepQueue (State.hostRead (R.SLUICE_CTX_CLAIM x)) s)) ∧
  (∀ (x src : Nat) (s : State), taken (.ctxComplete x src) s → s.ctl.access (R.SLUICE_CTX_COMPLETE x) = .ok →
    s.ctl.mustWait (R.SLUICE_CTX_COMPLETE x) = false →
    exec (.ctxComplete x src) s = .next { s with ctl := ctxComplete x src s.ctl }) ∧
  (∀ (x : Nat) (s : State), taken (.ctxCompleteFlush x) s → s.ctl.access (R.SLUICE_CTX_COMPLETE x) = .ok →
    s.ctl.mustWait (R.SLUICE_CTX_COMPLETE x) = false →
    exec (.ctxCompleteFlush x) s = .next { s with ctl := ctxCompleteFlush x s.ctl }) ∧
  (∀ (x t : Nat) (s : State), taken (.ctxThreshWrite x t) s → s.ctl.access (R.SLUICE_CTX_THRESH x) = .ok →
    s.ctl.mustWait (R.SLUICE_CTX_THRESH x) = false →
    exec (.ctxThreshWrite x t) s = .next { s with ctl := ctxThreshWrite x t s.ctl }) ∧
  (∀ (g mask : Nat) (s : State), taken (.scanAck g mask) s → s.ctl.access (R.SLUICE_SCAN_ACK g) = .ok → s.ctl.mustWait
    (R.SLUICE_SCAN_ACK g) = false →
    exec (.scanAck g mask) s = .next { s with ctl := scanAck g mask s.ctl }) ∧
  (∀ (v : Nat) (s : State), taken (.coalesceRelease v) s →
    exec (.coalesceRelease v) s = .next { s with ctl := coalesceRelease v s.ctl }) ∧
  (∀ (s : State), taken .buildOpen s → s.ctl.access R.REC_CMD = .ok → s.ctl.mustWait R.REC_CMD = false →
    exec .buildOpen s = .next { s with ctl := cmdBuildOpen s.ctl }) ∧
  (∀ (s : State), taken .buildClose s → s.ctl.access R.REC_CMD = .ok → s.ctl.mustWait R.REC_CMD = false →
    exec .buildClose s = .next { s with ctl := buildClose s.ctl }) ∧
  (∀ (on : Bool) (s : State), taken (.freeze on) s → s.ctl.access (R.BLK_CTRL pgRecorder) = .ok → s.ctl.mustWait
    (R.BLK_CTRL pgRecorder) = false →
    exec (.freeze on) s = .next { s with ctl := freeze on s.ctl }) ∧
  (∀ (s : State), taken .freezeExpired s → exec .freezeExpired s = .next { s with ctl := freezeExpired s.ctl }) ∧
  (∀ (k : Nat) (w : Word) (s : State), taken (.recMwWrite k w) s → s.ctl.access (R.REC_MW k) = .ok → s.ctl.mustWait
    (R.REC_MW k) = false →
    exec (.recMwWrite k w) s = .next { s with ctl := recMwWrite k w s.ctl }) ∧
  (∀ (o : NvOutcome) (s : State), taken (.nvWrite o) s →
    exec (.nvWrite o) s = .next { s with ctl := nvWrite o s.ctl }) ∧
  (∀ (s : State), taken .nvTokenRefill s → exec .nvTokenRefill s = .next { s with ctl := nvTokenRefill s.ctl }) ∧
  (∀ (s : State), taken .lifetime s → exec .lifetime s = .next { s with ctl := lifetime s.ctl }) ∧
  (∀ (s : State), taken .wearIntervalEnd s →
    exec .wearIntervalEnd s = .next { s with ctl := wearIntervalEnd s.ctl }) ∧
  (∀ (k : Nat) (w : Word) (s : State), taken (.wearCfgWrite k w) s → s.ctl.access (R.WEAR_CFG k) = .ok → s.ctl.mustWait
    (R.WEAR_CFG k) = false →
    exec (.wearCfgWrite k w) s = .next { s with ctl := wearCfgWrite k w s.ctl })

/-- Commands of bed lighting and general inputs, encoders and axes complete, with the effect named. Where each command
of bed lighting and general inputs, encoders and axes completes, and with which operation. -/
def Obligations.LightAxesCommandsComplete : Prop :=
  (∀ (stuck lampSense padsA padsB : Nat) (camAt : Option Nat) (s : State), taken (.rowSlot stuck lampSense padsA padsB
    camAt) s →
    exec (.rowSlot stuck lampSense padsA padsB camAt) s = .next { s with
        ctl := rowSlot stuck lampSense padsA padsB camAt s.ctl }) ∧
  (∀ (s : State), taken .swap s → s.ctl.access R.LIGHT_CMD = .ok → s.ctl.mustWait R.LIGHT_CMD = false →
    exec .swap s = .next { s with ctl := swap s.ctl }) ∧
  (∀ (s : State), taken .patClear s → s.ctl.access R.LIGHT_CMD = .ok → s.ctl.mustWait R.LIGHT_CMD = false →
    exec .patClear s = .next { s with ctl := patClear s.ctl }) ∧
  (∀ (s : State), taken .shortTest s → s.ctl.access R.LIGHT_CMD = .ok → s.ctl.mustWait R.LIGHT_CMD = false →
    exec .shortTest s = .next { s with ctl := shortTest s.ctl }) ∧
  (∀ (on : Bool) (s : State), taken (.camSyncEdge on) s →
    exec (.camSyncEdge on) s = .next { s with ctl := camSyncEdge on s.ctl }) ∧
  (∀ (k : Nat) (on : Bool) (s : State), taken (.gpiChange k on) s →
    exec (.gpiChange k on) s = .next { s with ctl := gpiChange k on s.ctl }) ∧
  (∀ (e : Nat) (a b : Bool) (s : State), taken (.encoderEdge e a b) s →
    exec (.encoderEdge e a b) s = .next { s with ctl := encoderEdge e a b s.ctl }) ∧
  (∀ (e : Nat) (s : State), taken (.encZEdge e) s →
    exec (.encZEdge e) s = .next { s with ctl := encZEdge e s.ctl }) ∧
  (∀ (e : Nat) (w : Word) (s : State), taken (.encSet e w) s → s.ctl.access (R.ENC_SET e) = .ok → s.ctl.mustWait
    (R.ENC_SET e) = false →
    exec (.encSet e w) s = .next { s with ctl := encSet e w s.ctl }) ∧
  (∀ (a : Nat) (on : Bool) (s : State), taken (.axisEnable a on) s → s.ctl.access (R.AX_CTRL a) = .ok → s.ctl.mustWait
    (R.AX_CTRL a) = false →
    exec (.axisEnable a on) s = .next { s with ctl := axisEnable a on s.ctl }) ∧
  (∀ (a : Nat) (s : State), taken (.moveAbs a) s → s.ctl.access (R.AX_CMD a) = .ok → s.ctl.mustWait (R.AX_CMD a) = false →
    exec (.moveAbs a) s = .next { s with ctl := axOrder a 0x1 s.ctl }) ∧
  (∀ (a : Nat) (s : State), taken (.moveRel a) s → s.ctl.access (R.AX_CMD a) = .ok → s.ctl.mustWait (R.AX_CMD a) = false →
    exec (.moveRel a) s = .next { s with ctl := axOrder a 0x2 s.ctl }) ∧
  (∀ (a : Nat) (s : State), taken (.velocity a) s → s.ctl.access (R.AX_CMD a) = .ok → s.ctl.mustWait (R.AX_CMD a) =
    false →
    exec (.velocity a) s = .next { s with ctl := axOrder a 0x3 s.ctl }) ∧
  (∀ (a : Nat) (s : State), taken (.stop a) s → s.ctl.access (R.AX_CMD a) = .ok → s.ctl.mustWait (R.AX_CMD a) = false →
    exec (.stop a) s = .next { s with ctl := axOrder a 0x4 s.ctl }) ∧
  (∀ (a : Nat) (s : State), taken (.qstop a) s → s.ctl.access (R.AX_CMD a) = .ok → s.ctl.mustWait (R.AX_CMD a) = false →
    exec (.qstop a) s = .next { s with ctl := axOrder a 0x5 s.ctl }) ∧
  (∀ (a : Nat) (s : State), taken (.home a) s → s.ctl.access (R.AX_CMD a) = .ok → s.ctl.mustWait (R.AX_CMD a) = false →
    exec (.home a) s = .next { s with ctl := axOrder a 0x6 s.ctl }) ∧
  (∀ (a : Nat) (s : State), taken (.gear a) s → s.ctl.access (R.AX_CMD a) = .ok → s.ctl.mustWait (R.AX_CMD a) = false →
    exec (.gear a) s = .next { s with ctl := axOrder a 0x7 s.ctl }) ∧
  (∀ (a : Nat) (s : State), taken (.setPos a) s → s.ctl.access (R.AX_CMD a) = .ok → s.ctl.mustWait (R.AX_CMD a) = false →
    exec (.setPos a) s = .next { s with ctl := axOrder a 0x8 s.ctl }) ∧
  (∀ (a : Nat) (s : State), taken (.armRatio a) s → s.ctl.access (R.AX_CMD a) = .ok → s.ctl.mustWait (R.AX_CMD a) =
    false →
    exec (.armRatio a) s = .next { s with ctl := axOrder a 0x9 s.ctl }) ∧
  (∀ (a : Nat) (s : State), taken (.disarm a) s → s.ctl.access (R.AX_CMD a) = .ok → s.ctl.mustWait (R.AX_CMD a) = false →
    exec (.disarm a) s = .next { s with ctl := axOrder a 0xA s.ctl }) ∧
  (∀ (a op : Nat) (s : State), taken (.axCmdUnassigned a op) s → s.ctl.access (R.AX_CMD a) = .ok → s.ctl.mustWait
    (R.AX_CMD a) = false →
    exec (.axCmdUnassigned a op) s = .next { s with ctl := axOrder a op s.ctl }) ∧
  (∀ (s : State), taken .axisUpdate s →
    exec .axisUpdate s = .next (keepQueue (State.releaseHeld s.ctl.host.held) { s with ctl := axisUpdate s.ctl })) ∧
  (∀ (a : Nat) (s : State), taken (.standstill a) s →
    exec (.standstill a) s = .next { s with ctl := standstill a s.ctl }) ∧
  (∀ (a : Nat) (s : State), taken (.wakeDone a) s →
    exec (.wakeDone a) s = .next { s with ctl := wakeDone a s.ctl })

/-- Commands of identity, flash and the Ngabenor record and trim complete, with the effect named. Where each command
of identity, flash and the Ngabenor record and trim completes, and with which operation. -/
def Obligations.IdentityTrimCommandsComplete : Prop :=
  (∀ (s : State), taken .intInstall s → s.ctl.access R.ID_CMD = .ok → s.ctl.mustWait R.ID_CMD = false →
    exec .intInstall s = .next { s with ctl := intInstall s.ctl }) ∧
  (∀ (s : State), taken .intErase s → s.ctl.access R.ID_CMD = .ok → s.ctl.mustWait R.ID_CMD = false →
    exec .intErase s = .next { s with ctl := intErase s.ctl }) ∧
  (∀ (s : State), taken .commitSvn s → s.ctl.access R.ID_CMD = .ok → s.ctl.mustWait R.ID_CMD = false →
    exec .commitSvn s = .next { s with ctl := commitSvn s.ctl }) ∧
  (∀ (s : State), taken .flashErase s → s.ctl.access R.ID_FLASH_CMD = .ok → s.ctl.mustWait R.ID_FLASH_CMD = false →
    exec .flashErase s = .next { s with ctl := flashErase s.ctl }) ∧
  (∀ (s : State), taken .flashProgram s → s.ctl.access R.ID_FLASH_CMD = .ok → s.ctl.mustWait R.ID_FLASH_CMD = false →
    exec .flashProgram s = .next { s with ctl := flashProgram s.ctl }) ∧
  (∀ (s : State), taken .flashDone s → exec .flashDone s = .next { s with ctl := flashDone s.ctl }) ∧
  (∀ (s : State), taken .ngEntrySigned s → exec .ngEntrySigned s = .next { s with ctl := ngEntrySigned s.ctl }) ∧
  (∀ (s : State), taken .ngRingWrite s → exec .ngRingWrite s = .next { s with ctl := ngRingWrite s.ctl }) ∧
  (∀ (w : Word) (s : State), taken (.ngEnable w) s → s.ctl.access R.NG_CTRL = .ok → s.ctl.mustWait R.NG_CTRL = false →
    exec (.ngEnable w) s = .next { s with ctl := ngEnable w s.ctl }) ∧
  (∀ (s : State), taken .trimRun s → s.ctl.access R.TRIM_CMD = .ok → s.ctl.mustWait R.TRIM_CMD = false →
    exec .trimRun s = .next { s with ctl := trimRun s.ctl }) ∧
  (∀ (s : State), taken .trimMeasureEnd s → exec .trimMeasureEnd s = .next { s with ctl := trimMeasureEnd s.ctl }) ∧
  (∀ (s : State), taken .apply s → s.ctl.access R.TRIM_CMD = .ok → s.ctl.mustWait R.TRIM_CMD = false →
    exec .apply s = .next { s with ctl := trimApply s.ctl }) ∧
  (∀ (ok : Bool) (s : State), taken (.trimStoreDone ok) s →
    exec (.trimStoreDone ok) s = .next { s with ctl := trimStoreDone ok s.ctl })

/-- Commands of resets, power states, temperatures and rails complete, with the effect named. Where each command of
resets, power states, temperatures and rails completes, and with which operation. -/
def Obligations.PowerCommandsComplete : Prop :=
  (∀ (s : State), Instr.wellFormed .powerOnReset = true → exec .powerOnReset s = .next (keepQueue powerOnReset s)) ∧
  (∀ (hA hB : BootHeader) (fault : Nat) (s : State), Instr.wellFormed (.deviceReset hA hB fault) = true →
    exec (.deviceReset hA hB fault) s = .next (keepQueue (deviceReset hA hB fault) s)) ∧
  (∀ (bodyOk : Bool) (s : State), taken (.bootVerifyEnd bodyOk) s →
    exec (.bootVerifyEnd bodyOk) s = .next { s with ctl := bootVerifyEnd bodyOk s.ctl }) ∧
  (∀ (s : State), taken .warmPerst s → exec .warmPerst s = .next (keepQueue warmPerst s)) ∧
  (∀ (s : State), taken .chipReset s → s.ctl.access R.GLOBAL_RST_CMD = .ok → s.ctl.mustWait R.GLOBAL_RST_CMD = false →
    exec .chipReset s = .next (keepQueue chipReset s)) ∧
  (∀ (s : State), Instr.wellFormed .brownOut = true → exec .brownOut s = .next (keepQueue brownOut s)) ∧
  (∀ (s : State), taken .startStep s → exec .startStep s = .next { s with ctl := withLanes startStep s.ctl }) ∧
  (∀ (s : State), taken .powerStateChoice s →
    exec .powerStateChoice s = .next (bar2Collect
        { s with ctl := withLanes powerChoice s.ctl, mem := s.mem.remap s.ctl (withLanes powerChoice s.ctl) })) ∧
  (∀ (s : State), taken .powerStateExit s →
    exec .powerStateExit s = .next { s with ctl := withLanes powerStateExit s.ctl }) ∧
  (∀ (s : State), taken .pwrChg s →
    exec .pwrChg s = .next (keepQueue (State.releaseHeld s.ctl.host.held)
        { s with ctl := withLanes (powerChanged heldWrite) s.ctl })) ∧
  (∀ (temps : List Int) (late : Bool) (s : State), taken (.diodeRound temps late) s →
    exec (.diodeRound temps late) s = .next { s with ctl := diodeRound temps late s.ctl }) ∧
  (∀ (s : State), taken .dieShutdown s →
    exec .dieShutdown s = .next (bar2Collect
        { s with ctl := withLanes dieShutdown s.ctl, mem := s.mem.remap s.ctl (withLanes dieShutdown s.ctl) })) ∧
  (∀ (mv : List Nat) (s : State), taken (.railSample mv) s →
    exec (.railSample mv) s = .next { s with ctl := railSamples mv s.ctl })

/-- What commands of accesses of BAR0, block enables and the tick do, case by case. The next state of each command,
written out, for the conditions named. Rules: R690, R19, R21. -/
def Obligations.BarCommandEffects : Prop :=
  (∀ (addr : Nat) (en : Bool) (s : State) (p : Page) (inst base : Nat), taken (.softReset addr en) s → s.ctl.access
    (R.BLK_CTRL addr) = .ok → s.ctl.mustWait (R.BLK_CTRL addr) = false →
    pageOf addr = some (p, inst, base) → p.fixed = false → s.ctl.is (R.BLK_STAT_SRST_BUSY base) = false →
    (s.ctl.activePage base = true ∨ en = true) →
    exec (.softReset addr en) s = .next (keepQueue (onMapAt addr (fun _ =>
        { s with ctl := s.ctl.flag (R.BLK_STAT_SRST_REFUSED base) true })) s)) ∧
  (∀ (addr : Nat) (en : Bool) (s : State) (p : Page) (inst base : Nat), taken (.softReset addr en) s → s.ctl.access
    (R.BLK_CTRL addr) = .ok → s.ctl.mustWait (R.BLK_CTRL addr) = false →
    pageOf addr = some (p, inst, base) → p.fixed = false → s.ctl.is (R.BLK_STAT_SRST_BUSY base) = false →
    s.ctl.activePage base = false → en = false →
    exec (.softReset addr en) s = .next (keepQueue (onMapAt addr (fun _ => { s with ctl := resetPage p base s.ctl }))
        s)) ∧
  (∀ (addr : Nat) (s : State), taken (.counterReadClear addr) s →
    s.ctl.access addr = .ok → claimAt addr = none → isWideLo addr = false →
    exec (.counterReadClear addr) s = .next { s with
        ctl := rcClear addr (s.ctl.modHost (fun h => { h with lastRead := BitVec.ofNat 32 (s.readValue addr) })) }) ∧
  (∀ (addr : Nat) (s : State), taken (.wideValueRead addr) s →
    s.ctl.access addr = .ok → claimAt addr = none → isWideLo addr = true →
    exec (.wideValueRead addr) s = .next { s with
        ctl := rcClear addr (s.ctl.modHost (fun h =>
            { h with lastRead := BitVec.ofNat 32 (s.readValue addr), captured := tput h.captured (addr + 4) (BitVec.ofNat 32 (s.readWord (addr + 4))) }))
            })

/-- What commands of vector streams, the hopper and the loader do, case by case. The next state of each command,
written out, for the conditions named. Rules: R55, R96, R97, R54, R90, R53, R484, R482, R485, R487, R120, R122. -/
def Obligations.StreamCommandEffects : Prop :=
  (∀ (w : Word) (s : State), taken (.doorbell w) s → s.ctl.access R.HOPPER_DOORBELL = .ok → s.ctl.mustWait
    R.HOPPER_DOORBELL = false →
    s.ctl.hop.ordDoorbells ≠ [] →
    exec (.doorbell w) s = .next { s with
        ctl := { s.ctl with hop := { s.ctl.hop with ordDoorbells := s.ctl.hop.ordDoorbells ++ [(w.toNat, 0)] } } }) ∧
  (∀ (w : Word) (s : State), taken (.doorbell w) s → s.ctl.access R.HOPPER_DOORBELL = .ok → s.ctl.mustWait
    R.HOPPER_DOORBELL = false →
    s.ctl.hop.ordDoorbells = [] → s.ctl.single = true →
    (s.ctl.cst (slice w.toNat 25 7) = csDisabled ∨ s.ctl.cst (slice w.toNat 25 7) = csDraining) →
    exec (.doorbell w) s = .next { s with
        ctl := ((s.ctl.setReg R.HOPPER_DB_ERR_WORD w.toNat).setReg R.HOPPER_DB_ERR (2 ^ 31 + 1)).irq pgHopper 0 }) ∧
  (∀ (w : Word) (s : State), taken (.doorbell w) s → s.ctl.access R.HOPPER_DOORBELL = .ok → s.ctl.mustWait
    R.HOPPER_DOORBELL = false →
    s.ctl.hop.ordDoorbells = [] → s.ctl.single = true → s.ctl.cst (slice w.toNat 25 7) ≠ csDisabled →
    s.ctl.cst (slice w.toNat 25 7) ≠ csDraining → slice w.toNat 0 25 = s.ctl.tailIx (slice w.toNat 25 7) →
    exec (.doorbell w) s = .next { s with
        ctl := s.ctl.modTw (fun t => { t with ownTail := tput t.ownTail (slice w.toNat 25 7) (slice w.toNat 0 25) })
            }) ∧
  (∀ (w : Word) (s : State), taken (.doorbell w) s → s.ctl.access R.HOPPER_DOORBELL = .ok → s.ctl.mustWait
    R.HOPPER_DOORBELL = false →
    s.ctl.hop.ordDoorbells = [] → s.ctl.single = true → s.ctl.cst (slice w.toNat 25 7) ≠ csDisabled →
    s.ctl.cst (slice w.toNat 25 7) ≠ csDraining → slice w.toNat 0 25 ≠ s.ctl.tailIx (slice w.toNat 25 7) →
    s.ctl.ringN (slice w.toNat 25 7) ≤ slice w.toNat 0 25 →
    exec (.doorbell w) s = .next { s with
        ctl := ((s.ctl.setReg R.HOPPER_DB_ERR_WORD w.toNat).setReg R.HOPPER_DB_ERR (2 ^ 31 + 2)).irq pgHopper 0 }) ∧
  (∀ (w : Word) (s : State), taken (.doorbell w) s → s.ctl.access R.HOPPER_DOORBELL = .ok → s.ctl.mustWait
    R.HOPPER_DOORBELL = false →
    s.ctl.hop.ordDoorbells = [] → s.ctl.single = true → s.ctl.cst (slice w.toNat 25 7) ≠ csDisabled →
    s.ctl.cst (slice w.toNat 25 7) ≠ csDraining → slice w.toNat 0 25 ≠ s.ctl.tailIx (slice w.toNat 25 7) →
    slice w.toNat 0 25 < s.ctl.ringN (slice w.toNat 25 7) →
    s.ctl.ringSub (slice w.toNat 25 7) (slice w.toNat 0 25) (s.ctl.headIx (slice w.toNat 25 7)) < s.ctl.ringSub (slice
        w.toNat 25 7) (s.ctl.fetchIx (slice w.toNat 25 7)) (s.ctl.headIx (slice w.toNat 25 7)) →
    exec (.doorbell w) s = .next { s with
        ctl := ((s.ctl.setReg R.HOPPER_DB_ERR_WORD w.toNat).setReg R.HOPPER_DB_ERR (2 ^ 31 + 3)).irq pgHopper 0 }) ∧
  (∀ (w : Word) (s : State), taken (.doorbell w) s → s.ctl.access R.HOPPER_DOORBELL = .ok → s.ctl.mustWait
    R.HOPPER_DOORBELL = false →
    s.ctl.hop.ordDoorbells = [] → s.ctl.single = true → s.ctl.cst (slice w.toNat 25 7) ≠ csDisabled →
    s.ctl.cst (slice w.toNat 25 7) ≠ csDraining → slice w.toNat 0 25 ≠ s.ctl.tailIx (slice w.toNat 25 7) →
    slice w.toNat 0 25 < s.ctl.ringN (slice w.toNat 25 7) →
    s.ctl.ringSub (slice w.toNat 25 7) (s.ctl.fetchIx (slice w.toNat 25 7)) (s.ctl.headIx (slice w.toNat 25 7)) ≤
        s.ctl.ringSub (slice w.toNat 25 7) (slice w.toNat 0 25) (s.ctl.headIx (slice w.toNat 25 7)) →
    s.ctl.cst (slice w.toNat 25 7) ≠ csIdle →
    exec (.doorbell w) s = .next { s with
        ctl := (s.ctl.modTw (fun t =>
            { t with ownTail := tput t.ownTail (slice w.toNat 25 7) (slice w.toNat 0 25) })).put (R.CTX_TAIL_INDEX
            (slice w.toNat 25 7)) (slice w.toNat 0 25) }) ∧
  (∀ (w : Word) (s : State), taken (.doorbell w) s → s.ctl.access R.HOPPER_DOORBELL = .ok → s.ctl.mustWait
    R.HOPPER_DOORBELL = false →
    s.ctl.hop.ordDoorbells = [] → s.ctl.single = true → s.ctl.cst (slice w.toNat 25 7) ≠ csDisabled →
    s.ctl.cst (slice w.toNat 25 7) ≠ csDraining → slice w.toNat 0 25 ≠ s.ctl.tailIx (slice w.toNat 25 7) →
    slice w.toNat 0 25 < s.ctl.ringN (slice w.toNat 25 7) →
    s.ctl.ringSub (slice w.toNat 25 7) (s.ctl.fetchIx (slice w.toNat 25 7)) (s.ctl.headIx (slice w.toNat 25 7)) ≤
        s.ctl.ringSub (slice w.toNat 25 7) (slice w.toNat 0 25) (s.ctl.headIx (slice w.toNat 25 7)) →
    s.ctl.cst (slice w.toNat 25 7) = csIdle → slice w.toNat 0 25 ≠ s.ctl.headIx (slice w.toNat 25 7) →
    exec (.doorbell w) s = .next { s with
        ctl := setCst (slice w.toNat 25 7) csActive ((s.ctl.modTw (fun t =>
            { t with ownTail := tput t.ownTail (slice w.toNat 25 7) (slice w.toNat 0 25) })).put (R.CTX_TAIL_INDEX
            (slice w.toNat 25 7)) (slice w.toNat 0 25)) }) ∧
  (∀ (w : Word) (s : State), taken (.doorbellOrd w) s → s.ctl.access R.HOPPER_DOORBELL_ORD = .ok → s.ctl.mustWait
    R.HOPPER_DOORBELL_ORD = false →
    s.mem.bar2 ≠ [] →
    exec (.doorbellOrd w) s = .next { s with
        ctl :=
            { s.ctl with hop := { s.ctl.hop with ordDoorbells := s.ctl.hop.ordDoorbells ++ [(w.toNat, s.mem.bar2.length)] } }
            }) ∧
  (∀ (s : State) (v : Nat) (l : List (Nat × Nat)), taken .orderedDoorbellEffect s →
    s.ctl.hop.ordDoorbells = (v, 0) :: l → s.ctl.single = true → s.ctl.doorbellCause v = 0 →
    exec .orderedDoorbellEffect s = .next (keepQueue (State.releaseHeld s.ctl.host.held)
        { s with ctl := doorbellEffect v (Ctl.modTw { s.ctl with hop := { s.ctl.hop with ordDoorbells := l } } (fun t => { t with ownTail := tput t.ownTail (slice v 25 7) (slice v 0 25) })) })) ∧
  (∀ (s : State) (v : Nat) (l : List (Nat × Nat)), taken .orderedDoorbellEffect s →
    s.ctl.hop.ordDoorbells = (v, 0) :: l → s.ctl.single = true → s.ctl.doorbellCause v ≠ 0 →
    exec .orderedDoorbellEffect s = .next (keepQueue (State.releaseHeld s.ctl.host.held)
        { s with ctl := doorbellReject v (s.ctl.doorbellCause v) { s.ctl with hop := { s.ctl.hop with ordDoorbells := l } } })) ∧
  (∀ (x : Nat) (s : State) (j : Item), taken (.resume x) s → s.ctl.access (R.CTX_ACTION x) = .ok → s.ctl.mustWait
    (R.CTX_ACTION x) = false →
    s.ctl.single = true → s.ctl.cst x = csHalted → (s.ctl.strm x).faulty = some j →
    exec (.resume x) s = .next { s with
        ctl := setCst x csActive ((s.ctl.put (R.CTX_FETCH_INDEX x) j.idx).modStrm x (fun u =>
            { u with faulty := none, readStop := false })) }) ∧
  (∀ (w : Word) (s : State), taken (.ldrEnable w) s → s.ctl.access R.GLOBAL_LDR_CFG = .ok → s.ctl.mustWait
    R.GLOBAL_LDR_CFG = false →
    s.ctl.is R.GLOBAL_LDR_CFG_EN = false → bitOf w.toNat 31 = true → 4 ≤ slice w.toNat 0 4 →
    slice w.toNat 0 4 ≤ 12 →
    exec (.ldrEnable w) s = .next { s with
        ctl := (((s.ctl.put R.GLOBAL_LDR_CFG_SIZE_LOG2 (slice w.toNat 0 4)).put R.GLOBAL_LDR_CFG_EN 1).setReg
            R.GLOBAL_LDR_PTRS 0).modHost (fun h =>
            { h with ldr := [], ldrRead := 0, ldrAsk := 0, ldrAbort := 0, ldrPhase := 1 }) }) ∧
  (∀ (w : Word) (s : State), taken (.ldrEnable w) s → s.ctl.access R.GLOBAL_LDR_CFG = .ok → s.ctl.mustWait
    R.GLOBAL_LDR_CFG = false →
    s.ctl.is R.GLOBAL_LDR_CFG_EN = false → (slice w.toNat 0 4 < 4 ∨ 12 < slice w.toNat 0 4) →
    exec (.ldrEnable w) s = .next { s with ctl := s.ctl.put R.GLOBAL_LDR_CFG_SIZE_LOG2 (slice w.toNat 0 4) }) ∧
  (∀ (w : Word) (s : State), taken (.ldrDb w) s → s.ctl.access R.GLOBAL_LDR_DB = .ok → s.ctl.mustWait R.GLOBAL_LDR_DB =
    false →
    s.ctl.is R.GLOBAL_LDR_CFG_EN = false →
    exec (.ldrDb w) s = .next { s with ctl := s.ctl }) ∧
  (∀ (w : Word) (s : State), taken (.ldrDb w) s → s.ctl.access R.GLOBAL_LDR_DB = .ok → s.ctl.mustWait R.GLOBAL_LDR_DB =
    false →
    s.ctl.is R.GLOBAL_LDR_CFG_EN = true →
    exec (.ldrDb w) s = .next { s with
        ctl := ldrGo (s.ctl.put R.GLOBAL_LDR_PTRS_TAIL (slice w.toNat 0 12 % s.ctl.ldrN)) }) ∧
  (∀ (s : State), taken .ldrResume s → s.ctl.access R.GLOBAL_LDR_CMD = .ok → s.ctl.mustWait R.GLOBAL_LDR_CMD = false →
    exec .ldrResume s = .next { s with ctl := ldrGo (s.ctl.put R.GLOBAL_LDR_STAT_HALTED 0) }) ∧
  (∀ (n : Nat) (s : State), taken (.fenceTimeout n) s →
    (s.ctl.sp n).fence = none →
    exec (.fenceTimeout n) s = .next { s with ctl := s.ctl }) ∧
  (∀ (n : Nat) (s : State) (j : Item) (t : Nat), taken (.fenceTimeout n) s →
    (s.ctl.sp n).fence = some (j, t) → n ∉ s.ctl.hop.expired →
    exec (.fenceTimeout n) s = .next { s with
        ctl := { s.ctl with hop := { s.ctl.hop with expired := s.ctl.hop.expired ++ [n] } } })

/-- What commands of spindles, profiles and the table window and the fantail do, case by case. The next state of each
command, written out, for the conditions named. Rules: R176, R132, R130, R163, R20, R194, R177, R192, R193, R209,
R216, R220, R219. -/
def Obligations.SpindleFantailCommandEffects : Prop :=
  (∀ (n : Nat) (s : State), taken (.spindleGridSwap n) s → s.ctl.access (R.SPINDLE_CMD n) = .ok → s.ctl.mustWait
    (R.SPINDLE_CMD n) = false →
    s.ctl.single = true → s.ctl.sst n = stStopped →
    exec (.spindleGridSwap n) s = .next { s with
        ctl := s.ctl.put (R.SPINDLE_STAT_BANK n) (1 - s.ctl.get (R.SPINDLE_STAT_BANK n)) }) ∧
  (∀ (n : Nat) (s : State), taken (.spindleGridSwap n) s → s.ctl.access (R.SPINDLE_CMD n) = .ok → s.ctl.mustWait
    (R.SPINDLE_CMD n) = false →
    s.ctl.single = true → s.ctl.sst n ≠ stStopped →
    exec (.spindleGridSwap n) s = .next { s with ctl := s.ctl }) ∧
  (∀ (n : Nat) (s : State), taken (.spindleEnable n) s → s.ctl.access (R.BLK_CTRL (pgSpindle n)) = .ok → s.ctl.mustWait
    (R.BLK_CTRL (pgSpindle n)) = false →
    s.ctl.enabled (pgSpindle n) = false → s.ctl.sst n = stDisabled → s.ctl.hasChan n = true →
    s.ctl.spConfigErr n ≠ 0 →
    exec (.spindleEnable n) s = .next { s with
        ctl := ((s.ctl.put (R.SPINDLE_STAT_CFG_ERR n) (s.ctl.spConfigErr n)).irq (pgSpindle n) 4).flag
            (R.BLK_CTRL_ENABLE (pgSpindle n)) true }) ∧
  (∀ (n : Nat) (s : State), taken (.spindleEnable n) s → s.ctl.access (R.BLK_CTRL (pgSpindle n)) = .ok → s.ctl.mustWait
    (R.BLK_CTRL (pgSpindle n)) = false →
    s.ctl.enabled (pgSpindle n) = false → s.ctl.sst n = stDisabled → s.ctl.hasChan n = true →
    s.ctl.spConfigErr n = 0 →
    ((upto 128).any (fun x => !s.ctl.is (R.CTX_CTRL_KIND x) && s.ctl.get (R.CTX_CTRL_BIND x) == n && s.ctl.get
        (R.CTX_STAT_STATE x) != 0)) = false →
    exec (.spindleEnable n) s = .next { s with
        ctl := spWake n (Ctl.setSst (toNewest n (((s.ctl.put (R.SPINDLE_STAT_CFG_ERR n) 0).flag (R.BLK_CTRL_ENABLE
            (pgSpindle n)) true).setActive (pgSpindle n) true)) n stStopped) }) ∧
  (∀ (n : Nat) (s : State), taken (.spindleDisable n) s → s.ctl.access (R.BLK_CTRL (pgSpindle n)) = .ok → s.ctl.mustWait
    (R.BLK_CTRL (pgSpindle n)) = false →
    s.ctl.enabled (pgSpindle n) = true → s.ctl.sst n = stStopped →
    exec (.spindleDisable n) s = .next { s with
        ctl := spDisabled n (s.ctl.flag (R.BLK_CTRL_ENABLE (pgSpindle n)) false) }) ∧
  (∀ (n : Nat) (s : State) (t : Nat), taken (.mirrorAtRest n) s →
    s.ctl.sst n = stBraking → (s.ctl.sp n).stop = none → (s.ctl.sp n).stopFrom ≠ s.ctl.now →
    (s.ctl.sp n).stopEnd = some t → 32 ≤ s.ctl.sinceT t → (s.ctl.sp n).disabling = false →
    exec (.mirrorAtRest n) s = .next { s with ctl := (s.ctl.setSst n stBraked).irq (pgSpindle n) 2 }) ∧
  (∀ (n : Nat) (s : State), taken (.brakeResume n) s → s.ctl.access (R.SPINDLE_CMD n) = .ok → s.ctl.mustWait
    (R.SPINDLE_CMD n) = false →
    s.ctl.single = true → s.ctl.engaged = true →
    exec (.brakeResume n) s = .next { s with ctl := s.ctl }) ∧
  (∀ (n : Nat) (s : State), taken (.brakeResume n) s → s.ctl.access (R.SPINDLE_CMD n) = .ok → s.ctl.mustWait
    (R.SPINDLE_CMD n) = false →
    s.ctl.single = true → s.ctl.engaged = false →
    exec (.brakeResume n) s = .next { s with ctl := spResume n s.ctl }) ∧
  (∀ (s : State), taken .publish s → s.ctl.access R.GLOBAL_PROF_CTRL = .ok → s.ctl.mustWait R.GLOBAL_PROF_CTRL = false →
    s.ctl.single = true → s.ctl.is R.GLOBAL_PROF_CTRL_PUBLISH = true →
    exec .publish s = .next { s with ctl := s.ctl }) ∧
  (∀ (off : Nat) (w : Word) (s : State), taken (.tableWindowWrite off w) s → s.ctl.access (winBase + off) = .ok →
    s.ctl.mustWait (winBase + off) = false →
    s.ctl.is R.GLOBAL_TABLE_WIN_KIND = false → s.ctl.absent (s.ctl.get R.GLOBAL_TABLE_WIN_SPINDLE) = true →
    exec (.tableWindowWrite off w) s = .next { s with ctl := tableErr 3 off s.ctl }) ∧
  (∀ (off : Nat) (w : Word) (s : State), taken (.tableWindowWrite off w) s → s.ctl.access (winBase + off) = .ok →
    s.ctl.mustWait (winBase + off) = false →
    s.ctl.is R.GLOBAL_TABLE_WIN_KIND = false → off < winSize false →
    s.ctl.absent (s.ctl.get R.GLOBAL_TABLE_WIN_SPINDLE) = false →
    s.ctl.get (R.SPINDLE_STAT_BANK (s.ctl.get R.GLOBAL_TABLE_WIN_SPINDLE)) = s.ctl.get R.GLOBAL_TABLE_WIN_BANK →
    s.ctl.sst (s.ctl.get R.GLOBAL_TABLE_WIN_SPINDLE) ≠ stStopped →
    exec (.tableWindowWrite off w) s = .next { s with ctl := tableErr 1 off s.ctl }) ∧
  (∀ (off : Nat) (w : Word) (s : State) (dx dy dz : Int), taken (.tableWindowWrite off w) s → s.ctl.access (winBase +
    off) = .ok → s.ctl.mustWait (winBase + off) = false →
    s.ctl.is R.GLOBAL_TABLE_WIN_KIND = false → off < winSize false →
    s.ctl.absent (s.ctl.get R.GLOBAL_TABLE_WIN_SPINDLE) = false →
    (s.ctl.get (R.SPINDLE_STAT_BANK (s.ctl.get R.GLOBAL_TABLE_WIN_SPINDLE)) ≠ s.ctl.get R.GLOBAL_TABLE_WIN_BANK ∨
        s.ctl.sst (s.ctl.get R.GLOBAL_TABLE_WIN_SPINDLE) = stStopped) →
    tget s.ctl.tab.grid (s.ctl.winNode off) (0, 0, 0) = (dx, dy, dz) →
    exec (.tableWindowWrite off w) s = .next { s with
        ctl :=
            { s.ctl with tab := { s.ctl.tab with grid := tput s.ctl.tab.grid (s.ctl.winNode off) (if off % 16 / 4 = 0 then (sgn 20 w.toNat, dy, dz) else if off % 16 / 4 = 1 then (dx, sgn 20 w.toNat, dz) else if off % 16 / 4 = 2 then (dx, dy, sgn 20 w.toNat) else (dx, dy, dz)) } }
            }) ∧
  (∀ (off : Nat) (w : Word) (s : State), taken (.tableWindowWrite off w) s → s.ctl.access (winBase + off) = .ok →
    s.ctl.mustWait (winBase + off) = false →
    s.ctl.is R.GLOBAL_TABLE_WIN_KIND = true → off < winSize true →
    bitOf (s.ctl.written R.GLOBAL_PROF_CTRL) 31 = false →
    exec (.tableWindowWrite off w) s = .next { s with
        ctl :=
            { s.ctl with tab := { s.ctl.tab with prof := tput s.ctl.tab.prof (s.ctl.winProf off) ((tget s.ctl.tab.prof (s.ctl.winProf off) (zeros 64)).take (off % 64) ++ leBytes 4 w.toNat ++ (tget s.ctl.tab.prof (s.ctl.winProf off) (zeros 64)).drop (off % 64 + 4)) } }
            }) ∧
  (∀ (n : Nat) (s : State), taken (.waitAlarm n) s →
    s.ctl.get R.FANTAIL_WAIT_LIMIT_TICKS ≠ 0 → s.ctl.get R.FANTAIL_WAIT_LIMIT_TICKS ≤ (s.ctl.sp n).waited →
    (s.ctl.sp n).alarmed = false → s.ctl.enabled pgFantail = true →
    exec (.waitAlarm n) s = .next { s with ctl := (s.ctl.setSp n { s.ctl.sp n with alarmed := true }).irq pgFantail 4 }) ∧
  (∀ (s : State), taken .flowLost s →
    s.ctl.flowLost = true → s.ctl.fan.lost = false → s.ctl.is R.FANTAIL_FAN_CTRL_FLOW_BRAKE = false →
    exec .flowLost s = .next { s with
        ctl := ((s.ctl.modFan (fun u => { u with lost := true })).irq pgFantail 5).inc R.FANTAIL_CNT2_FLOW_LOSSES }) ∧
  (∀ (s : State), taken .flowLost s →
    s.ctl.flowLost = true → s.ctl.fan.lost = false → s.ctl.is R.FANTAIL_FAN_CTRL_FLOW_BRAKE = true →
    exec .flowLost s = .next { s with
        ctl := brakeSource brkFlow false (((s.ctl.modFan (fun u => { u with lost := true })).irq pgFantail 5).inc
            R.FANTAIL_CNT2_FLOW_LOSSES) }) ∧
  (∀ (s : State), taken .flowRestored s →
    s.ctl.flowLost = false →
    exec .flowRestored s = .next { s with ctl := s.ctl.modFan (fun u => { u with lost := false }) }) ∧
  (∀ (k : Nat) (ue : Bool) (s : State) (key : Nat) (u : State) (l : List Byte), taken (.terrFetchReturn k ue) s →
    s.ctl.fan.fetch[k]? = some key → shortReturn (.fantail key) (s.ctl.terrAddr key) 4 ue s = (u, l, true) →
    exec (.terrFetchReturn k ue) s = .next (keepQueue (fun _ => bar2Collect
        { u with ctl := (u.ctl.modFan (fun q => { q with fetch := q.fetch.eraseIdx k, cells := tput q.cells key 0 })).irq pgFantail 6 })
        s)) ∧
  (∀ (k : Nat) (ue : Bool) (s : State) (key : Nat) (u : State) (l : List Byte), taken (.terrFetchReturn k ue) s →
    s.ctl.fan.fetch[k]? = some key → shortReturn (.fantail key) (s.ctl.terrAddr key) 4 ue s = (u, l, false) →
    exec (.terrFetchReturn k ue) s = .next (keepQueue (fun _ => bar2Collect
        { u with ctl := u.ctl.modFan (fun q => { q with fetch := q.fetch.eraseIdx k, cells := tput q.cells key (leNat l % 2 ^ 24) }) })
        s))

/-- What commands of tentering and the heat ledger do, case by case. The next state of each command, written out, for
the conditions named. Rules: R312, R308, R263, R283, R285. -/
def Obligations.HeatCommandEffects : Prop :=
  (∀ (n : Nat) (s : State), taken (.mpClear n) s → s.ctl.access R.LEDGER_CMD = .ok → s.ctl.mustWait R.LEDGER_CMD = false →
    s.ctl.single = true →
    exec (.mpClear n) s = .next { s with ctl := s.ctl.modLed (fun u => { u with mpClears := u.mpClears ++ [n] }) }) ∧
  (∀ (s : State), taken .haltClear s → s.ctl.access R.LEDGER_CMD = .ok → s.ctl.mustWait R.LEDGER_CMD = false →
    s.ctl.single = true → s.ctl.is R.LEDGER_HALT_STAT_HALTED = true →
    exec .haltClear s = .next { s with ctl := s.ctl.flag R.LEDGER_CMD_HALT_CLEAR true }) ∧
  (∀ (n : Nat) (s : State), taken (.keeper n) s →
    s.ctl.get (R.SPINDLE_TENT_CTRL_KEEPER n) ≠ 0 → tnSettling ≤ s.ctl.tst n →
    s.ctl.get (R.SPINDLE_TENT_CTRL_KEEPER n) ≤ s.ctl.sinceT (s.ctl.tn n).lastBlock →
    (s.ctl.tn n).waiting = none → (s.ctl.tn n).sentNow = false →
    exec (.keeper n) s = .next { s with ctl := corrSend n 2 (s.ctl.tn n).sent s.ctl }) ∧
  (∀ (s : State), taken .ledgerEnable s → s.ctl.access (R.BLK_CTRL pgLedger) = .ok → s.ctl.mustWait (R.BLK_CTRL
    pgLedger) = false →
    s.ctl.enabled pgLedger = false → s.ctl.activePage pgLedger = false → s.ctl.ledgerErr ≠ 0 →
    exec .ledgerEnable s = .next { s with
        ctl := ((s.ctl.put R.LEDGER_STAT_CFG_ERR s.ctl.ledgerErr).irq pgLedger 6).flag (R.BLK_CTRL_ENABLE pgLedger)
            true }) ∧
  (∀ (s : State), taken .ledgerFillDone s →
    s.ctl.is R.LEDGER_STAT_FILLING = true →
    exec .ledgerFillDone s = .next { s with
        ctl :=
            { (s.freeze s.ctl.gridBase (8 * (s.ctl.gridNx * s.ctl.gridNy)) none).setReg R.LEDGER_STAT (2 ^ 31) with memOut := outside s.ctl.gridBase (8 * (s.ctl.gridNx * s.ctl.gridNy)) s.ctl.memOut },
            mem := ({ s.mem with waiting := outside s.ctl.gridBase (8 * (s.ctl.gridNx * s.ctl.gridNy)) s.mem.waiting }
            : Mem).fill s.ctl.gridBase (List.replicate (s.ctl.gridNx * s.ctl.gridNy) s.ctl.fillCell).flatten }) ∧
  (∀ (k : Nat) (ue : Bool) (s : State) (key : Nat) (u : State) (l : List Byte), taken (.ledgerCellReturn k ue) s →
    s.ctl.led.fetch[k]? = some key → shortReturn (.ledger key) (s.ctl.cellAddr key) 8 ue s = (u, l, false) →
    u.ownNewest (s.ctl.cellAddr key) (l.map (fun b => (b, false))) = l.map (fun b => (b, false)) →
    s.ctl.led.held.filter (fun d => decide (d.key = key)) = [] →
    exec (.ledgerCellReturn k ue) s = .next (keepQueue (fun _ => bar2Collect
        { u with ctl := (u.ctl.modLed (fun q => { q with fetch := q.fetch.eraseIdx k, cache := tput q.cache key (s.ctl.cellOf (l.map (fun b => (b, false)))) })).modLed (fun q => { q with held := q.held.filter (fun d => decide (d.key ≠ key)) }) })
        s))

/-- What commands of lanes do, case by case. The next state of each command, written out, for the conditions named.
Rules: R329, R317, R337, R363, R324, R333, R331, R330, R326, R347, R345, R353, R340, R349. -/
def Obligations.LaneCommandEffects : Prop :=
  (∀ (k : Nat) (s : State), taken (.start k) s → s.ctl.access (R.LANE_CMD k) = .ok → s.ctl.mustWait (R.LANE_CMD k) =
    false →
    s.ctl.enabled (pgLane k) = true → s.ctl.xy2On k = false → s.ctl.hasLane k = true →
    (s.ctl.lst k = lnDown ∨ s.ctl.lst k = lnAbsent) →
    exec (.start k) s = .next { s with ctl := afterLanes s.ctl.lanesActive (bringUp k false s.ctl) }) ∧
  (∀ (k : Nat) (s : State), taken (.start k) s → s.ctl.access (R.LANE_CMD k) = .ok → s.ctl.mustWait (R.LANE_CMD k) =
    false →
    s.ctl.xy2On k = true →
    exec (.start k) s = .next { s with ctl := afterLanes s.ctl.lanesActive (s.ctl) }) ∧
  (∀ (k : Nat) (s : State), taken (.retrain k) s → s.ctl.access (R.LANE_CMD k) = .ok → s.ctl.mustWait (R.LANE_CMD k) =
    false →
    s.ctl.lst k = lnActive → (s.ctl.ln k).reqAt = none →
    exec (.retrain k) s = .next { s with
        ctl := afterLanes s.ctl.lanesActive ((sendRetrain k 1 s.ctl).modLn k (fun l =>
            { l with reqAt := some s.ctl.now })) }) ∧
  (∀ (k : Nat) (s : State) (t : Nat), taken (.retrainReqTimeout k) s →
    (s.ctl.ln k).reqAt = some t → s.ctl.lst k = lnActive → usTicks 1 ≤ s.ctl.sinceT t →
    exec (.retrainReqTimeout k) s = .next { s with ctl := afterLanes s.ctl.lanesActive (retrainNow k s.ctl) }) ∧
  (∀ (k body check : Nat) (s : State), taken (.retrainReq k body check) s →
    ctlGood bLinkMgmt body check = true → s.ctl.decodes k true (ctlWord bLinkMgmt body check) = true →
    (received k true (ctlWord bLinkMgmt body check) s.ctl).lst k = lnActive →
    ((sendRetrain k 2 (received k true (ctlWord bLinkMgmt body check) s.ctl)).ln k).retrainsDue = false →
    exec (.retrainReq k body check) s = .next { s with
        ctl := afterLanes s.ctl.lanesActive (relockBlock k (retrainNow k (sendRetrain k 2 (received k true (ctlWord
            bLinkMgmt body check) s.ctl)))) }) ∧
  (∀ (k body check : Nat) (s : State), taken (.retrainReq k body check) s →
    ctlGood bLinkMgmt body check = true → s.ctl.decodes k true (ctlWord bLinkMgmt body check) = true →
    (received k true (ctlWord bLinkMgmt body check) s.ctl).lst k = lnActive →
    ((sendRetrain k 2 (received k true (ctlWord bLinkMgmt body check) s.ctl)).ln k).retrainsDue = true →
    exec (.retrainReq k body check) s = .next { s with
        ctl := afterLanes s.ctl.lanesActive (relockBlock k ((sendRetrain k 2 (received k true (ctlWord bLinkMgmt body
            check) s.ctl)).modLn k (fun l => { l with trainDue := true }))) }) ∧
  (∀ (k body check : Nat) (s : State), taken (.retrainReq k body check) s →
    ctlGood bLinkMgmt body check = false → s.ctl.decodes k true (ctlWord bLinkMgmt body check) = true →
    (received k true (ctlWord bLinkMgmt body check) s.ctl).hasLane k = true →
    (received k true (ctlWord bLinkMgmt body check) s.ctl).lst k ≠ lnLock →
    exec (.retrainReq k body check) s = .next { s with
        ctl := afterLanes s.ctl.lanesActive (((received k true (ctlWord bLinkMgmt body check) s.ctl).inc
            (R.LANE_CNT0_CHECK_ERR k)).modLn k (fun l =>
            { l with idles := 0, offers := if l.offerOk then l.offers else 0, confirms := 0 })) }) ∧
  (∀ (k body check : Nat) (s : State), taken (.retrainAck k body check) s →
    ctlGood bLinkMgmt body check = true → s.ctl.decodes k true (ctlWord bLinkMgmt body check) = true →
    (received k true (ctlWord bLinkMgmt body check) s.ctl).lst k = lnActive →
    ((received k true (ctlWord bLinkMgmt body check) s.ctl).ln k).reqAt.isSome = true →
    exec (.retrainAck k body check) s = .next { s with
        ctl := afterLanes s.ctl.lanesActive (relockBlock k (retrainNow k (received k true (ctlWord bLinkMgmt body
            check) s.ctl))) }) ∧
  (∀ (k : Nat) (slow : Bool) (s : State), taken (.laneRateWrite k slow) s → s.ctl.access (R.LANE_CTRL k) = .ok →
    s.ctl.mustWait (R.LANE_CTRL k) = false →
    s.ctl.is (R.LANE_CTRL_RATE k) ≠ slow →
    (s.ctl.lst k = lnDown ∨ s.ctl.lst k = lnDetect ∨ s.ctl.lst k = lnBackoff) →
    exec (.laneRateWrite k slow) s = .next { s with
        ctl := afterLanes s.ctl.lanesActive ((s.ctl.flag (R.LANE_CTRL_RATE k) slow).modLn k (fun l =>
            { l with rateDue := true })) }) ∧
  (∀ (k : Nat) (slow : Bool) (s : State), taken (.laneRateWrite k slow) s → s.ctl.access (R.LANE_CTRL k) = .ok →
    s.ctl.mustWait (R.LANE_CTRL k) = false →
    s.ctl.is (R.LANE_CTRL_RATE k) ≠ slow → s.ctl.lst k ≠ lnDown → s.ctl.lst k ≠ lnDetect →
    s.ctl.lst k ≠ lnBackoff → ¬ (s.ctl.lst k = lnTrain ∧ s.ctl.get (R.LANE_STAT_TRAIN_STEP k) = 5) →
    exec (.laneRateWrite k slow) s = .next { s with
        ctl := afterLanes s.ctl.lanesActive ((s.ctl.flag (R.LANE_CTRL_RATE k) slow).flag (R.LANE_STAT_RATE_PENDING k)
            true) }) ∧
  (∀ (k : Nat) (slow : Bool) (s : State), taken (.laneRateWrite k slow) s → s.ctl.access (R.LANE_CTRL k) = .ok →
    s.ctl.mustWait (R.LANE_CTRL k) = false →
    s.ctl.is (R.LANE_CTRL_RATE k) ≠ slow → s.ctl.lst k = lnTrain → s.ctl.get (R.LANE_STAT_TRAIN_STEP k) = 5 →
    exec (.laneRateWrite k slow) s = .next { s with
        ctl := afterLanes s.ctl.lanesActive (trainStart k ((s.ctl.flag (R.LANE_CTRL_RATE k) slow).flag
            (R.LANE_STAT_RATE_PENDING k) true)) }) ∧
  (∀ (k : Nat) (found signal : Bool) (s : State), taken (.detectProbe k found signal) s →
    s.ctl.lst k = lnDetect → usTicks 100 ≤ s.ctl.sinceT (s.ctl.ln k).probeAt → found = true → signal = true →
    exec (.detectProbe k found signal) s = .next { s with
        ctl := afterLanes s.ctl.lanesActive (enterTrain k ((s.ctl.flag (R.LANE_STAT_SIGNAL k) signal).modLn k (fun l
            => { l with probeAt := s.ctl.now }))) }) ∧
  (∀ (k : Nat) (found signal : Bool) (s : State), taken (.detectProbe k found signal) s →
    s.ctl.lst k = lnDetect → usTicks 100 ≤ s.ctl.sinceT (s.ctl.ln k).probeAt →
    (found = false ∨ signal = false) →
    exec (.detectProbe k found signal) s = .next { s with
        ctl := afterLanes s.ctl.lanesActive ((s.ctl.flag (R.LANE_STAT_SIGNAL k) signal).modLn k (fun l =>
            { l with probeAt := s.ctl.now })) }) ∧
  (∀ (k : Nat) (s : State), taken (.laneTimeout k) s →
    s.ctl.lst k = lnDetect → (s.ctl.ln k).order = false →
    msTicks (s.ctl.get1 (R.LANE_TIMEOUT_DETECT_MS k)) ≤ s.ctl.sinceT (s.ctl.ln k).at_ →
    exec (.laneTimeout k) s = .next { s with ctl := afterLanes s.ctl.lanesActive (laneFail k 1 s.ctl) }) ∧
  (∀ (k : Nat) (s : State), taken (.laneTimeout k) s →
    s.ctl.lst k = lnTrain → msTicks (s.ctl.get1 (R.LANE_TIMEOUT_TRAIN_MS k)) ≤ s.ctl.sinceT (s.ctl.ln k).at_ →
    exec (.laneTimeout k) s = .next { s with ctl := afterLanes s.ctl.lanesActive (laneFail k 2 s.ctl) }) ∧
  (∀ (k : Nat) (s : State), taken (.laneTimeout k) s →
    s.ctl.lst k = lnLock → (s.ctl.ln k).relock = false →
    msTicks (s.ctl.get1 (R.LANE_TIMEOUT_LOCK_MS k)) ≤ s.ctl.sinceT (s.ctl.ln k).at_ →
    exec (.laneTimeout k) s = .next { s with ctl := afterLanes s.ctl.lanesActive (laneFail k 4 s.ctl) }) ∧
  (∀ (k : Nat) (s : State), taken (.laneTimeout k) s →
    s.ctl.lst k = lnExchange →
    msTicks (s.ctl.get1 (R.LANE_TIMEOUT_EXCH_MS k)) ≤ s.ctl.sinceT (s.ctl.ln k).at_ →
    exec (.laneTimeout k) s = .next { s with ctl := afterLanes s.ctl.lanesActive (laneFail k 5 s.ctl) }) ∧
  (∀ (k : Nat) (s : State), taken (.backoffExpiry k) s →
    s.ctl.lst k = lnBackoff →
    msTicks (s.ctl.get1 (R.LANE_RETRY_BACKOFF_MS k)) ≤ s.ctl.sinceT (s.ctl.ln k).at_ →
    (s.ctl.ln k).attempt < 1 + s.ctl.get1 (R.LANE_RETRY_RETRIES k) →
    exec (.backoffExpiry k) s = .next { s with
        ctl := afterLanes s.ctl.lanesActive ((laneGo k lnDetect (s.ctl.put (R.LANE_STAT_ATTEMPT k) ((s.ctl.ln
            k).attempt + 1))).modLn k (fun l => { l with attempt := l.attempt + 1, probeAt := s.ctl.now })) }) ∧
  (∀ (k : Nat) (s : State), taken (.backoffExpiry k) s →
    s.ctl.lst k = lnBackoff →
    msTicks (s.ctl.get1 (R.LANE_RETRY_BACKOFF_MS k)) ≤ s.ctl.sinceT (s.ctl.ln k).at_ →
    1 + s.ctl.get1 (R.LANE_RETRY_RETRIES k) ≤ (s.ctl.ln k).attempt →
    exec (.backoffExpiry k) s = .next { s with
        ctl := afterLanes s.ctl.lanesActive ((laneGo k lnAbsent s.ctl).irq (pgLane k) 1) }) ∧
  (∀ (k : Nat) (s : State), taken (.blockLockLost k) s →
    s.ctl.is (R.LANE_STAT_BLOCK_LOCK k) = true → s.ctl.lst k = lnActive →
    s.ctl.is (R.LANE_STAT_SIGNAL k) = true → (s.ctl.ln k).rxIdle = false →
    exec (.blockLockLost k) s = .next { s with
        ctl := afterLanes s.ctl.lanesActive ((laneGo k lnLock (((s.ctl.flag (R.LANE_STAT_BLOCK_LOCK k) false).inc
            (R.LANE_CNT1_LOCK_LOSS k)).modLn k (fun l =>
            { l with idles := 0, hdrRun := 0, hdrBad := 0, drop := false }))).modLn k (fun l =>
            { l with relock := true })) }) ∧
  (∀ (k : Nat) (s : State), taken (.blockLockLost k) s →
    s.ctl.lst k = lnActive → s.ctl.is (R.LANE_STAT_SIGNAL k) = false →
    exec (.blockLockLost k) s = .next { s with ctl := afterLanes s.ctl.lanesActive (s.ctl) }) ∧
  (∀ (k : Nat) (s : State), taken (.blockLockLost k) s →
    s.ctl.is (R.LANE_STAT_BLOCK_LOCK k) = true → s.ctl.lst k ≠ lnActive →
    exec (.blockLockLost k) s = .next { s with
        ctl := afterLanes s.ctl.lanesActive (((s.ctl.flag (R.LANE_STAT_BLOCK_LOCK k) false).inc (R.LANE_CNT1_LOCK_LOSS
            k)).modLn k (fun l => { l with idles := 0, hdrRun := 0, hdrBad := 0, drop := false })) }) ∧
  (∀ (k : Nat) (s : State), taken (.relockTimeout k) s →
    s.ctl.lst k = lnLock → (s.ctl.ln k).relock = true → usTicks 10 ≤ s.ctl.sinceT (s.ctl.ln k).at_ →
    exec (.relockTimeout k) s = .next { s with ctl := afterLanes s.ctl.lanesActive (trainFirst k s.ctl) }) ∧
  (∀ (k : Nat) (s : State), taken (.wakeTimeout k) s →
    s.ctl.lst k = lnWake → 80 ≤ s.ctl.sinceT (s.ctl.ln k).at_ →
    exec (.wakeTimeout k) s = .next { s with ctl := afterLanes s.ctl.lanesActive (trainFirst k s.ctl) }) ∧
  (∀ (k : Nat) (s : State), taken (.signalLost k) s →
    s.ctl.looped k = false → s.ctl.announced k = false → s.ctl.lst k = lnActive →
    exec (.signalLost k) s = .next { s with
        ctl := afterLanes s.ctl.lanesActive (trainFirst k (((s.ctl.flag (R.LANE_STAT_SIGNAL k) false).flag
            (R.LANE_STAT_BLOCK_LOCK k) false).modLn k (fun l =>
            { l with hdrRun := 0, hdrBad := 0, drop := false, idles := 0 }))) }) ∧
  (∀ (k : Nat) (s : State), taken (.signalLost k) s →
    s.ctl.looped k = false → s.ctl.announced k = false → s.ctl.lst k ≠ lnActive →
    exec (.signalLost k) s = .next { s with
        ctl := afterLanes s.ctl.lanesActive (((s.ctl.flag (R.LANE_STAT_SIGNAL k) false).flag (R.LANE_STAT_BLOCK_LOCK
            k) false).modLn k (fun l => { l with hdrRun := 0, hdrBad := 0, drop := false, idles := 0 })) }) ∧
  (∀ (k : Nat) (s : State), taken (.signalLost k) s →
    s.ctl.looped k = true →
    exec (.signalLost k) s = .next { s with ctl := afterLanes s.ctl.lanesActive (s.ctl) }) ∧
  (∀ (k : Nat) (s : State), taken (.signalLost k) s →
    s.ctl.looped k = false → s.ctl.announced k = true →
    exec (.signalLost k) s = .next { s with
        ctl := afterLanes s.ctl.lanesActive ((s.ctl.flag (R.LANE_STAT_SIGNAL k) false).modLn k (fun l =>
            { l with rxIdle := true })) }) ∧
  (∀ (k body check : Nat) (s : State), taken (.eiEnter k body check) s →
    ctlGood bEiEnter body check = true → s.ctl.decodes k true (ctlWord bEiEnter body check) = true →
    exec (.eiEnter k body check) s = .next { s with
        ctl := afterLanes s.ctl.lanesActive (relockBlock k ((received k true (ctlWord bEiEnter body check)
            s.ctl).modLn k (fun l =>
            { l with eiAt := some (received k true (ctlWord bEiEnter body check) s.ctl).now, eiBlocks := 0, rxIdle := l.rxIdle || body % 4 == 0 })))
            }) ∧
  (∀ (k cause payload : Nat) (s : State), taken (.blockDiscard k ⟨cause, payload⟩) s →
    s.ctl.hasLane k = true → s.ctl.hearsBad k payload = true →
    ¬ (s.ctl.lst k = lnTest ∧ s.ctl.get (R.LANE_TEST_MODE k) = 3) → cause = 0 → s.ctl.deaf k = false →
    popCount 64 (((((s.ctl.inc (R.LANE_CNT0_HDR_ERR k)).modLn k (fun l =>
        { l with rxScr := lineTail payload, offers := if l.offerOk then l.offers else 0, confirms := 0 })).modLn k
        (fun l => { l with hdrRun := 0, hdrBad := (l.hdrBad * 2 + 1) % 2 ^ 64, idles := 0 })).ln k).hdrBad) < 16 →
    exec (.blockDiscard k ⟨cause, payload⟩) s = .next { s with
        ctl := afterLanes s.ctl.lanesActive (((s.ctl.inc (R.LANE_CNT0_HDR_ERR k)).modLn k (fun l =>
            { l with rxScr := lineTail payload, offers := if l.offerOk then l.offers else 0, confirms := 0 })).modLn k
            (fun l => { l with hdrRun := 0, hdrBad := (l.hdrBad * 2 + 1) % 2 ^ 64, idles := 0 })) }) ∧
  (∀ (k cause payload : Nat) (s : State), taken (.blockDiscard k ⟨cause, payload⟩) s →
    s.ctl.hasLane k = true → s.ctl.hearsBad k payload = true →
    ¬ (s.ctl.lst k = lnTest ∧ s.ctl.get (R.LANE_TEST_MODE k) = 3) → cause = 0 → s.ctl.deaf k = false →
    16 ≤ popCount 64 (((((s.ctl.inc (R.LANE_CNT0_HDR_ERR k)).modLn k (fun l =>
        { l with rxScr := lineTail payload, offers := if l.offerOk then l.offers else 0, confirms := 0 })).modLn k
        (fun l => { l with hdrRun := 0, hdrBad := (l.hdrBad * 2 + 1) % 2 ^ 64, idles := 0 })).ln k).hdrBad) →
    exec (.blockDiscard k ⟨cause, payload⟩) s = .next { s with
        ctl := afterLanes s.ctl.lanesActive (blockLockLost k (((s.ctl.inc (R.LANE_CNT0_HDR_ERR k)).modLn k (fun l =>
            { l with rxScr := lineTail payload, offers := if l.offerOk then l.offers else 0, confirms := 0 })).modLn k
            (fun l => { l with hdrRun := 0, hdrBad := (l.hdrBad * 2 + 1) % 2 ^ 64, idles := 0 }))) }) ∧
  (∀ (k cause payload : Nat) (s : State), taken (.blockDiscard k ⟨cause, payload⟩) s →
    s.ctl.hasLane k = true → cause = 1 → s.ctl.decodes k true (payload) = true →
    (received k true (payload) s.ctl).lst k ≠ lnLock →
    exec (.blockDiscard k ⟨cause, payload⟩) s = .next { s with
        ctl := afterLanes s.ctl.lanesActive (((received k true (payload) s.ctl).inc (R.LANE_CNT0_CHECK_ERR k)).modLn k
            (fun l => { l with idles := 0, offers := if l.offerOk then l.offers else 0, confirms := 0 })) }) ∧
  (∀ (k cause payload : Nat) (s : State), taken (.blockDiscard k ⟨cause, payload⟩) s →
    s.ctl.hasLane k = true → cause = 2 → s.ctl.decodes k true (payload) = true →
    (received k true (payload) s.ctl).lst k ≠ lnLock →
    exec (.blockDiscard k ⟨cause, payload⟩) s = .next { s with
        ctl := afterLanes s.ctl.lanesActive (((received k true (payload) s.ctl).inc (R.LANE_CNT1_UNKNOWN_TYPE
            k)).modLn k (fun l => { l with idles := 0, offers := if l.offerOk then l.offers else 0, confirms := 0 }))
            }) ∧
  (∀ (k cause payload : Nat) (s : State), taken (.blockDiscard k ⟨cause, payload⟩) s →
    s.ctl.hasLane k = true → cause = 3 → isTwin k = false → s.ctl.decodes k false (payload) = true →
    (received k false (payload) s.ctl).lst k ≠ lnLock →
    exec (.blockDiscard k ⟨cause, payload⟩) s = .next { s with
        ctl := afterLanes s.ctl.lanesActive (((received k false (payload) s.ctl).inc (R.PROTO_CNT0_CHK_ERR k)).modLn k
            (fun l => { l with idles := 0, offers := if l.offerOk then l.offers else 0, confirms := 0 })) }) ∧
  (∀ (k : Nat) (s : State), taken (.adaptFrozen k) s →
    s.ctl.linked k = true → 64 ≤ (s.ctl.ln k).nonRx → (s.ctl.ln k).trialLeft = 0 →
    exec (.adaptFrozen k) s = .next { s with
        ctl := afterLanes s.ctl.lanesActive (s.ctl.flag (R.LANE_STAT_ADAPT_FROZEN k) true) }) ∧
  (∀ (k : Nat) (w : Word) (s : State), taken (.laneTestMode k w) s → s.ctl.access (R.LANE_TEST k) = .ok → s.ctl.mustWait
    (R.LANE_TEST k) = false →
    w.toNat / 2 ^ 30 % 4 ≠ s.ctl.get (R.LANE_TEST_MODE k) → w.toNat / 2 ^ 30 % 4 ≠ 0 →
    s.ctl.testable k = false →
    exec (.laneTestMode k w) s = .next { s with
        ctl := afterLanes s.ctl.lanesActive (s.ctl.flag (R.LANE_TEST_STAT_TEST_REFUSED k) true) }) ∧
  (∀ (k line drift : Nat) (s : State), taken (.checkerBlock k line drift) s →
    s.ctl.lst k ≠ lnTest →
    exec (.checkerBlock k line drift) s = .next { s with ctl := s.ctl })

/-- What commands of the head and laser protocol and the brake do, case by case. The next state of each command,
written out, for the conditions named. Rules: R375, R373, R372, R368, R361, R387, R386, R353, R680, R673, R679, R670,
R371. -/
def Obligations.ProtoBrakeCommandEffects : Prop :=
  (∀ (k : Nat) (s : State) (q : MgmtReq), taken (.mgmtRetry k) s →
    (s.ctl.ln k).mout.find? (fun r => decide (2000 ≤ s.ctl.sinceT r.at_)) = some q → q.tries < 3 →
    exec (.mgmtRetry k) s = .next { s with
        ctl := ((s.ctl.modLn k (fun l => { l with mout := l.mout.filter (fun p => p.rseq != q.rseq) })).inc
            (R.PROTO_CNT1_MGMT_RETRY k)).modLn k (fun l => { l with mq := { q with tries := q.tries + 1 } :: l.mq })
            }) ∧
  (∀ (k : Nat) (s : State) (q : MgmtReq), taken (.mgmtRetry k) s →
    (s.ctl.ln k).mout.find? (fun r => decide (2000 ≤ s.ctl.sinceT r.at_)) = some q → 3 ≤ q.tries →
    q.cap = none →
    exec (.mgmtRetry k) s = .next { s with
        ctl := (((s.ctl.modLn k (fun l => { l with mout := l.mout.filter (fun p => p.rseq != q.rseq) })).flag
            (R.MGMT_STAT_FAILED k) true).flag (R.MGMT_CMD_GO k) false).protoEvt k 2 }) ∧
  (∀ (k : Nat) (s : State) (b t : Nat), taken (.brakeEcho k) s →
    (s.ctl.ln k).echo = some (b, t) → 8 ≤ s.ctl.sinceT t → s.ctl.get (R.PROTO_STAT_BSEQ_ECHO k) ≠ b →
    exec (.brakeEcho k) s = .next { s with ctl := (s.ctl.modLn k (fun l => { l with echo := none })).protoEvt k 3 }) ∧
  (∀ (k : Nat) (s : State) (b t : Nat), taken (.brakeEcho k) s →
    (s.ctl.ln k).echo = some (b, t) → 8 ≤ s.ctl.sinceT t → s.ctl.get (R.PROTO_STAT_BSEQ_ECHO k) = b →
    exec (.brakeEcho k) s = .next { s with ctl := s.ctl.modLn k (fun l => { l with echo := none }) }) ∧
  (∀ (k port body check : Nat) (s : State), taken (.brake k port body check) s →
    24 ≤ k → s.ctl.reaches k port = true → port = (s.ctl.ln k).p.port → ctlGood bBrake body check = true →
    bitOf body 0 = true →
    exec (.brake k port body check) s = .next { s with
        ctl := s.ctl.modP k (fun p =>
            { p with braked := true, engaged := some (slice body 8 8), bseq := slice body 8 8, out := 0 }) }) ∧
  (∀ (k port body check : Nat) (s : State) (q : Nat), taken (.brake k port body check) s →
    24 ≤ k → s.ctl.reaches k port = true → port = (s.ctl.ln k).p.port → ctlGood bBrake body check = true →
    bitOf body 0 = false → (s.ctl.ln k).p.engaged = some q → (s.ctl.ln k).p.braked = true →
    1 ≤ (slice body 8 8 + 256 - q) % 256 → (slice body 8 8 + 256 - q) % 256 ≤ 127 →
    exec (.brake k port body check) s = .next { s with
        ctl := s.ctl.modP k (fun p => { p with braked := false, bseq := slice body 8 8 }) }) ∧
  (∀ (k port body check : Nat) (s : State) (q : Nat), taken (.brake k port body check) s →
    24 ≤ k → s.ctl.reaches k port = true → port = (s.ctl.ln k).p.port → ctlGood bBrake body check = true →
    bitOf body 0 = false → (s.ctl.ln k).p.engaged = some q →
    ((slice body 8 8 + 256 - q) % 256 = 0 ∨ 127 < (slice body 8 8 + 256 - q) % 256) →
    exec (.brake k port body check) s = .next { s with ctl := s.ctl }) ∧
  (∀ (k port body check : Nat) (s : State), taken (.correction k port body check) s →
    s.ctl.reaches k port = true → port = (s.ctl.ln k).p.port → ctlGood bCorrection body check = true →
    (s.ctl.ln k).p.exempt = true →
    exec (.correction k port body check) s = .next { s with
        ctl := s.ctl.modP k (fun p =>
            { p with factor := slice body 16 16, cseq := some (slice body 8 8), exempt := false, gap := p.gap }) }) ∧
  (∀ (k tally check : Nat) (s : State), taken (.partnerTickMark k tally check) s →
    k < 48 → (s.ctl.ln k).p.gen0 = false → s.ctl.txOn k = true → ctlGood bTickMark tally check = true →
    exec (.partnerTickMark k tally check) s = .next { s with
        ctl := s.ctl.modP k (fun p =>
            { p with synced := true, slip := p.slip || (p.synced && p.count != tally), count := tally }) }) ∧
  (∀ (k tally check : Nat) (s : State), taken (.partnerTickMark k tally check) s →
    (s.ctl.ln k).p.gen0 = true →
    exec (.partnerTickMark k tally check) s = .next { s with ctl := s.ctl }) ∧
  (∀ (k : Nat) (w : Word) (s : State), taken (.camEnable k w) s → s.ctl.access (R.CAM_CTRL k) = .ok → s.ctl.mustWait
    (R.CAM_CTRL k) = false →
    s.ctl.is (R.CAM_CTRL_EN k) = false → bitOf w.toNat 31 = true → (w.toNat % 32 < 12 ∨ 30 < w.toNat % 32) →
    exec (.camEnable k w) s = .next { s with
        ctl := ((s.ctl.put (R.CAM_CTRL_SIZE_LOG2 k) (w.toNat % 32)).flag (R.CAM_CTRL_EN k) false).flag
            (R.CAM_CTRL_SIZE_ERR k) true }) ∧
  (∀ (k : Nat) (w : Word) (s : State), taken (.camEnable k w) s → s.ctl.access (R.CAM_CTRL k) = .ok → s.ctl.mustWait
    (R.CAM_CTRL k) = false →
    s.ctl.is (R.CAM_CTRL_EN k) = false → bitOf w.toNat 31 = true → 12 ≤ w.toNat % 32 → w.toNat % 32 ≤ 30 →
    exec (.camEnable k w) s = .next { s with
        ctl := ((((((s.ctl.put (R.CAM_CTRL_SIZE_LOG2 k) (w.toNat % 32)).flag (R.CAM_CTRL_EN k) true).flag
            (R.CAM_CTRL_SIZE_ERR k) false).put (R.CAM_WR_INDEX k) 0).put (R.CAM_RD_INDEX k) 0).modCam k (fun _ =>
            {})).modLn k (fun l => { l with creditDue := 0 }) }) ∧
  (∀ (k body chk : Nat) (s : State), taken (.galvo k body chk) s →
    isHead k = true → dataGood 2 body chk = false → s.ctl.decodes k false (dataWord 2 body chk) = true →
    exec (.galvo k body chk) s = .next { s with
        ctl := relockBlock k ((received k false (dataWord 2 body chk) s.ctl).inc (R.PROTO_CNT0_CHK_ERR k)) }) ∧
  (∀ (late : Bool) (s : State), taken (.engage late) s → s.ctl.access R.GLOBAL_BRK_CMD = .ok → s.ctl.mustWait
    R.GLOBAL_BRK_CMD = false →
    s.ctl.shadows = false → s.ctl.engaged = true →
    exec (.engage late) s = .next { s with
        ctl := (fun d => { d with pwr := { d.pwr with release := false } }) (s.ctl.setBits R.GLOBAL_BRK_CAUSE (2 ^
            brkEngage)) }) ∧
  (∀ (late : Bool) (s : State), taken (.engage late) s → s.ctl.access R.GLOBAL_BRK_CMD = .ok → s.ctl.mustWait
    R.GLOBAL_BRK_CMD = false →
    s.ctl.shadows = false →
    exec (.engage late) s = .next { s with ctl := brakeEngage late (s.ctl.setBits R.GLOBAL_BRK_CAUSE (2 ^ brkEngage)) }) ∧
  (∀ (s : State), taken .release s → s.ctl.access R.GLOBAL_BRK_CMD = .ok → s.ctl.mustWait R.GLOBAL_BRK_CMD = false →
    s.ctl.shadows = false → s.ctl.pwr.release = false → s.ctl.get R.GLOBAL_BRK_STAT_LEVELS ≠ 0 →
    exec .release s = .next { s with ctl := (s.ctl.flag R.GLOBAL_BRK_STAT_RELEASE_REFUSED true).irq pgGlobal 7 }) ∧
  (∀ (s : State), taken .release s → s.ctl.access R.GLOBAL_BRK_CMD = .ok → s.ctl.mustWait R.GLOBAL_BRK_CMD = false →
    s.ctl.shadows = false → s.ctl.pwr.release = false → s.ctl.get R.GLOBAL_BRK_STAT_LEVELS = 0 →
    s.ctl.engaged = true →
    exec .release s = .next { s with
        ctl := { s.ctl.setReg R.GLOBAL_BRK_CAUSE 0 with pwr := { s.ctl.pwr with release := true } } }) ∧
  (∀ (s : State) (t : Nat), taken .brkInMismatch s →
    s.ctl.pwr.mismatchFrom = some t → usTicks (s.ctl.get R.GLOBAL_BRK_CTRL_MISMATCH_US) ≤ s.ctl.sinceT t →
    exec .brkInMismatch s = .next { s with
        ctl := { (s.ctl.flag R.GLOBAL_BRK_STAT_IN_MISMATCH true).irq pgGlobal 6 with pwr.mismatchFrom := none } }) ∧
  (∀ (s : State), taken .brakePeriodic s →
    (s.ctl.engaged = false ∨ s.ctl.now % 64 ≠ 0) →
    exec .brakePeriodic s = .next { s with ctl := s.ctl })

/-- What commands of the twin do, case by case. The next state of each command, written out, for the conditions named.
Rules: R422, R401, R400, R430, R431, R397, R403, R425, R424, R407. -/
def Obligations.TwinCommandEffects : Prop :=
  (∀ (s : State), taken .handoverCmd s → s.ctl.access R.TWIN_CMD = .ok → s.ctl.mustWait R.TWIN_CMD = false →
    s.ctl.role = rActive → s.ctl.tw.peerReady = true →
    exec .handoverCmd s = .next { s with ctl := s.ctl.modTw (fun t => { t with asked := true }) }) ∧
  (∀ (s : State), taken .handoverCmd s → s.ctl.access R.TWIN_CMD = .ok → s.ctl.mustWait R.TWIN_CMD = false →
    s.ctl.role = rActive → s.ctl.tw.peerReady = false →
    exec .handoverCmd s = .next { s with ctl := s.ctl.flag R.TWIN_STAT_HANDOVER_REFUSED true }) ∧
  (∀ (s : State), taken .solo s → s.ctl.access R.TWIN_CMD = .ok → s.ctl.mustWait R.TWIN_CMD = false →
    s.ctl.role = rUnpaired → s.ctl.is R.TWIN_CTRL_EN = true →
    (if s.ctl.duplicate then s.ctl.tw.silent else s.ctl.othersQuiet) = true →
    exec .solo s = .next { s with ctl := { s.ctl with soloOn := true } }) ∧
  (∀ (s : State), taken .solo s → s.ctl.access R.TWIN_CMD = .ok → s.ctl.mustWait R.TWIN_CMD = false →
    s.ctl.role = rUnpaired → s.ctl.is R.TWIN_CTRL_EN = true →
    (if s.ctl.duplicate then s.ctl.tw.silent else s.ctl.othersQuiet) = false →
    exec .solo s = .next { s with ctl := s.ctl.flag R.TWIN_STAT_SOLO_REFUSED true }) ∧
  (∀ (s : State), taken .pairTimeout s →
    s.ctl.role = rPairing → (s.ctl.tw.takes.isSome && s.ctl.tw.confirm) = false →
    msTicks (s.ctl.get1 R.TWIN_TIMING2_PAIR_TIMEOUT) ≤ s.ctl.sinceT s.ctl.tw.pairAt →
    exec .pairTimeout s = .next { s with ctl := pairRefuse 5 s.ctl }) ∧
  (∀ (s : State), taken .beaconLoss s →
    s.ctl.role = rStandby → s.ctl.get1 R.TWIN_TIMING_BEACON_LOSS ≤ s.ctl.sinceT s.ctl.tw.beaconAt →
    exec .beaconLoss s = .next { s with
        ctl := twinEval (suspectOn (((setRole rSuspect s.ctl).irq pgTwin twLost).modTw (fun t =>
            { t with verified := false, handed := [] }))) }) ∧
  (∀ (s : State), taken .twinAliveEdge s →
    (s.ctl.role = rSuspect ∨ s.ctl.role = rQuery) →
    exec .twinAliveEdge s = .next { s with
        ctl := twinEval (setRole rDetached (s.ctl.modTw (fun t => { t with edgeAt := s.ctl.now, silent := false })))
            }) ∧
  (∀ (domains : Bool) (s : State), taken (.twinAliveToggle domains) s →
    s.ctl.sinceT s.ctl.tw.toggledAt < 10 →
    exec (.twinAliveToggle domains) s = .next { s with ctl := s.ctl }) ∧
  (∀ (domains : Bool) (s : State), taken (.twinAliveToggle domains) s →
    s.ctl.is R.TWIN_CTRL_EN = true → domains = true → s.ctl.role ≠ rFailed → s.ctl.duplicate = false →
    10 ≤ s.ctl.sinceT s.ctl.tw.toggledAt →
    exec (.twinAliveToggle domains) s = .next { s with
        ctl := s.ctl.modTw (fun t => { t with aliveOut := !t.aliveOut, toggledAt := s.ctl.now }) }) ∧
  (∀ (blocks : List (Nat × Nat × Nat)) (s : State), taken (.handover blocks) s →
    (blocks.foldl (fun d b => handoverBlock b.1 b.2.1 b.2.2 d) s.ctl).unitsIn 69 (fun k => tget (blocks.foldl (fun d b
        => handoverBlock b.1 b.2.1 b.2.2 d) s.ctl).tw.hoRx k []) = none →
    exec (.handover blocks) s = .next { s with
        ctl := (blocks.foldl (fun d b => handoverBlock b.1 b.2.1 b.2.2 d) s.ctl) }) ∧
  (∀ (blocks : List (Nat × Nat × Nat)) (s : State) (l : List Byte), taken (.handover blocks) s →
    (blocks.foldl (fun d b => handoverBlock b.1 b.2.1 b.2.2 d) s.ctl).unitsIn 69 (fun k => tget (blocks.foldl (fun d b
        => handoverBlock b.1 b.2.1 b.2.2 d) s.ctl).tw.hoRx k []) = some l →
    crc32 ((l.take 480).take 476) = fieldAt (l.take 480) 476 4 →
    exec (.handover blocks) s = .next { s with
        ctl := twinEval ((setRole rTakeover (blocks.foldl (fun d b => handoverBlock b.1 b.2.1 b.2.2 d) s.ctl)).modTw
            (fun t => { t with handed := l.take 480 })) }) ∧
  (∀ (blocks : List (Nat × Nat × Nat)) (s : State) (l : List Byte), taken (.handover blocks) s →
    (blocks.foldl (fun d b => handoverBlock b.1 b.2.1 b.2.2 d) s.ctl).unitsIn 69 (fun k => tget (blocks.foldl (fun d b
        => handoverBlock b.1 b.2.1 b.2.2 d) s.ctl).tw.hoRx k []) = some l →
    crc32 ((l.take 480).take 476) ≠ fieldAt (l.take 480) 476 4 →
    exec (.handover blocks) s = .next { s with
        ctl := (blocks.foldl (fun d b => handoverBlock b.1 b.2.1 b.2.2 d) s.ctl).modTw (fun t =>
            { t with hoRx := [] }) }) ∧
  (∀ (s : State), taken .recordDeadline s →
    s.ctl.role = rStandby → s.ctl.tw.judged ≠ s.ctl.boundaryTick → s.ctl.sendLanes.length = 8 →
    13 ≤ s.ctl.sinceT s.ctl.boundaryTick →
    exec .recordDeadline s = .next { s with ctl := recordFail s.ctl }) ∧
  (∀ (s : State), taken .recordDeadline s →
    s.ctl.sendLanes.length = 8 → s.ctl.sinceT s.ctl.boundaryTick < 13 →
    exec .recordDeadline s = .next { s with ctl := s.ctl })

/-- What commands of the millraces do, case by case. The next state of each command, written out, for the conditions
named. Rules: R439, R466, R465, R467, R469, R468, R447, R458, R457, R461, R470, R456, R448, R453. -/
def Obligations.MemoryCommandEffects : Prop :=
  (∀ (m : Nat) (s : State), taken (.initDone m) s →
    s.ctl.get (R.MC_STAT_STATE m) = mcInit → s.ctl.is (R.MC_CFG_RANKS m) = true →
    s.ctl.is (R.MC_CFG_DENSITY m) = true →
    exec (.initDone m) s = .next (bar2Collect
        { s with ctl := (((s.ctl.put (R.MC_STAT_FAIL_CAUSE m) 8).mcGo m mcFault).put (R.MC_CTRL_RETRAIN m) 0).irq (pgMillrace m) 3, mem := s.mem.remap s.ctl ((((s.ctl.put (R.MC_STAT_FAIL_CAUSE m) 8).mcGo m mcFault).put (R.MC_CTRL_RETRAIN m) 0).irq (pgMillrace m) 3) })) ∧
  (∀ (m : Nat) (s : State), taken (.initDone m) s →
    s.ctl.get (R.MC_STAT_STATE m) = mcInit → s.ctl.is (R.MC_CFG_RANKS m) = true →
    s.ctl.is (R.MC_CFG_DENSITY m) = false →
    exec (.initDone m) s = .next (bar2Collect
        { s with ctl := (s.ctl.put (R.MC_CAPACITY_GIB m) 64).mcTrainAt m 1, mem := s.mem.remap s.ctl ((s.ctl.put (R.MC_CAPACITY_GIB m) 64).mcTrainAt m 1) })) ∧
  (∀ (m : Nat) (s : State), taken (.initDone m) s →
    s.ctl.get (R.MC_STAT_STATE m) = mcInit → s.ctl.is (R.MC_CFG_RANKS m) = false →
    s.ctl.is (R.MC_CFG_DENSITY m) = false →
    exec (.initDone m) s = .next (bar2Collect
        { s with ctl := (s.ctl.put (R.MC_CAPACITY_GIB m) 32).mcTrainAt m 1, mem := s.mem.remap s.ctl ((s.ctl.put (R.MC_CAPACITY_GIB m) 32).mcTrainAt m 1) })) ∧
  (∀ (m : Nat) (pass : Bool) (s : State), taken (.trainStepDone m pass) s →
    s.ctl.get (R.MC_STAT_STATE m) = mcTrain → (s.ctl.mcSt m).failAt = 0 →
    s.ctl.is (R.MC_STAT_RATE_PENDING m) = false → pass = true → s.ctl.get (R.MC_STAT_TRAIN_STEP m) < 7 →
    exec (.trainStepDone m pass) s = .next (bar2Collect
        { s with ctl := s.ctl.put (R.MC_STAT_TRAIN_STEP m) (s.ctl.get (R.MC_STAT_TRAIN_STEP m) + 1), mem := s.mem.remap s.ctl (s.ctl.put (R.MC_STAT_TRAIN_STEP m) (s.ctl.get (R.MC_STAT_TRAIN_STEP m) + 1)) })) ∧
  (∀ (m : Nat) (pass : Bool) (s : State), taken (.trainStepDone m pass) s →
    s.ctl.get (R.MC_STAT_STATE m) = mcTrain → (s.ctl.mcSt m).failAt = 0 →
    s.ctl.is (R.MC_STAT_RATE_PENDING m) = false → pass = true → 7 ≤ s.ctl.get (R.MC_STAT_TRAIN_STEP m) →
    exec (.trainStepDone m pass) s = .next (bar2Collect
        { s with ctl := (((s.ctl.mcGo m mcService).put (R.MC_CTRL_RETRAIN m) 0).irq (pgMillrace m) 2).mcMod m (fun u => { u with first := false }), mem := s.mem.remap s.ctl ((((s.ctl.mcGo m mcService).put (R.MC_CTRL_RETRAIN m) 0).irq (pgMillrace m) 2).mcMod m (fun u => { u with first := false })) })) ∧
  (∀ (m : Nat) (pass : Bool) (s : State), taken (.trainStepDone m pass) s →
    s.ctl.get (R.MC_STAT_STATE m) = mcTrain → (s.ctl.mcSt m).failAt = 0 →
    s.ctl.is (R.MC_STAT_RATE_PENDING m) = true →
    exec (.trainStepDone m pass) s = .next (bar2Collect
        { s with ctl := ((s.ctl.mcApplyRate m).put (R.MC_STAT_TRAIN_STEP m) 1).irq (pgMillrace m) 4, mem := s.mem.remap s.ctl (((s.ctl.mcApplyRate m).put (R.MC_STAT_TRAIN_STEP m) 1).irq (pgMillrace m) 4) })) ∧
  (∀ (m : Nat) (pass : Bool) (s : State), taken (.trainStepDone m pass) s →
    s.ctl.get (R.MC_STAT_STATE m) = mcSelfRefresh → (s.ctl.mcSt m).leaving = false →
    exec (.trainStepDone m pass) s = .next (bar2Collect { s with ctl := s.ctl, mem := s.mem.remap s.ctl (s.ctl) })) ∧
  (∀ (m : Nat) (pass : Bool) (s : State), taken (.trainStepDone m pass) s →
    s.ctl.get (R.MC_STAT_STATE m) = mcSelfRefresh → (s.ctl.mcSt m).leaving = true → pass = true →
    s.ctl.get (R.MC_STAT_TRAIN_STEP m) = 4 →
    exec (.trainStepDone m pass) s = .next (bar2Collect
        { s with ctl := s.ctl.put (R.MC_STAT_TRAIN_STEP m) 5, mem := s.mem.remap s.ctl (s.ctl.put (R.MC_STAT_TRAIN_STEP m) 5) })) ∧
  (∀ (m : Nat) (pass : Bool) (s : State), taken (.trainStepDone m pass) s →
    s.ctl.get (R.MC_STAT_STATE m) = mcSelfRefresh → (s.ctl.mcSt m).leaving = true → pass = true →
    s.ctl.get (R.MC_STAT_TRAIN_STEP m) = 5 →
    exec (.trainStepDone m pass) s = .next (bar2Collect
        { s with ctl := (s.ctl.mcMod m (fun u => { u with leaving := false })).mcGo m mcService, mem := s.mem.remap s.ctl ((s.ctl.mcMod m (fun u => { u with leaving := false })).mcGo m mcService) })) ∧
  (∀ (m : Nat) (s : State), taken (.trainRetry m) s →
    s.ctl.get (R.MC_STAT_STATE m) = mcTrain → s.ctl.is (R.MC_STAT_RATE_PENDING m) = false →
    (s.ctl.mcSt m).failAt ≠ 0 → msTicks 10 ≤ s.ctl.sinceT ((s.ctl.mcSt m).failAt - 1) →
    exec (.trainRetry m) s = .next { s with ctl := (s.ctl.mcMod m (fun u => { u with failAt := 0 })).mcTrainAt m 2 }) ∧
  (∀ (m : Nat) (s : State), taken (.mcRetrain m) s → s.ctl.access (R.MC_CTRL m) = .ok → s.ctl.mustWait (R.MC_CTRL m) =
    false →
    s.ctl.is (R.MC_CTRL_RETRAIN m) = false → s.ctl.get (R.MC_STAT_STATE m) = mcService → s.ctl.rtReach = true →
    exec (.mcRetrain m) s = .next (bar2Collect
        { s with ctl := s.ctl.put (R.MC_STAT_RETRAIN_REFUSED m) 1, mem := s.mem.remap s.ctl (s.ctl.put (R.MC_STAT_RETRAIN_REFUSED m) 1) })) ∧
  (∀ (m : Nat) (s : State), taken (.mcRetrain m) s → s.ctl.access (R.MC_CTRL m) = .ok → s.ctl.mustWait (R.MC_CTRL m) =
    false →
    s.ctl.is (R.MC_CTRL_RETRAIN m) = false → s.ctl.get (R.MC_STAT_STATE m) = mcService →
    s.ctl.rtReach = false →
    exec (.mcRetrain m) s = .next (bar2Collect
        { s with ctl := (s.ctl.put (R.MC_CTRL_RETRAIN m) 1).mcTrainAt m 1, mem := s.mem.remap s.ctl ((s.ctl.put (R.MC_CTRL_RETRAIN m) 1).mcTrainAt m 1) })) ∧
  (∀ (m : Nat) (s : State), taken (.mcRetrain m) s → s.ctl.access (R.MC_CTRL m) = .ok → s.ctl.mustWait (R.MC_CTRL m) =
    false →
    s.ctl.is (R.MC_CTRL_RETRAIN m) = false → s.ctl.get (R.MC_STAT_STATE m) = mcFault →
    exec (.mcRetrain m) s = .next (bar2Collect
        { s with ctl := (s.ctl.put (R.MC_CTRL_RETRAIN m) 1).mcGo m mcInit, mem := s.mem.remap s.ctl ((s.ctl.put (R.MC_CTRL_RETRAIN m) 1).mcGo m mcInit) })) ∧
  (∀ (m who a len : Nat) (bulk : Bool) (s : State) (n : Nat), taken (.rtRead m who a len bulk) s →
    s.ctl.inService m = true → bulk = false → s.ctl.parts a (min len (128 - a % 128)) = [(m, a, n)] →
    exec (.rtRead m who a len bulk) s = .next { s with
        ctl := s.ctl.mcMod m (fun u =>
            { u with reads := u.reads ++ [{ cls := 0, who := who, addr := a, len := n, at_ := s.ctl.now }] }) }) ∧
  (∀ (m who a len : Nat) (bulk : Bool) (s : State) (n : Nat), taken (.rtRead m who a len bulk) s →
    s.ctl.inService m = true → bulk = true → s.ctl.parts a len = [(m, a, n)] →
    exec (.rtRead m who a len bulk) s = .next { s with
        ctl := s.ctl.mcMod m (fun u =>
            { u with reads := u.reads ++ [{ cls := 1, who := who, addr := a, len := n, at_ := s.ctl.now }], bulkFrom := if u.reads.all (fun q => q.cls != 1) then s.ctl.now else u.bulkFrom })
            }) ∧
  (∀ (m rank idx : Nat) (s : State), taken (.refreshDue m rank idx) s →
    s.ctl.allBank m = false → tget? (s.ctl.mcSt m).dueAt (rank * 4 + idx) = none →
    4 ≤ tget (s.ctl.mcSt m).debt (rank * 4 + idx) 0 →
    exec (.refreshDue m rank idx) s = .next { s with
        ctl := (((s.ctl.mcMod m (fun u => { u with dueAt := tput u.dueAt (rank * 4 + idx) s.ctl.now })).debtBy m rank
            idx id).inc (R.MC_REFRESH_FORCED m)).irq (pgMillrace m) 5 }) ∧
  (∀ (m rank idx : Nat) (s : State), taken (.refreshDue m rank idx) s →
    s.ctl.allBank m = false → tget? (s.ctl.mcSt m).dueAt (rank * 4 + idx) = none →
    s.ctl.rtOnIndex m rank idx = true → tget (s.ctl.mcSt m).debt (rank * 4 + idx) 0 < 4 →
    exec (.refreshDue m rank idx) s = .next { s with
        ctl := (s.ctl.mcMod m (fun u => { u with dueAt := tput u.dueAt (rank * 4 + idx) s.ctl.now })).debtBy m rank
            idx (· + 1) }) ∧
  (∀ (m rank idx : Nat) (s : State), taken (.refreshDue m rank idx) s →
    s.ctl.allBank m = false → tget? (s.ctl.mcSt m).dueAt (rank * 4 + idx) = none →
    tget (s.ctl.mcSt m).debt (rank * 4 + idx) 0 < 4 → s.ctl.rtOnIndex m rank idx = false →
    exec (.refreshDue m rank idx) s = .next { s with
        ctl := s.ctl.mcMod m (fun u => { u with dueAt := tput u.dueAt (rank * 4 + idx) s.ctl.now }) }) ∧
  (∀ (m rank idx : Nat) (s : State) (t : Nat), taken (.refreshDue m rank idx) s →
    s.ctl.allBank m = false → tget? (s.ctl.mcSt m).dueAt (rank * 4 + idx) = some t →
    s.ctl.sinceT t < s.ctl.refInterval m →
    exec (.refreshDue m rank idx) s = .next { s with ctl := s.ctl }) ∧
  (∀ (m rank idx : Nat) (s : State), taken (.refreshRepay m rank idx) s →
    s.ctl.allBank m = false → tget (s.ctl.mcSt m).debt (rank * 4 + idx) 0 ≠ 0 →
    s.ctl.rtOnIndex m rank idx = false →
    exec (.refreshRepay m rank idx) s = .next { s with ctl := s.ctl.debtBy m rank idx (· - 1) }) ∧
  (∀ (m : Nat) (s : State) (b : Nat × Nat) (l : List (Nat × Nat)), taken (.nrr m) s →
    (s.ctl.mcSt m).nrrDue = b :: l →
    (s.ctl.mcSt m).reads.any (fun r => r.cls != 2 && s.ctl.readAt m r == some b) = false →
    exec (.nrr m) s = .next { s with
        ctl := (s.ctl.inc (R.MC_CNT0_NRR m)).mcMod m (fun u => { u with nrrDue := l, rows := tdel u.rows b.1 }) }) ∧
  (∀ (m : Nat) (degC : Int) (s : State), taken (.dramTempRead m degC) s →
    exec (.dramTempRead m degC) s = .next { s with ctl := s.ctl.flag (R.MC_STAT_HOT m) (decide (85 < degC)) }) ∧
  (∀ (m : Nat) (s : State), taken (.periodicCalibration m) s →
    exec (.periodicCalibration m) s = .next { s with ctl := s.ctl }) ∧
  (∀ (m bank : Nat) (s : State) (z : Nat × Nat), taken (.rowClose m bank) s →
    tget? (s.ctl.mcSt m).rows bank = some z → (s.ctl.mcSt m).reads = [] → s.mem.wq m = [] →
    s.ctl.get (R.MC_CTRL_PAGE_IDLE m) ≤ (s.ctl.sinceT z.2 + 1) * s.ctl.mcClocks m →
    exec (.rowClose m bank) s = .next { s with ctl := s.ctl.mcMod m (fun u => { u with rows := tdel u.rows bank }) }) ∧
  (∀ (m bank : Nat) (s : State) (z : Nat × Nat), taken (.rowClose m bank) s →
    tget? (s.ctl.mcSt m).rows bank = some z → (s.ctl.mcSt m).reads = [] → s.mem.wq m = [] →
    (s.ctl.sinceT z.2 + 1) * s.ctl.mcClocks m < s.ctl.get (R.MC_CTRL_PAGE_IDLE m) →
    exec (.rowClose m bank) s = .next { s with ctl := s.ctl }) ∧
  (∀ (m a : Nat) (errs : List SymbolError) (s : State), taken (.bulkRead m a errs) s →
    s.ctl.inService m = true → s.ctl.bulkOpen m = false →
    exec (.bulkRead m a errs) s = .next (keepQueue (fun _ => bar2Collect
        { s with ctl := s.ctl.mcMod m (fun u => { u with reads := u.reads ++ [{ cls := 2, who := 0, addr := a, len := 128, at_ := s.ctl.now, errs := errs }] }) })
        s)) ∧
  (∀ (m : Nat) (errs : List SymbolError) (s : State), taken (.writeBatch ⟨m, errs⟩) s →
    s.ctl.inService m = true → s.mem.wq m ≠ [] → (s.ctl.mcSt m).reads.any (fun r => r.cls != 2) = true →
    exec (.writeBatch ⟨m, errs⟩) s = .next (keepQueue (fun _ => bar2Collect { s with ctl := s.ctl }) s)) ∧
  (∀ (m rate : Nat) (s : State), taken (.mcRateWrite m rate) s → s.ctl.access (R.MC_CTRL m) = .ok → s.ctl.mustWait
    (R.MC_CTRL m) = false →
    s.ctl.get (R.MC_STAT_STATE m) = mcOff →
    exec (.mcRateWrite m rate) s = .next { s with ctl := s.ctl.put (R.MC_CTRL_RATE m) rate })

/-- What commands of the host port do, case by case. The next state of each command, written out, for the conditions
named. Rules: R22, R479, R475, R473, R472, R474, R518, R519, R495, R496. -/
def Obligations.HostCommandEffects : Prop :=
  (∀ (w : Word) (s : State), taken (.bar2WinWrite w) s → s.ctl.access R.GLOBAL_BAR2_WIN_LO = .ok → s.ctl.mustWait
    R.GLOBAL_BAR2_WIN_LO = false →
    tget? s.ctl.host.stagedHi R.GLOBAL_BAR2_WIN_HI = none →
    exec (.bar2WinWrite w) s = .next { s with
        ctl := (s.ctl.put R.GLOBAL_BAR2_WIN_LO_BASE (slice w.toNat 20 12)).modHost (fun h =>
            { h with stagedHi := tdel h.stagedHi R.GLOBAL_BAR2_WIN_HI }) }) ∧
  (∀ (w : Word) (s : State) (hi : Word), taken (.bar2WinWrite w) s → s.ctl.access R.GLOBAL_BAR2_WIN_LO = .ok →
    s.ctl.mustWait R.GLOBAL_BAR2_WIN_LO = false →
    tget? s.ctl.host.stagedHi R.GLOBAL_BAR2_WIN_HI = some hi →
    exec (.bar2WinWrite w) s = .next { s with
        ctl := ((s.ctl.put R.GLOBAL_BAR2_WIN_HI_BASE hi.toNat).put R.GLOBAL_BAR2_WIN_LO_BASE (slice w.toNat 20
            12)).modHost (fun h => { h with stagedHi := tdel h.stagedHi R.GLOBAL_BAR2_WIN_HI }) }) ∧
  (∀ (off : Nat) (en : List Bool) (s : State), taken (.bar2Read off en) s →
    exec (.bar2Read off en) s = .next (keepQueue (fun _ => bar2Ready
        { s with mem := { s.mem with bar2Reads := s.mem.bar2Reads ++ [{ off := off, addr := s.ctl.bar2Base + off, en := en, left := s.mem.bar2.length, id := s.mem.bar2Next }], bar2Next := s.mem.bar2Next + 1 } })
        s)) ∧
  (∀ (s : State), taken .flr s →
    exec .flr s = .next { s with ctl := (portReset s.ctl).modHost (fun h => { h with flrWait := h.flrWait + 1 }) }) ∧
  (∀ (s : State), taken .linkDown s →
    exec .linkDown s = .next { s with
        ctl := (portReset s.ctl).modHost (fun h => { h with downWait := h.downWait + 1 }) }) ∧
  (∀ (q : CfgReq) (s : State), taken (.configRequest q) s →
    s.ctl.is R.GLOBAL_START_STAT_BOOT_DONE = false →
    exec (.configRequest q) s = .next { s with ctl := s.ctl.send .retry }) ∧
  (∀ (q : CfgReq) (s : State) (r : CfgReg), taken (.configRequest q) s →
    s.ctl.is R.GLOBAL_START_STAT_BOOT_DONE = true → q = .read r →
    exec (.configRequest q) s = .next { s with ctl := s.ctl.send (.completion (s.ctl.cfgRead r) false) }) ∧
  (∀ (q : CfgReq) (s : State) (two : Bool) (b : Nat), taken (.configRequest q) s →
    s.ctl.is R.GLOBAL_START_STAT_BOOT_DONE = true → q = .bar two b →
    exec (.configRequest q) s = .next { s with
        ctl := (s.ctl.modHost (fun h => if two then { h with bar2 := b } else { h with bar0 := b })).send (.completion
            [] false) }) ∧
  (∀ (v : Nat) (s : State), taken (.msixMessage v) s →
    s.ctl.host.msgs.contains v = true → s.ctl.host.msixOn = true →
    exec (.msixMessage v) s = .next { s with
        ctl := ({ s.ctl with host := { s.ctl.host with msgs := s.ctl.host.msgs.erase v } } : Ctl).decideMsg v }) ∧
  (∀ (on mask : Bool) (s : State), taken (.msixEnable on mask) s →
    s.ctl.is R.GLOBAL_START_STAT_BOOT_DONE = false →
    exec (.msixEnable on mask) s = .next { s with ctl := s.ctl.send .retry }) ∧
  (∀ (on mask : Bool) (s : State), taken (.msixEnable on mask) s →
    s.ctl.is R.GLOBAL_START_STAT_BOOT_DONE = true → on = false →
    exec (.msixEnable on mask) s = .next { s with
        ctl := { s.ctl with host := { s.ctl.host with msixOn := on, fnMask := mask, msgs := [] } } }) ∧
  (∀ (t2 p clk : Nat) (ok : Bool) (s : State) (t1 : Nat), taken (.ptmResponse t2 p clk ok) s →
    s.ctl.host.ptmBusy = some t1 → ok = false →
    exec (.ptmResponse t2 p clk ok) s = .next { s with ctl := ptmFailed s.ctl }) ∧
  (∀ (s : State), taken .smbAlertResponse s →
    s.ctl.smbAlert = true →
    exec .smbAlertResponse s = .next { s with
        ctl := s.ctl.modHost (fun h => { h with smbResp := leBytes 1 (2 * (0x58 + s.ctl.host.smbAddr % 4)) }) }) ∧
  (∀ (s : State), taken .smbAlertResponse s →
    s.ctl.smbAlert = false →
    exec .smbAlertResponse s = .next { s with ctl := s.ctl.modHost (fun h => { h with smbResp := [] }) })

/-- What commands of the sluice and the recorder do, case by case. The next state of each command, written out, for
the conditions named. Rules: R520, R506, R501, R511, R515, R516, R589, R590, R587, R598, R603. -/
def Obligations.SluiceRecorderCommandEffects : Prop :=
  (∀ (en : Bool) (s : State), taken (.sluiceEnable en) s → s.ctl.access (R.BLK_CTRL pgSluice) = .ok → s.ctl.mustWait
    (R.BLK_CTRL pgSluice) = false →
    s.ctl.enabled pgSluice = true → en = false →
    exec (.sluiceEnable en) s = .next { s with
        ctl := ({ s.ctl.flag (R.BLK_CTRL_ENABLE pgSluice) false with slu := {} } : Ctl).setActive pgSluice false }) ∧
  (∀ (src : Nat) (s : State), taken (.swPendSet src) s → s.ctl.access R.SLUICE_SW_PEND = .ok → s.ctl.mustWait
    R.SLUICE_SW_PEND = false →
    s.ctl.sluOn = true → s.ctl.srcExists src = true → s.ctl.srcMode src = 0 →
    exec (.swPendSet src) s = .next { s with
        ctl := ((s.ctl.sluMod (fun t => { t with latch := setMask t.latch src true })).sampleLevel src).sluEval }) ∧
  (∀ (src : Nat) (s : State), taken (.swPendSet src) s → s.ctl.access R.SLUICE_SW_PEND = .ok → s.ctl.mustWait
    R.SLUICE_SW_PEND = false →
    s.ctl.sluOn = true → s.ctl.srcExists src = true → s.ctl.srcMode src ≠ 0 →
    exec (.swPendSet src) s = .next { s with ctl := (s.ctl.countEdge src).sluEval }) ∧
  (∀ (src : Nat) (s : State), taken (.swPendSet src) s → s.ctl.access R.SLUICE_SW_PEND = .ok → s.ctl.mustWait
    R.SLUICE_SW_PEND = false →
    s.ctl.srcExists src = false →
    exec (.swPendSet src) s = .next { s with ctl := s.ctl }) ∧
  (∀ (src : Nat) (s : State), taken (.swPendClear src) s → s.ctl.access R.SLUICE_SW_PEND = .ok → s.ctl.mustWait
    R.SLUICE_SW_PEND = false →
    exec (.swPendClear src) s = .next { s with
        ctl := s.ctl.sluMod (fun t => { t with latch := setMask t.latch src false }) }) ∧
  (∀ (x src : Nat) (s : State) (p : Nat) (l : List (Nat × Nat)), taken (.ctxComplete x src) s → s.ctl.access
    (R.SLUICE_CTX_COMPLETE x) = .ok → s.ctl.mustWait (R.SLUICE_CTX_COMPLETE x) = false →
    s.ctl.sluOn = true → s.ctl.stack x = (src, p) :: l →
    exec (.ctxComplete x src) s = .next { s with
        ctl := (((s.ctl.sluMod (fun u => { u with claims := tput u.claims x l })).releaseSource src).armCtx x).sluEval
            }) ∧
  (∀ (x src : Nat) (s : State) (q p : Nat) (l : List (Nat × Nat)), taken (.ctxComplete x src) s → s.ctl.access
    (R.SLUICE_CTX_COMPLETE x) = .ok → s.ctl.mustWait (R.SLUICE_CTX_COMPLETE x) = false →
    s.ctl.sluOn = true → s.ctl.stack x = (q, p) :: l → q ≠ src →
    exec (.ctxComplete x src) s = .next { s with ctl := s.ctl.sluErr 1 x src }) ∧
  (∀ (x src : Nat) (s : State), taken (.ctxComplete x src) s → s.ctl.access (R.SLUICE_CTX_COMPLETE x) = .ok →
    s.ctl.mustWait (R.SLUICE_CTX_COMPLETE x) = false →
    s.ctl.sluOn = true → s.ctl.stack x = [] →
    exec (.ctxComplete x src) s = .next { s with ctl := s.ctl.sluErr 2 x src }) ∧
  (∀ (x t : Nat) (s : State), taken (.ctxThreshWrite x t) s → s.ctl.access (R.SLUICE_CTX_THRESH x) = .ok →
    s.ctl.mustWait (R.SLUICE_CTX_THRESH x) = false →
    s.ctl.activePage pgSluice = false → (s.ctl.put (R.SLUICE_CTX_THRESH_THRESHOLD x) t).sluOn = false →
    exec (.ctxThreshWrite x t) s = .next { s with ctl := s.ctl.put (R.SLUICE_CTX_THRESH_THRESHOLD x) t }) ∧
  (∀ (g mask : Nat) (s : State), taken (.scanAck g mask) s → s.ctl.access (R.SLUICE_SCAN_ACK g) = .ok → s.ctl.mustWait
    (R.SLUICE_SCAN_ACK g) = false →
    s.ctl.sluOn = true → mask = 0 →
    exec (.scanAck g mask) s = .next { s with
        ctl := (s.ctl.sluMod (fun t => { t with armedGrp := setMask t.armedGrp g true })).sluEval }) ∧
  (∀ (v : Nat) (s : State) (p q : Nat), taken (.coalesceRelease v) s →
    s.ctl.host.msixOn = true → tget? s.ctl.slu.held v = some (p, q) → s.ctl.get (R.SLUICE_COAL_COUNT v) ≤ p →
    exec (.coalesceRelease v) s = .next { s with ctl := s.ctl.passMsg v }) ∧
  (∀ (on : Bool) (s : State), taken (.freeze on) s → s.ctl.access (R.BLK_CTRL pgRecorder) = .ok → s.ctl.mustWait
    (R.BLK_CTRL pgRecorder) = false →
    on = true → s.ctl.rc.frozen = none →
    exec (.freeze on) s = .next { s with
        ctl :=
            ({ s.ctl with rc := { s.ctl.rc with frozen := some ⟨s.ctl.now, [s.ctl.rc.layer, s.ctl.rc.last, s.ctl.rc.build, s.ctl.rc.life]⟩ } }
            : Ctl).put R.REC_STAT_FROZEN 1 }) ∧
  (∀ (on : Bool) (s : State) (z : Frozen), taken (.freeze on) s → s.ctl.access (R.BLK_CTRL pgRecorder) = .ok →
    s.ctl.mustWait (R.BLK_CTRL pgRecorder) = false →
    on = true → s.ctl.rc.frozen = some z →
    exec (.freeze on) s = .next { s with ctl := s.ctl }) ∧
  (∀ (on : Bool) (s : State), taken (.freeze on) s → s.ctl.access (R.BLK_CTRL pgRecorder) = .ok → s.ctl.mustWait
    (R.BLK_CTRL pgRecorder) = false →
    on = false →
    exec (.freeze on) s = .next { s with
        ctl := ({ s.ctl with rc := { s.ctl.rc with frozen := none } } : Ctl).put R.REC_STAT_FROZEN 0 }) ∧
  (∀ (s : State) (z : Frozen), taken .freezeExpired s →
    s.ctl.rc.frozen = some z → 200000 ≤ s.ctl.sinceT z.at_ →
    exec .freezeExpired s = .next { s with
        ctl := (((({ s.ctl with rc := { s.ctl.rc with frozen := none } } : Ctl).put R.REC_STAT_FROZEN 0).put
            R.REC_STAT_FREEZE_EXPIRED 1).irq pgRecorder 3).event pgRecorder 0x19 0xFF 0 0 0 [] }) ∧
  (∀ (k : Nat) (w : Word) (s : State), taken (.recMwWrite k w) s → s.ctl.access (R.REC_MW k) = .ok → s.ctl.mustWait
    (R.REC_MW k) = false →
    w = 0 →
    exec (.recMwWrite k w) s = .next { s with ctl := (s.ctl.put R.REC_STAT_CFG_ERR 1).irq pgRecorder 5 }) ∧
  (∀ (k : Nat) (w : Word) (s : State), taken (.recMwWrite k w) s → s.ctl.access (R.REC_MW k) = .ok → s.ctl.mustWait
    (R.REC_MW k) = false →
    w ≠ 0 →
    exec (.recMwWrite k w) s = .next { s with ctl := s.ctl.setReg (R.REC_MW k) w.toNat }) ∧
  (∀ (s : State), taken .nvTokenRefill s →
    exec .nvTokenRefill s = .next { s with ctl := s.ctl.put R.REC_NV_TOKENS (min (s.ctl.get R.REC_NV_TOKENS + 1) 64) }) ∧
  (∀ (o : NvOutcome) (s : State) (r : Rec) (l : List Rec), taken (.nvWrite o) s →
    s.ctl.rc.nvQueue = r :: l → r.typ = 1 → r.code ≠ 0x01 → r.code ≠ 0x02 → s.ctl.get R.REC_NV_TOKENS = 0 →
    exec (.nvWrite o) s = .next { s with
        ctl := (({ s.ctl with rc := { s.ctl.rc with nvQueue := l } } : Ctl).inc R.REC_NV_SUPPRESSED).irq pgRecorder 6
            }) ∧
  (∀ (s : State), taken .wearIntervalEnd s →
    s.ctl.sinceT s.ctl.rc.wearFrom < 8 * 72000000000 →
    exec .wearIntervalEnd s = .next { s with ctl := s.ctl })

/-- What commands of bed lighting and general inputs, encoders and axes do, case by case. The next state of each
command, written out, for the conditions named. Rules: R565, R569, R573, R20, R527, R526, R522, R537, R552, R547,
R544, R543, R525. -/
def Obligations.LightAxesCommandEffects : Prop :=
  (∀ (s : State), taken .swap s → s.ctl.access R.LIGHT_CMD = .ok → s.ctl.mustWait R.LIGHT_CMD = false →
    exec .swap s = .next { s with ctl := s.ctl.put R.LIGHT_STAT_SWAP_PENDING 1 }) ∧
  (∀ (s : State), taken .patClear s → s.ctl.access R.LIGHT_CMD = .ok → s.ctl.mustWait R.LIGHT_CMD = false →
    exec .patClear s = .next { s with ctl := s.ctl.liMod (fun u => { u with recovery := false }) }) ∧
  (∀ (s : State), taken .shortTest s → s.ctl.access R.LIGHT_CMD = .ok → s.ctl.mustWait R.LIGHT_CMD = false →
    s.ctl.is R.LIGHT_CMD_SHORT_TEST = false → s.ctl.light.shortSlot = false →
    exec .shortTest s = .next { s with
        ctl := (s.ctl.put R.LIGHT_CMD_SHORT_TEST 1).liMod (fun u => { u with shortDue := true }) }) ∧
  (∀ (s : State), taken .shortTest s → s.ctl.access R.LIGHT_CMD = .ok → s.ctl.mustWait R.LIGHT_CMD = false →
    s.ctl.is R.LIGHT_CMD_SHORT_TEST = true →
    exec .shortTest s = .next { s with ctl := s.ctl }) ∧
  (∀ (e : Nat) (s : State), taken (.encZEdge e) s →
    exec (.encZEdge e) s = .next { s with
        ctl := ((s.ctl.setReg (R.ENC_ZLATCH e) (s.ctl.reg (R.ENC_COUNT e))).put (R.ENC_STAT_Z_SEEN e) 1).encMod e (fun
            u => { u with z := true }) }) ∧
  (∀ (e : Nat) (w : Word) (s : State), taken (.encSet e w) s → s.ctl.access (R.ENC_SET e) = .ok → s.ctl.mustWait
    (R.ENC_SET e) = false →
    (upto 8).any (fun a => s.ctl.axState a == axGeared && s.ctl.is (R.AX_CTRL_ENC_EN a) && s.ctl.get
        (R.AX_CTRL_ENC_SEL a) == e) = true →
    exec (.encSet e w) s = .next { s with ctl := s.ctl.put (R.ENC_STAT_SET_REFUSED e) 1 }) ∧
  (∀ (e : Nat) (w : Word) (s : State), taken (.encSet e w) s → s.ctl.access (R.ENC_SET e) = .ok → s.ctl.mustWait
    (R.ENC_SET e) = false →
    (upto 8).any (fun a => s.ctl.axState a == axGeared && s.ctl.is (R.AX_CTRL_ENC_EN a) && s.ctl.get
        (R.AX_CTRL_ENC_SEL a) == e) = false →
    exec (.encSet e w) s = .next { s with ctl := s.ctl.setReg (R.ENC_COUNT e) w.toNat }) ∧
  (∀ (k : Nat) (on : Bool) (s : State), taken (.gpiChange k on) s →
    exec (.gpiChange k on) s = .next { s with
        ctl := (s.ctl.put ⟨R.GPI_STATE, k, 1⟩ (b2n on)).put ⟨R.GPI_RAW, k, 1⟩ (b2n on) }) ∧
  (∀ (a : Nat) (s : State), taken (.moveAbs a) s → s.ctl.access (R.AX_CMD a) = .ok → s.ctl.mustWait (R.AX_CMD a) = false →
    (s.ctl.axBoundary a).axState a = axDisabled →
    exec (.moveAbs a) s = .next { s with ctl := (s.ctl.axBoundary a).axRefuse a 1 }) ∧
  (∀ (a : Nat) (s : State), taken (.moveRel a) s → s.ctl.access (R.AX_CMD a) = .ok → s.ctl.mustWait (R.AX_CMD a) = false →
    (s.ctl.axBoundary a).axState a = axDisabled →
    exec (.moveRel a) s = .next { s with ctl := (s.ctl.axBoundary a).axRefuse a 1 }) ∧
  (∀ (a : Nat) (s : State), taken (.velocity a) s → s.ctl.access (R.AX_CMD a) = .ok → s.ctl.mustWait (R.AX_CMD a) =
    false →
    (s.ctl.axBoundary a).axState a = axDisabled →
    exec (.velocity a) s = .next { s with ctl := (s.ctl.axBoundary a).axRefuse a 1 }) ∧
  (∀ (a : Nat) (s : State), taken (.stop a) s → s.ctl.access (R.AX_CMD a) = .ok → s.ctl.mustWait (R.AX_CMD a) = false →
    (s.ctl.axBoundary a).axState a = axDisabled →
    exec (.stop a) s = .next { s with ctl := (s.ctl.axBoundary a).axRefuse a 1 }) ∧
  (∀ (a : Nat) (s : State), taken (.qstop a) s → s.ctl.access (R.AX_CMD a) = .ok → s.ctl.mustWait (R.AX_CMD a) = false →
    (s.ctl.axBoundary a).axState a = axDisabled →
    exec (.qstop a) s = .next { s with ctl := (s.ctl.axBoundary a).axRefuse a 1 }) ∧
  (∀ (a : Nat) (s : State), taken (.home a) s → s.ctl.access (R.AX_CMD a) = .ok → s.ctl.mustWait (R.AX_CMD a) = false →
    (s.ctl.axBoundary a).axState a = axDisabled →
    exec (.home a) s = .next { s with ctl := (s.ctl.axBoundary a).axRefuse a 1 }) ∧
  (∀ (a : Nat) (s : State), taken (.gear a) s → s.ctl.access (R.AX_CMD a) = .ok → s.ctl.mustWait (R.AX_CMD a) = false →
    (s.ctl.axBoundary a).axState a = axDisabled →
    exec (.gear a) s = .next { s with ctl := (s.ctl.axBoundary a).axRefuse a 1 }) ∧
  (∀ (a : Nat) (s : State), taken (.setPos a) s → s.ctl.access (R.AX_CMD a) = .ok → s.ctl.mustWait (R.AX_CMD a) = false →
    (s.ctl.axBoundary a).axState a = axDisabled →
    exec (.setPos a) s = .next { s with ctl := (s.ctl.axBoundary a).axRefuse a 1 }) ∧
  (∀ (a : Nat) (s : State), taken (.armRatio a) s → s.ctl.access (R.AX_CMD a) = .ok → s.ctl.mustWait (R.AX_CMD a) =
    false →
    (s.ctl.axBoundary a).axState a = axDisabled →
    exec (.armRatio a) s = .next { s with ctl := (s.ctl.axBoundary a).axRefuse a 1 }) ∧
  (∀ (a : Nat) (s : State), taken (.disarm a) s → s.ctl.access (R.AX_CMD a) = .ok → s.ctl.mustWait (R.AX_CMD a) = false →
    (s.ctl.axBoundary a).axState a = axDisabled →
    exec (.disarm a) s = .next { s with ctl := (s.ctl.axBoundary a).axRefuse a 1 }) ∧
  (∀ (a op : Nat) (s : State), taken (.axCmdUnassigned a op) s → s.ctl.access (R.AX_CMD a) = .ok → s.ctl.mustWait
    (R.AX_CMD a) = false →
    (op = 0 ∨ 0xA < op) → (s.ctl.axBoundary a).axState a ≠ axDisabled →
    exec (.axCmdUnassigned a op) s = .next { s with ctl := (s.ctl.axBoundary a).axRefuse a 9 }) ∧
  (∀ (a : Nat) (s : State), taken (.moveAbs a) s → s.ctl.access (R.AX_CMD a) = .ok → s.ctl.mustWait (R.AX_CMD a) = false →
    (s.ctl.axBoundary a).axState a ≠ axDisabled → (s.ctl.axBoundary a).is (R.AX_STAT_POS_LOST a) = true →
    exec (.moveAbs a) s = .next { s with ctl := (s.ctl.axBoundary a).axRefuse a 2 }) ∧
  (∀ (a : Nat) (s : State), taken (.moveAbs a) s → s.ctl.access (R.AX_CMD a) = .ok → s.ctl.mustWait (R.AX_CMD a) = false →
    (s.ctl.axBoundary a).axState a ≠ axDisabled → (s.ctl.axBoundary a).is (R.AX_STAT_POS_LOST a) = false →
    (s.ctl.axBoundary a).limTowards a ((s.ctl.axBoundary a).axTargetReg a - ((s.ctl.axBoundary a).axSt a).pos) = true →
    exec (.moveAbs a) s = .next { s with ctl := (s.ctl.axBoundary a).axRefuse a 3 }) ∧
  (∀ (a : Nat) (s : State), taken (.moveAbs a) s → s.ctl.access (R.AX_CMD a) = .ok → s.ctl.mustWait (R.AX_CMD a) = false →
    ((s.ctl.axBoundary a).axState a = axIdle ∨ (s.ctl.axBoundary a).axState a = axPosition ∨ (s.ctl.axBoundary
        a).axState a = axJog ∨ (s.ctl.axBoundary a).axState a = axStopping) →
    (s.ctl.axBoundary a).is (R.AX_STAT_POS_LOST a) = false →
    (s.ctl.axBoundary a).limTowards a ((s.ctl.axBoundary a).axTargetReg a - ((s.ctl.axBoundary a).axSt a).pos) = false →
    exec (.moveAbs a) s = .next { s with ctl := (s.ctl.axBoundary a).axMoveTo a ((s.ctl.axBoundary a).axTargetReg a) }) ∧
  (∀ (a : Nat) (s : State), taken (.velocity a) s → s.ctl.access (R.AX_CMD a) = .ok → s.ctl.mustWait (R.AX_CMD a) =
    false →
    ((s.ctl.axBoundary a).axState a = axIdle ∨ (s.ctl.axBoundary a).axState a = axPosition ∨ (s.ctl.axBoundary
        a).axState a = axJog ∨ (s.ctl.axBoundary a).axState a = axStopping) →
    (s.ctl.axBoundary a).limTowards a (sgn 32 ((s.ctl.axBoundary a).reg (R.AX_VJOG a))) = false →
    exec (.velocity a) s = .next { s with
        ctl := (((((s.ctl.axBoundary a).axLatch a).axGo a axJog).axReverse a (decide ((((s.ctl.axBoundary a).axLatch
            a).axSt a).v * (((s.ctl.axBoundary a).axLatch a).axSt a).vjog < 0))).axWake a).axShow a }) ∧
  (∀ (a : Nat) (s : State), taken (.stop a) s → s.ctl.access (R.AX_CMD a) = .ok → s.ctl.mustWait (R.AX_CMD a) = false →
    (s.ctl.axBoundary a).axState a ≠ axDisabled →
    exec (.stop a) s = .next { s with ctl := ((s.ctl.axBoundary a).axLatch a).axStop a false }) ∧
  (∀ (a : Nat) (s : State), taken (.qstop a) s → s.ctl.access (R.AX_CMD a) = .ok → s.ctl.mustWait (R.AX_CMD a) = false →
    (s.ctl.axBoundary a).axState a ≠ axDisabled →
    exec (.qstop a) s = .next { s with ctl := (s.ctl.axBoundary a).axFreeze a false }) ∧
  (∀ (a : Nat) (s : State), taken (.setPos a) s → s.ctl.access (R.AX_CMD a) = .ok → s.ctl.mustWait (R.AX_CMD a) = false →
    (s.ctl.axBoundary a).axState a = axIdle →
    exec (.setPos a) s = .next { s with
        ctl := (((s.ctl.axBoundary a).axMod a (fun u =>
            { u with p := (s.ctl.axBoundary a).axTargetReg a * (2 ^ 32 : Nat) })).put (R.AX_STAT_POS_LOST a) 0).axShow
            a }) ∧
  (∀ (a : Nat) (s : State), taken (.setPos a) s → s.ctl.access (R.AX_CMD a) = .ok → s.ctl.mustWait (R.AX_CMD a) = false →
    (s.ctl.axBoundary a).axState a ≠ axDisabled → (s.ctl.axBoundary a).axState a ≠ axIdle →
    exec (.setPos a) s = .next { s with ctl := (s.ctl.axBoundary a).axRefuse a 6 }) ∧
  (∀ (a : Nat) (s : State), taken (.armRatio a) s → s.ctl.access (R.AX_CMD a) = .ok → s.ctl.mustWait (R.AX_CMD a) =
    false →
    (s.ctl.axBoundary a).axState a ≠ axDisabled → (s.ctl.axBoundary a).reg (R.AX_GEAR_DEN2 a) = 0 →
    exec (.armRatio a) s = .next { s with ctl := (s.ctl.axBoundary a).axRefuse a 4 }) ∧
  (∀ (a : Nat) (s : State), taken (.armRatio a) s → s.ctl.access (R.AX_CMD a) = .ok → s.ctl.mustWait (R.AX_CMD a) =
    false →
    (s.ctl.axBoundary a).axState a ≠ axDisabled → (s.ctl.axBoundary a).reg (R.AX_GEAR_DEN2 a) ≠ 0 →
    exec (.armRatio a) s = .next { s with
        ctl := ((s.ctl.axBoundary a).axMod a (fun u =>
            { u with num2 := sgn 32 ((s.ctl.axBoundary a).reg (R.AX_GEAR_NUM2 a)), den2 := (s.ctl.axBoundary a).reg (R.AX_GEAR_DEN2 a), switchC := (s.ctl.axBoundary a).reg (R.AX_GEAR_SWITCH a) })).put
            (R.AX_STAT_RATIO_ARMED a) 1 }) ∧
  (∀ (a : Nat) (s : State), taken (.disarm a) s → s.ctl.access (R.AX_CMD a) = .ok → s.ctl.mustWait (R.AX_CMD a) = false →
    (s.ctl.axBoundary a).axState a ≠ axDisabled →
    exec (.disarm a) s = .next { s with ctl := (s.ctl.axBoundary a).put (R.AX_STAT_RATIO_ARMED a) 0 }) ∧
  (∀ (a : Nat) (s : State), taken (.gear a) s → s.ctl.access (R.AX_CMD a) = .ok → s.ctl.mustWait (R.AX_CMD a) = false →
    (s.ctl.axBoundary a).axState a = axIdle → (s.ctl.axBoundary a).is (R.AX_CTRL_ENC_EN a) = true →
    (s.ctl.axBoundary a).reg (R.AX_GEAR_DEN a) ≠ 0 →
    exec (.gear a) s = .next { s with
        ctl := ((((s.ctl.axBoundary a).axLatch a).axMod a (fun u =>
            { u with gearNum := sgn 32 ((s.ctl.axBoundary a).reg (R.AX_GEAR_NUM a)), gearDen := (s.ctl.axBoundary a).reg (R.AX_GEAR_DEN a), baseC := (s.ctl.axBoundary a).axCount a, lastC := (s.ctl.axBoundary a).axCount a, baseP := u.pos, followExc := false })).axGo
            a axGeared).axWake a }) ∧
  (∀ (a : Nat) (s : State), taken (.home a) s → s.ctl.access (R.AX_CMD a) = .ok → s.ctl.mustWait (R.AX_CMD a) = false →
    (s.ctl.axBoundary a).axState a ≠ axDisabled → (s.ctl.axBoundary a).axState a ≠ axIdle →
    exec (.home a) s = .next { s with ctl := (s.ctl.axBoundary a).axRefuse a 5 }) ∧
  (∀ (a : Nat) (s : State), taken (.standstill a) s →
    s.ctl.axState a = axIdle → s.ctl.get (R.AX_CUR_STILL_MS a) * 2000 ≤ (s.ctl.axSt a).rest →
    exec (.standstill a) s = .next { s with
        ctl := (s.ctl.put (R.AX_STAT_BRIDGE a) (if s.ctl.get (R.AX_CTRL_STANDSTILL a) = 0 then 0 else if s.ctl.get
            (R.AX_CTRL_STANDSTILL a) = 1 then 1 else 2)).axMod a (fun u => { u with still := true }) }) ∧
  (∀ (a : Nat) (s : State), taken (.wakeDone a) s →
    s.ctl.is (R.AX_STAT_WAKING a) = true → (s.ctl.axSt a).wake = 0 →
    exec (.wakeDone a) s = .next { s with ctl := s.ctl.put (R.AX_STAT_WAKING a) 0 }) ∧
  (∀ (e : Nat) (a b : Bool) (s : State), taken (.encoderEdge e a b) s →
    s.ctl.is (R.ENC_CFG_EN e) = false →
    exec (.encoderEdge e a b) s = .next { s with ctl := s.ctl.encMod e (fun u => { u with a := a, b := b }) })

/-- What commands of identity, flash and the Ngabenor record and trim do, case by case. The next state of each
command, written out, for the conditions named. Rules: R618, R617, R611, R623, R20, R639, R636. -/
def Obligations.IdentityTrimCommandEffects : Prop :=
  (∀ (s : State), taken .commitSvn s → s.ctl.access R.ID_CMD = .ok → s.ctl.mustWait R.ID_CMD = false →
    exec .commitSvn s = .next { s with
        ctl := ({ s.ctl with nv := { s.ctl.nv with svn := max s.ctl.nv.svn s.ctl.ident.runSvn } } : Ctl).put
            R.ID_STAT_STORED_SVN (max s.ctl.nv.svn s.ctl.ident.runSvn) }) ∧
  (∀ (s : State), taken .flashErase s → s.ctl.access R.ID_FLASH_CMD = .ok → s.ctl.mustWait R.ID_FLASH_CMD = false →
    s.ctl.ident.busy = 0 → s.ctl.flashRefused (s.ctl.reg R.ID_FLASH_ADDR) = true →
    exec .flashErase s = .next { s with ctl := s.ctl.irq pgIdentity 5 }) ∧
  (∀ (s : State), taken .flashErase s → s.ctl.access R.ID_FLASH_CMD = .ok → s.ctl.mustWait R.ID_FLASH_CMD = false →
    s.ctl.ident.busy = 0 → s.ctl.flashRefused (s.ctl.reg R.ID_FLASH_ADDR) = false →
    exec .flashErase s = .next { s with
        ctl := ((s.ctl.put R.ID_FLASH_CMD_ERASE 1).put R.ID_STAT_BUSY 1).idMod (fun u =>
            { u with busy := 2, cmdAddr := s.ctl.reg R.ID_FLASH_ADDR }) }) ∧
  (∀ (s : State), taken .flashProgram s → s.ctl.access R.ID_FLASH_CMD = .ok → s.ctl.mustWait R.ID_FLASH_CMD = false →
    s.ctl.ident.busy = 0 → s.ctl.flashRefused (s.ctl.reg R.ID_FLASH_ADDR) = true →
    exec .flashProgram s = .next { s with ctl := s.ctl.irq pgIdentity 5 }) ∧
  (∀ (s : State), taken .flashProgram s → s.ctl.access R.ID_FLASH_CMD = .ok → s.ctl.mustWait R.ID_FLASH_CMD = false →
    s.ctl.ident.busy = 0 → s.ctl.flashRefused (s.ctl.reg R.ID_FLASH_ADDR) = false →
    exec .flashProgram s = .next { s with
        ctl := ((s.ctl.put R.ID_FLASH_CMD_PROGRAM 1).put R.ID_STAT_BUSY 1).idMod (fun u =>
            { u with busy := 3, cmdAddr := s.ctl.reg R.ID_FLASH_ADDR, cmdObj := s.ctl.stagingObj }) }) ∧
  (∀ (s : State), taken .intErase s → s.ctl.access R.ID_CMD = .ok → s.ctl.mustWait R.ID_CMD = false →
    s.ctl.ident.busy = 0 → s.ctl.is R.REC_STAT_BUILD_OPEN = true →
    exec .intErase s = .next { s with ctl := s.ctl.intErr 4 }) ∧
  (∀ (s : State), taken .intErase s → s.ctl.access R.ID_CMD = .ok → s.ctl.mustWait R.ID_CMD = false →
    s.ctl.ident.busy = 0 → s.ctl.is R.REC_STAT_BUILD_OPEN = false →
    exec .intErase s = .next { s with
        ctl := ((s.ctl.put R.ID_CMD_INT_ERASE 1).put R.ID_STAT_BUSY 1).idMod (fun u => { u with busy := 4 }) }) ∧
  (∀ (s : State), taken .intInstall s → s.ctl.access R.ID_CMD = .ok → s.ctl.mustWait R.ID_CMD = false →
    s.ctl.ident.busy = 0 → (derLen s.ctl.stagingObj = 0 ∨ 2048 < derLen s.ctl.stagingObj) →
    exec .intInstall s = .next { s with ctl := s.ctl.intErr 3 }) ∧
  (∀ (w : Word) (s : State), taken (.ngEnable w) s → s.ctl.access R.NG_CTRL = .ok → s.ctl.mustWait R.NG_CTRL = false →
    s.ctl.is R.NG_CTRL_EN = false → bitOf w.toNat 31 = true → 12 ≤ slice w.toNat 0 5 → slice w.toNat 0 5 ≤ 30 →
    exec (.ngEnable w) s = .next { s with
        ctl := ((s.ctl.put R.NG_CTRL_SIZE_LOG2 (slice w.toNat 0 5)).put R.NG_CTRL_EN 1).put R.NG_WR_INDEX (((s.ctl.put
            R.NG_CTRL_SIZE_LOG2 (slice w.toNat 0 5)).get R.NG_RD_INDEX)) }) ∧
  (∀ (w : Word) (s : State), taken (.ngEnable w) s → s.ctl.access R.NG_CTRL = .ok → s.ctl.mustWait R.NG_CTRL = false →
    s.ctl.is R.NG_CTRL_EN = false → (slice w.toNat 0 5 < 12 ∨ 30 < slice w.toNat 0 5) →
    exec (.ngEnable w) s = .next { s with ctl := s.ctl.put R.NG_CTRL_SIZE_LOG2 (slice w.toNat 0 5) }) ∧
  (∀ (s : State) (z : TrimRun), taken .trimRun s → s.ctl.access R.TRIM_CMD = .ok → s.ctl.mustWait R.TRIM_CMD = false →
    s.ctl.trim.run = some z →
    exec .trimRun s = .next { s with ctl := s.ctl }) ∧
  (∀ (s : State), taken .apply s → s.ctl.access R.TRIM_CMD = .ok → s.ctl.mustWait R.TRIM_CMD = false →
    s.ctl.is R.TRIM_CMD_RUN = true →
    exec .apply s = .next { s with ctl := s.ctl }) ∧
  (∀ (ok : Bool) (s : State) (z : TrimRun), taken (.trimStoreDone ok) s →
    s.ctl.trim.run = some z → z.phase = 4 → ok = false → s.ctl.get R.TRIM_STAT_SLOT = 1 →
    exec (.trimStoreDone ok) s = .next { s with
        ctl := trimFail 9 0 { s.ctl with nv := { s.ctl.nv with trimB := [] } } })

/-- What commands of resets, power states, temperatures and rails do, case by case. The next state of each command,
written out, for the conditions named. Rules: R644, R668, R646, R645, R655, R664. -/
def Obligations.PowerCommandEffects : Prop :=
  (∀ (s : State), Instr.wellFormed .powerOnReset = true →
    exec .powerOnReset s = .next (fullReset 1 s)) ∧
  (∀ (s : State), Instr.wellFormed .brownOut = true →
    exec .brownOut s = .next (fullReset 3 s)) ∧
  (∀ (s : State), taken .chipReset s → s.ctl.access R.GLOBAL_RST_CMD = .ok → s.ctl.mustWait R.GLOBAL_RST_CMD = false →
    s.ctl.armed = true →
    exec .chipReset s = .next { s with ctl := s.ctl.flag R.GLOBAL_RST_STAT_CHIP_RESET_REFUSED true }) ∧
  (∀ (s : State), taken .chipReset s → s.ctl.access R.GLOBAL_RST_CMD = .ok → s.ctl.mustWait R.GLOBAL_RST_CMD = false →
    s.ctl.armed = false →
    exec .chipReset s = .next (fullReset 4 s)) ∧
  (∀ (s : State), taken .warmPerst s →
    s.ctl.is R.GLOBAL_RST_CTRL_PERST_FULL = false →
    exec .warmPerst s = .next { s with
        ctl := (portReset (s.ctl.inc R.GLOBAL_RST_STAT_WARM_PERST)).modHost (fun h =>
            { h with downWait := h.downWait + 1 }) }) ∧
  (∀ (s : State), taken .warmPerst s →
    s.ctl.is R.GLOBAL_RST_CTRL_PERST_FULL = true →
    exec .warmPerst s = .next (fullReset 2 s)) ∧
  (∀ (s : State), taken .powerStateExit s →
    s.ctl.armed = true →
    exec .powerStateExit s = .next { s with ctl := afterLanes s.ctl.lanesActive (powerExit s.ctl) }) ∧
  (∀ (s : State) (t : Nat), taken .dieShutdown s →
    s.ctl.pwr.critAt = some t → s.ctl.sinceT t < 400 →
    exec .dieShutdown s = .next (bar2Collect
        { s with ctl := afterLanes s.ctl.lanesActive (s.ctl), mem := s.mem.remap s.ctl (afterLanes s.ctl.lanesActive (s.ctl)) }))
end

