-- ==== Sys2Proof/Laws/Mem.lean ====
section
/-! SUPPORT. Laws of DRAM: a byte reads as it was written last, other bytes are left alone, and every operation on the
memory keeps the canonical form of the cells and the shape of the write queues. -/

namespace Sys2Proof.Machine

/-! ### Cells -/

theorem cellGet_below : ∀ (m : List Host.Cell) (lo a : Nat), cellsAbove lo m = true → a < lo → cellGet m a = blankByte
  | [], _, _, _, _ => rfl
  | (k, b) :: t, lo, a, h, ha => by
    simp only [cellsAbove, Bool.and_eq_true, decide_eq_true_eq] at h
    have hk : a ≠ k := by omega
    simp [cellGet, hk, cellGet_below t (k + 1) a h.2 (by omega)]

theorem cellGet_cellSet_self : ∀ (m : List Host.Cell) (lo a : Nat) (b : Byte), cellsAbove lo m = true →
    cellGet (cellSet m a b) a = b
  | [], lo, a, b, _ => by
    simp only [cellSet]; split <;> simp_all [cellGet]
  | (k, v) :: t, lo, a, b, h => by
    have h' := h
    simp only [cellsAbove, Bool.and_eq_true, decide_eq_true_eq] at h
    simp only [cellSet]
    split
    · rename_i e
      split
      · rename_i hb
        rw [hb, cellGet_below t (k + 1) a h.2 (by omega)]
      · simp [cellGet]
    · rename_i ne
      split
      · rename_i lt
        split
        · rename_i hb
          rw [hb]
          have hb0 := cellGet_below ((k, v) :: t) k a (by simp [cellsAbove, h]) lt
          exact hb0
        · simp [cellGet]
      · simp [cellGet, ne, cellGet_cellSet_self t (k + 1) a b h.2]

theorem cellGet_cellSet_ne : ∀ (m : List Host.Cell) (a x : Nat) (b : Byte), x ≠ a →
    cellGet (cellSet m a b) x = cellGet m x
  | [], a, x, b, h => by simp only [cellSet]; split <;> simp [cellGet, h]
  | (k, v) :: t, a, x, b, h => by
    simp only [cellSet]
    split
    · rename_i e
      have hk : x ≠ k := by omega
      split <;> simp [cellGet, h, hk]
    · split
      · split <;> simp [cellGet, h]
      · simp [cellGet, cellGet_cellSet_ne t a x b h]

theorem cellsAbove_mono : ∀ (m : List Host.Cell) (lo lo' : Nat), lo' ≤ lo → cellsAbove lo m = true →
    cellsAbove lo' m = true
  | [], _, _, _, _ => rfl
  | (k, b) :: t, lo, lo', hl, h => by
    simp only [cellsAbove, Bool.and_eq_true, decide_eq_true_eq] at h ⊢
    exact ⟨⟨by omega, h.1.2⟩, h.2⟩

theorem cellsAbove_cellSet : ∀ (m : List Host.Cell) (lo a : Nat) (b : Byte), lo ≤ a → cellsAbove lo m = true →
    cellsAbove lo (cellSet m a b) = true
  | [], lo, a, b, ha, _ => by
    simp only [cellSet]; split <;> simp_all [cellsAbove]
  | (k, v) :: t, lo, a, b, ha, h => by
    have h' := h
    simp only [cellsAbove, Bool.and_eq_true, decide_eq_true_eq] at h
    simp only [cellSet]
    split
    · rename_i e
      subst e
      split
      · exact cellsAbove_mono t (a + 1) lo (by omega) h.2
      · simp_all [cellsAbove]
    · split
      · split
        · exact h'
        · simp_all [cellsAbove]
      · simp only [cellsAbove, Bool.and_eq_true, decide_eq_true_eq]
        exact ⟨⟨h.1.1, h.1.2⟩, cellsAbove_cellSet t (k + 1) a b (by omega) h.2⟩

/-- Writing bytes keeps the canonical form. -/
theorem cellsAbove_cellSetAll (m : List Host.Cell) (base : Nat) (l : Table Byte) (h : cellsAbove 0 m = true) :
    cellsAbove 0 (cellSetAll m base l) = true := by
  unfold cellSetAll
  induction l generalizing m with
  | nil => simpa using h
  | cons e t ih => exact ih _ (cellsAbove_cellSet m 0 _ _ (by omega) h)

/-! ### Operations on the memory keep the canonical form -/

@[simp] theorem setWq_wf (m : Mem) (k : Nat) (l : List WqEntry) : (m.setWq k l).wf = m.wf := by
  simp only [Mem.setWq]; split <;> rfl

theorem enqueue_wf (m : Mem) (t k g : Nat) (l : Table Byte) : (m.enqueue t k g l).wf = m.wf := by
  simp [Mem.enqueue]

theorem commit_wf (m : Mem) (e : WqEntry) (h : m.wf = true) : (m.commit e).wf = true := by
  unfold Mem.commit
  split
  · exact h
  · exact cellsAbove_cellSetAll _ _ _ h

theorem fill_wf (m : Mem) (a : Nat) (l : List Byte) (h : m.wf = true) : (m.fill a l).wf = true :=
  cellsAbove_cellSetAll _ _ _ h

theorem commits_wf (l : List WqEntry) (m : Mem) (h : m.wf = true) : (l.foldl Mem.commit m).wf = true := by
  induction l generalizing m with
  | nil => simpa using h
  | cons e t ih => exact ih _ (commit_wf m e h)

/-- What is taken first satisfies the test. -/
theorem takeFirst_some {α : Type} (p : α → Bool) : ∀ (l : List α) (x : α) (r : List α), takeFirst p l = some (x, r) → p x = true
  | [], _, _, h => by cases h
  | y :: t, x, r, h => by
    unfold takeFirst at h
    split at h
    · rename_i hy; cases h; exact hy
    · obtain ⟨e, he, hx⟩ := Option.map_eq_some_iff.mp h
      cases hx
      exact takeFirst_some p t e.1 e.2 he

/-! ### Write queues -/

theorem wqMerge_granules (t : Nat) : ∀ (g : Nat) (l : Table Byte) (q : List WqEntry),
    (wqMerge t g l q).map (·.granule) = if g ∈ q.map (·.granule) then q.map (·.granule) else q.map (·.granule) ++ [g]
  | g, l, [] => by simp [wqMerge]
  | g, l, e :: q => by
    simp only [wqMerge]
    split
    · rename_i h
      simp [h]
    · rename_i h
      have ih := wqMerge_granules t g l q
      simp only [List.map_cons, ih, List.mem_cons]
      have : ¬ g = e.granule := fun x => h x.symm
      by_cases hm : g ∈ q.map (·.granule)
      · simp [hm]
      · simp [hm, this]

theorem wqSound_iff (q : List WqEntry) : wqSound q = true ↔
    q.length ≤ 64 ∧ (∀ g ∈ q.map (·.granule), g % 128 = 0) ∧ (q.map (·.granule)).Nodup := by
  simp [wqSound, and_assoc]

/-- A write that meets room keeps a write queue sound. -/
theorem wqSound_merge (t g : Nat) (l : Table Byte) (q : List WqEntry) (hg : g % 128 = 0) (h : wqSound q = true)
    (room : q.length < 64 ∨ g ∈ q.map (·.granule)) : wqSound (wqMerge t g l q) = true := by
  rw [wqSound_iff] at h ⊢
  obtain ⟨h1, h2, h3⟩ := h
  have e := wqMerge_granules t g l q
  have len : (wqMerge t g l q).length = ((wqMerge t g l q).map (·.granule)).length := by simp
  rw [len, e]
  by_cases hm : g ∈ q.map (·.granule)
  · simp only [hm, if_true]
    exact ⟨by simpa using h1, h2, h3⟩
  · simp only [hm, if_false]
    refine ⟨?_, ?_, ?_⟩
    · have : q.length < 64 := by tauto
      simp only [List.length_append, List.length_map, List.length_cons, List.length_nil]
      omega
    · intro x hx
      rcases List.mem_append.mp hx with hx | hx
      · exact h2 x hx
      · simp at hx; rw [hx]; exact hg
    · exact List.Nodup.append h3 (by simp) (by simpa [List.disjoint_singleton] using hm)

/-- Entries that go leave a write queue sound. -/
theorem wqSound_filter (p : WqEntry → Bool) (q : List WqEntry) (h : wqSound q = true) : wqSound (q.filter p) = true := by
  rw [wqSound_iff] at h ⊢
  obtain ⟨h1, h2, h3⟩ := h
  have sub := (List.filter_sublist (p := p) (l := q)).map (·.granule)
  exact ⟨le_trans (List.length_filter_le _ _) h1, fun g hg => h2 g (sub.mem hg), h3.sublist sub⟩


/-- An update that keeps the granules keeps a write queue sound. -/
theorem wqSound_map (f : WqEntry → WqEntry) (hf : ∀ e, (f e).granule = e.granule) (q : List WqEntry) :
    wqSound (q.map f) = wqSound q := by
  have e : (q.map f).map (·.granule) = q.map (·.granule) := by simp [hf]
  rw [Bool.eq_iff_iff, wqSound_iff, wqSound_iff, e]
  simp

end Sys2Proof.Machine
end

