-- ==== Sys2Proof/Laws/State.lean ====
section
/-! SUPPORT. What each update of the control state leaves as it is: one lemma per field and update, all by rfl. -/

namespace Sys2Proof.Machine

/-! ### Updates of registers -/

@[simp] theorem setReg_tally (c : Ctl) (a v : Nat) : (c.setReg a v).tally = c.tally := rfl
@[simp] theorem setReg_half (c : Ctl) (a v : Nat) : (c.setReg a v).half = c.half := rfl
@[simp] theorem setReg_rc (c : Ctl) (a v : Nat) : (c.setReg a v).rc = c.rc := rfl
@[simp] theorem setReg_nv (c : Ctl) (a v : Nat) : (c.setReg a v).nv = c.nv := rfl
@[simp] theorem setReg_host (c : Ctl) (a v : Nat) : (c.setReg a v).host = c.host := rfl
@[simp] theorem setReg_slu (c : Ctl) (a v : Nat) : (c.setReg a v).slu = c.slu := rfl
@[simp] theorem setReg_pwr (c : Ctl) (a v : Nat) : (c.setReg a v).pwr = c.pwr := rfl
@[simp] theorem setReg_ident (c : Ctl) (a v : Nat) : (c.setReg a v).ident = c.ident := rfl
@[simp] theorem setReg_trim (c : Ctl) (a v : Nat) : (c.setReg a v).trim = c.trim := rfl
@[simp] theorem setReg_light (c : Ctl) (a v : Nat) : (c.setReg a v).light = c.light := rfl
@[simp] theorem setReg_mc (c : Ctl) (a v : Nat) : (c.setReg a v).mc = c.mc := rfl
@[simp] theorem setReg_enc (c : Ctl) (a v : Nat) : (c.setReg a v).enc = c.enc := rfl
@[simp] theorem setReg_ax (c : Ctl) (a v : Nat) : (c.setReg a v).ax = c.ax := rfl
@[simp] theorem setReg_axPhase (c : Ctl) (a v : Nat) : (c.setReg a v).axPhase = c.axPhase := rfl
@[simp] theorem setReg_axCmds (c : Ctl) (a v : Nat) : (c.setReg a v).axCmds = c.axCmds := rfl
@[simp] theorem setReg_spin (c : Ctl) (a v : Nat) : (c.setReg a v).spin = c.spin := rfl
@[simp] theorem setReg_tab (c : Ctl) (a v : Nat) : (c.setReg a v).tab = c.tab := rfl
@[simp] theorem setReg_lane (c : Ctl) (a v : Nat) : (c.setReg a v).lane = c.lane := rfl
@[simp] theorem setReg_wire (c : Ctl) (a v : Nat) : (c.setReg a v).wire = c.wire := rfl
@[simp] theorem setReg_sent (c : Ctl) (a v : Nat) : (c.setReg a v).sent = c.sent := rfl
@[simp] theorem setReg_hop (c : Ctl) (a v : Nat) : (c.setReg a v).hop = c.hop := rfl
@[simp] theorem setReg_led (c : Ctl) (a v : Nat) : (c.setReg a v).led = c.led := rfl
@[simp] theorem setReg_tent (c : Ctl) (a v : Nat) : (c.setReg a v).tent = c.tent := rfl
@[simp] theorem setReg_fan (c : Ctl) (a v : Nat) : (c.setReg a v).fan = c.fan := rfl
@[simp] theorem setReg_tw (c : Ctl) (a v : Nat) : (c.setReg a v).tw = c.tw := rfl
@[simp] theorem setReg_soloOn (c : Ctl) (a v : Nat) : (c.setReg a v).soloOn = c.soloOn := rfl
@[simp] theorem setReg_memOut (c : Ctl) (a v : Nat) : (c.setReg a v).memOut = c.memOut := rfl
@[simp] theorem setReg_ueAt (c : Ctl) (a v : Nat) : (c.setReg a v).ueAt = c.ueAt := rfl
@[simp] theorem setReg_drawn (c : Ctl) (a v : Nat) : (c.setReg a v).drawn = c.drawn := rfl

@[simp] theorem put_tally (c : Ctl) (f : Fld) (v : Nat) : (c.put f v).tally = c.tally := rfl
@[simp] theorem put_half (c : Ctl) (f : Fld) (v : Nat) : (c.put f v).half = c.half := rfl
@[simp] theorem put_rc (c : Ctl) (f : Fld) (v : Nat) : (c.put f v).rc = c.rc := rfl
@[simp] theorem put_nv (c : Ctl) (f : Fld) (v : Nat) : (c.put f v).nv = c.nv := rfl
@[simp] theorem put_host (c : Ctl) (f : Fld) (v : Nat) : (c.put f v).host = c.host := rfl
@[simp] theorem put_slu (c : Ctl) (f : Fld) (v : Nat) : (c.put f v).slu = c.slu := rfl
@[simp] theorem put_pwr (c : Ctl) (f : Fld) (v : Nat) : (c.put f v).pwr = c.pwr := rfl
@[simp] theorem put_ident (c : Ctl) (f : Fld) (v : Nat) : (c.put f v).ident = c.ident := rfl
@[simp] theorem put_trim (c : Ctl) (f : Fld) (v : Nat) : (c.put f v).trim = c.trim := rfl
@[simp] theorem put_light (c : Ctl) (f : Fld) (v : Nat) : (c.put f v).light = c.light := rfl
@[simp] theorem put_mc (c : Ctl) (f : Fld) (v : Nat) : (c.put f v).mc = c.mc := rfl
@[simp] theorem put_enc (c : Ctl) (f : Fld) (v : Nat) : (c.put f v).enc = c.enc := rfl
@[simp] theorem put_ax (c : Ctl) (f : Fld) (v : Nat) : (c.put f v).ax = c.ax := rfl
@[simp] theorem put_axPhase (c : Ctl) (f : Fld) (v : Nat) : (c.put f v).axPhase = c.axPhase := rfl
@[simp] theorem put_axCmds (c : Ctl) (f : Fld) (v : Nat) : (c.put f v).axCmds = c.axCmds := rfl
@[simp] theorem put_spin (c : Ctl) (f : Fld) (v : Nat) : (c.put f v).spin = c.spin := rfl
@[simp] theorem put_tab (c : Ctl) (f : Fld) (v : Nat) : (c.put f v).tab = c.tab := rfl
@[simp] theorem put_lane (c : Ctl) (f : Fld) (v : Nat) : (c.put f v).lane = c.lane := rfl
@[simp] theorem put_wire (c : Ctl) (f : Fld) (v : Nat) : (c.put f v).wire = c.wire := rfl
@[simp] theorem put_sent (c : Ctl) (f : Fld) (v : Nat) : (c.put f v).sent = c.sent := rfl
@[simp] theorem put_hop (c : Ctl) (f : Fld) (v : Nat) : (c.put f v).hop = c.hop := rfl
@[simp] theorem put_led (c : Ctl) (f : Fld) (v : Nat) : (c.put f v).led = c.led := rfl
@[simp] theorem put_tent (c : Ctl) (f : Fld) (v : Nat) : (c.put f v).tent = c.tent := rfl
@[simp] theorem put_fan (c : Ctl) (f : Fld) (v : Nat) : (c.put f v).fan = c.fan := rfl
@[simp] theorem put_tw (c : Ctl) (f : Fld) (v : Nat) : (c.put f v).tw = c.tw := rfl
@[simp] theorem put_soloOn (c : Ctl) (f : Fld) (v : Nat) : (c.put f v).soloOn = c.soloOn := rfl
@[simp] theorem put_memOut (c : Ctl) (f : Fld) (v : Nat) : (c.put f v).memOut = c.memOut := rfl
@[simp] theorem put_ueAt (c : Ctl) (f : Fld) (v : Nat) : (c.put f v).ueAt = c.ueAt := rfl
@[simp] theorem put_drawn (c : Ctl) (f : Fld) (v : Nat) : (c.put f v).drawn = c.drawn := rfl

@[simp] theorem putS_tally (c : Ctl) (f : Fld) (v : Int) : (c.putS f v).tally = c.tally := rfl
@[simp] theorem putS_half (c : Ctl) (f : Fld) (v : Int) : (c.putS f v).half = c.half := rfl
@[simp] theorem putS_rc (c : Ctl) (f : Fld) (v : Int) : (c.putS f v).rc = c.rc := rfl
@[simp] theorem putS_nv (c : Ctl) (f : Fld) (v : Int) : (c.putS f v).nv = c.nv := rfl
@[simp] theorem putS_host (c : Ctl) (f : Fld) (v : Int) : (c.putS f v).host = c.host := rfl
@[simp] theorem putS_slu (c : Ctl) (f : Fld) (v : Int) : (c.putS f v).slu = c.slu := rfl
@[simp] theorem putS_pwr (c : Ctl) (f : Fld) (v : Int) : (c.putS f v).pwr = c.pwr := rfl
@[simp] theorem putS_ident (c : Ctl) (f : Fld) (v : Int) : (c.putS f v).ident = c.ident := rfl
@[simp] theorem putS_trim (c : Ctl) (f : Fld) (v : Int) : (c.putS f v).trim = c.trim := rfl
@[simp] theorem putS_light (c : Ctl) (f : Fld) (v : Int) : (c.putS f v).light = c.light := rfl
@[simp] theorem putS_mc (c : Ctl) (f : Fld) (v : Int) : (c.putS f v).mc = c.mc := rfl
@[simp] theorem putS_enc (c : Ctl) (f : Fld) (v : Int) : (c.putS f v).enc = c.enc := rfl
@[simp] theorem putS_ax (c : Ctl) (f : Fld) (v : Int) : (c.putS f v).ax = c.ax := rfl
@[simp] theorem putS_axPhase (c : Ctl) (f : Fld) (v : Int) : (c.putS f v).axPhase = c.axPhase := rfl
@[simp] theorem putS_axCmds (c : Ctl) (f : Fld) (v : Int) : (c.putS f v).axCmds = c.axCmds := rfl
@[simp] theorem putS_spin (c : Ctl) (f : Fld) (v : Int) : (c.putS f v).spin = c.spin := rfl
@[simp] theorem putS_tab (c : Ctl) (f : Fld) (v : Int) : (c.putS f v).tab = c.tab := rfl
@[simp] theorem putS_lane (c : Ctl) (f : Fld) (v : Int) : (c.putS f v).lane = c.lane := rfl
@[simp] theorem putS_wire (c : Ctl) (f : Fld) (v : Int) : (c.putS f v).wire = c.wire := rfl
@[simp] theorem putS_sent (c : Ctl) (f : Fld) (v : Int) : (c.putS f v).sent = c.sent := rfl
@[simp] theorem putS_hop (c : Ctl) (f : Fld) (v : Int) : (c.putS f v).hop = c.hop := rfl
@[simp] theorem putS_led (c : Ctl) (f : Fld) (v : Int) : (c.putS f v).led = c.led := rfl
@[simp] theorem putS_tent (c : Ctl) (f : Fld) (v : Int) : (c.putS f v).tent = c.tent := rfl
@[simp] theorem putS_fan (c : Ctl) (f : Fld) (v : Int) : (c.putS f v).fan = c.fan := rfl
@[simp] theorem putS_tw (c : Ctl) (f : Fld) (v : Int) : (c.putS f v).tw = c.tw := rfl
@[simp] theorem putS_soloOn (c : Ctl) (f : Fld) (v : Int) : (c.putS f v).soloOn = c.soloOn := rfl
@[simp] theorem putS_memOut (c : Ctl) (f : Fld) (v : Int) : (c.putS f v).memOut = c.memOut := rfl
@[simp] theorem putS_ueAt (c : Ctl) (f : Fld) (v : Int) : (c.putS f v).ueAt = c.ueAt := rfl
@[simp] theorem putS_drawn (c : Ctl) (f : Fld) (v : Int) : (c.putS f v).drawn = c.drawn := rfl

@[simp] theorem flag_tally (c : Ctl) (f : Fld) (b : Bool) : (c.flag f b).tally = c.tally := rfl
@[simp] theorem flag_half (c : Ctl) (f : Fld) (b : Bool) : (c.flag f b).half = c.half := rfl
@[simp] theorem flag_rc (c : Ctl) (f : Fld) (b : Bool) : (c.flag f b).rc = c.rc := rfl
@[simp] theorem flag_nv (c : Ctl) (f : Fld) (b : Bool) : (c.flag f b).nv = c.nv := rfl
@[simp] theorem flag_host (c : Ctl) (f : Fld) (b : Bool) : (c.flag f b).host = c.host := rfl
@[simp] theorem flag_slu (c : Ctl) (f : Fld) (b : Bool) : (c.flag f b).slu = c.slu := rfl
@[simp] theorem flag_pwr (c : Ctl) (f : Fld) (b : Bool) : (c.flag f b).pwr = c.pwr := rfl
@[simp] theorem flag_ident (c : Ctl) (f : Fld) (b : Bool) : (c.flag f b).ident = c.ident := rfl
@[simp] theorem flag_trim (c : Ctl) (f : Fld) (b : Bool) : (c.flag f b).trim = c.trim := rfl
@[simp] theorem flag_light (c : Ctl) (f : Fld) (b : Bool) : (c.flag f b).light = c.light := rfl
@[simp] theorem flag_mc (c : Ctl) (f : Fld) (b : Bool) : (c.flag f b).mc = c.mc := rfl
@[simp] theorem flag_enc (c : Ctl) (f : Fld) (b : Bool) : (c.flag f b).enc = c.enc := rfl
@[simp] theorem flag_ax (c : Ctl) (f : Fld) (b : Bool) : (c.flag f b).ax = c.ax := rfl
@[simp] theorem flag_axPhase (c : Ctl) (f : Fld) (b : Bool) : (c.flag f b).axPhase = c.axPhase := rfl
@[simp] theorem flag_axCmds (c : Ctl) (f : Fld) (b : Bool) : (c.flag f b).axCmds = c.axCmds := rfl
@[simp] theorem flag_spin (c : Ctl) (f : Fld) (b : Bool) : (c.flag f b).spin = c.spin := rfl
@[simp] theorem flag_tab (c : Ctl) (f : Fld) (b : Bool) : (c.flag f b).tab = c.tab := rfl
@[simp] theorem flag_lane (c : Ctl) (f : Fld) (b : Bool) : (c.flag f b).lane = c.lane := rfl
@[simp] theorem flag_wire (c : Ctl) (f : Fld) (b : Bool) : (c.flag f b).wire = c.wire := rfl
@[simp] theorem flag_sent (c : Ctl) (f : Fld) (b : Bool) : (c.flag f b).sent = c.sent := rfl
@[simp] theorem flag_hop (c : Ctl) (f : Fld) (b : Bool) : (c.flag f b).hop = c.hop := rfl
@[simp] theorem flag_led (c : Ctl) (f : Fld) (b : Bool) : (c.flag f b).led = c.led := rfl
@[simp] theorem flag_tent (c : Ctl) (f : Fld) (b : Bool) : (c.flag f b).tent = c.tent := rfl
@[simp] theorem flag_fan (c : Ctl) (f : Fld) (b : Bool) : (c.flag f b).fan = c.fan := rfl
@[simp] theorem flag_tw (c : Ctl) (f : Fld) (b : Bool) : (c.flag f b).tw = c.tw := rfl
@[simp] theorem flag_soloOn (c : Ctl) (f : Fld) (b : Bool) : (c.flag f b).soloOn = c.soloOn := rfl
@[simp] theorem flag_memOut (c : Ctl) (f : Fld) (b : Bool) : (c.flag f b).memOut = c.memOut := rfl
@[simp] theorem flag_ueAt (c : Ctl) (f : Fld) (b : Bool) : (c.flag f b).ueAt = c.ueAt := rfl
@[simp] theorem flag_drawn (c : Ctl) (f : Fld) (b : Bool) : (c.flag f b).drawn = c.drawn := rfl

@[simp] theorem add_tally (c : Ctl) (f : Fld) (n : Nat) : (c.add f n).tally = c.tally := rfl
@[simp] theorem add_half (c : Ctl) (f : Fld) (n : Nat) : (c.add f n).half = c.half := rfl
@[simp] theorem add_rc (c : Ctl) (f : Fld) (n : Nat) : (c.add f n).rc = c.rc := rfl
@[simp] theorem add_nv (c : Ctl) (f : Fld) (n : Nat) : (c.add f n).nv = c.nv := rfl
@[simp] theorem add_host (c : Ctl) (f : Fld) (n : Nat) : (c.add f n).host = c.host := rfl
@[simp] theorem add_slu (c : Ctl) (f : Fld) (n : Nat) : (c.add f n).slu = c.slu := rfl
@[simp] theorem add_pwr (c : Ctl) (f : Fld) (n : Nat) : (c.add f n).pwr = c.pwr := rfl
@[simp] theorem add_ident (c : Ctl) (f : Fld) (n : Nat) : (c.add f n).ident = c.ident := rfl
@[simp] theorem add_trim (c : Ctl) (f : Fld) (n : Nat) : (c.add f n).trim = c.trim := rfl
@[simp] theorem add_light (c : Ctl) (f : Fld) (n : Nat) : (c.add f n).light = c.light := rfl
@[simp] theorem add_mc (c : Ctl) (f : Fld) (n : Nat) : (c.add f n).mc = c.mc := rfl
@[simp] theorem add_enc (c : Ctl) (f : Fld) (n : Nat) : (c.add f n).enc = c.enc := rfl
@[simp] theorem add_ax (c : Ctl) (f : Fld) (n : Nat) : (c.add f n).ax = c.ax := rfl
@[simp] theorem add_axPhase (c : Ctl) (f : Fld) (n : Nat) : (c.add f n).axPhase = c.axPhase := rfl
@[simp] theorem add_axCmds (c : Ctl) (f : Fld) (n : Nat) : (c.add f n).axCmds = c.axCmds := rfl
@[simp] theorem add_spin (c : Ctl) (f : Fld) (n : Nat) : (c.add f n).spin = c.spin := rfl
@[simp] theorem add_tab (c : Ctl) (f : Fld) (n : Nat) : (c.add f n).tab = c.tab := rfl
@[simp] theorem add_lane (c : Ctl) (f : Fld) (n : Nat) : (c.add f n).lane = c.lane := rfl
@[simp] theorem add_wire (c : Ctl) (f : Fld) (n : Nat) : (c.add f n).wire = c.wire := rfl
@[simp] theorem add_sent (c : Ctl) (f : Fld) (n : Nat) : (c.add f n).sent = c.sent := rfl
@[simp] theorem add_hop (c : Ctl) (f : Fld) (n : Nat) : (c.add f n).hop = c.hop := rfl
@[simp] theorem add_led (c : Ctl) (f : Fld) (n : Nat) : (c.add f n).led = c.led := rfl
@[simp] theorem add_tent (c : Ctl) (f : Fld) (n : Nat) : (c.add f n).tent = c.tent := rfl
@[simp] theorem add_fan (c : Ctl) (f : Fld) (n : Nat) : (c.add f n).fan = c.fan := rfl
@[simp] theorem add_tw (c : Ctl) (f : Fld) (n : Nat) : (c.add f n).tw = c.tw := rfl
@[simp] theorem add_soloOn (c : Ctl) (f : Fld) (n : Nat) : (c.add f n).soloOn = c.soloOn := rfl
@[simp] theorem add_memOut (c : Ctl) (f : Fld) (n : Nat) : (c.add f n).memOut = c.memOut := rfl
@[simp] theorem add_ueAt (c : Ctl) (f : Fld) (n : Nat) : (c.add f n).ueAt = c.ueAt := rfl
@[simp] theorem add_drawn (c : Ctl) (f : Fld) (n : Nat) : (c.add f n).drawn = c.drawn := rfl

@[simp] theorem inc_tally (c : Ctl) (f : Fld) : (c.inc f).tally = c.tally := rfl
@[simp] theorem inc_half (c : Ctl) (f : Fld) : (c.inc f).half = c.half := rfl
@[simp] theorem inc_rc (c : Ctl) (f : Fld) : (c.inc f).rc = c.rc := rfl
@[simp] theorem inc_nv (c : Ctl) (f : Fld) : (c.inc f).nv = c.nv := rfl
@[simp] theorem inc_host (c : Ctl) (f : Fld) : (c.inc f).host = c.host := rfl
@[simp] theorem inc_slu (c : Ctl) (f : Fld) : (c.inc f).slu = c.slu := rfl
@[simp] theorem inc_pwr (c : Ctl) (f : Fld) : (c.inc f).pwr = c.pwr := rfl
@[simp] theorem inc_ident (c : Ctl) (f : Fld) : (c.inc f).ident = c.ident := rfl
@[simp] theorem inc_trim (c : Ctl) (f : Fld) : (c.inc f).trim = c.trim := rfl
@[simp] theorem inc_light (c : Ctl) (f : Fld) : (c.inc f).light = c.light := rfl
@[simp] theorem inc_mc (c : Ctl) (f : Fld) : (c.inc f).mc = c.mc := rfl
@[simp] theorem inc_enc (c : Ctl) (f : Fld) : (c.inc f).enc = c.enc := rfl
@[simp] theorem inc_ax (c : Ctl) (f : Fld) : (c.inc f).ax = c.ax := rfl
@[simp] theorem inc_axPhase (c : Ctl) (f : Fld) : (c.inc f).axPhase = c.axPhase := rfl
@[simp] theorem inc_axCmds (c : Ctl) (f : Fld) : (c.inc f).axCmds = c.axCmds := rfl
@[simp] theorem inc_spin (c : Ctl) (f : Fld) : (c.inc f).spin = c.spin := rfl
@[simp] theorem inc_tab (c : Ctl) (f : Fld) : (c.inc f).tab = c.tab := rfl
@[simp] theorem inc_lane (c : Ctl) (f : Fld) : (c.inc f).lane = c.lane := rfl
@[simp] theorem inc_wire (c : Ctl) (f : Fld) : (c.inc f).wire = c.wire := rfl
@[simp] theorem inc_sent (c : Ctl) (f : Fld) : (c.inc f).sent = c.sent := rfl
@[simp] theorem inc_hop (c : Ctl) (f : Fld) : (c.inc f).hop = c.hop := rfl
@[simp] theorem inc_led (c : Ctl) (f : Fld) : (c.inc f).led = c.led := rfl
@[simp] theorem inc_tent (c : Ctl) (f : Fld) : (c.inc f).tent = c.tent := rfl
@[simp] theorem inc_fan (c : Ctl) (f : Fld) : (c.inc f).fan = c.fan := rfl
@[simp] theorem inc_tw (c : Ctl) (f : Fld) : (c.inc f).tw = c.tw := rfl
@[simp] theorem inc_soloOn (c : Ctl) (f : Fld) : (c.inc f).soloOn = c.soloOn := rfl
@[simp] theorem inc_memOut (c : Ctl) (f : Fld) : (c.inc f).memOut = c.memOut := rfl
@[simp] theorem inc_ueAt (c : Ctl) (f : Fld) : (c.inc f).ueAt = c.ueAt := rfl
@[simp] theorem inc_drawn (c : Ctl) (f : Fld) : (c.inc f).drawn = c.drawn := rfl

@[simp] theorem setBits_tally (c : Ctl) (a m : Nat) : (c.setBits a m).tally = c.tally := rfl
@[simp] theorem setBits_half (c : Ctl) (a m : Nat) : (c.setBits a m).half = c.half := rfl
@[simp] theorem setBits_rc (c : Ctl) (a m : Nat) : (c.setBits a m).rc = c.rc := rfl
@[simp] theorem setBits_nv (c : Ctl) (a m : Nat) : (c.setBits a m).nv = c.nv := rfl
@[simp] theorem setBits_host (c : Ctl) (a m : Nat) : (c.setBits a m).host = c.host := rfl
@[simp] theorem setBits_slu (c : Ctl) (a m : Nat) : (c.setBits a m).slu = c.slu := rfl
@[simp] theorem setBits_pwr (c : Ctl) (a m : Nat) : (c.setBits a m).pwr = c.pwr := rfl
@[simp] theorem setBits_ident (c : Ctl) (a m : Nat) : (c.setBits a m).ident = c.ident := rfl
@[simp] theorem setBits_trim (c : Ctl) (a m : Nat) : (c.setBits a m).trim = c.trim := rfl
@[simp] theorem setBits_light (c : Ctl) (a m : Nat) : (c.setBits a m).light = c.light := rfl
@[simp] theorem setBits_mc (c : Ctl) (a m : Nat) : (c.setBits a m).mc = c.mc := rfl
@[simp] theorem setBits_enc (c : Ctl) (a m : Nat) : (c.setBits a m).enc = c.enc := rfl
@[simp] theorem setBits_ax (c : Ctl) (a m : Nat) : (c.setBits a m).ax = c.ax := rfl
@[simp] theorem setBits_axPhase (c : Ctl) (a m : Nat) : (c.setBits a m).axPhase = c.axPhase := rfl
@[simp] theorem setBits_axCmds (c : Ctl) (a m : Nat) : (c.setBits a m).axCmds = c.axCmds := rfl
@[simp] theorem setBits_spin (c : Ctl) (a m : Nat) : (c.setBits a m).spin = c.spin := rfl
@[simp] theorem setBits_tab (c : Ctl) (a m : Nat) : (c.setBits a m).tab = c.tab := rfl
@[simp] theorem setBits_lane (c : Ctl) (a m : Nat) : (c.setBits a m).lane = c.lane := rfl
@[simp] theorem setBits_wire (c : Ctl) (a m : Nat) : (c.setBits a m).wire = c.wire := rfl
@[simp] theorem setBits_sent (c : Ctl) (a m : Nat) : (c.setBits a m).sent = c.sent := rfl
@[simp] theorem setBits_hop (c : Ctl) (a m : Nat) : (c.setBits a m).hop = c.hop := rfl
@[simp] theorem setBits_led (c : Ctl) (a m : Nat) : (c.setBits a m).led = c.led := rfl
@[simp] theorem setBits_tent (c : Ctl) (a m : Nat) : (c.setBits a m).tent = c.tent := rfl
@[simp] theorem setBits_fan (c : Ctl) (a m : Nat) : (c.setBits a m).fan = c.fan := rfl
@[simp] theorem setBits_tw (c : Ctl) (a m : Nat) : (c.setBits a m).tw = c.tw := rfl
@[simp] theorem setBits_soloOn (c : Ctl) (a m : Nat) : (c.setBits a m).soloOn = c.soloOn := rfl
@[simp] theorem setBits_memOut (c : Ctl) (a m : Nat) : (c.setBits a m).memOut = c.memOut := rfl
@[simp] theorem setBits_ueAt (c : Ctl) (a m : Nat) : (c.setBits a m).ueAt = c.ueAt := rfl
@[simp] theorem setBits_drawn (c : Ctl) (a m : Nat) : (c.setBits a m).drawn = c.drawn := rfl

@[simp] theorem clearBits_tally (c : Ctl) (a m : Nat) : (c.clearBits a m).tally = c.tally := rfl
@[simp] theorem clearBits_half (c : Ctl) (a m : Nat) : (c.clearBits a m).half = c.half := rfl
@[simp] theorem clearBits_rc (c : Ctl) (a m : Nat) : (c.clearBits a m).rc = c.rc := rfl
@[simp] theorem clearBits_nv (c : Ctl) (a m : Nat) : (c.clearBits a m).nv = c.nv := rfl
@[simp] theorem clearBits_host (c : Ctl) (a m : Nat) : (c.clearBits a m).host = c.host := rfl
@[simp] theorem clearBits_slu (c : Ctl) (a m : Nat) : (c.clearBits a m).slu = c.slu := rfl
@[simp] theorem clearBits_pwr (c : Ctl) (a m : Nat) : (c.clearBits a m).pwr = c.pwr := rfl
@[simp] theorem clearBits_ident (c : Ctl) (a m : Nat) : (c.clearBits a m).ident = c.ident := rfl
@[simp] theorem clearBits_trim (c : Ctl) (a m : Nat) : (c.clearBits a m).trim = c.trim := rfl
@[simp] theorem clearBits_light (c : Ctl) (a m : Nat) : (c.clearBits a m).light = c.light := rfl
@[simp] theorem clearBits_mc (c : Ctl) (a m : Nat) : (c.clearBits a m).mc = c.mc := rfl
@[simp] theorem clearBits_enc (c : Ctl) (a m : Nat) : (c.clearBits a m).enc = c.enc := rfl
@[simp] theorem clearBits_ax (c : Ctl) (a m : Nat) : (c.clearBits a m).ax = c.ax := rfl
@[simp] theorem clearBits_axPhase (c : Ctl) (a m : Nat) : (c.clearBits a m).axPhase = c.axPhase := rfl
@[simp] theorem clearBits_axCmds (c : Ctl) (a m : Nat) : (c.clearBits a m).axCmds = c.axCmds := rfl
@[simp] theorem clearBits_spin (c : Ctl) (a m : Nat) : (c.clearBits a m).spin = c.spin := rfl
@[simp] theorem clearBits_tab (c : Ctl) (a m : Nat) : (c.clearBits a m).tab = c.tab := rfl
@[simp] theorem clearBits_lane (c : Ctl) (a m : Nat) : (c.clearBits a m).lane = c.lane := rfl
@[simp] theorem clearBits_wire (c : Ctl) (a m : Nat) : (c.clearBits a m).wire = c.wire := rfl
@[simp] theorem clearBits_sent (c : Ctl) (a m : Nat) : (c.clearBits a m).sent = c.sent := rfl
@[simp] theorem clearBits_hop (c : Ctl) (a m : Nat) : (c.clearBits a m).hop = c.hop := rfl
@[simp] theorem clearBits_led (c : Ctl) (a m : Nat) : (c.clearBits a m).led = c.led := rfl
@[simp] theorem clearBits_tent (c : Ctl) (a m : Nat) : (c.clearBits a m).tent = c.tent := rfl
@[simp] theorem clearBits_fan (c : Ctl) (a m : Nat) : (c.clearBits a m).fan = c.fan := rfl
@[simp] theorem clearBits_tw (c : Ctl) (a m : Nat) : (c.clearBits a m).tw = c.tw := rfl
@[simp] theorem clearBits_soloOn (c : Ctl) (a m : Nat) : (c.clearBits a m).soloOn = c.soloOn := rfl
@[simp] theorem clearBits_memOut (c : Ctl) (a m : Nat) : (c.clearBits a m).memOut = c.memOut := rfl
@[simp] theorem clearBits_ueAt (c : Ctl) (a m : Nat) : (c.clearBits a m).ueAt = c.ueAt := rfl
@[simp] theorem clearBits_drawn (c : Ctl) (a m : Nat) : (c.clearBits a m).drawn = c.drawn := rfl

@[simp] theorem irq_tally (c : Ctl) (p k : Nat) : (c.irq p k).tally = c.tally := rfl
@[simp] theorem irq_half (c : Ctl) (p k : Nat) : (c.irq p k).half = c.half := rfl
@[simp] theorem irq_rc (c : Ctl) (p k : Nat) : (c.irq p k).rc = c.rc := rfl
@[simp] theorem irq_nv (c : Ctl) (p k : Nat) : (c.irq p k).nv = c.nv := rfl
@[simp] theorem irq_host (c : Ctl) (p k : Nat) : (c.irq p k).host = c.host := rfl
@[simp] theorem irq_slu (c : Ctl) (p k : Nat) : (c.irq p k).slu = c.slu := rfl
@[simp] theorem irq_pwr (c : Ctl) (p k : Nat) : (c.irq p k).pwr = c.pwr := rfl
@[simp] theorem irq_ident (c : Ctl) (p k : Nat) : (c.irq p k).ident = c.ident := rfl
@[simp] theorem irq_trim (c : Ctl) (p k : Nat) : (c.irq p k).trim = c.trim := rfl
@[simp] theorem irq_light (c : Ctl) (p k : Nat) : (c.irq p k).light = c.light := rfl
@[simp] theorem irq_mc (c : Ctl) (p k : Nat) : (c.irq p k).mc = c.mc := rfl
@[simp] theorem irq_enc (c : Ctl) (p k : Nat) : (c.irq p k).enc = c.enc := rfl
@[simp] theorem irq_ax (c : Ctl) (p k : Nat) : (c.irq p k).ax = c.ax := rfl
@[simp] theorem irq_axPhase (c : Ctl) (p k : Nat) : (c.irq p k).axPhase = c.axPhase := rfl
@[simp] theorem irq_axCmds (c : Ctl) (p k : Nat) : (c.irq p k).axCmds = c.axCmds := rfl
@[simp] theorem irq_spin (c : Ctl) (p k : Nat) : (c.irq p k).spin = c.spin := rfl
@[simp] theorem irq_tab (c : Ctl) (p k : Nat) : (c.irq p k).tab = c.tab := rfl
@[simp] theorem irq_lane (c : Ctl) (p k : Nat) : (c.irq p k).lane = c.lane := rfl
@[simp] theorem irq_wire (c : Ctl) (p k : Nat) : (c.irq p k).wire = c.wire := rfl
@[simp] theorem irq_sent (c : Ctl) (p k : Nat) : (c.irq p k).sent = c.sent := rfl
@[simp] theorem irq_hop (c : Ctl) (p k : Nat) : (c.irq p k).hop = c.hop := rfl
@[simp] theorem irq_led (c : Ctl) (p k : Nat) : (c.irq p k).led = c.led := rfl
@[simp] theorem irq_tent (c : Ctl) (p k : Nat) : (c.irq p k).tent = c.tent := rfl
@[simp] theorem irq_fan (c : Ctl) (p k : Nat) : (c.irq p k).fan = c.fan := rfl
@[simp] theorem irq_tw (c : Ctl) (p k : Nat) : (c.irq p k).tw = c.tw := rfl
@[simp] theorem irq_soloOn (c : Ctl) (p k : Nat) : (c.irq p k).soloOn = c.soloOn := rfl
@[simp] theorem irq_memOut (c : Ctl) (p k : Nat) : (c.irq p k).memOut = c.memOut := rfl
@[simp] theorem irq_ueAt (c : Ctl) (p k : Nat) : (c.irq p k).ueAt = c.ueAt := rfl
@[simp] theorem irq_drawn (c : Ctl) (p k : Nat) : (c.irq p k).drawn = c.drawn := rfl

/-! ### Updates of one structure of the control state -/

@[simp] theorem axMod_regs (c : Ctl) (k : Nat) (f : AxSt → AxSt) : (c.axMod k f).regs = c.regs := rfl
@[simp] theorem axMod_tally (c : Ctl) (k : Nat) (f : AxSt → AxSt) : (c.axMod k f).tally = c.tally := rfl
@[simp] theorem axMod_half (c : Ctl) (k : Nat) (f : AxSt → AxSt) : (c.axMod k f).half = c.half := rfl
@[simp] theorem axMod_rc (c : Ctl) (k : Nat) (f : AxSt → AxSt) : (c.axMod k f).rc = c.rc := rfl
@[simp] theorem axMod_nv (c : Ctl) (k : Nat) (f : AxSt → AxSt) : (c.axMod k f).nv = c.nv := rfl
@[simp] theorem axMod_host (c : Ctl) (k : Nat) (f : AxSt → AxSt) : (c.axMod k f).host = c.host := rfl
@[simp] theorem axMod_slu (c : Ctl) (k : Nat) (f : AxSt → AxSt) : (c.axMod k f).slu = c.slu := rfl
@[simp] theorem axMod_pwr (c : Ctl) (k : Nat) (f : AxSt → AxSt) : (c.axMod k f).pwr = c.pwr := rfl
@[simp] theorem axMod_ident (c : Ctl) (k : Nat) (f : AxSt → AxSt) : (c.axMod k f).ident = c.ident := rfl
@[simp] theorem axMod_trim (c : Ctl) (k : Nat) (f : AxSt → AxSt) : (c.axMod k f).trim = c.trim := rfl
@[simp] theorem axMod_light (c : Ctl) (k : Nat) (f : AxSt → AxSt) : (c.axMod k f).light = c.light := rfl
@[simp] theorem axMod_mc (c : Ctl) (k : Nat) (f : AxSt → AxSt) : (c.axMod k f).mc = c.mc := rfl
@[simp] theorem axMod_enc (c : Ctl) (k : Nat) (f : AxSt → AxSt) : (c.axMod k f).enc = c.enc := rfl
@[simp] theorem axMod_axPhase (c : Ctl) (k : Nat) (f : AxSt → AxSt) : (c.axMod k f).axPhase = c.axPhase := rfl
@[simp] theorem axMod_axCmds (c : Ctl) (k : Nat) (f : AxSt → AxSt) : (c.axMod k f).axCmds = c.axCmds := rfl
@[simp] theorem axMod_spin (c : Ctl) (k : Nat) (f : AxSt → AxSt) : (c.axMod k f).spin = c.spin := rfl
@[simp] theorem axMod_tab (c : Ctl) (k : Nat) (f : AxSt → AxSt) : (c.axMod k f).tab = c.tab := rfl
@[simp] theorem axMod_lane (c : Ctl) (k : Nat) (f : AxSt → AxSt) : (c.axMod k f).lane = c.lane := rfl
@[simp] theorem axMod_wire (c : Ctl) (k : Nat) (f : AxSt → AxSt) : (c.axMod k f).wire = c.wire := rfl
@[simp] theorem axMod_sent (c : Ctl) (k : Nat) (f : AxSt → AxSt) : (c.axMod k f).sent = c.sent := rfl
@[simp] theorem axMod_hop (c : Ctl) (k : Nat) (f : AxSt → AxSt) : (c.axMod k f).hop = c.hop := rfl
@[simp] theorem axMod_led (c : Ctl) (k : Nat) (f : AxSt → AxSt) : (c.axMod k f).led = c.led := rfl
@[simp] theorem axMod_tent (c : Ctl) (k : Nat) (f : AxSt → AxSt) : (c.axMod k f).tent = c.tent := rfl
@[simp] theorem axMod_fan (c : Ctl) (k : Nat) (f : AxSt → AxSt) : (c.axMod k f).fan = c.fan := rfl
@[simp] theorem axMod_tw (c : Ctl) (k : Nat) (f : AxSt → AxSt) : (c.axMod k f).tw = c.tw := rfl
@[simp] theorem axMod_soloOn (c : Ctl) (k : Nat) (f : AxSt → AxSt) : (c.axMod k f).soloOn = c.soloOn := rfl
@[simp] theorem axMod_memOut (c : Ctl) (k : Nat) (f : AxSt → AxSt) : (c.axMod k f).memOut = c.memOut := rfl
@[simp] theorem axMod_ueAt (c : Ctl) (k : Nat) (f : AxSt → AxSt) : (c.axMod k f).ueAt = c.ueAt := rfl
@[simp] theorem axMod_drawn (c : Ctl) (k : Nat) (f : AxSt → AxSt) : (c.axMod k f).drawn = c.drawn := rfl
@[simp] theorem axMod_reg (c : Ctl) (k : Nat) (f : AxSt → AxSt) (a : Nat) : (c.axMod k f).reg a = c.reg a := rfl
@[simp] theorem axMod_get (c : Ctl) (k : Nat) (f : AxSt → AxSt) (g : Fld) : (c.axMod k f).get g = c.get g := rfl

@[simp] theorem encMod_regs (c : Ctl) (k : Nat) (f : EncSt → EncSt) : (c.encMod k f).regs = c.regs := rfl
@[simp] theorem encMod_tally (c : Ctl) (k : Nat) (f : EncSt → EncSt) : (c.encMod k f).tally = c.tally := rfl
@[simp] theorem encMod_half (c : Ctl) (k : Nat) (f : EncSt → EncSt) : (c.encMod k f).half = c.half := rfl
@[simp] theorem encMod_rc (c : Ctl) (k : Nat) (f : EncSt → EncSt) : (c.encMod k f).rc = c.rc := rfl
@[simp] theorem encMod_nv (c : Ctl) (k : Nat) (f : EncSt → EncSt) : (c.encMod k f).nv = c.nv := rfl
@[simp] theorem encMod_host (c : Ctl) (k : Nat) (f : EncSt → EncSt) : (c.encMod k f).host = c.host := rfl
@[simp] theorem encMod_slu (c : Ctl) (k : Nat) (f : EncSt → EncSt) : (c.encMod k f).slu = c.slu := rfl
@[simp] theorem encMod_pwr (c : Ctl) (k : Nat) (f : EncSt → EncSt) : (c.encMod k f).pwr = c.pwr := rfl
@[simp] theorem encMod_ident (c : Ctl) (k : Nat) (f : EncSt → EncSt) : (c.encMod k f).ident = c.ident := rfl
@[simp] theorem encMod_trim (c : Ctl) (k : Nat) (f : EncSt → EncSt) : (c.encMod k f).trim = c.trim := rfl
@[simp] theorem encMod_light (c : Ctl) (k : Nat) (f : EncSt → EncSt) : (c.encMod k f).light = c.light := rfl
@[simp] theorem encMod_mc (c : Ctl) (k : Nat) (f : EncSt → EncSt) : (c.encMod k f).mc = c.mc := rfl
@[simp] theorem encMod_ax (c : Ctl) (k : Nat) (f : EncSt → EncSt) : (c.encMod k f).ax = c.ax := rfl
@[simp] theorem encMod_axPhase (c : Ctl) (k : Nat) (f : EncSt → EncSt) : (c.encMod k f).axPhase = c.axPhase := rfl
@[simp] theorem encMod_axCmds (c : Ctl) (k : Nat) (f : EncSt → EncSt) : (c.encMod k f).axCmds = c.axCmds := rfl
@[simp] theorem encMod_spin (c : Ctl) (k : Nat) (f : EncSt → EncSt) : (c.encMod k f).spin = c.spin := rfl
@[simp] theorem encMod_tab (c : Ctl) (k : Nat) (f : EncSt → EncSt) : (c.encMod k f).tab = c.tab := rfl
@[simp] theorem encMod_lane (c : Ctl) (k : Nat) (f : EncSt → EncSt) : (c.encMod k f).lane = c.lane := rfl
@[simp] theorem encMod_wire (c : Ctl) (k : Nat) (f : EncSt → EncSt) : (c.encMod k f).wire = c.wire := rfl
@[simp] theorem encMod_sent (c : Ctl) (k : Nat) (f : EncSt → EncSt) : (c.encMod k f).sent = c.sent := rfl
@[simp] theorem encMod_hop (c : Ctl) (k : Nat) (f : EncSt → EncSt) : (c.encMod k f).hop = c.hop := rfl
@[simp] theorem encMod_led (c : Ctl) (k : Nat) (f : EncSt → EncSt) : (c.encMod k f).led = c.led := rfl
@[simp] theorem encMod_tent (c : Ctl) (k : Nat) (f : EncSt → EncSt) : (c.encMod k f).tent = c.tent := rfl
@[simp] theorem encMod_fan (c : Ctl) (k : Nat) (f : EncSt → EncSt) : (c.encMod k f).fan = c.fan := rfl
@[simp] theorem encMod_tw (c : Ctl) (k : Nat) (f : EncSt → EncSt) : (c.encMod k f).tw = c.tw := rfl
@[simp] theorem encMod_soloOn (c : Ctl) (k : Nat) (f : EncSt → EncSt) : (c.encMod k f).soloOn = c.soloOn := rfl
@[simp] theorem encMod_memOut (c : Ctl) (k : Nat) (f : EncSt → EncSt) : (c.encMod k f).memOut = c.memOut := rfl
@[simp] theorem encMod_ueAt (c : Ctl) (k : Nat) (f : EncSt → EncSt) : (c.encMod k f).ueAt = c.ueAt := rfl
@[simp] theorem encMod_drawn (c : Ctl) (k : Nat) (f : EncSt → EncSt) : (c.encMod k f).drawn = c.drawn := rfl
@[simp] theorem encMod_reg (c : Ctl) (k : Nat) (f : EncSt → EncSt) (a : Nat) : (c.encMod k f).reg a = c.reg a := rfl
@[simp] theorem encMod_get (c : Ctl) (k : Nat) (f : EncSt → EncSt) (g : Fld) : (c.encMod k f).get g = c.get g := rfl

@[simp] theorem mcMod_regs (c : Ctl) (k : Nat) (f : McSt → McSt) : (c.mcMod k f).regs = c.regs := rfl
@[simp] theorem mcMod_tally (c : Ctl) (k : Nat) (f : McSt → McSt) : (c.mcMod k f).tally = c.tally := rfl
@[simp] theorem mcMod_half (c : Ctl) (k : Nat) (f : McSt → McSt) : (c.mcMod k f).half = c.half := rfl
@[simp] theorem mcMod_rc (c : Ctl) (k : Nat) (f : McSt → McSt) : (c.mcMod k f).rc = c.rc := rfl
@[simp] theorem mcMod_nv (c : Ctl) (k : Nat) (f : McSt → McSt) : (c.mcMod k f).nv = c.nv := rfl
@[simp] theorem mcMod_host (c : Ctl) (k : Nat) (f : McSt → McSt) : (c.mcMod k f).host = c.host := rfl
@[simp] theorem mcMod_slu (c : Ctl) (k : Nat) (f : McSt → McSt) : (c.mcMod k f).slu = c.slu := rfl
@[simp] theorem mcMod_pwr (c : Ctl) (k : Nat) (f : McSt → McSt) : (c.mcMod k f).pwr = c.pwr := rfl
@[simp] theorem mcMod_ident (c : Ctl) (k : Nat) (f : McSt → McSt) : (c.mcMod k f).ident = c.ident := rfl
@[simp] theorem mcMod_trim (c : Ctl) (k : Nat) (f : McSt → McSt) : (c.mcMod k f).trim = c.trim := rfl
@[simp] theorem mcMod_light (c : Ctl) (k : Nat) (f : McSt → McSt) : (c.mcMod k f).light = c.light := rfl
@[simp] theorem mcMod_enc (c : Ctl) (k : Nat) (f : McSt → McSt) : (c.mcMod k f).enc = c.enc := rfl
@[simp] theorem mcMod_ax (c : Ctl) (k : Nat) (f : McSt → McSt) : (c.mcMod k f).ax = c.ax := rfl
@[simp] theorem mcMod_axPhase (c : Ctl) (k : Nat) (f : McSt → McSt) : (c.mcMod k f).axPhase = c.axPhase := rfl
@[simp] theorem mcMod_axCmds (c : Ctl) (k : Nat) (f : McSt → McSt) : (c.mcMod k f).axCmds = c.axCmds := rfl
@[simp] theorem mcMod_spin (c : Ctl) (k : Nat) (f : McSt → McSt) : (c.mcMod k f).spin = c.spin := rfl
@[simp] theorem mcMod_tab (c : Ctl) (k : Nat) (f : McSt → McSt) : (c.mcMod k f).tab = c.tab := rfl
@[simp] theorem mcMod_lane (c : Ctl) (k : Nat) (f : McSt → McSt) : (c.mcMod k f).lane = c.lane := rfl
@[simp] theorem mcMod_wire (c : Ctl) (k : Nat) (f : McSt → McSt) : (c.mcMod k f).wire = c.wire := rfl
@[simp] theorem mcMod_sent (c : Ctl) (k : Nat) (f : McSt → McSt) : (c.mcMod k f).sent = c.sent := rfl
@[simp] theorem mcMod_hop (c : Ctl) (k : Nat) (f : McSt → McSt) : (c.mcMod k f).hop = c.hop := rfl
@[simp] theorem mcMod_led (c : Ctl) (k : Nat) (f : McSt → McSt) : (c.mcMod k f).led = c.led := rfl
@[simp] theorem mcMod_tent (c : Ctl) (k : Nat) (f : McSt → McSt) : (c.mcMod k f).tent = c.tent := rfl
@[simp] theorem mcMod_fan (c : Ctl) (k : Nat) (f : McSt → McSt) : (c.mcMod k f).fan = c.fan := rfl
@[simp] theorem mcMod_tw (c : Ctl) (k : Nat) (f : McSt → McSt) : (c.mcMod k f).tw = c.tw := rfl
@[simp] theorem mcMod_soloOn (c : Ctl) (k : Nat) (f : McSt → McSt) : (c.mcMod k f).soloOn = c.soloOn := rfl
@[simp] theorem mcMod_memOut (c : Ctl) (k : Nat) (f : McSt → McSt) : (c.mcMod k f).memOut = c.memOut := rfl
@[simp] theorem mcMod_ueAt (c : Ctl) (k : Nat) (f : McSt → McSt) : (c.mcMod k f).ueAt = c.ueAt := rfl
@[simp] theorem mcMod_drawn (c : Ctl) (k : Nat) (f : McSt → McSt) : (c.mcMod k f).drawn = c.drawn := rfl
@[simp] theorem mcMod_reg (c : Ctl) (k : Nat) (f : McSt → McSt) (a : Nat) : (c.mcMod k f).reg a = c.reg a := rfl
@[simp] theorem mcMod_get (c : Ctl) (k : Nat) (f : McSt → McSt) (g : Fld) : (c.mcMod k f).get g = c.get g := rfl

@[simp] theorem modLn_regs (c : Ctl) (k : Nat) (f : LaneSt → LaneSt) : (c.modLn k f).regs = c.regs := rfl
@[simp] theorem modLn_tally (c : Ctl) (k : Nat) (f : LaneSt → LaneSt) : (c.modLn k f).tally = c.tally := rfl
@[simp] theorem modLn_half (c : Ctl) (k : Nat) (f : LaneSt → LaneSt) : (c.modLn k f).half = c.half := rfl
@[simp] theorem modLn_rc (c : Ctl) (k : Nat) (f : LaneSt → LaneSt) : (c.modLn k f).rc = c.rc := rfl
@[simp] theorem modLn_nv (c : Ctl) (k : Nat) (f : LaneSt → LaneSt) : (c.modLn k f).nv = c.nv := rfl
@[simp] theorem modLn_host (c : Ctl) (k : Nat) (f : LaneSt → LaneSt) : (c.modLn k f).host = c.host := rfl
@[simp] theorem modLn_slu (c : Ctl) (k : Nat) (f : LaneSt → LaneSt) : (c.modLn k f).slu = c.slu := rfl
@[simp] theorem modLn_pwr (c : Ctl) (k : Nat) (f : LaneSt → LaneSt) : (c.modLn k f).pwr = c.pwr := rfl
@[simp] theorem modLn_ident (c : Ctl) (k : Nat) (f : LaneSt → LaneSt) : (c.modLn k f).ident = c.ident := rfl
@[simp] theorem modLn_trim (c : Ctl) (k : Nat) (f : LaneSt → LaneSt) : (c.modLn k f).trim = c.trim := rfl
@[simp] theorem modLn_light (c : Ctl) (k : Nat) (f : LaneSt → LaneSt) : (c.modLn k f).light = c.light := rfl
@[simp] theorem modLn_mc (c : Ctl) (k : Nat) (f : LaneSt → LaneSt) : (c.modLn k f).mc = c.mc := rfl
@[simp] theorem modLn_enc (c : Ctl) (k : Nat) (f : LaneSt → LaneSt) : (c.modLn k f).enc = c.enc := rfl
@[simp] theorem modLn_ax (c : Ctl) (k : Nat) (f : LaneSt → LaneSt) : (c.modLn k f).ax = c.ax := rfl
@[simp] theorem modLn_axPhase (c : Ctl) (k : Nat) (f : LaneSt → LaneSt) : (c.modLn k f).axPhase = c.axPhase := rfl
@[simp] theorem modLn_axCmds (c : Ctl) (k : Nat) (f : LaneSt → LaneSt) : (c.modLn k f).axCmds = c.axCmds := rfl
@[simp] theorem modLn_spin (c : Ctl) (k : Nat) (f : LaneSt → LaneSt) : (c.modLn k f).spin = c.spin := rfl
@[simp] theorem modLn_tab (c : Ctl) (k : Nat) (f : LaneSt → LaneSt) : (c.modLn k f).tab = c.tab := rfl
@[simp] theorem modLn_wire (c : Ctl) (k : Nat) (f : LaneSt → LaneSt) : (c.modLn k f).wire = c.wire := rfl
@[simp] theorem modLn_sent (c : Ctl) (k : Nat) (f : LaneSt → LaneSt) : (c.modLn k f).sent = c.sent := rfl
@[simp] theorem modLn_hop (c : Ctl) (k : Nat) (f : LaneSt → LaneSt) : (c.modLn k f).hop = c.hop := rfl
@[simp] theorem modLn_led (c : Ctl) (k : Nat) (f : LaneSt → LaneSt) : (c.modLn k f).led = c.led := rfl
@[simp] theorem modLn_tent (c : Ctl) (k : Nat) (f : LaneSt → LaneSt) : (c.modLn k f).tent = c.tent := rfl
@[simp] theorem modLn_fan (c : Ctl) (k : Nat) (f : LaneSt → LaneSt) : (c.modLn k f).fan = c.fan := rfl
@[simp] theorem modLn_tw (c : Ctl) (k : Nat) (f : LaneSt → LaneSt) : (c.modLn k f).tw = c.tw := rfl
@[simp] theorem modLn_soloOn (c : Ctl) (k : Nat) (f : LaneSt → LaneSt) : (c.modLn k f).soloOn = c.soloOn := rfl
@[simp] theorem modLn_memOut (c : Ctl) (k : Nat) (f : LaneSt → LaneSt) : (c.modLn k f).memOut = c.memOut := rfl
@[simp] theorem modLn_ueAt (c : Ctl) (k : Nat) (f : LaneSt → LaneSt) : (c.modLn k f).ueAt = c.ueAt := rfl
@[simp] theorem modLn_drawn (c : Ctl) (k : Nat) (f : LaneSt → LaneSt) : (c.modLn k f).drawn = c.drawn := rfl
@[simp] theorem modLn_reg (c : Ctl) (k : Nat) (f : LaneSt → LaneSt) (a : Nat) : (c.modLn k f).reg a = c.reg a := rfl
@[simp] theorem modLn_get (c : Ctl) (k : Nat) (f : LaneSt → LaneSt) (g : Fld) : (c.modLn k f).get g = c.get g := rfl

@[simp] theorem modSp_regs (c : Ctl) (k : Nat) (f : SpinSt → SpinSt) : (c.modSp k f).regs = c.regs := rfl
@[simp] theorem modSp_tally (c : Ctl) (k : Nat) (f : SpinSt → SpinSt) : (c.modSp k f).tally = c.tally := rfl
@[simp] theorem modSp_half (c : Ctl) (k : Nat) (f : SpinSt → SpinSt) : (c.modSp k f).half = c.half := rfl
@[simp] theorem modSp_rc (c : Ctl) (k : Nat) (f : SpinSt → SpinSt) : (c.modSp k f).rc = c.rc := rfl
@[simp] theorem modSp_nv (c : Ctl) (k : Nat) (f : SpinSt → SpinSt) : (c.modSp k f).nv = c.nv := rfl
@[simp] theorem modSp_host (c : Ctl) (k : Nat) (f : SpinSt → SpinSt) : (c.modSp k f).host = c.host := rfl
@[simp] theorem modSp_slu (c : Ctl) (k : Nat) (f : SpinSt → SpinSt) : (c.modSp k f).slu = c.slu := rfl
@[simp] theorem modSp_pwr (c : Ctl) (k : Nat) (f : SpinSt → SpinSt) : (c.modSp k f).pwr = c.pwr := rfl
@[simp] theorem modSp_ident (c : Ctl) (k : Nat) (f : SpinSt → SpinSt) : (c.modSp k f).ident = c.ident := rfl
@[simp] theorem modSp_trim (c : Ctl) (k : Nat) (f : SpinSt → SpinSt) : (c.modSp k f).trim = c.trim := rfl
@[simp] theorem modSp_light (c : Ctl) (k : Nat) (f : SpinSt → SpinSt) : (c.modSp k f).light = c.light := rfl
@[simp] theorem modSp_mc (c : Ctl) (k : Nat) (f : SpinSt → SpinSt) : (c.modSp k f).mc = c.mc := rfl
@[simp] theorem modSp_enc (c : Ctl) (k : Nat) (f : SpinSt → SpinSt) : (c.modSp k f).enc = c.enc := rfl
@[simp] theorem modSp_ax (c : Ctl) (k : Nat) (f : SpinSt → SpinSt) : (c.modSp k f).ax = c.ax := rfl
@[simp] theorem modSp_axPhase (c : Ctl) (k : Nat) (f : SpinSt → SpinSt) : (c.modSp k f).axPhase = c.axPhase := rfl
@[simp] theorem modSp_axCmds (c : Ctl) (k : Nat) (f : SpinSt → SpinSt) : (c.modSp k f).axCmds = c.axCmds := rfl
@[simp] theorem modSp_tab (c : Ctl) (k : Nat) (f : SpinSt → SpinSt) : (c.modSp k f).tab = c.tab := rfl
@[simp] theorem modSp_lane (c : Ctl) (k : Nat) (f : SpinSt → SpinSt) : (c.modSp k f).lane = c.lane := rfl
@[simp] theorem modSp_wire (c : Ctl) (k : Nat) (f : SpinSt → SpinSt) : (c.modSp k f).wire = c.wire := rfl
@[simp] theorem modSp_sent (c : Ctl) (k : Nat) (f : SpinSt → SpinSt) : (c.modSp k f).sent = c.sent := rfl
@[simp] theorem modSp_hop (c : Ctl) (k : Nat) (f : SpinSt → SpinSt) : (c.modSp k f).hop = c.hop := rfl
@[simp] theorem modSp_led (c : Ctl) (k : Nat) (f : SpinSt → SpinSt) : (c.modSp k f).led = c.led := rfl
@[simp] theorem modSp_tent (c : Ctl) (k : Nat) (f : SpinSt → SpinSt) : (c.modSp k f).tent = c.tent := rfl
@[simp] theorem modSp_fan (c : Ctl) (k : Nat) (f : SpinSt → SpinSt) : (c.modSp k f).fan = c.fan := rfl
@[simp] theorem modSp_tw (c : Ctl) (k : Nat) (f : SpinSt → SpinSt) : (c.modSp k f).tw = c.tw := rfl
@[simp] theorem modSp_soloOn (c : Ctl) (k : Nat) (f : SpinSt → SpinSt) : (c.modSp k f).soloOn = c.soloOn := rfl
@[simp] theorem modSp_memOut (c : Ctl) (k : Nat) (f : SpinSt → SpinSt) : (c.modSp k f).memOut = c.memOut := rfl
@[simp] theorem modSp_ueAt (c : Ctl) (k : Nat) (f : SpinSt → SpinSt) : (c.modSp k f).ueAt = c.ueAt := rfl
@[simp] theorem modSp_drawn (c : Ctl) (k : Nat) (f : SpinSt → SpinSt) : (c.modSp k f).drawn = c.drawn := rfl
@[simp] theorem modSp_reg (c : Ctl) (k : Nat) (f : SpinSt → SpinSt) (a : Nat) : (c.modSp k f).reg a = c.reg a := rfl
@[simp] theorem modSp_get (c : Ctl) (k : Nat) (f : SpinSt → SpinSt) (g : Fld) : (c.modSp k f).get g = c.get g := rfl

@[simp] theorem modTn_regs (c : Ctl) (k : Nat) (f : TentSt → TentSt) : (c.modTn k f).regs = c.regs := rfl
@[simp] theorem modTn_tally (c : Ctl) (k : Nat) (f : TentSt → TentSt) : (c.modTn k f).tally = c.tally := rfl
@[simp] theorem modTn_half (c : Ctl) (k : Nat) (f : TentSt → TentSt) : (c.modTn k f).half = c.half := rfl
@[simp] theorem modTn_rc (c : Ctl) (k : Nat) (f : TentSt → TentSt) : (c.modTn k f).rc = c.rc := rfl
@[simp] theorem modTn_nv (c : Ctl) (k : Nat) (f : TentSt → TentSt) : (c.modTn k f).nv = c.nv := rfl
@[simp] theorem modTn_host (c : Ctl) (k : Nat) (f : TentSt → TentSt) : (c.modTn k f).host = c.host := rfl
@[simp] theorem modTn_slu (c : Ctl) (k : Nat) (f : TentSt → TentSt) : (c.modTn k f).slu = c.slu := rfl
@[simp] theorem modTn_pwr (c : Ctl) (k : Nat) (f : TentSt → TentSt) : (c.modTn k f).pwr = c.pwr := rfl
@[simp] theorem modTn_ident (c : Ctl) (k : Nat) (f : TentSt → TentSt) : (c.modTn k f).ident = c.ident := rfl
@[simp] theorem modTn_trim (c : Ctl) (k : Nat) (f : TentSt → TentSt) : (c.modTn k f).trim = c.trim := rfl
@[simp] theorem modTn_light (c : Ctl) (k : Nat) (f : TentSt → TentSt) : (c.modTn k f).light = c.light := rfl
@[simp] theorem modTn_mc (c : Ctl) (k : Nat) (f : TentSt → TentSt) : (c.modTn k f).mc = c.mc := rfl
@[simp] theorem modTn_enc (c : Ctl) (k : Nat) (f : TentSt → TentSt) : (c.modTn k f).enc = c.enc := rfl
@[simp] theorem modTn_ax (c : Ctl) (k : Nat) (f : TentSt → TentSt) : (c.modTn k f).ax = c.ax := rfl
@[simp] theorem modTn_axPhase (c : Ctl) (k : Nat) (f : TentSt → TentSt) : (c.modTn k f).axPhase = c.axPhase := rfl
@[simp] theorem modTn_axCmds (c : Ctl) (k : Nat) (f : TentSt → TentSt) : (c.modTn k f).axCmds = c.axCmds := rfl
@[simp] theorem modTn_spin (c : Ctl) (k : Nat) (f : TentSt → TentSt) : (c.modTn k f).spin = c.spin := rfl
@[simp] theorem modTn_tab (c : Ctl) (k : Nat) (f : TentSt → TentSt) : (c.modTn k f).tab = c.tab := rfl
@[simp] theorem modTn_lane (c : Ctl) (k : Nat) (f : TentSt → TentSt) : (c.modTn k f).lane = c.lane := rfl
@[simp] theorem modTn_wire (c : Ctl) (k : Nat) (f : TentSt → TentSt) : (c.modTn k f).wire = c.wire := rfl
@[simp] theorem modTn_sent (c : Ctl) (k : Nat) (f : TentSt → TentSt) : (c.modTn k f).sent = c.sent := rfl
@[simp] theorem modTn_hop (c : Ctl) (k : Nat) (f : TentSt → TentSt) : (c.modTn k f).hop = c.hop := rfl
@[simp] theorem modTn_led (c : Ctl) (k : Nat) (f : TentSt → TentSt) : (c.modTn k f).led = c.led := rfl
@[simp] theorem modTn_fan (c : Ctl) (k : Nat) (f : TentSt → TentSt) : (c.modTn k f).fan = c.fan := rfl
@[simp] theorem modTn_tw (c : Ctl) (k : Nat) (f : TentSt → TentSt) : (c.modTn k f).tw = c.tw := rfl
@[simp] theorem modTn_soloOn (c : Ctl) (k : Nat) (f : TentSt → TentSt) : (c.modTn k f).soloOn = c.soloOn := rfl
@[simp] theorem modTn_memOut (c : Ctl) (k : Nat) (f : TentSt → TentSt) : (c.modTn k f).memOut = c.memOut := rfl
@[simp] theorem modTn_ueAt (c : Ctl) (k : Nat) (f : TentSt → TentSt) : (c.modTn k f).ueAt = c.ueAt := rfl
@[simp] theorem modTn_drawn (c : Ctl) (k : Nat) (f : TentSt → TentSt) : (c.modTn k f).drawn = c.drawn := rfl
@[simp] theorem modTn_reg (c : Ctl) (k : Nat) (f : TentSt → TentSt) (a : Nat) : (c.modTn k f).reg a = c.reg a := rfl
@[simp] theorem modTn_get (c : Ctl) (k : Nat) (f : TentSt → TentSt) (g : Fld) : (c.modTn k f).get g = c.get g := rfl

@[simp] theorem modFan_regs (c : Ctl) (f : FanSt → FanSt) : (c.modFan f).regs = c.regs := rfl
@[simp] theorem modFan_tally (c : Ctl) (f : FanSt → FanSt) : (c.modFan f).tally = c.tally := rfl
@[simp] theorem modFan_half (c : Ctl) (f : FanSt → FanSt) : (c.modFan f).half = c.half := rfl
@[simp] theorem modFan_rc (c : Ctl) (f : FanSt → FanSt) : (c.modFan f).rc = c.rc := rfl
@[simp] theorem modFan_nv (c : Ctl) (f : FanSt → FanSt) : (c.modFan f).nv = c.nv := rfl
@[simp] theorem modFan_host (c : Ctl) (f : FanSt → FanSt) : (c.modFan f).host = c.host := rfl
@[simp] theorem modFan_slu (c : Ctl) (f : FanSt → FanSt) : (c.modFan f).slu = c.slu := rfl
@[simp] theorem modFan_pwr (c : Ctl) (f : FanSt → FanSt) : (c.modFan f).pwr = c.pwr := rfl
@[simp] theorem modFan_ident (c : Ctl) (f : FanSt → FanSt) : (c.modFan f).ident = c.ident := rfl
@[simp] theorem modFan_trim (c : Ctl) (f : FanSt → FanSt) : (c.modFan f).trim = c.trim := rfl
@[simp] theorem modFan_light (c : Ctl) (f : FanSt → FanSt) : (c.modFan f).light = c.light := rfl
@[simp] theorem modFan_mc (c : Ctl) (f : FanSt → FanSt) : (c.modFan f).mc = c.mc := rfl
@[simp] theorem modFan_enc (c : Ctl) (f : FanSt → FanSt) : (c.modFan f).enc = c.enc := rfl
@[simp] theorem modFan_ax (c : Ctl) (f : FanSt → FanSt) : (c.modFan f).ax = c.ax := rfl
@[simp] theorem modFan_axPhase (c : Ctl) (f : FanSt → FanSt) : (c.modFan f).axPhase = c.axPhase := rfl
@[simp] theorem modFan_axCmds (c : Ctl) (f : FanSt → FanSt) : (c.modFan f).axCmds = c.axCmds := rfl
@[simp] theorem modFan_spin (c : Ctl) (f : FanSt → FanSt) : (c.modFan f).spin = c.spin := rfl
@[simp] theorem modFan_tab (c : Ctl) (f : FanSt → FanSt) : (c.modFan f).tab = c.tab := rfl
@[simp] theorem modFan_lane (c : Ctl) (f : FanSt → FanSt) : (c.modFan f).lane = c.lane := rfl
@[simp] theorem modFan_wire (c : Ctl) (f : FanSt → FanSt) : (c.modFan f).wire = c.wire := rfl
@[simp] theorem modFan_sent (c : Ctl) (f : FanSt → FanSt) : (c.modFan f).sent = c.sent := rfl
@[simp] theorem modFan_hop (c : Ctl) (f : FanSt → FanSt) : (c.modFan f).hop = c.hop := rfl
@[simp] theorem modFan_led (c : Ctl) (f : FanSt → FanSt) : (c.modFan f).led = c.led := rfl
@[simp] theorem modFan_tent (c : Ctl) (f : FanSt → FanSt) : (c.modFan f).tent = c.tent := rfl
@[simp] theorem modFan_tw (c : Ctl) (f : FanSt → FanSt) : (c.modFan f).tw = c.tw := rfl
@[simp] theorem modFan_soloOn (c : Ctl) (f : FanSt → FanSt) : (c.modFan f).soloOn = c.soloOn := rfl
@[simp] theorem modFan_memOut (c : Ctl) (f : FanSt → FanSt) : (c.modFan f).memOut = c.memOut := rfl
@[simp] theorem modFan_ueAt (c : Ctl) (f : FanSt → FanSt) : (c.modFan f).ueAt = c.ueAt := rfl
@[simp] theorem modFan_drawn (c : Ctl) (f : FanSt → FanSt) : (c.modFan f).drawn = c.drawn := rfl
@[simp] theorem modFan_reg (c : Ctl) (f : FanSt → FanSt) (a : Nat) : (c.modFan f).reg a = c.reg a := rfl
@[simp] theorem modFan_get (c : Ctl) (f : FanSt → FanSt) (g : Fld) : (c.modFan f).get g = c.get g := rfl

@[simp] theorem modHost_regs (c : Ctl) (f : HostSt → HostSt) : (c.modHost f).regs = c.regs := rfl
@[simp] theorem modHost_tally (c : Ctl) (f : HostSt → HostSt) : (c.modHost f).tally = c.tally := rfl
@[simp] theorem modHost_half (c : Ctl) (f : HostSt → HostSt) : (c.modHost f).half = c.half := rfl
@[simp] theorem modHost_rc (c : Ctl) (f : HostSt → HostSt) : (c.modHost f).rc = c.rc := rfl
@[simp] theorem modHost_nv (c : Ctl) (f : HostSt → HostSt) : (c.modHost f).nv = c.nv := rfl
@[simp] theorem modHost_slu (c : Ctl) (f : HostSt → HostSt) : (c.modHost f).slu = c.slu := rfl
@[simp] theorem modHost_pwr (c : Ctl) (f : HostSt → HostSt) : (c.modHost f).pwr = c.pwr := rfl
@[simp] theorem modHost_ident (c : Ctl) (f : HostSt → HostSt) : (c.modHost f).ident = c.ident := rfl
@[simp] theorem modHost_trim (c : Ctl) (f : HostSt → HostSt) : (c.modHost f).trim = c.trim := rfl
@[simp] theorem modHost_light (c : Ctl) (f : HostSt → HostSt) : (c.modHost f).light = c.light := rfl
@[simp] theorem modHost_mc (c : Ctl) (f : HostSt → HostSt) : (c.modHost f).mc = c.mc := rfl
@[simp] theorem modHost_enc (c : Ctl) (f : HostSt → HostSt) : (c.modHost f).enc = c.enc := rfl
@[simp] theorem modHost_ax (c : Ctl) (f : HostSt → HostSt) : (c.modHost f).ax = c.ax := rfl
@[simp] theorem modHost_axPhase (c : Ctl) (f : HostSt → HostSt) : (c.modHost f).axPhase = c.axPhase := rfl
@[simp] theorem modHost_axCmds (c : Ctl) (f : HostSt → HostSt) : (c.modHost f).axCmds = c.axCmds := rfl
@[simp] theorem modHost_spin (c : Ctl) (f : HostSt → HostSt) : (c.modHost f).spin = c.spin := rfl
@[simp] theorem modHost_tab (c : Ctl) (f : HostSt → HostSt) : (c.modHost f).tab = c.tab := rfl
@[simp] theorem modHost_lane (c : Ctl) (f : HostSt → HostSt) : (c.modHost f).lane = c.lane := rfl
@[simp] theorem modHost_wire (c : Ctl) (f : HostSt → HostSt) : (c.modHost f).wire = c.wire := rfl
@[simp] theorem modHost_sent (c : Ctl) (f : HostSt → HostSt) : (c.modHost f).sent = c.sent := rfl
@[simp] theorem modHost_hop (c : Ctl) (f : HostSt → HostSt) : (c.modHost f).hop = c.hop := rfl
@[simp] theorem modHost_led (c : Ctl) (f : HostSt → HostSt) : (c.modHost f).led = c.led := rfl
@[simp] theorem modHost_tent (c : Ctl) (f : HostSt → HostSt) : (c.modHost f).tent = c.tent := rfl
@[simp] theorem modHost_fan (c : Ctl) (f : HostSt → HostSt) : (c.modHost f).fan = c.fan := rfl
@[simp] theorem modHost_tw (c : Ctl) (f : HostSt → HostSt) : (c.modHost f).tw = c.tw := rfl
@[simp] theorem modHost_soloOn (c : Ctl) (f : HostSt → HostSt) : (c.modHost f).soloOn = c.soloOn := rfl
@[simp] theorem modHost_memOut (c : Ctl) (f : HostSt → HostSt) : (c.modHost f).memOut = c.memOut := rfl
@[simp] theorem modHost_ueAt (c : Ctl) (f : HostSt → HostSt) : (c.modHost f).ueAt = c.ueAt := rfl
@[simp] theorem modHost_drawn (c : Ctl) (f : HostSt → HostSt) : (c.modHost f).drawn = c.drawn := rfl
@[simp] theorem modHost_reg (c : Ctl) (f : HostSt → HostSt) (a : Nat) : (c.modHost f).reg a = c.reg a := rfl
@[simp] theorem modHost_get (c : Ctl) (f : HostSt → HostSt) (g : Fld) : (c.modHost f).get g = c.get g := rfl

@[simp] theorem modLed_regs (c : Ctl) (f : LedSt → LedSt) : (c.modLed f).regs = c.regs := rfl
@[simp] theorem modLed_tally (c : Ctl) (f : LedSt → LedSt) : (c.modLed f).tally = c.tally := rfl
@[simp] theorem modLed_half (c : Ctl) (f : LedSt → LedSt) : (c.modLed f).half = c.half := rfl
@[simp] theorem modLed_rc (c : Ctl) (f : LedSt → LedSt) : (c.modLed f).rc = c.rc := rfl
@[simp] theorem modLed_nv (c : Ctl) (f : LedSt → LedSt) : (c.modLed f).nv = c.nv := rfl
@[simp] theorem modLed_host (c : Ctl) (f : LedSt → LedSt) : (c.modLed f).host = c.host := rfl
@[simp] theorem modLed_slu (c : Ctl) (f : LedSt → LedSt) : (c.modLed f).slu = c.slu := rfl
@[simp] theorem modLed_pwr (c : Ctl) (f : LedSt → LedSt) : (c.modLed f).pwr = c.pwr := rfl
@[simp] theorem modLed_ident (c : Ctl) (f : LedSt → LedSt) : (c.modLed f).ident = c.ident := rfl
@[simp] theorem modLed_trim (c : Ctl) (f : LedSt → LedSt) : (c.modLed f).trim = c.trim := rfl
@[simp] theorem modLed_light (c : Ctl) (f : LedSt → LedSt) : (c.modLed f).light = c.light := rfl
@[simp] theorem modLed_mc (c : Ctl) (f : LedSt → LedSt) : (c.modLed f).mc = c.mc := rfl
@[simp] theorem modLed_enc (c : Ctl) (f : LedSt → LedSt) : (c.modLed f).enc = c.enc := rfl
@[simp] theorem modLed_ax (c : Ctl) (f : LedSt → LedSt) : (c.modLed f).ax = c.ax := rfl
@[simp] theorem modLed_axPhase (c : Ctl) (f : LedSt → LedSt) : (c.modLed f).axPhase = c.axPhase := rfl
@[simp] theorem modLed_axCmds (c : Ctl) (f : LedSt → LedSt) : (c.modLed f).axCmds = c.axCmds := rfl
@[simp] theorem modLed_spin (c : Ctl) (f : LedSt → LedSt) : (c.modLed f).spin = c.spin := rfl
@[simp] theorem modLed_tab (c : Ctl) (f : LedSt → LedSt) : (c.modLed f).tab = c.tab := rfl
@[simp] theorem modLed_lane (c : Ctl) (f : LedSt → LedSt) : (c.modLed f).lane = c.lane := rfl
@[simp] theorem modLed_wire (c : Ctl) (f : LedSt → LedSt) : (c.modLed f).wire = c.wire := rfl
@[simp] theorem modLed_sent (c : Ctl) (f : LedSt → LedSt) : (c.modLed f).sent = c.sent := rfl
@[simp] theorem modLed_hop (c : Ctl) (f : LedSt → LedSt) : (c.modLed f).hop = c.hop := rfl
@[simp] theorem modLed_tent (c : Ctl) (f : LedSt → LedSt) : (c.modLed f).tent = c.tent := rfl
@[simp] theorem modLed_fan (c : Ctl) (f : LedSt → LedSt) : (c.modLed f).fan = c.fan := rfl
@[simp] theorem modLed_tw (c : Ctl) (f : LedSt → LedSt) : (c.modLed f).tw = c.tw := rfl
@[simp] theorem modLed_soloOn (c : Ctl) (f : LedSt → LedSt) : (c.modLed f).soloOn = c.soloOn := rfl
@[simp] theorem modLed_memOut (c : Ctl) (f : LedSt → LedSt) : (c.modLed f).memOut = c.memOut := rfl
@[simp] theorem modLed_ueAt (c : Ctl) (f : LedSt → LedSt) : (c.modLed f).ueAt = c.ueAt := rfl
@[simp] theorem modLed_drawn (c : Ctl) (f : LedSt → LedSt) : (c.modLed f).drawn = c.drawn := rfl
@[simp] theorem modLed_reg (c : Ctl) (f : LedSt → LedSt) (a : Nat) : (c.modLed f).reg a = c.reg a := rfl
@[simp] theorem modLed_get (c : Ctl) (f : LedSt → LedSt) (g : Fld) : (c.modLed f).get g = c.get g := rfl

@[simp] theorem modPwr_regs (c : Ctl) (f : PwrSt → PwrSt) : (c.modPwr f).regs = c.regs := rfl
@[simp] theorem modPwr_tally (c : Ctl) (f : PwrSt → PwrSt) : (c.modPwr f).tally = c.tally := rfl
@[simp] theorem modPwr_half (c : Ctl) (f : PwrSt → PwrSt) : (c.modPwr f).half = c.half := rfl
@[simp] theorem modPwr_rc (c : Ctl) (f : PwrSt → PwrSt) : (c.modPwr f).rc = c.rc := rfl
@[simp] theorem modPwr_nv (c : Ctl) (f : PwrSt → PwrSt) : (c.modPwr f).nv = c.nv := rfl
@[simp] theorem modPwr_host (c : Ctl) (f : PwrSt → PwrSt) : (c.modPwr f).host = c.host := rfl
@[simp] theorem modPwr_slu (c : Ctl) (f : PwrSt → PwrSt) : (c.modPwr f).slu = c.slu := rfl
@[simp] theorem modPwr_ident (c : Ctl) (f : PwrSt → PwrSt) : (c.modPwr f).ident = c.ident := rfl
@[simp] theorem modPwr_trim (c : Ctl) (f : PwrSt → PwrSt) : (c.modPwr f).trim = c.trim := rfl
@[simp] theorem modPwr_light (c : Ctl) (f : PwrSt → PwrSt) : (c.modPwr f).light = c.light := rfl
@[simp] theorem modPwr_mc (c : Ctl) (f : PwrSt → PwrSt) : (c.modPwr f).mc = c.mc := rfl
@[simp] theorem modPwr_enc (c : Ctl) (f : PwrSt → PwrSt) : (c.modPwr f).enc = c.enc := rfl
@[simp] theorem modPwr_ax (c : Ctl) (f : PwrSt → PwrSt) : (c.modPwr f).ax = c.ax := rfl
@[simp] theorem modPwr_axPhase (c : Ctl) (f : PwrSt → PwrSt) : (c.modPwr f).axPhase = c.axPhase := rfl
@[simp] theorem modPwr_axCmds (c : Ctl) (f : PwrSt → PwrSt) : (c.modPwr f).axCmds = c.axCmds := rfl
@[simp] theorem modPwr_spin (c : Ctl) (f : PwrSt → PwrSt) : (c.modPwr f).spin = c.spin := rfl
@[simp] theorem modPwr_tab (c : Ctl) (f : PwrSt → PwrSt) : (c.modPwr f).tab = c.tab := rfl
@[simp] theorem modPwr_lane (c : Ctl) (f : PwrSt → PwrSt) : (c.modPwr f).lane = c.lane := rfl
@[simp] theorem modPwr_wire (c : Ctl) (f : PwrSt → PwrSt) : (c.modPwr f).wire = c.wire := rfl
@[simp] theorem modPwr_sent (c : Ctl) (f : PwrSt → PwrSt) : (c.modPwr f).sent = c.sent := rfl
@[simp] theorem modPwr_hop (c : Ctl) (f : PwrSt → PwrSt) : (c.modPwr f).hop = c.hop := rfl
@[simp] theorem modPwr_led (c : Ctl) (f : PwrSt → PwrSt) : (c.modPwr f).led = c.led := rfl
@[simp] theorem modPwr_tent (c : Ctl) (f : PwrSt → PwrSt) : (c.modPwr f).tent = c.tent := rfl
@[simp] theorem modPwr_fan (c : Ctl) (f : PwrSt → PwrSt) : (c.modPwr f).fan = c.fan := rfl
@[simp] theorem modPwr_tw (c : Ctl) (f : PwrSt → PwrSt) : (c.modPwr f).tw = c.tw := rfl
@[simp] theorem modPwr_soloOn (c : Ctl) (f : PwrSt → PwrSt) : (c.modPwr f).soloOn = c.soloOn := rfl
@[simp] theorem modPwr_memOut (c : Ctl) (f : PwrSt → PwrSt) : (c.modPwr f).memOut = c.memOut := rfl
@[simp] theorem modPwr_ueAt (c : Ctl) (f : PwrSt → PwrSt) : (c.modPwr f).ueAt = c.ueAt := rfl
@[simp] theorem modPwr_drawn (c : Ctl) (f : PwrSt → PwrSt) : (c.modPwr f).drawn = c.drawn := rfl
@[simp] theorem modPwr_reg (c : Ctl) (f : PwrSt → PwrSt) (a : Nat) : (c.modPwr f).reg a = c.reg a := rfl
@[simp] theorem modPwr_get (c : Ctl) (f : PwrSt → PwrSt) (g : Fld) : (c.modPwr f).get g = c.get g := rfl

@[simp] theorem modTrim_regs (c : Ctl) (f : TrimSt → TrimSt) : (c.modTrim f).regs = c.regs := rfl
@[simp] theorem modTrim_tally (c : Ctl) (f : TrimSt → TrimSt) : (c.modTrim f).tally = c.tally := rfl
@[simp] theorem modTrim_half (c : Ctl) (f : TrimSt → TrimSt) : (c.modTrim f).half = c.half := rfl
@[simp] theorem modTrim_rc (c : Ctl) (f : TrimSt → TrimSt) : (c.modTrim f).rc = c.rc := rfl
@[simp] theorem modTrim_nv (c : Ctl) (f : TrimSt → TrimSt) : (c.modTrim f).nv = c.nv := rfl
@[simp] theorem modTrim_host (c : Ctl) (f : TrimSt → TrimSt) : (c.modTrim f).host = c.host := rfl
@[simp] theorem modTrim_slu (c : Ctl) (f : TrimSt → TrimSt) : (c.modTrim f).slu = c.slu := rfl
@[simp] theorem modTrim_pwr (c : Ctl) (f : TrimSt → TrimSt) : (c.modTrim f).pwr = c.pwr := rfl
@[simp] theorem modTrim_ident (c : Ctl) (f : TrimSt → TrimSt) : (c.modTrim f).ident = c.ident := rfl
@[simp] theorem modTrim_light (c : Ctl) (f : TrimSt → TrimSt) : (c.modTrim f).light = c.light := rfl
@[simp] theorem modTrim_mc (c : Ctl) (f : TrimSt → TrimSt) : (c.modTrim f).mc = c.mc := rfl
@[simp] theorem modTrim_enc (c : Ctl) (f : TrimSt → TrimSt) : (c.modTrim f).enc = c.enc := rfl
@[simp] theorem modTrim_ax (c : Ctl) (f : TrimSt → TrimSt) : (c.modTrim f).ax = c.ax := rfl
@[simp] theorem modTrim_axPhase (c : Ctl) (f : TrimSt → TrimSt) : (c.modTrim f).axPhase = c.axPhase := rfl
@[simp] theorem modTrim_axCmds (c : Ctl) (f : TrimSt → TrimSt) : (c.modTrim f).axCmds = c.axCmds := rfl
@[simp] theorem modTrim_spin (c : Ctl) (f : TrimSt → TrimSt) : (c.modTrim f).spin = c.spin := rfl
@[simp] theorem modTrim_tab (c : Ctl) (f : TrimSt → TrimSt) : (c.modTrim f).tab = c.tab := rfl
@[simp] theorem modTrim_lane (c : Ctl) (f : TrimSt → TrimSt) : (c.modTrim f).lane = c.lane := rfl
@[simp] theorem modTrim_wire (c : Ctl) (f : TrimSt → TrimSt) : (c.modTrim f).wire = c.wire := rfl
@[simp] theorem modTrim_sent (c : Ctl) (f : TrimSt → TrimSt) : (c.modTrim f).sent = c.sent := rfl
@[simp] theorem modTrim_hop (c : Ctl) (f : TrimSt → TrimSt) : (c.modTrim f).hop = c.hop := rfl
@[simp] theorem modTrim_led (c : Ctl) (f : TrimSt → TrimSt) : (c.modTrim f).led = c.led := rfl
@[simp] theorem modTrim_tent (c : Ctl) (f : TrimSt → TrimSt) : (c.modTrim f).tent = c.tent := rfl
@[simp] theorem modTrim_fan (c : Ctl) (f : TrimSt → TrimSt) : (c.modTrim f).fan = c.fan := rfl
@[simp] theorem modTrim_tw (c : Ctl) (f : TrimSt → TrimSt) : (c.modTrim f).tw = c.tw := rfl
@[simp] theorem modTrim_soloOn (c : Ctl) (f : TrimSt → TrimSt) : (c.modTrim f).soloOn = c.soloOn := rfl
@[simp] theorem modTrim_memOut (c : Ctl) (f : TrimSt → TrimSt) : (c.modTrim f).memOut = c.memOut := rfl
@[simp] theorem modTrim_ueAt (c : Ctl) (f : TrimSt → TrimSt) : (c.modTrim f).ueAt = c.ueAt := rfl
@[simp] theorem modTrim_drawn (c : Ctl) (f : TrimSt → TrimSt) : (c.modTrim f).drawn = c.drawn := rfl
@[simp] theorem modTrim_reg (c : Ctl) (f : TrimSt → TrimSt) (a : Nat) : (c.modTrim f).reg a = c.reg a := rfl
@[simp] theorem modTrim_get (c : Ctl) (f : TrimSt → TrimSt) (g : Fld) : (c.modTrim f).get g = c.get g := rfl

@[simp] theorem modTw_regs (c : Ctl) (f : TwinSt → TwinSt) : (c.modTw f).regs = c.regs := rfl
@[simp] theorem modTw_tally (c : Ctl) (f : TwinSt → TwinSt) : (c.modTw f).tally = c.tally := rfl
@[simp] theorem modTw_half (c : Ctl) (f : TwinSt → TwinSt) : (c.modTw f).half = c.half := rfl
@[simp] theorem modTw_rc (c : Ctl) (f : TwinSt → TwinSt) : (c.modTw f).rc = c.rc := rfl
@[simp] theorem modTw_nv (c : Ctl) (f : TwinSt → TwinSt) : (c.modTw f).nv = c.nv := rfl
@[simp] theorem modTw_host (c : Ctl) (f : TwinSt → TwinSt) : (c.modTw f).host = c.host := rfl
@[simp] theorem modTw_slu (c : Ctl) (f : TwinSt → TwinSt) : (c.modTw f).slu = c.slu := rfl
@[simp] theorem modTw_pwr (c : Ctl) (f : TwinSt → TwinSt) : (c.modTw f).pwr = c.pwr := rfl
@[simp] theorem modTw_ident (c : Ctl) (f : TwinSt → TwinSt) : (c.modTw f).ident = c.ident := rfl
@[simp] theorem modTw_trim (c : Ctl) (f : TwinSt → TwinSt) : (c.modTw f).trim = c.trim := rfl
@[simp] theorem modTw_light (c : Ctl) (f : TwinSt → TwinSt) : (c.modTw f).light = c.light := rfl
@[simp] theorem modTw_mc (c : Ctl) (f : TwinSt → TwinSt) : (c.modTw f).mc = c.mc := rfl
@[simp] theorem modTw_enc (c : Ctl) (f : TwinSt → TwinSt) : (c.modTw f).enc = c.enc := rfl
@[simp] theorem modTw_ax (c : Ctl) (f : TwinSt → TwinSt) : (c.modTw f).ax = c.ax := rfl
@[simp] theorem modTw_axPhase (c : Ctl) (f : TwinSt → TwinSt) : (c.modTw f).axPhase = c.axPhase := rfl
@[simp] theorem modTw_axCmds (c : Ctl) (f : TwinSt → TwinSt) : (c.modTw f).axCmds = c.axCmds := rfl
@[simp] theorem modTw_spin (c : Ctl) (f : TwinSt → TwinSt) : (c.modTw f).spin = c.spin := rfl
@[simp] theorem modTw_tab (c : Ctl) (f : TwinSt → TwinSt) : (c.modTw f).tab = c.tab := rfl
@[simp] theorem modTw_lane (c : Ctl) (f : TwinSt → TwinSt) : (c.modTw f).lane = c.lane := rfl
@[simp] theorem modTw_wire (c : Ctl) (f : TwinSt → TwinSt) : (c.modTw f).wire = c.wire := rfl
@[simp] theorem modTw_sent (c : Ctl) (f : TwinSt → TwinSt) : (c.modTw f).sent = c.sent := rfl
@[simp] theorem modTw_hop (c : Ctl) (f : TwinSt → TwinSt) : (c.modTw f).hop = c.hop := rfl
@[simp] theorem modTw_led (c : Ctl) (f : TwinSt → TwinSt) : (c.modTw f).led = c.led := rfl
@[simp] theorem modTw_tent (c : Ctl) (f : TwinSt → TwinSt) : (c.modTw f).tent = c.tent := rfl
@[simp] theorem modTw_fan (c : Ctl) (f : TwinSt → TwinSt) : (c.modTw f).fan = c.fan := rfl
@[simp] theorem modTw_soloOn (c : Ctl) (f : TwinSt → TwinSt) : (c.modTw f).soloOn = c.soloOn := rfl
@[simp] theorem modTw_memOut (c : Ctl) (f : TwinSt → TwinSt) : (c.modTw f).memOut = c.memOut := rfl
@[simp] theorem modTw_ueAt (c : Ctl) (f : TwinSt → TwinSt) : (c.modTw f).ueAt = c.ueAt := rfl
@[simp] theorem modTw_drawn (c : Ctl) (f : TwinSt → TwinSt) : (c.modTw f).drawn = c.drawn := rfl
@[simp] theorem modTw_reg (c : Ctl) (f : TwinSt → TwinSt) (a : Nat) : (c.modTw f).reg a = c.reg a := rfl
@[simp] theorem modTw_get (c : Ctl) (f : TwinSt → TwinSt) (g : Fld) : (c.modTw f).get g = c.get g := rfl

/-! ### The whole machine -/

@[simp] theorem keepQueue_pending (f : State → State) (s : State) : (keepQueue f s).pending = s.pending := rfl
@[simp] theorem keepQueue_ctl (f : State → State) (s : State) : (keepQueue f s).ctl = (f s).ctl := rfl
@[simp] theorem keepQueue_mem (f : State → State) (s : State) : (keepQueue f s).mem = (f s).mem := rfl

end Sys2Proof.Machine
end

