-- ==== Sys2Proof/Laws/Run.lean ====
section
/-! SUPPORT. The shapes of the meanings: what a well-formed command answers, what every command leaves alone. -/

namespace Sys2Proof.Machine

/-- A well-formed command runs its effect and leaves the queue. -/
theorem run_next (i : Instr) (f : State → State) (s : State) (h : i.wellFormed = true) (hr : s.ctl.pwr.inReset = false) :
    run i f s = .next (keepQueue f s) := by simp [run, h, hr]

theorem runCtl_next (i : Instr) (f : Ctl → Ctl) (s : State) (h : i.wellFormed = true)
    (hr : s.ctl.pwr.inReset = false) : runCtl i f s = .next { s with ctl := f s.ctl } := by
  simp [runCtl, run, h, hr, keepQueue]

theorem runMap_next (i : Instr) (f : Ctl → Ctl) (s : State) (h : i.wellFormed = true)
    (hr : s.ctl.pwr.inReset = false) :
    runMap i f s = .next (bar2Collect { s with ctl := f s.ctl, mem := s.mem.remap s.ctl (f s.ctl) }) := by
  simp only [runMap, run, h, hr, if_true, keepQueue, onMap]; rfl

@[simp] theorem bar2Collect_pending (s : State) : (bar2Collect s).pending = s.pending := rfl

/-- With no BAR2 read waiting none is answered. -/
theorem bar2Collect_none (s : State) (h : s.mem.bar2Reads = []) : bar2Collect s = s := by
  have e : { s.mem with bar2Reads := [] } = s.mem := by rw [← h]
  simp [bar2Collect, h, e]

/-- What `onMapAt` does: the change itself; where the map may have changed, the move of the memory, and the answers to the
BAR2 reads that have ended. -/
theorem onMapAt_else (a : Nat) (f : State → State) (h : ¬ (0x20000 ≤ a ∧ a < 0x40000)) : onMapAt a f = f := if_neg h

theorem onMapAt_then (a : Nat) (f : State → State) (s : State) (h : 0x20000 ≤ a ∧ a < 0x40000) :
    onMapAt a f s = bar2Collect { f s with mem := (f s).mem.remap s.ctl (f s).ctl } := by
  unfold onMapAt; rw [if_pos h]; rfl

@[simp] theorem onMapAt_pending (a : Nat) (f : State → State) (s : State) : (onMapAt a f s).pending = (f s).pending := by
  unfold onMapAt; split <;> rfl

/-- A change that leaves what the map depends on leaves the memory. -/
theorem remap_same (c d : Ctl) (m : Mem) (h : c.mapOf = d.mapOf) : m.remap c d = m := if_pos h

theorem runAlways_next (i : Instr) (f : State → State) (s : State) (h : i.wellFormed = true) :
    runAlways i f s = .next (keepQueue f s) := by simp [runAlways, h]

/-- While the device is held in reset a command does nothing. -/
theorem run_inReset (i : Instr) (f : State → State) (s : State) (h : i.wellFormed = true)
    (hr : s.ctl.pwr.inReset = true) : run i f s = .next s := by simp [run, h, hr]

/-- A command that no sender can form is a fault. -/
theorem run_illFormed (i : Instr) (f : State → State) (s : State) (h : i.wellFormed = false) :
    run i f s = .fault .illFormed := by simp [run, h]

/-- Whatever a command answers as the next state holds the queue as it was. -/
theorem run_pending (i : Instr) (f : State → State) (s t : State) (h : run i f s = .next t) : t.pending = s.pending := by
  unfold run at h
  split at h
  · injection h with h; subst h; split <;> rfl
  · cases h

theorem runAlways_pending (i : Instr) (f : State → State) (s t : State) (h : runAlways i f s = .next t) :
    t.pending = s.pending := by
  unfold runAlways at h
  split at h
  · injection h with h; subst h; rfl
  · cases h

/-- A command over the control state leaves the memory as it is. -/
theorem runCtl_mem (i : Instr) (f : Ctl → Ctl) (s t : State) (h : runCtl i f s = .next t) : t.mem = s.mem := by
  unfold runCtl run at h
  split at h
  · injection h with h; subst h; split <;> rfl
  · cases h

/-- A command whose effect leaves the memory as it is. -/
theorem run_mem_of {i : Instr} {f : State → State} {s t : State} (hf : (f s).mem = s.mem) (e : run i f s = .next t) :
    t.mem = s.mem := by
  unfold run at e
  split at e
  · injection e with e; subst e; split
    · rfl
    · exact hf
  · cases e

theorem runAlways_mem_of {i : Instr} {f : State → State} {s t : State} (hf : (f s).mem = s.mem)
    (e : runAlways i f s = .next t) : t.mem = s.mem := by
  unfold runAlways at e
  split at e
  · injection e with e; subst e; exact hf
  · cases e

/-- A command that its sender can form answers a next state and leaves the queue as it is. -/
theorem run_completes (i : Instr) (f : State → State) (s : State) (h : i.wellFormed = true) :
    ∃ t, run i f s = .next t ∧ t.pending = s.pending := by
  unfold run
  rw [if_pos h]
  exact ⟨_, rfl, by split <;> rfl⟩

theorem runCtl_completes (i : Instr) (f : Ctl → Ctl) (s : State) (h : i.wellFormed = true) :
    ∃ t, runCtl i f s = .next t ∧ t.pending = s.pending := run_completes i _ s h

theorem runMap_completes (i : Instr) (f : Ctl → Ctl) (s : State) (h : i.wellFormed = true) :
    ∃ t, runMap i f s = .next t ∧ t.pending = s.pending := run_completes i _ s h

theorem runAlways_completes (i : Instr) (f : State → State) (s : State) (h : i.wellFormed = true) :
    ∃ t, runAlways i f s = .next t ∧ t.pending = s.pending := by
  unfold runAlways
  rw [if_pos h]
  exact ⟨_, rfl, rfl⟩

end Sys2Proof.Machine
end

