-- ==== Sys2Proof/Laws/Frame.lean ====
section
/-! SUPPORT. What the shared operations leave as it is: DRAM under the writes and reads of BAR0, under what the
engines do with what they have read, and the form of the memory under the operations that reach it. -/

namespace Sys2Proof.Machine

/-! ### Operations that leave the memory as it is -/

theorem guardWS_mem (a : Nat) (w : Word) (f : State → State) (s : State) (h : (f s).mem = s.mem) :
    (guardWS a w f s).mem = s.mem := by
  unfold guardWS; split
  · split <;> simp [h]
  · rfl
  · rfl
  · rfl

theorem guardR_mem (a : Nat) (f : State → State) (s : State) (h : (f s).mem = s.mem) : (guardR a f s).mem = s.mem := by
  unfold guardR; split <;> simp [h]

theorem onLanes_mem (f : State → State) (s : State) (h : (f s).mem = s.mem) : (onLanes f s).mem = s.mem := h

theorem ringOrdered_mem (w : Word) (s : State) : (ringOrdered w s).mem = s.mem := by
  rfl

/-- A write of a register other than RST_CMD does not reach DRAM. -/
theorem regWrite_mem (a : Nat) (w : Word) (s : State) (h : a ≠ R.GLOBAL_RST_CMD) : (s.regWrite a w).mem = s.mem := by
  unfold State.regWrite
  split
  · rfl
  · split
    · exact ringOrdered_mem w s
    · split <;> rfl

theorem hostRead_mem (a : Nat) (s : State) : (s.hostRead a).mem = s.mem := by
  unfold State.hostRead
  apply guardR_mem
  split <;> rfl

/-- With no write waiting (R49), what may release one changes nothing. -/
@[simp] theorem releaseHeld_nil (s : State) : State.releaseHeld [] s = s := rfl

theorem ldrCompletion_mem (ring : Word → Ctl → Ctl) (s : State) : (ldrCompletion ring s).mem = s.mem := by
  unfold ldrCompletion; dsimp only
  split
  · rfl
  · split
    · rfl
    · split <;> rfl

/-- A fold of updates that each leave the memory as it is. -/
theorem foldl_mem {A : Type} (f : State → A → State) (h : ∀ s a, (f s a).mem = s.mem) (l : List A) (s : State) :
    (l.foldl f s).mem = s.mem := by
  induction l generalizing s with
  | nil => rfl
  | cons a t ih => simp [ih, h]

/-- A write that waited reaches the memory only where it is one of RST_CMD. -/
theorem takeHeld_mem (s : State) (w : Held) (h : w.addr ≠ R.GLOBAL_RST_CMD) : (s.takeHeld w).mem = s.mem := by
  unfold State.takeHeld
  split
  · rfl
  · split
    · rfl
    · split
      · rfl
      · exact regWrite_mem _ _ s h

theorem releaseHeld_mem (l : List Held) (s : State) (h : ∀ w ∈ l, w.addr ≠ R.GLOBAL_RST_CMD) :
    (State.releaseHeld l s).mem = s.mem := by
  have go : ∀ (l : List Held) (t : State), (∀ w ∈ l, w.addr ≠ R.GLOBAL_RST_CMD) → (l.foldl State.takeHeld t).mem = t.mem := by
    intro l
    induction l with
    | nil => exact fun _ _ => rfl
    | cons a u ih =>
      intro t ht
      rw [List.foldl_cons, ih _ (fun w hw => ht w (List.mem_cons_of_mem _ hw)), takeHeld_mem t a (ht a List.mem_cons_self)]
  unfold State.releaseHeld
  split
  · rfl
  · exact go l _ h

theorem spotExcess_mem (s : State) (n : Nat) : (s.spotExcess n).2.2.mem = s.mem := by
  unfold State.spotExcess; dsimp only
  split
  · rfl
  · split
    · rfl
    · split <;> rfl

theorem evalChannel_mem (n : Nat) (s : State) : (evalChannel n s).mem = s.mem := by
  unfold evalChannel; exact spotExcess_mem s n

theorem ledgerEvaluation_mem (late : Bool) (s : State) : (ledgerEvaluation late s).mem = s.mem := by
  unfold ledgerEvaluation; dsimp only
  split
  · rfl
  · exact foldl_mem _ (fun s n => evalChannel_mem n s) _ _

theorem repairCell_mem (key : Nat) (d : Int) (s : State) : (repairCell key d s).mem = s.mem := by
  rfl

theorem repairOne_mem (l : List Byte) (n i : Nat) (s : State) : (repairOne l n i s).mem = s.mem := by
  unfold repairOne; dsimp only
  split
  · exact foldl_mem _ (fun s k => repairCell_mem _ _ s) _ s
  · rfl

theorem repairs_mem (l : List Byte) (s : State) : (repairs l s).mem = s.mem :=
  foldl_mem _ (fun s n => foldl_mem _ (fun s i => repairOne_mem l n i s) _ s) _ s

theorem compareRecord_mem (l : List Byte) (s : State) : (compareRecord l s).mem = s.mem := by
  unfold compareRecord; exact repairs_mem l s

theorem recordComplete_mem (s : State) : (recordComplete s).mem = s.mem := by
  unfold recordComplete; dsimp only
  split
  · split
    · rfl
    · split
      · rfl
      · exact compareRecord_mem _ _
  · rfl

theorem replayComplete_mem (s : State) : (replayComplete s).mem = s.mem := by
  unfold replayComplete; dsimp only
  split
  · rfl
  · split
    · rfl
    · generalize twinEval _ = c
      rfl

theorem waitingRecord_mem (s : State) : (waitingRecord s).mem = s.mem := by
  unfold waitingRecord
  split
  · exact compareRecord_mem _ _
  · rfl

/-! ### Operations that reach the memory keep it sound -/

/-- What `State.sound` says of a memory. -/
theorem sound_iff (s : State) : s.sound = true ↔ s.mem.wf = true ∧ wqSound s.mem.wq0 = true ∧ wqSound s.mem.wq1 = true := by
  simp [State.sound, and_assoc]

theorem sound_of_mem {s t : State} (h : t.mem = s.mem) (hs : s.sound = true) : t.sound = true := by
  rw [sound_iff] at hs ⊢; rw [h]; exact hs

/-- Only DRAM's cells and the two queues count. -/
theorem sound_of_parts {s t : State} (h0 : t.mem.dram = s.mem.dram) (h1 : t.mem.wq0 = s.mem.wq0)
    (h2 : t.mem.wq1 = s.mem.wq1) (hs : s.sound = true) : t.sound = true := by
  rw [sound_iff] at hs ⊢; simp only [Mem.wf, h0, h1, h2] at *; exact hs

theorem sound_wq (s : State) (k : Nat) (h : s.sound = true) : wqSound (s.mem.wq k) = true := by
  rw [sound_iff] at h; unfold Mem.wq; split <;> simp [h]

theorem room_cases (m : Mem) (k g : Nat) (h : m.hasRoom k g = true) :
    (m.wq k).length < 64 ∨ g ∈ (m.wq k).map (·.granule) := by
  simp only [Mem.hasRoom, Bool.or_eq_true, decide_eq_true_eq, List.any_eq_true, beq_iff_eq] at h
  rcases h with h | ⟨e, he, hg⟩
  · exact Or.inl h
  · exact Or.inr (List.mem_map.mpr ⟨e, he, hg⟩)

/-- A write that meets room keeps the machine sound. -/
theorem sound_enqueue (s t : State) (k g n : Nat) (l : Table Byte) (m : Mem) (hm : t.mem = m.enqueue n k (granule g) l)
    (h0 : m.dram = s.mem.dram) (h1 : m.wq0 = s.mem.wq0) (h2 : m.wq1 = s.mem.wq1)
    (room : m.hasRoom k (granule g) = true) (hs : s.sound = true) : t.sound = true := by
  have hq : wqSound (m.wq k) = true := by
    have := sound_wq s k hs
    simpa [Mem.wq, h1, h2] using this
  have hn := wqSound_merge n (granule g) l (m.wq k) (by simp [granule]) hq (room_cases m k _ room)
  rw [sound_iff] at hs ⊢
  rw [hm]
  refine ⟨?_, ?_, ?_⟩
  · rw [enqueue_wf]; simpa [Mem.wf, h0] using hs.1
  · by_cases hk : k = 0 <;> simp_all [Mem.enqueue, Mem.setWq, Mem.wq]
  · by_cases hk : k = 0 <;> simp_all [Mem.enqueue, Mem.setWq, Mem.wq]

theorem finding_sound (s : State) (m a cls : Nat) (f : EccFinding) (h : s.sound = true) : (s.finding m a cls f).sound = true := by
  unfold State.finding; dsimp only
  split
  · exact h
  · split <;> exact sound_of_mem rfl h
  · exact sound_of_parts rfl rfl rfl h

/-- Bytes rewritten in DRAM keep its form. -/
theorem cells_sound (s : State) (g : Nat) (l : Table Byte) (h : s.sound = true) :
    ({ s with mem := { s.mem with dram := cellSetAll s.mem.dram g l } } : State).sound = true := by
  rw [sound_iff] at h ⊢
  exact ⟨cellsAbove_cellSetAll _ _ _ h.1, h.2⟩

/-- A read that meets errors keeps the machine sound. -/
theorem readGranule_sound (m a cls : Nat) (errs : List SymbolError) (s : State) (h : s.sound = true) :
    (readGranule m a cls errs s).sound = true := by
  unfold readGranule; dsimp only
  split
  · exact finding_sound _ _ _ _ _ h
  · split
    · exact h
    · refine finding_sound _ _ _ _ _ ?_
      split
      · exact h
      · exact cells_sound s _ _ h

/-- A fold of updates that each keep the machine sound. -/
theorem foldl_sound {A : Type} (f : State → A → State) (hf : ∀ s a, s.sound = true → (f s a).sound = true) (l : List A)
    (s : State) (h : s.sound = true) : (l.foldl f s).sound = true := by
  induction l generalizing s with
  | nil => exact h
  | cons a t ih => exact ih _ (hf s a h)

theorem readGranules_sound (m a n cls : Nat) (errs : List SymbolError) (s : State) (h : s.sound = true) :
    (readGranules m a n cls errs s).sound = true :=
  foldl_sound _ (fun s _ hs => readGranule_sound _ _ _ _ s hs) _ _ h

/-- A read that a millrace serves keeps the machine sound. -/
theorem serveRead_sound (m : Nat) (errs : List SymbolError) (r : McRead) (s : State) (h : s.sound = true) :
    (serveRead m errs r s).sound = true := by
  have g := readGranules_sound m r.addr r.len r.cls errs { s with ctl := s.ctl.activate m r.addr } (sound_of_mem (s := s) rfl h)
  unfold serveRead; dsimp only
  split
  · exact g
  · exact sound_of_mem (s := readGranules m r.addr r.len r.cls errs { s with ctl := s.ctl.activate m r.addr }) rfl g

theorem serveBulkN_sound (n m : Nat) (s : State) (h : s.sound = true) : (serveBulkN n m s).sound = true := by
  induction n generalizing s with
  | zero => exact h
  | succ n ih =>
    unfold serveBulkN
    split
    · split
      · exact h
      · exact ih _ (serveRead_sound _ _ _ _ (sound_of_mem (s := s) rfl h))
    · exact h

theorem serveBulk_sound (m : Nat) (s : State) (h : s.sound = true) : (serveBulk m s).sound = true :=
  serveBulkN_sound _ m s h

theorem rtServe_sound (m : Nat) (errs : List SymbolError) (s : State) (h : s.sound = true) :
    (rtServe m errs s).sound = true := by
  unfold rtServe
  split
  · exact h
  · exact serveRead_sound _ _ _ _ (sound_of_mem (s := s) rfl h)

theorem serveUpTo_sound (w : Asker) (n m : Nat) (s : State) (h : s.sound = true) : (serveUpTo w n m s).sound = true := by
  induction n generalizing s with
  | zero => exact h
  | succ n ih =>
    unfold serveUpTo
    split
    · split
      · exact h
      · exact ih _ (rtServe_sound _ _ _ (sound_of_mem (s := s) rfl h))
    · exact h

/-- What a requester's read brings about at the millraces keeps the machine sound. -/
theorem serveFor_sound (w : Asker) (s : State) (h : s.sound = true) : (serveFor w s).sound = true :=
  foldl_sound _ (fun s m hs => serveBulk_sound _ _ (serveUpTo_sound w _ m s hs)) _ _ h

theorem shortReturn_sound (w : Asker) (a n : Nat) (ue : Bool) (s : State) (h : s.sound = true) :
    (shortReturn w a n ue s).1.sound = true := by
  have g := serveFor_sound w s h
  unfold shortReturn; dsimp only
  refine sound_of_mem (s := if _ then _ else _) rfl ?_
  split
  · exact finding_sound _ _ _ _ _ g
  · exact g

theorem terrReturn_sound (k : Nat) (ue : Bool) (s : State) (h : s.sound = true) : (terrReturn k ue s).sound = true := by
  unfold terrReturn; dsimp only
  split
  · exact h
  · exact sound_of_mem (s := (shortReturn _ _ _ ue s).1) rfl (shortReturn_sound _ _ _ _ _ h)

theorem ledgerCellReturn_sound (k : Nat) (ue : Bool) (s : State) (h : s.sound = true) :
    (ledgerCellReturn k ue s).sound = true := by
  unfold ledgerCellReturn; dsimp only
  split
  · exact h
  · exact sound_of_mem (s := (shortReturn _ _ _ ue s).1) rfl (shortReturn_sound _ _ _ _ _ h)

theorem ledgerSweep_sound (s : State) (h : s.sound = true) : (ledgerSweep s).sound = true := by
  unfold ledgerSweep; dsimp only
  split
  · exact h
  · split
    all_goals exact sound_of_mem (s := readGranule _ _ 2 [] _) rfl (readGranule_sound _ _ _ _ _ (sound_of_mem (s := s) rfl h))

/-- A read of the hopper that returns keeps the machine sound. -/
theorem hopperReturn_sound (x k : Nat) (s : State) (h : s.sound = true) : (hopperReturn x k s).sound = true := by
  unfold hopperReturn; dsimp only
  split
  · exact h
  · split
    · exact h
    · rename_i r _ _
      have g := serveFor_sound (.hopper r.id) s h
      generalize serveFor (.hopper r.id) s = s1 at g
      exact sound_of_mem (s := s1) rfl g

/-- Reads of BAR2 that are answered change only the list of those that wait. -/
theorem bar2Collect_mem (s : State) : (bar2Collect s).mem = { s.mem with bar2Reads := (bar2Collect s).mem.bar2Reads } := rfl

theorem bar2Collect_sound (s : State) (h : s.sound = true) : (bar2Collect s).sound = true :=
  sound_of_parts (s := s) rfl rfl rfl h

theorem bar2Ready_sound (s : State) (h : s.sound = true) : (bar2Ready s).sound = true :=
  bar2Collect_sound _ (foldl_sound _ (fun s m hs => serveBulk_sound m s hs) _ _ (sound_of_parts (s := s) rfl rfl rfl h))

/-- Either way sound. -/
theorem ite_sound {p : Prop} [Decidable p] {a b : State} (ha : p → a.sound = true) (hb : ¬ p → b.sound = true) :
    (if p then a else b).sound = true := by
  split
  · exact ha ‹_›
  · exact hb ‹_›

theorem acceptWrite_sound (own : Bool) (a : Nat) (b : Table Byte) (s : State) (room : s.roomFor a = true)
    (h : s.sound = true) : (acceptWrite own a b s).sound = true :=
  sound_enqueue s _ _ a _ b s.mem rfl rfl rfl rfl room h

/-- A write of the device that was accepted, dropped as stale or waits keeps the machine sound. -/
theorem dramWrite_sound (s : State) (h : s.sound = true) : (dramWrite s).sound = true := by
  unfold dramWrite; dsimp only
  split
  · rename_i a l rest e
    have ok := takeFirst_some _ _ _ _ e
    split
    · exact sound_of_parts (s := s) rfl rfl rfl h
    · refine acceptWrite_sound _ _ _ _ ?_ (sound_of_parts (s := s) rfl rfl rfl h)
      rename_i hn
      have r : s.roomFor a = true := by simpa [hn] using ok
      exact r
  · split
    · exact h
    · refine ite_sound (fun _ => sound_of_mem (s := s) rfl h) (fun _ => ?_)
      exact ite_sound (fun r => acceptWrite_sound _ _ _ _ r (sound_of_mem (s := s) rfl h))
        (fun _ => sound_of_parts (s := s) rfl rfl rfl h)

theorem bar2Passed_sound (rest : List (Nat × List (Option Byte))) (s : State) (h : s.sound = true) :
    (bar2Passed rest s).sound = true :=
  bar2Ready_sound _ (sound_of_parts (s := s) rfl rfl rfl h)

theorem hostWrite_sound (s : State) (h : s.sound = true) : (hostWrite s).sound = true := by
  unfold hostWrite; dsimp only
  split
  · exact h
  · split
    · exact bar2Passed_sound _ _ (sound_of_mem (s := s) rfl h)
    · split
      · exact bar2Passed_sound _ _ (acceptWrite_sound _ _ _ _ ‹_› h)
      · split
        · exact h
        · exact sound_of_parts (s := s) rfl rfl rfl h

theorem commit_queues (m : Mem) (e : WqEntry) : (m.commit e).wq0 = m.wq0 ∧ (m.commit e).wq1 = m.wq1 := by
  unfold Mem.commit; split <;> exact ⟨rfl, rfl⟩

theorem commits_queues (l : List WqEntry) (m : Mem) :
    (l.foldl Mem.commit m).wq0 = m.wq0 ∧ (l.foldl Mem.commit m).wq1 = m.wq1 := by
  induction l generalizing m with
  | nil => exact ⟨rfl, rfl⟩
  | cons e t ih =>
    have h1 := ih (m.commit e)
    have h2 := commit_queues m e
    exact ⟨h1.1.trans h2.1, h1.2.trans h2.2⟩

/-- The reads of the partial entries of a batch keep the machine sound. -/
theorem readPartials_sound (m : Nat) (errs : List SymbolError) (b : List WqEntry) (s : State) (h : s.sound = true) :
    (readPartials m errs b s).sound = true := by
  refine foldl_sound _ (fun s e hs => ?_) _ _ h
  split
  · exact readGranule_sound _ _ _ _ _ (sound_of_mem (s := s) rfl hs)
  · exact sound_of_mem (s := s) rfl hs

/-- A batch committed to DRAM, with a sound queue left, keeps the machine sound. -/
theorem batch_sound (s : State) (c : Ctl) (m : Nat) (now rest : List WqEntry) (hq : wqSound rest = true) (h : s.sound = true) :
    ({ s with ctl := c, mem := (now.foldl Mem.commit s.mem).setWq m rest } : State).sound = true := by
  have hc := commits_queues now s.mem
  have hw := h
  rw [sound_iff] at hw ⊢
  dsimp only
  refine ⟨?_, ?_, ?_⟩
  · rw [setWq_wf]; exact commits_wf _ _ hw.1
  · by_cases hk : m = 0
    · simpa [Mem.setWq, hk] using hq
    · simp [Mem.setWq, hk, hc.1, hw.2.1]
  · by_cases hk : m = 0
    · simp [Mem.setWq, hk, hc.2, hw.2.2]
    · simpa [Mem.setWq, hk] using hq

theorem writeBatch_sound (m : Nat) (errs : List SymbolError) (s : State) (h : s.sound = true) :
    (writeBatch m errs s).sound = true := by
  unfold writeBatch; dsimp only
  split
  · exact h
  · split
    · exact serveBulk_sound _ _ (sound_of_mem (s := s) rfl h)
    · exact serveBulk_sound _ _ (batch_sound _ _ m _ _ (wqSound_filter _ _ (sound_wq s m h)) (readPartials_sound m errs _ s h))

/-- What `Mem.fill` does to a queued entry. -/
theorem fill_queue (m : Mem) (a : Nat) (l : List Byte) : ∃ f : WqEntry → WqEntry, (∀ e, (f e).granule = e.granule) ∧
    (m.fill a l).wq0 = m.wq0.map f ∧ (m.fill a l).wq1 = m.wq1.map f :=
  ⟨fun e => { e with bytes := e.bytes.filter (fun b =>
      !(decide (a ≤ e.granule + b.1) && decide (e.granule + b.1 < a + l.length))) }, fun _ => rfl, rfl, rfl⟩

theorem fill_sound (s t : State) (a : Nat) (l : List Byte) (hm : t.mem = s.mem.fill a l) (h : s.sound = true) :
    t.sound = true := by
  obtain ⟨f, hf, h0, h1⟩ := fill_queue s.mem a l
  rw [sound_iff] at h ⊢
  rw [hm, h0, h1, wqSound_map f hf, wqSound_map f hf]
  exact ⟨fill_wf _ _ _ h.1, h.2⟩

theorem fullReset_sound (cause : Nat) (s : State) : (fullReset cause s).sound = true := rfl

theorem regWrite_sound (a : Nat) (w : Word) (s : State) (h : s.sound = true) : (s.regWrite a w).sound = true := by
  by_cases e : a = R.GLOBAL_RST_CMD
  · unfold State.regWrite
    split
    · exact sound_of_mem rfl h
    · split
      · exact sound_of_mem (ringOrdered_mem w s) h
      · split
        · unfold chipReset
          split
          · exact sound_of_mem rfl h
          · exact fullReset_sound 4 s
        · exact h
  · exact sound_of_mem (regWrite_mem a w s e) h

theorem guardWS_sound (a : Nat) (w : Word) (f : State → State) (s : State) (h : s.sound = true) (hf : (f s).sound = true) :
    (guardWS a w f s).sound = true := by
  unfold guardWS
  split
  · split
    · exact sound_of_mem (s := s) rfl h
    · exact hf
  · exact h
  · exact h
  · exact sound_of_mem rfl h

/-- A write that waited keeps the machine sound when its turn comes. -/
theorem takeHeld_sound (s : State) (w : Held) (h : s.sound = true) : (s.takeHeld w).sound = true := by
  unfold State.takeHeld
  split
  · exact h
  · split
    · exact sound_of_mem (s := s) rfl h
    · split
      · exact sound_of_mem (s := s) rfl h
      · exact regWrite_sound _ _ s h

theorem releaseHeld_sound (l : List Held) (s : State) (h : s.sound = true) : (State.releaseHeld l s).sound = true := by
  unfold State.releaseHeld
  split
  · exact h
  · exact foldl_sound _ (fun s w hs => takeHeld_sound s w hs) _ _ (sound_of_mem (s := s) rfl h)

/-! ### A change of the address map (R444) -/

/-- Cells that move keep the canonical form. -/
theorem cells_moved (p : Nat → Option Nat) (l : List Host.Cell) (acc : List Host.Cell) (h : cellsAbove 0 acc = true) :
    cellsAbove 0 (l.foldl (fun l e => match p e.1 with
      | some a => cellSet l a e.2
      | none => l) acc) = true := by
  induction l generalizing acc with
  | nil => exact h
  | cons e t ih =>
    refine ih _ ?_
    dsimp only
    split
    · exact cellsAbove_cellSet _ _ _ _ (Nat.zero_le _) h
    · exact h

/-- A write queue whose entries move stays sound: it does not grow. -/
theorem queue_moved (p : Nat → Option Nat) (l acc : List WqEntry) (len : acc.length + l.length ≤ 64)
    (h : wqSound acc = true) :
    wqSound (l.foldl (fun l e => match p e.granule with
      | some a => wqMerge e.at_ (granule a) e.bytes l
      | none => l) acc) = true := by
  induction l generalizing acc with
  | nil => exact h
  | cons e t ih =>
    simp only [List.length_cons] at len
    simp only [List.foldl_cons]
    split
    · rename_i a _
      have g := wqSound_merge e.at_ (granule a) e.bytes acc (by simp [granule]) h (Or.inl (by omega))
      refine ih _ ?_ g
      have eq := congrArg List.length (wqMerge_granules e.at_ (granule a) e.bytes acc)
      rw [List.length_map] at eq
      rw [eq]
      split
      · rw [List.length_map]; omega
      · simp only [List.length_append, List.length_map, List.length_cons, List.length_nil]; omega
    · exact ih _ (by omega) h

theorem remap_sound (s t : State) (c d : Ctl) (hm : t.mem = s.mem.remap c d) (h : s.sound = true) : t.sound = true := by
  have hw := h
  rw [sound_iff] at hw ⊢
  rw [hm]
  unfold Mem.remap
  split
  · exact hw
  · have n0 := ((wqSound_iff _).mp hw.2.1).1
    have n1 := ((wqSound_iff _).mp hw.2.2).1
    exact ⟨cells_moved _ _ _ rfl, queue_moved _ _ _ (by simpa using n0) rfl, queue_moved _ _ _ (by simpa using n1) rfl⟩

theorem onMap_sound (f : State → State) (s : State) (h : (f s).sound = true) : (onMap f s).sound = true :=
  bar2Collect_sound _ (remap_sound (f s) _ _ _ rfl h)

theorem onMapAt_sound (a : Nat) (f : State → State) (s : State) (h : (f s).sound = true) : (onMapAt a f s).sound = true := by
  unfold onMapAt
  split
  · exact onMap_sound f s h
  · exact h

/-- A write outside the millrace pages leaves the map as it is. -/
theorem onMapAt_mem (a : Nat) (f : State → State) (s : State) (h : (f s).mem = s.mem)
    (ha : ¬ (0x20000 ≤ a ∧ a < 0x40000)) : (onMapAt a f s).mem = s.mem := by
  unfold onMapAt; rw [if_neg ha]; exact h

/-- A command whose effect keeps the machine sound. -/
theorem run_sound_of {i : Instr} {f : State → State} {s t : State} (h : s.sound = true) (hf : (f s).sound = true)
    (e : run i f s = .next t) : t.sound = true := by
  unfold run at e
  split at e
  · injection e with e; subst e; split
    · exact h
    · exact hf
  · cases e

theorem runMap_sound {i : Instr} {f : Ctl → Ctl} {s t : State} (h : s.sound = true) (e : runMap i f s = .next t) :
    t.sound = true :=
  run_sound_of h (onMap_sound _ s (sound_of_mem (s := s) rfl h)) e

/-- A command after which writes that waited may take effect reaches the memory only by one of RST_CMD. -/
theorem runHeld_mem {i : Instr} {f : Ctl → Ctl} {s t : State} (h : ∀ w ∈ s.ctl.host.held, w.addr ≠ R.GLOBAL_RST_CMD)
    (e : runHeld i f s = .next t) : t.mem = s.mem :=
  run_mem_of (releaseHeld_mem _ { s with ctl := f s.ctl } h) e

/-- A tick: the record that waited leaves the memory, the writes that waited may reach it by one of RST_CMD. -/
theorem runTick_mem {i : Instr} {f : Ctl → Ctl} {s t : State} (h : ∀ w ∈ s.ctl.host.held, w.addr ≠ R.GLOBAL_RST_CMD)
    (e : runTick i f s = .next t) : t.mem = s.mem :=
  run_mem_of ((releaseHeld_mem _ (waitingRecord { s with ctl := f s.ctl }) h).trans (waitingRecord_mem _)) e

theorem runTick_sound {i : Instr} {f : Ctl → Ctl} {s t : State} (h : s.sound = true) (e : runTick i f s = .next t) :
    t.sound = true :=
  run_sound_of h (releaseHeld_sound _ (waitingRecord { s with ctl := f s.ctl })
    (sound_of_mem (s := { s with ctl := f s.ctl }) (waitingRecord_mem _) (sound_of_mem (s := s) rfl h))) e

/-- A command of the control state after which writes that waited may take effect. -/
theorem runHeld_sound {i : Instr} {f : Ctl → Ctl} {s t : State} (h : s.sound = true) (e : runHeld i f s = .next t) :
    t.sound = true :=
  run_sound_of h (releaseHeld_sound _ { s with ctl := f s.ctl } (sound_of_mem (s := s) rfl h)) e

theorem runAlways_sound_of {i : Instr} {f : State → State} {s t : State} (hf : (f s).sound = true)
    (e : runAlways i f s = .next t) : t.sound = true := by
  unfold runAlways at e
  split at e
  · injection e with e; subst e; exact hf
  · cases e

theorem onLanes_sound (f : State → State) (s : State) (h : (f s).sound = true) : (onLanes f s).sound = true :=
  sound_of_mem (s := f s) rfl h

theorem bulkRead_sound (m a : Nat) (f : List SymbolError) (s : State) (h : s.sound = true) : (bulkRead m a f s).sound = true :=
  serveBulk_sound _ _ (sound_of_mem (s := s) rfl h)

theorem bar2Write_sound (off : Nat) (l : List (Option Byte)) (s : State) (h : s.sound = true) :
    (bar2Write off l s).sound = true :=
  sound_of_parts (s := s) rfl rfl rfl h

theorem bar2Read_sound (off : Nat) (en : List Bool) (s : State) (h : s.sound = true) : (bar2Read off en s).sound = true :=
  bar2Ready_sound _ (sound_of_parts (s := s) rfl rfl rfl h)

theorem warmPerst_sound (s : State) (h : s.sound = true) : (warmPerst s).sound = true := by
  unfold warmPerst
  split
  · exact fullReset_sound 2 s
  · generalize linkDown _ = c
    exact sound_of_mem (s := s) rfl h

theorem chipReset_sound (s : State) (h : s.sound = true) : (chipReset s).sound = true := by
  unfold chipReset
  split
  · generalize Ctl.flag _ _ _ = c
    exact sound_of_mem (s := s) rfl h
  · exact fullReset_sound 4 s

theorem ledgerFillDone_cases (s : State) : ledgerFillDone s = s ∨
    ∃ c w a l, ledgerFillDone s = { s with ctl := c, mem := ({ s.mem with waiting := w } : Mem).fill a l } := by
  by_cases h : ¬ s.ctl.is R.LEDGER_STAT_FILLING
  · exact Or.inl (if_pos h)
  · exact Or.inr ⟨_, _, _, _, if_neg h⟩

theorem ledgerFillDone_sound (s : State) (h : s.sound = true) : (ledgerFillDone s).sound = true := by
  rcases ledgerFillDone_cases s with e | ⟨c, w, a, l, e⟩
  · rw [e]; exact h
  · rw [e]
    exact fill_sound { s with mem := { s.mem with waiting := w } } _ a l rfl (sound_of_parts (s := s) rfl rfl rfl h)

theorem rtReadReturn_sound (m ns : Nat) (errs : List SymbolError) (s : State) (h : s.sound = true) :
    (rtReadReturn m ns errs s).sound = true := by
  unfold rtReadReturn
  split
  · exact h
  · exact serveBulk_sound _ _ (rtServe_sound _ _ _ (sound_of_mem (s := s) rfl h))

theorem scrubRead_sound (m : Nat) (errs : List SymbolError) (s : State) (h : s.sound = true) :
    (scrubRead m errs s).sound = true := by
  have go : ∀ (c : Ctl) (a : Nat), (readGranule m a 2 errs { s with ctl := c }).sound = true := fun c a =>
    readGranule_sound _ _ _ _ _ (sound_of_mem (s := s) rfl h)
  unfold scrubRead
  extract_lets
  split
  · split
    · exact sound_of_mem (s := s) rfl h
    · exact go _ _
  · exact h

end Sys2Proof.Machine
end

