-- ==== Sys2Proof/Laws/Lanes.lean ====
section
/-! SUPPORT. What the receiver of a lane does with a block, said once. -/

namespace Sys2Proof.Machine

/-- A block that is decoded does what its type says, to the receiver that has counted it. -/
theorem rxBlock_decodes (k : Nat) (ctrl : Bool) (payload : Nat) (f : Ctl → Ctl) (c : Ctl) (drift : Nat)
    (h : c.decodes k ctrl payload = true) : rxBlock k ctrl payload f c drift = f (received k ctrl payload c) := by
  simp only [Ctl.decodes, Bool.and_eq_true, Bool.not_eq_true', Bool.and_eq_false_iff, beq_eq_false_iff_ne, ne_eq] at h
  obtain ⟨⟨⟨⟨hd, hh⟩, hs⟩, hp⟩, ht⟩ := h
  have hn : ¬ (c.lst k = lnTest ∧ c.get (R.LANE_TEST_MODE k) = 3) := fun x => ht.elim (fun a => a x.1) (fun a => a x.2)
  simp [rxBlock, received, hd, hh, hs, hp, hn]

/-- A control block that is decoded: its meaning where its CHECK holds, else it is discarded and counted. -/
theorem ctlBlock_decodes (k typ body check : Nat) (f : Ctl → Ctl) (c : Ctl)
    (h : c.decodes k true (ctlWord typ body check) = true) :
    ctlBlock k typ body check f c =
      (let d := received k true (ctlWord typ body check) c
       if ctlGood typ body check then relockBlock k (f d) else if d.hasLane k then discardBlock k 1 d else d) :=
  rxBlock_decodes _ _ _ _ _ _ h

/-- A data block that is decoded. -/
theorem dataBlock_decodes (k mt body chk : Nat) (f : Ctl → Ctl) (c : Ctl)
    (h : c.decodes k false (dataWord mt body chk) = true) :
    dataBlock k mt body chk f c = relockBlock k (f (received k false (dataWord mt body chk) c)) :=
  rxBlock_decodes _ _ _ _ _ _ h

end Sys2Proof.Machine
end

