-- ==== Sys2Proof/Laws/Regs.lean ====
section
/-! SUPPORT. Laws of sparse tables and of the register store: what a read gives after a write. -/

namespace Sys2Proof.Machine

theorem tget?_tput_self {V : Type} (t : Table V) (k : Nat) (v : V) : tget? (tput t k v) k = some v := by
  induction t with
  | nil => simp [tput, tget?]
  | cons e t ih =>
    obtain ⟨k', v'⟩ := e
    simp only [tput]
    split
    · simp [tget?]
    · split <;> simp_all [tget?]

theorem tget?_tput_ne {V : Type} (t : Table V) (k j : Nat) (v : V) (h : j ≠ k) :
    tget? (tput t k v) j = tget? t j := by
  induction t with
  | nil => simp [tput, tget?, h]
  | cons e t ih =>
    obtain ⟨k', v'⟩ := e
    simp only [tput]
    split
    · subst_vars; simp [tget?, h]
    · split <;> simp_all [tget?]

theorem tget_tput_self {V : Type} (t : Table V) (k : Nat) (v d : V) : tget (tput t k v) k d = v := by
  simp [tget, tget?_tput_self]

theorem tget_tput_ne {V : Type} (t : Table V) (k j : Nat) (v d : V) (h : j ≠ k) :
    tget (tput t k v) j d = tget t j d := by
  simp [tget, tget?_tput_ne t k j v h]

/-- A register reads as the low 32 bits of what was written last. -/
theorem reg_setReg_self (c : Ctl) (a v : Nat) : (c.setReg a v).reg a = v % 2 ^ 32 := by
  simp [Ctl.setReg, Ctl.reg, tget?_tput_self]

/-- A write of one register leaves every other as it is. -/
theorem reg_setReg_ne (c : Ctl) (a b v : Nat) (h : b ≠ a) : (c.setReg a v).reg b = c.reg b := by
  simp [Ctl.setReg, Ctl.reg, tget?_tput_ne _ _ _ _ h]

theorem reg_put_ne (c : Ctl) (f : Fld) (v b : Nat) (h : b ≠ f.addr) : (c.put f v).reg b = c.reg b :=
  reg_setReg_ne c f.addr b _ h

theorem get_put_ne (c : Ctl) (f g : Fld) (v : Nat) (h : g.addr ≠ f.addr) : (c.put f v).get g = c.get g := by
  simp [Ctl.get, reg_put_ne c f v g.addr h]

theorem get_setReg_ne (c : Ctl) (a v : Nat) (g : Fld) (h : g.addr ≠ a) : (c.setReg a v).get g = c.get g := by
  simp [Ctl.get, reg_setReg_ne c a g.addr v h]

theorem splice_lt (n lo w v : Nat) (hn : n < 2 ^ 32) (h : lo + w ≤ 32) : splice n lo w v < 2 ^ 32 := by
  unfold splice
  have h1 : n % 2 ^ lo < 2 ^ lo := Nat.mod_lt _ (by positivity)
  have h2 : v % 2 ^ w < 2 ^ w := Nat.mod_lt _ (by positivity)
  have h3 : n >>> (lo + w) < 2 ^ (32 - (lo + w)) := by
    rw [Nat.shiftRight_eq_div_pow]
    apply Nat.div_lt_of_lt_mul
    rw [← pow_add]
    have : lo + w + (32 - (lo + w)) = 32 := by omega
    rwa [this]
  have e1 : (2 : Nat) ^ (lo + w) = 2 ^ lo * 2 ^ w := pow_add 2 lo w
  have e2 : (2 : Nat) ^ (lo + w) * 2 ^ (32 - (lo + w)) = 2 ^ 32 := by
    rw [← pow_add]; congr 1; omega
  have h4 : (v % 2 ^ w) * 2 ^ lo + 2 ^ lo ≤ 2 ^ (lo + w) := by
    rw [e1, mul_comm (2 ^ lo) (2 ^ w)]
    nlinarith [Nat.pos_of_ne_zero (show (2 : Nat) ^ lo ≠ 0 by positivity)]
  have h5 : (n >>> (lo + w)) * 2 ^ (lo + w) + 2 ^ (lo + w) ≤ 2 ^ 32 := by
    rw [← e2]
    nlinarith [Nat.pos_of_ne_zero (show (2 : Nat) ^ (lo + w) ≠ 0 by positivity)]
  omega

theorem slice_splice (n lo w v : Nat) : slice (splice n lo w v) lo w = v % 2 ^ w := by
  unfold slice splice
  rw [Nat.shiftRight_eq_div_pow]
  have h1 : n % 2 ^ lo < 2 ^ lo := Nat.mod_lt _ (by positivity)
  have e : n % 2 ^ lo + (v % 2 ^ w) * 2 ^ lo + (n >>> (lo + w)) * 2 ^ (lo + w)
      = n % 2 ^ lo + 2 ^ lo * (v % 2 ^ w + 2 ^ w * (n >>> (lo + w))) := by
    rw [pow_add]; ring
  rw [e, Nat.add_mul_div_left _ _ (by positivity), Nat.div_eq_of_lt h1, Nat.zero_add, Nat.add_mul_mod_self_left,
    Nat.mod_mod]

theorem reg_lt (c : Ctl) (a : Nat) (h : regReset a < 2 ^ 32) : c.reg a < 2 ^ 32 := by
  unfold Ctl.reg
  split
  · exact BitVec.isLt _
  · exact h

/-- A field reads as the low bits of what was put into it. -/
theorem get_put_self (c : Ctl) (f : Fld) (v : Nat) (hf : f.lo + f.w ≤ 32) (hr : regReset f.addr < 2 ^ 32) :
    (c.put f v).get f = v % 2 ^ f.w := by
  unfold Ctl.get Ctl.put
  rw [reg_setReg_self, Nat.mod_eq_of_lt (splice_lt _ _ _ _ (reg_lt c f.addr hr) hf), slice_splice]

/-- A field that lies apart from the one that is set keeps its value. -/
theorem slice_splice_apart (n lo w v lo' w' : Nat) (h : lo' + w' ≤ lo ∨ lo + w ≤ lo') :
    slice (splice n lo w v) lo' w' = slice n lo' w' := by
  have h1 : n % 2 ^ lo < 2 ^ lo := Nat.mod_lt _ (by positivity)
  rcases h with h | h
  · have e : splice n lo w v = n % 2 ^ lo + 2 ^ lo * (v % 2 ^ w + 2 ^ w * (n >>> (lo + w))) := by
      unfold splice; rw [pow_add]; ring
    have d : (2 : Nat) ^ lo = 2 ^ lo' * 2 ^ w' * 2 ^ (lo - (lo' + w')) := by
      rw [← pow_add, ← pow_add]; congr 1; omega
    unfold slice
    rw [Nat.shiftRight_eq_div_pow, Nat.shiftRight_eq_div_pow, ← Nat.mod_mul_right_div_self, ← Nat.mod_mul_right_div_self,
      e, Nat.add_mod, d, mul_assoc (2 ^ lo' * 2 ^ w'), Nat.mul_mod_right, Nat.add_zero, Nat.mod_mul_right_mod,
      Nat.mod_mod]
  · have hv : v % 2 ^ w < 2 ^ w := Nat.mod_lt _ (by positivity)
    have e : splice n lo w v = (n % 2 ^ lo + v % 2 ^ w * 2 ^ lo) + 2 ^ (lo + w) * (n / 2 ^ (lo + w)) := by
      unfold splice; rw [Nat.shiftRight_eq_div_pow]; ring
    have small : n % 2 ^ lo + v % 2 ^ w * 2 ^ lo < 2 ^ (lo + w) := by
      rw [pow_add]
      nlinarith [Nat.pos_of_ne_zero (show (2 : Nat) ^ lo ≠ 0 by positivity)]
    have q : splice n lo w v / 2 ^ (lo + w) = n / 2 ^ (lo + w) := by
      rw [e, Nat.add_mul_div_left _ _ (by positivity), Nat.div_eq_of_lt small, Nat.zero_add]
    have d : (2 : Nat) ^ lo' = 2 ^ (lo + w) * 2 ^ (lo' - (lo + w)) := by
      rw [← pow_add]; congr 1; omega
    unfold slice
    rw [Nat.shiftRight_eq_div_pow, Nat.shiftRight_eq_div_pow, d, ← Nat.div_div_eq_div_mul, ← Nat.div_div_eq_div_mul, q]

/-- A field put into a register leaves the register's other fields as they are. -/
theorem get_put_apart (c : Ctl) (f g : Fld) (v : Nat) (ha : g.addr = f.addr) (h : g.lo + g.w ≤ f.lo ∨ f.lo + f.w ≤ g.lo)
    (hf : f.lo + f.w ≤ 32) (hr : regReset f.addr < 2 ^ 32) : (c.put f v).get g = c.get g := by
  unfold Ctl.get Ctl.put
  rw [ha, reg_setReg_self, Nat.mod_eq_of_lt (splice_lt _ _ _ _ (reg_lt c f.addr hr) hf), slice_splice_apart _ _ _ _ _ _ h]

end Sys2Proof.Machine
end

