-- ==== Sys2Proof/Tests/Slice0.lean ====
section
/-! SUPPORT. Tests: ill-formed operands are refused, the spec's worked examples come out, and every statement's hypotheses are
met by a concrete state and operands. -/

set_option linter.unusedVariables false
set_option linter.unusedSimpArgs false
set_option maxRecDepth 100000

open Sys2Proof Sys2Proof.Machine

/-- The same `n` ticks after reset. -/
def later (n : Nat) (c : Ctl) : Ctl := { c with tally := BitVec.ofNat 48 n }

/-- The state after reset with its registers and engines changed. -/
def withCtl (f : Ctl → Ctl) : State := { State.reset with ctl := f State.reset.ctl }

/-! ### Ill-formed operands: one term for each check of WellFormed.lean -/

theorem test_ill_formed_bar : ([.bar0AccessError false (2 ^ 24) 1, .bar0AccessError false 0 0, .bar0AccessError false 0 4097,
    .bar0NoPageAccess false (2 ^ 24), .bar0NoPageAccess false 1, .stoppedPageAccess false (2 ^ 24),
    .stoppedPageAccess false 1, .registerWrite (2 ^ 24) (0 : Word), .registerWrite 1 (0 : Word),
    .wideValueRead (2 ^ 24), .wideValueRead 1, .wideValueCommit (2 ^ 24) (0 : Word), .wideValueCommit 1 (0 : Word),
    .counterReadClear (2 ^ 24), .counterReadClear 1, .blkEnable (2 ^ 24) false, .blkEnable 1 false,
    .softReset (2 ^ 24) false, .softReset 1 false] : List Instr).all (fun i => !i.wellFormed) = true := by decide

theorem test_ill_formed_stream : ([.ctxEnable (128) (2 ^ 31 : Word), .ctxEnable 0 0, .ctxDisable (128) (0 : Word), .ctxDisable 0 (2 ^ 31 : Word),
    .ctxDrainComplete (128), .resume (128), .skip (128), .hopperReadReturn (128) 0, .recordStart (24),
    .recordRetire (24), .shareOffer (128), .fenceArrive (24), .fenceTimeout (24), .layerEndArrive (24),
    .layerEndPass (24), .ldrDescriptorReturn (List.replicate 288 0), .ldrDescriptorReturn [0],
    .ldrDataReturn (4096) [0] 0, .ldrDataReturn 0 (List.replicate 4097 0) 0, .ldrDataReturn 0 [0] 3] : List Instr).all (fun i => !i.wellFormed) = true := by decide

theorem test_ill_formed_spindle : ([.spindleEnable (24), .spindleDisable (24), .mirrorAtRest (24), .brakeResume (24), .spindleGridSwap (24),
    .tableWindowWrite (2 ^ 22) (0 : Word), .tableWindowWrite 1 (0 : Word)] : List Instr).all (fun i => !i.wellFormed) = true := by decide

theorem test_ill_formed_fantail : ([.waitAlarm (24), .terrFetchReturn (2 ^ 20) false] : List Instr).all (fun i => !i.wellFormed) = true := by decide

theorem test_ill_formed_heat : ([.meas (24) 0 0 false, .meas 0 (2 ^ 56) 0 false, .meas 0 0 (16) false, .measMissing (24) false, .keeper (24),
    .mpower 23 0 0, .mpower (48) 0 0, .mpower 24 (2 ^ 56) 0, .mpower 24 0 (16), .mpowerMissing (24), .mpClear (32),
    .ledgerCellReturn (2 ^ 24) false] : List Instr).all (fun i => !i.wellFormed) = true := by decide

theorem test_ill_formed_lane : ([.laneEnable (64), .laneDisable (64), .start (64), .retrain (64), .laneRateWrite (64) false,
    .detectProbe (64) false false, .train (64) 0 0 false 0 0, .train 0 (2 ^ 48) 0 false 0 0,
    .train 0 0 (256) false 0 0, .train 0 0 0 false (256) 0, .train 0 0 0 false 0 (16), .idle (64) 0 0,
    .idle 0 (2 ^ 48) 0, .idle 0 0 (256), .exchOffer (64) 0 0, .exchOffer 0 (2 ^ 48) 0, .exchOffer 0 0 (256),
    .exchOffer 0 1 0, .exchConfirm (64) 1 0, .exchConfirm 0 (2 ^ 48) 0, .exchConfirm 0 1 (256), .exchConfirm 0 2 0,
    .laneTimeout (64), .backoffExpiry (64), .blockLockLost (64), .relockTimeout (64), .signalLost (64),
    .retrainReq (64) 1 0, .retrainReq 0 (2 ^ 48) 0, .retrainReq 0 1 (256), .retrainReq 0 2 0, .retrainAck (64) 2 0,
    .retrainAck 0 (2 ^ 48) 0, .retrainAck 0 2 (256), .retrainAck 0 3 0, .retrainReqTimeout (64),
    .fomWindowEnd (64) 0, .fomWindowEnd 0 (64 * 4096 + 1), .dfeStep (64) (List.replicate 5 0),
    .dfeStep 0 (List.replicate 4 0), .adaptFrozen (64), .lineKeeperSend (64), .lineKeeper (64) 0,
    .lineKeeper 0 (2 ^ 56), .blockDiscard (64) ⟨0, 0⟩] : List Instr).all (fun i => !i.wellFormed) = true := by decide

theorem test_ill_formed_lane_2 : ([.blockDiscard 0 ⟨4, 0⟩, .blockDiscard 0 ⟨0, (2 ^ 64)⟩, .eiEnter (64) 0 0, .eiEnter 0 (2 ^ 48) 0, .eiEnter 0 0 (256),
    .wakeTimeout (64), .laneTestMode (64) (0 : Word), .injGo (64) (2 ^ 31 : Word), .injGo 0 0,
    .injStop (64) (2 ^ 30 : Word), .injStop 0 0, .checkerBlock (64) 0 0, .checkerBlock 0 (2 ^ 64) 0,
    .checkerBlock 0 0 3] : List Instr).all (fun i => !i.wellFormed) = true := by decide

theorem test_ill_formed_proto : ([.mgmtGo (64) (2 ^ 31 : Word), .mgmtGo 0 0, .mgmtRetry (64), .mgmtRsp (64) 0 0, .mgmtRsp 0 (2 ^ 56) 0,
    .mgmtRsp 0 0 (16), .galvo (24) 0 0, .galvo 0 (2 ^ 56) 0, .galvo 0 0 (16), .hstat (24) 0 0, .hstat 0 (2 ^ 56) 0,
    .hstat 0 0 (16), .partnerTickMark (48) 0 0, .partnerTickMark 0 (2 ^ 48) 0, .partnerTickMark 0 0 (256),
    .partnerSample (48) 0 0 0 0, .partnerSample 0 (2) 0 0 0, .partnerSample 0 0 (16) 0 0,
    .partnerSample 0 0 0 (2 ^ 56) 0, .partnerSample 0 0 0 0 (16), .correction 23 0 0 0, .correction (48) 0 0 0,
    .correction 24 (2) 0 0, .correction 24 0 (2 ^ 48) 0, .correction 24 0 0 (256), .brake (48) 0 0 0,
    .brake 0 (2) 0 0, .brake 0 0 (2 ^ 48) 0, .brake 0 0 0 (256), .brakeEcho (64), .camCredit 47, .camCredit (56),
    .camSof 47 0 0, .camSof (56) 0 0, .camSof 48 (2 ^ 56) 0, .camSof 48 0 (16), .camData 47 0 0, .camData (56) 0 0,
    .camData 48 (2 ^ 56) 0, .camData 48 0 (16), .camEof 47 0 0, .camEof (56) 0 0, .camEof 48 (2 ^ 56) 0,
    .camEof 48 0 (16), .camEnable 47 (0 : Word)] : List Instr).all (fun i => !i.wellFormed) = true := by decide

theorem test_ill_formed_proto_2 : ([.camEnable (56) (0 : Word), .xy2Enable 51 (0 : Word), .xy2Enable (56) (0 : Word), .xy2Frame 51, .xy2Frame (56)] : List Instr).all (fun i => !i.wellFormed) = true := by decide

theorem test_ill_formed_brake : ([.brakeInEdge (2) false false] : List Instr).all (fun i => !i.wellFormed) = true := by decide

theorem test_ill_formed_twin : ([.pairOffer 55 0 0, .pairOffer (64) 0 0, .pairOffer 56 (2 ^ 56) 0, .pairOffer 56 0 (16), .pairUid 55 0 0,
    .pairUid (64) 0 0, .pairUid 56 (2 ^ 56) 0, .pairUid 56 0 (16), .pairConfirm 55 0 0, .pairConfirm (64) 0 0,
    .pairConfirm 56 (2 ^ 56) 0, .pairConfirm 56 0 (16), .beacon 55 0 0, .beacon (64) 0 0, .beacon 56 (2 ^ 56) 0,
    .beacon 56 0 (16), .align 55 0 0, .align (64) 0 0, .align 56 (2 ^ 48) 0, .align 56 0 (256), .recBlockIn 55 0 0,
    .recBlockIn (64) 0 0, .recBlockIn 56 (2 ^ 56) 0, .recBlockIn 56 0 (16), .fwd 55 0 0, .fwd (64) 0 0,
    .fwd 56 (2 ^ 56) 0, .fwd 56 0 (16), .handover [(55, 0, 0)], .handover [(64, 0, 0)], .handover [(56, 2 ^ 56, 0)],
    .handover [(56, 0, 16)], .dupRelock (48)] : List Instr).all (fun i => !i.wellFormed) = true := by decide

theorem test_ill_formed_memory : ([.millraceEnable (2) false, .initDone (2), .trainStepDone (2) false, .trainRetry (2), .mcRetrain (2),
    .mcRateWrite (2) 0, .mcRateWrite 0 (4), .rtRead (2) 0 0 1 false, .rtRead 0 0 (2 ^ 40) 1 false,
    .rtRead 0 0 0 0 false, .rtRead 0 0 0 4097 false, .rtReadReturn (2) 0 [], .rtReadReturn 0 0 [⟨33, 0, 0, 1⟩],
    .bulkRead (2) 0 [], .bulkRead 0 (2 ^ 40) [], .bulkRead 0 0 [⟨1, 0, 0, 1⟩], .writeBatch ⟨2, []⟩,
    .writeBatch ⟨0, [⟨16, 0, 0, 1⟩]⟩, .refreshDue (2) 0 0, .refreshDue 0 (2) 0, .refreshDue 0 0 (4),
    .refreshRepay (2) 0 0, .refreshRepay 0 (2) 0, .refreshRepay 0 0 (4), .nrr (2), .dramTempRead (2) 0,
    .periodicCalibration (2), .scrubRead (2) [], .scrubRead 0 [⟨1, 0, 0, 1⟩], .rowClose (2) 0, .rowClose 0 (64)] : List Instr).all (fun i => !i.wellFormed) = true := by decide

theorem test_ill_formed_host : ([.bar2Write (2 ^ 28) [some 0], .bar2Write 0 [], .bar2Write 0 (List.replicate 4097 (some 0)),
    .bar2Read (2 ^ 28) [true], .bar2Read 0 [], .bar2Read 0 (List.replicate 4097 true), .configRequest (.mrrs 64),
    .msixMessage (16), .ptmDialogue (60), .ptmResponse (2 ^ 64) 0 0 false, .ptmResponse 0 (2 ^ 32) 0 false,
    .ptmResponse 0 0 (60) false, .logEnable 0, .smbUnknown (256), .smbUnknown 7] : List Instr).all (fun i => !i.wellFormed) = true := by decide

theorem test_ill_formed_sluice : ([.sourceLevel (256), .sourceEdge (256), .swPendSet (256), .swPendClear (256), .ctxClaim (8), .ctxComplete (8) 0,
    .ctxComplete 0 (256), .ctxCompleteFlush (8), .ctxThreshWrite (8) 0, .ctxThreshWrite 0 (16), .scanAck (8) 0,
    .scanAck 0 (2 ^ 24), .coalesceRelease (16)] : List Instr).all (fun i => !i.wellFormed) = true := by decide

theorem test_ill_formed_axes : ([.gpiChange (32) false, .encoderEdge (4) false false, .encZEdge (4), .encSet (4) (0 : Word),
    .axisEnable (8) false, .moveAbs (8), .moveRel (8), .velocity (8), .stop (8), .qstop (8), .home (8), .gear (8),
    .setPos (8), .armRatio (8), .disarm (8), .axCmdUnassigned (8) 0, .axCmdUnassigned 0 (16), .axCmdUnassigned 0 10,
    .standstill (8), .wakeDone (8)] : List Instr).all (fun i => !i.wellFormed) = true := by decide

theorem test_ill_formed_light : ([.rowSlot (2 ^ 16) 0 0 0 none, .rowSlot 0 (2 ^ 16) 0 0 none, .rowSlot 0 0 (2 ^ 21) 0 none,
    .rowSlot 0 0 0 (2 ^ 21) none, .rowSlot 0 0 0 0 (some 6250), .rowSlot 0 0 0 0 (some 0)] : List Instr).all (fun i => !i.wellFormed) = true := by decide

theorem test_ill_formed_recorder : ([.recMwWrite (96) (0 : Word), .wearCfgWrite (80) (0 : Word)] : List Instr).all (fun i => !i.wellFormed) = true := by decide

theorem test_ill_formed_power : ([.deviceReset ⟨[]⟩ ⟨List.replicate 256 0⟩ 0, .deviceReset ⟨List.replicate 256 0⟩ ⟨[]⟩ 0,
    .deviceReset ⟨List.replicate 256 0⟩ ⟨List.replicate 256 0⟩ 1, .diodeRound (List.replicate 7 0) false,
    .railSample (List.replicate 6 0), .railSample (65536 :: List.replicate 6 0)] : List Instr).all (fun i => !i.wellFormed) = true := by decide

/-- R441: no granule, word, symbol or change of a symbol outside its range. -/
theorem test_ill_formed_errors : ([⟨1, 0, 0, 1⟩, ⟨0, 8, 0, 1⟩, ⟨0, 0, 20, 1⟩, ⟨0, 0, 0, 0⟩, ⟨0, 0, 0, 256⟩] : List SymbolError).all
    (fun e => !e.ok 1) = true := by decide

/-! ### Worked examples of the spec -/

/-- 00_scope.md: spindle 5's register at 0x040, the sub-page of lane 37. -/
theorem test_page_addresses : pgSpindle 5 + 0x40 = 0x85040 ∧ pgLane 37 = 0xD9400 := by decide

/-- 02_vector_streams.md, after R85: contexts 3 and 40. -/
theorem test_context_addresses : R.CTX_CTRL 3 = 0x41100 ∧ R.CTX_CTRL 40 = 0x42240 := by decide

/-- 19_register_map.md, example: the identity of lane 37's sub-page. -/
theorem test_block_id : State.reset.readWord 0xD9400 = 0x090D2500 := by decide

/-- 19_register_map.md, example: a read in no page. -/
theorem test_no_page_read : (match exec (.bar0NoPageAccess false 0x60000) State.reset with
    | .next t => decide (t.ctl.reg R.GLOBAL_ACC_ERR = 0xA0060000 ∧ t.ctl.host.lastRead = 0xFFFFFFFF)
    | _ => false) = true := by decide

/-- 02_vector_streams.md, after R67: the check value of the record CRC. -/
theorem test_record_crc : crc16 [0x31, 0x32, 0x33, 0x34, 0x35, 0x36, 0x37, 0x38, 0x39] = 0x29B1 := by decide

/-- 02_vector_streams.md, example: the MARK record and its fields. -/
theorem test_mark_record :
    let i : Item := { bytes := [0x21, 0x00, 0x00, 0xE1, 0xF5, 0x05, 0x80, 0xB2, 0xE6, 0x0E, 0x20, 0x9D, 0xB4, 0x06, 0x80, 0xB2,
      0xE6, 0x0E, 0x60, 0x09, 0x99, 0x99, 0x25, 0x08, 0xCE, 0xFF, 0x21, 0x4A, 0x00, 0x00, 0x00, 0x00] }
    i.typ = tMark ∧ i.skywrite = true ∧ i.sx = 100000000 ∧ i.sy = 250000000 ∧ i.ex = 112500000 ∧ i.ey = 250000000 ∧
    i.speed = 2400 ∧ i.power = 39321 ∧ i.profIx = 37 ∧ i.cls = 2 ∧ i.focus = -50 ∧ i.tag = 0x4A21 ∧ i.shareByte = 0 := by decide

/-- 03_spindles.md, example after R170: the X weights at t = 0.25. -/
theorem test_grid_weights : weights 16384 = [-1152, 14208, 3712, -384] := by decide

/-- 04_fantail.md, examples: the keys of spindles 2 and 7. -/
theorem test_fantail_keys : rankKey 5 1 2 = 12253 ∧ rankKey 5 0 7 = 12280 := by decide

/-- 04_fantail.md, first example: spot 7 lies in spot 2's plume zone and not the other way round. -/
theorem test_plume : inPlume 4000 18000 0 16384 25000 8000 0 = true ∧ inPlume (-4000) (-18000) 0 16384 25000 8000 0 = false := by
  decide

/-- 06_heat_ledger.md, example: the nine parts of a deposit. -/
theorem test_deposit_parts : (((ledgerLatch ((State.reset.ctl.put (R.LEDGER_DEP_GAIN_GAIN 7) 0x20000).setReg R.LEDGER_GRID_GEOM
    0x00FF00FF)).depositParts 7 45000 4200000 1000000 1000000).1.map (·.amount)) =
    [44996, 8438, 8438, 8438, 8438, 2813, 2813, 2813, 2813] := by decide

/-- 07_lanes.md, example: the CRC-8 of a CORRECTION. -/
theorem test_correction_check : crc8 0x80AC1700A5 = 0xC2 := by decide

/-- 08_head_protocol.md, example after R391: a position in offset binary. -/
theorem test_xy2_position : xyWord (-1234567) = 0x1B4A6 := by decide

/-- 10_millrace.md, example: the interleaved address map. -/
theorem test_address_map : ((((State.reset.ctl.put (R.MC_STAT_STATE 0) mcService).put (R.MC_STAT_STATE 1) mcService).put
    (R.MC_CAPACITY_GIB 0) 32).put (R.MC_CAPACITY_GIB 1) 32).mapAddr 0x40002000 = some (0, 0x20001000) := by decide

/-- R441: (x - 1)(x - α)(x - α^2)(x - α^3) written out by hand. -/
theorem test_generator : rsGenerator = [15, 54, 120, 64] := by decide

/-- R442: one wrong symbol is found and corrected; two in one codeword are not. -/
theorem test_ecc : rsFind (([1, 2, 3, 4, 5, 6, 7, 8, 9, 10, 11, 12, 13, 14, 15, 16] ++ rsParity [1, 2, 3, 4, 5, 6, 7, 8, 9, 10, 11, 12,
    13, 14, 15, 16]).set 3 0x51) = .single 3 0x55 ∧
    rsFind ((zeros 20).map (·.toNat) |>.set 3 1 |>.set 17 1) = .other := by decide

/-- R322, by hand: behind 58 ones a payload of 1 sends bit 0, and then bits 40 to 58, in which one of the two taps is still a one. -/
theorem test_scrambler : scramble (2 ^ 58 - 1) 1 = 1 + (2 ^ 59 - 2 ^ 40) := by decide

/-- R687, R191, R16: the bits of a spindle's BLK_IRQ_EN above bit 4 ignore writes. -/
theorem test_reserved_bits : (match exec (.registerWrite (R.BLK_IRQ_EN (pgSpindle 0)) 0xFFFFFFFF) State.reset with
    | .next t => decide (t.readWord (R.BLK_IRQ_EN (pgSpindle 0)) = 0x1F)
    | _ => false) = true := by decide

/-- R85: a write beyond the last context of a page acts on no context. -/
theorem test_beyond_contexts : (match exec (.registerWrite 0x41840 0xFFFFFFFF) State.reset with
    | .next t => decide (t.readWord (R.CTX_CTRL 32) = State.reset.readWord (R.CTX_CTRL 32))
    | _ => false) = true := by decide

/-- 14_bed_lighting.md, example: the PWM value of lamp value 64 under gamma 2.2. -/
theorem test_lamp_pwm : pwmOf 1 0x8000 64 = 3131 := by decide

/-- A step takes the command at the front and leaves the rest. -/
theorem test_step_takes_front : (match step { State.reset with pending := [.encZEdge 2, .tick] } with
    | .next t => decide (t.ctl.is (R.ENC_STAT_Z_SEEN 2) = true ∧ t.pending = [.tick])
    | _ => false) = true := by decide

/-- A write of BLK_IRQ_EN of spindle 0 is read back. -/
theorem test_write_reads_back : (match exec (.registerWrite (R.BLK_IRQ_EN (pgSpindle 0)) 5) State.reset with
    | .next t => decide (t.readWord (R.BLK_IRQ_EN (pgSpindle 0)) = 5)
    | _ => false) = true := by decide

/-- opcode_table.json gives no row any bits. -/
theorem test_no_row_has_bits : decodeTableWord 32 0 = none ∧ State.reset.withFetchWord 32 0 = State.reset := by decide

/-! ### The hypotheses of the statements are met -/

theorem test_witness_StepRunsFrontCommand : ({ State.reset with pending := [.tick, .publish] } : State).pending = .tick :: [.publish] := by
  decide

theorem test_witness_StepIdlesOnEmptyQueue : State.reset.pending = [] := by decide

theorem test_witness_WellFormedCommandsComplete : Instr.wellFormed .tick = true ∧ Instr.wellFormed (.moveAbs 8) = false := by decide

theorem test_witness_ResetHoldsDevice : ∃ s : State, Instr.wellFormed .tick = true ∧ s.ctl.pwr.inReset = true ∧
    Instr.ofReset .tick = false := ⟨withCtl (fun c => c.modPwr (fun p => { p with inReset := true })), by decide⟩

theorem test_witness_OnlyMemoryCommandsReachDram : (∃ t, Instr.reachesMemory (.sourceEdge 3) = false ∧
    (∀ h ∈ State.reset.ctl.host.held, h.addr ≠ R.GLOBAL_RST_CMD) ∧ exec (.sourceEdge 3) State.reset = .next t) ∧
    ∃ t, (∀ m, (State.reset.ctl.mcSt m).reads = []) ∧ State.reset.mem.bar2Reads = [] ∧
      exec (.hopperReadReturn 0 0) State.reset = .next t :=
  ⟨⟨_, by decide, by decide, rfl⟩, ⟨_, fun _ => rfl, rfl, rfl⟩⟩

theorem test_witness_StepKeepsMemorySound : ∃ t, State.reset.sound = true ∧
    step { State.reset with pending := [.sourceEdge 3] } = .next t := ⟨_, by decide, rfl⟩

theorem test_witness_SoundRunsNeverStop : ∃ s : State, s.sound = true ∧ s.orderly = true ∧ s.pending ≠ [] :=
  ⟨{ State.reset with pending := [.tick, .publish] }, by decide⟩

/-- A device in Deep-idle: most pages have stopped. -/
def stopped : State := withCtl (fun c => c.put R.GLOBAL_PWR_STAT_STATE 2)

/-- One witness for each clause: a page offset outside the pages, a wrong size, no page, a stopped page. -/
theorem test_witness_RefusedAccessIsRecorded :
    (State.reset.ctl.pwr.inReset = false ∧ State.reset.ctl.access 0x60000 = .refused 2 ∧ 0x60000 % 4 = 0) ∧
    (taken (.bar0AccessError true 0x80040 2) State.reset ∧ sizeOk 0x80040 2 = false) ∧
    (taken (.bar0NoPageAccess true 0x60000) State.reset ∧ inPage 0x60000 = false) ∧
    (taken (.stoppedPageAccess false 0x80040) stopped ∧ stopped.ctl.access 0x80040 = .refused 3) := by
  unfold taken; decide

/-- The two ends of the range of channels, on each of the three pages of a channel. -/
theorem test_witness_AbsentChannelsReadZeroAndIgnoreWrites : (withCtl (fun c => { c with half := true })).ctl.half = true ∧
    (pgSpindle 12 ≤ 0x8C000 ∧ 0x8C000 < pgSpindle 12 + 0x1000) ∧ (pgLane 23 ≤ 0xD5FFC ∧ 0xD5FFC < pgLane 23 + 0x400) ∧
    (pgLane (24 + 12) ≤ 0xD9000 ∧ 0xD9000 < pgLane (24 + 12) + 0x400 ∧ 0xD9000 % 0x400 = 0) := by decide

/-- A write that joins the queue, and one behind a write that joins none. -/
theorem test_witness_DoorbellWaitsBehindOrderedDoorbell :
    (∃ s : State, taken (.doorbell 0) s ∧ s.ctl.access R.HOPPER_DOORBELL = .ok ∧ s.ctl.hop.ordDoorbells ≠ [] ∧
      s.ctl.mustWait R.HOPPER_DOORBELL = false) ∧
    ∃ s : State, taken (.doorbell 0) s ∧ s.ctl.access R.HOPPER_DOORBELL = .ok ∧ s.ctl.hop.ordDoorbells ≠ [] ∧
      s.ctl.mustWait R.HOPPER_DOORBELL = true :=
  ⟨⟨withCtl (fun c => { c with hop := { c.hop with ordDoorbells := [(0, 0)] } }), by unfold taken; decide⟩,
    ⟨withCtl (fun c => { c.holdWrite (R.HOPPER_SHARE_MASK 3) 0 1 with hop := { c.hop with ordDoorbells := [(0, 0)] } }),
      by unfold taken; decide⟩⟩

/-- A write of SHARE_MASK behind an ordered doorbell; and the turn of a write that waits on, and of one that does not. -/
theorem test_witness_WritesOfAPageWaitInOrder :
    (∃ s : State, s.ctl.pwr.inReset = false ∧ s.ctl.access (R.HOPPER_SHARE_MASK 3) = .ok ∧
      s.ctl.mustWait (R.HOPPER_SHARE_MASK 3) = true ∧ (R.HOPPER_SHARE_MASK 3) < 2 ^ 24 ∧ (R.HOPPER_SHARE_MASK 3) % 4 = 0) ∧
    (∃ c : Ctl, ∃ h ∈ c.host.held, pageBase h.addr = some pgHopper ∧ pageBase R.HOPPER_DOORBELL = some pgHopper) ∧
    (∃ s : State, s.ctl.pwr.inReset = false ∧ s.ctl.mustWait (R.HOPPER_SHARE_MASK 3) = true) ∧
    (State.reset.ctl.pwr.inReset = false ∧ State.reset.ctl.mustWait (R.HOPPER_SHARE_MASK 3) = false ∧
      (R.HOPPER_SHARE_MASK 3) ≠ R.HOPPER_DOORBELL_ORD) :=
  ⟨⟨withCtl (fun c => { c with hop := { c.hop with ordDoorbells := [(0, 0)] } }), by decide⟩,
    ⟨State.reset.ctl.holdWrite (R.HOPPER_SHARE_MASK 3) 0 1, by decide⟩,
    ⟨withCtl (fun c => { c with hop := { c.hop with ordDoorbells := [(0, 0)] } }), by decide⟩, by decide⟩

/-- One context that the check accepts and one that it refuses (SIZE_LOG2 0). -/
theorem test_witness_EnablingContextClearsItsIndices :
    (∃ s : State, taken (.ctxEnable 0 (2 ^ 31)) s ∧ s.ctl.access (R.CTX_CTRL 0) = .ok ∧
      s.ctl.mustWait (R.CTX_CTRL 0) = false ∧ s.ctl.get R.GLOBAL_PWR_STAT_STATE ≠ 1 ∧
      s.ctl.single = true ∧ s.ctl.cst 0 = csDisabled ∧ (ctxCtrlFields 0 (2 ^ 31) s.ctl).enableErr 0 = 0) ∧
    (taken (.ctxEnable 0 (2 ^ 31)) State.reset ∧ State.reset.ctl.access (R.CTX_CTRL 0) = .ok ∧
      State.reset.ctl.mustWait (R.CTX_CTRL 0) = false ∧ State.reset.ctl.get R.GLOBAL_PWR_STAT_STATE ≠ 1 ∧ State.reset.ctl.single = true ∧ State.reset.ctl.cst 0 = csDisabled ∧
      (ctxCtrlFields 0 (2 ^ 31) State.reset.ctl).enableErr 0 ≠ 0) :=
  ⟨⟨withCtl (fun c => ((((c.put (R.CTX_SIZE_SIZE_LOG2 0) 12).put (R.MC_STAT_STATE 0) mcService).put (R.MC_CAPACITY_GIB 0) 32).put
    (R.PROTO_STAT_CAP_VALID 0) 1).put (R.PROTO_STAT_CAP_VALID 24) 1), by unfold taken; decide⟩, by unfold taken; decide⟩

/-- A profile of zeros and records at the ends of the ranges: each clause of the clamps has its input. -/
theorem test_witness_SpeedAndAccelerationDefaults : fieldAt (zeros 64) 4 2 = 0 ∧ fieldAt (zeros 64) 6 2 = 0 ∧
    fieldAt (List.replicate 64 1) 4 2 ≠ 0 ∧ fieldAt (List.replicate 64 1) 6 2 ≠ 0 ∧ pMarkSpeed (zeros 64) = 0 ∧
    ([0, 1, 99, 100, 24000, 24001].map (fun v => Item.speed { bytes := zeros 18 ++ leBytes 2 v })) =
      [0, 1, 99, 100, 24000, 24001] := by decide

theorem test_witness_PublishKeepsProfileWritesOut : ∃ s : State, taken (.tableWindowWrite 0 0) s ∧ s.ctl.access (winBase + 0) = .ok ∧
    s.ctl.mustWait (winBase + 0) = false ∧ s.ctl.is R.GLOBAL_TABLE_WIN_KIND = true ∧ 0 < winSize true ∧ bitOf (s.ctl.written R.GLOBAL_PROF_CTRL) 31 = true :=
  ⟨withCtl (fun c => (c.flag R.GLOBAL_TABLE_WIN_KIND true).flag R.GLOBAL_PROF_CTRL_PUBLISH true), by unfold taken; decide⟩

theorem test_witness_LedgerCellsTileTheBed : (0 : Int) < State.reset.ctl.gridPitch ∧ 0 < State.reset.ctl.gridNx ∧
    0 < State.reset.ctl.gridNy := by decide

/-- A device halted by the ledger, HALT_CLEAR asked for and latched. -/
def askedToEnd : Ctl :=
  ledgerLatch (((State.reset.ctl.setActive pgLedger true).flag R.LEDGER_CMD_HALT_CLEAR true).flag R.LEDGER_HALT_STAT_HALTED true)

/-- A throttle frozen by a measured power: with the failure past, and still there; and a halt, asked to end. -/
theorem test_witness_LedgerRequestsActAtTheTickBoundary :
    (∃ c : Ctl, 23 < 24 ∧ c.bit R.LEDGER_FROZEN 23 = true ∧ c.led.mpClears = [23] ∧ c.led.clears = [] ∧
      c.is R.LEDGER_CMD_HALT_CLEAR = false ∧ c.bit R.LEDGER_MP_FAILED 23 = false) ∧
    (∃ c : Ctl, c.bit R.LEDGER_FROZEN 0 = true ∧ c.led.mpClears = [0] ∧ c.led.clears = [] ∧
      c.is R.LEDGER_CMD_HALT_CLEAR = false ∧ c.bit R.LEDGER_MP_FAILED 0 = true) ∧
    (∃ c : Ctl, c.led.mpClears = [] ∧ c.led.clears = [] ∧ c.is R.LEDGER_CMD_HALT_CLEAR = true ∧ c.activePage pgLedger = false) ∧
    (∃ c : Ctl, c.live R.LEDGER_CMD_HALT_CLEAR ≠ 0 ∧ c.is R.LEDGER_HALT_STAT_HALTED = true ∧
      ∀ n ∈ bitList 24 (c.get R.LEDGER_HALT_STAT_CHANNELS), ((c.lch n).tspot : Int) ≤
        (c.live R.LEDGER_TEMP_TH_T_HALT : Int) - 16 * (c.live R.LEDGER_HOLD_CFG_T_HYST : Int)) ∧
    (∃ c : Ctl, c.live R.LEDGER_CMD_HALT_CLEAR ≠ 0 ∧ c.is R.LEDGER_HALT_STAT_HALTED = true ∧
      ¬ ∀ n ∈ bitList 24 (c.get R.LEDGER_HALT_STAT_CHANNELS), ((c.lch n).tspot : Int) ≤
        (c.live R.LEDGER_TEMP_TH_T_HALT : Int) - 16 * (c.live R.LEDGER_HOLD_CFG_T_HYST : Int)) :=
  ⟨⟨(State.reset.ctl.setBits R.LEDGER_FROZEN (2 ^ 23)).modLed (fun l => { l with mpClears := [23] }), by decide⟩,
    ⟨((State.reset.ctl.setBits R.LEDGER_FROZEN 1).setBits R.LEDGER_MP_FAILED 1).modLed (fun l => { l with mpClears := [0] }), by decide⟩,
    ⟨State.reset.ctl.flag R.LEDGER_CMD_HALT_CLEAR true, by decide⟩,
    ⟨askedToEnd, by decide⟩,
    ⟨(askedToEnd.put R.LEDGER_HALT_STAT_CHANNELS 1).modLch 0 (fun l => { l with tspot := 100000 }), by decide⟩⟩

theorem test_witness_UplinkTickIsTheMostRecentMatch : State.reset.ctl.compat 3 = false ∧ 255 < 256 := by decide

/-- A partner that is ready, and one that is not. -/
theorem test_witness_HandoverNeedsReadyPartner :
    (∃ s : State, taken .handoverCmd s ∧ s.ctl.access R.TWIN_CMD = .ok ∧
      s.ctl.mustWait R.TWIN_CMD = false ∧ s.ctl.role = rActive ∧ s.ctl.tw.peerReady = true) ∧
    ∃ s : State, taken .handoverCmd s ∧ s.ctl.access R.TWIN_CMD = .ok ∧
      s.ctl.mustWait R.TWIN_CMD = false ∧ s.ctl.role = rActive ∧ s.ctl.tw.peerReady = false :=
  ⟨⟨withCtl (fun c => (c.put R.TWIN_STAT_ROLE rActive).modTw (fun t => { t with peerReady := true })), by unfold taken; decide⟩,
    ⟨withCtl (fun c => c.put R.TWIN_STAT_ROLE rActive), by unfold taken; decide⟩⟩

/-- A device that may be written: millrace 0 in SERVICE with 32 GiB. -/
def served : Ctl → Ctl := fun c => (c.put (R.MC_STAT_STATE 0) mcService).put (R.MC_CAPACITY_GIB 0) 32

/-- Two bytes at the end of a granule, the first of which the host's byte enables leave out; and a write of the device. -/
theorem test_witness_AcceptedWriteIsVisible :
    (∃ s : State, taken (.dramWrite true) s ∧ s.nextWrite true = some (126, [(127, 8)]) ∧
      (∀ e ∈ ([(127, 8)] : Table Byte), e.1 < 128) ∧ (([(127, 8)] : Table Byte).map (·.1)).Nodup ∧
      s.mem.hasRoom (s.ctl.millOf 126) (granule 126) = true ∧ (∀ e ∈ s.mem.wq (1 - s.ctl.millOf 126), e.granule ≠ granule 126) ∧
      ∀ m, ∀ r ∈ (s.ctl.mcSt m).reads, r.errs = []) ∧
    ∃ s : State, taken (.dramWrite false) s ∧ s.nextWrite false = some (0, [(0, 9)]) ∧
      s.mem.hasRoom (s.ctl.millOf 0) (granule 0) = true :=
  ⟨⟨{ withCtl served with mem := { bar2 := [(126, [none, some 8])] } }, by unfold taken; decide, by decide, by decide, by decide,
    by decide, by decide, fun m r h => absurd (show r ∈ ([] : List McRead) from h) (by simp)⟩,
    ⟨withCtl (fun c => { served c with memOut := [(0, [9])] }), by unfold taken; decide⟩⟩

theorem test_witness_WriteBatchKeepsWhatReadersSee : ∃ s : State, taken (.writeBatch ⟨0, []⟩) s ∧ s.sound = true ∧
    (∀ e ∈ s.mem.wq 0, (e.bytes.map (·.1)).Nodup ∧ ∀ x ∈ e.bytes, x.1 < 128) ∧
    (∀ e ∈ s.mem.wq0, ∀ f ∈ s.mem.wq1, e.granule ≠ f.granule) ∧ s.mem.poisoned = [] ∧ s.mem.wq0 ≠ [] ∧
    (s.ctl.mcSt 0).reads ≠ [] ∧ ∀ r ∈ (s.ctl.mcSt 0).reads, r.errs = [] :=
  ⟨{ withCtl (fun c => (served c).mcMod 0 (fun t => { t with reads := [{ cls := 2, who := 0, addr := 0, len := 128, at_ := 0 }] })) with
      mem := { wq0 := [⟨128, [(0, 5), (127, 6)], 0⟩], wq1 := [⟨256, [(3, 1)], 0⟩] } }, by unfold taken; decide⟩

/-- Spindle 0 waits at a fence, whose timeout is 9 ticks. -/
def atFence : Ctl :=
  (State.reset.ctl.put R.HOPPER_FENCE_TIMEOUT_TICKS 9).modSp 0 (fun u => { u with fence := some ({ bytes := [] }, 0) })

/-- A fence whose time is up, one whose time is not, and one of a group that has been reported. -/
theorem test_witness_FenceTimeoutActsAtTheTicksEnd :
    State.reset.ctl.hop.expired = [] ∧ (∃ c : Ctl, c.hop.expired = [3]) ∧
    (∃ (c : Ctl) (j : Item), (c.sp 0).fence = some (j, 0) ∧ j.timeoutMs = 0 ∧ c.sinceT 0 < c.get R.HOPPER_FENCE_TIMEOUT_TICKS) ∧
    (∃ (c : Ctl) (j : Item), (c.sp 0).fence = some (j, 0) ∧ (c.sp 0).fencePass = false ∧ (c.sp 0).timedOut = false ∧
      j.timeoutMs = 0 ∧ c.get R.HOPPER_FENCE_TIMEOUT_TICKS = 9 ∧ c.sinceT 0 = 9 ∧ c.get R.HOPPER_FENCE_CTRL_TIMEOUT_ACTION = 0 ∧
      c.hop.timedOut.contains (j.fenceId, j.mask) = false) ∧
    ∃ (c : Ctl) (j : Item), (c.sp 0).fence = some (j, 0) ∧ (c.sp 0).fencePass = false ∧ (c.sp 0).timedOut = false ∧
      j.timeoutMs = 0 ∧ c.get R.HOPPER_FENCE_TIMEOUT_TICKS = 9 ∧ c.sinceT 0 = 9 ∧ c.get R.HOPPER_FENCE_CTRL_TIMEOUT_ACTION = 0 ∧
      c.hop.timedOut.contains (j.fenceId, j.mask) = true :=
  ⟨rfl, ⟨{ State.reset.ctl with hop := { expired := [3] } }, rfl⟩, ⟨atFence, { bytes := [] }, by decide⟩,
    ⟨later 9 atFence, { bytes := [] }, by decide⟩,
    ⟨later 9 { atFence with hop := { atFence.hop with timedOut := [(0, 0)] } }, { bytes := [] }, by decide⟩⟩

theorem test_witness_DescramblerUndoesScrambler : (2 ^ 58 - 1 < 2 ^ 58 ∧ 2 ^ 64 - 1 < 2 ^ 64) ∧
    descramble (2 ^ 58 - 1) (scramble (2 ^ 58 - 1) 0x66) = 0x66 ∧ scramble (2 ^ 58 - 1) 0x66 ≠ 0x66 := by decide

theorem test_witness_SingleSymbolErrorIsCorrected : (zeros 128).length = 128 ∧
    State.reset.mem.poisoned.contains (granule 0) = false ∧
    ([⟨0, 0, 0, 1⟩, ⟨0, 7, 19, 255⟩] : List SymbolError).all (fun e => e.ok 1) = true := by decide

theorem test_witness_SidebandAnswersByCommandCode : State.reset.ctl.pwr.inReset = false ∧ (8 < 256 ∧ (8 = 0 ∨ 7 < 8)) := by decide

theorem test_witness_EncoderLatchesAtIndexEdge : taken (.encZEdge 0) State.reset ∧ taken (.encZEdge 3) State.reset := by
  unfold taken; decide

/-- With and without a trim that runs. -/
theorem test_witness_ApplyWritesTheDarkOffsets :
    (∃ s : State, taken .apply s ∧ s.ctl.access R.TRIM_CMD = .ok ∧
      s.ctl.mustWait R.TRIM_CMD = false ∧ s.ctl.is R.TRIM_CMD_RUN = true) ∧
    (taken .apply State.reset ∧ State.reset.ctl.access R.TRIM_CMD = .ok ∧
      State.reset.ctl.mustWait R.TRIM_CMD = false ∧ State.reset.ctl.is R.TRIM_CMD_RUN = false ∧
      State.reset.ctl.hasChan 23 = true) :=
  ⟨⟨withCtl (fun c => c.flag R.TRIM_CMD_RUN true), by unfold taken; decide⟩, by unfold taken; decide⟩

/-- With and without an armed build. -/
theorem test_witness_ChipResetRefusedWhileArmed :
    (∃ s : State, taken .chipReset s ∧ s.ctl.access R.GLOBAL_RST_CMD = .ok ∧
      s.ctl.mustWait R.GLOBAL_RST_CMD = false ∧ s.ctl.armed = true) ∧
    (taken .chipReset State.reset ∧ State.reset.ctl.access R.GLOBAL_RST_CMD = .ok ∧
      State.reset.ctl.mustWait R.GLOBAL_RST_CMD = false ∧ State.reset.ctl.armed = false) :=
  ⟨⟨withCtl (fun c => c.put (R.CTX_STAT_STATE 0) csActive), by unfold taken; decide⟩, by unfold taken; decide⟩

theorem crc32Bit_lt (r : Nat) (b : Bool) (h : r < 2 ^ 32) : crc32Bit r b < 2 ^ 32 := by
  unfold crc32Bit
  split
  · exact Nat.xor_lt_two_pow (by omega) (by norm_num)
  · omega
theorem foldl_lt {α : Type} (f : Nat → α → Nat) (hf : ∀ r a, r < 2 ^ 32 → f r a < 2 ^ 32) (l : List α) (r : Nat) (h : r < 2 ^ 32) :
    l.foldl f r < 2 ^ 32 := by
  induction l generalizing r with
  | nil => exact h
  | cons a t ih => exact ih _ (hf r a h)
theorem crc32_lt (l : List Byte) : crc32 l < 2 ^ 32 := by
  unfold crc32
  exact Nat.xor_lt_two_pow (foldl_lt _ (fun r b h => foldl_lt _ (fun r i h => crc32Bit_lt r _ h) _ _ h) _ _ (by norm_num)) (by norm_num)
theorem fieldAt_tail (l : List Byte) (n : Nat) (h : n < 2 ^ 32) : fieldAt (l ++ leBytes 4 n) l.length 4 = n := by
  simp [fieldAt, leBytes, leNat]
  omega
/-- A standby whose eight link lanes have brought 476 zeros and `n`, the record's check value. -/
def handed (n : Nat) : State := withCtl (fun c => ((c.put R.TWIN_STAT_ROLE rStandby).each (upto 8) (fun i d =>
  d.put (R.LANE_STAT_STATE (56 + i)) lnActive)).modTw (fun t => { t with
    hoRx := (upto 8).map (fun i => (56 + i, List.replicate 8 0 ++ (if i = 4 then [n] else [0]))) }))
theorem handed_lanes (n : Nat) : (handed n).ctl.sendLanes = upto 8 := by
  have e : (handed n).ctl.sendLanes = (handed 0).ctl.sendLanes := rfl
  rw [e]
  decide
theorem handed_rx (n : Nat) : (handed n).ctl.tw.hoRx =
    (upto 8).map (fun i => (56 + i, List.replicate 8 0 ++ (if i = 4 then [n] else [0]))) := by rfl
theorem handed_units (n : Nat) : (handed n).ctl.unitsIn 69 (fun k => tget (handed n).ctl.tw.hoRx k []) =
    some (zeros 476 ++ leBytes 7 n) := by
  have us : (upto 69).map (fun u => (tget (handed n).ctl.tw.hoRx (56 + (upto 8)[u % (upto 8).length]?.getD 0) [])[u / (upto 8).length]?) =
      List.replicate 68 (some 0) ++ [some n] := by
    rw [handed_rx]
    apply List.ext_getElem (by simp [upto])
    intro i h _
    have : i < 69 := by simpa [upto] using h
    interval_cases i <;> rfl
  unfold Ctl.unitsIn
  rw [handed_lanes, if_neg (by decide), us, if_pos (by simp)]
  simp [zeros, leBytes]
theorem handed_field (n : Nat) (h : n < 2 ^ 32) : fieldAt ((zeros 476 ++ leBytes 7 n).take 480) 476 4 = n := by
  have e : (zeros 476 ++ leBytes 7 n).take 480 = zeros 476 ++ leBytes 4 n := by rfl
  rw [e]
  exact fieldAt_tail (zeros 476) n h
theorem handed_body (n : Nat) : ((zeros 476 ++ leBytes 7 n).take 480).take 476 = zeros 476 := by rfl
/-- A handover record with a good CRC, and one with a wrong one, for the clauses of HANDOVER in TwinCommandEffects. -/
theorem test_witness_HandoverRecord :
    (∃ (s : State) (l : List Byte), taken (.handover []) s ∧
      s.ctl.unitsIn 69 (fun k => tget s.ctl.tw.hoRx k []) = some l ∧ crc32 ((l.take 480).take 476) = fieldAt (l.take 480) 476 4) ∧
    ∃ (s : State) (l : List Byte), taken (.handover []) s ∧
      s.ctl.unitsIn 69 (fun k => tget s.ctl.tw.hoRx k []) = some l ∧ crc32 ((l.take 480).take 476) ≠ fieldAt (l.take 480) 476 4 := by
  have h := crc32_lt (zeros 476)
  refine ⟨⟨handed (crc32 (zeros 476)), _, ⟨rfl, rfl⟩, handed_units _, ?_⟩,
    ⟨handed ((crc32 (zeros 476) + 1) % 2 ^ 32), _, ⟨rfl, rfl⟩, handed_units _, ?_⟩⟩
  · rw [handed_field _ h, handed_body]
  · rw [handed_field _ (by omega), handed_body]
    omega

/-- A cell of the fantail that returns lost and one that returns whole, and a cell of the ledger. -/
theorem test_witness_ReturnsOfShortReads :
    (∃ (s u : State) (l : List Byte), taken (.terrFetchReturn 0 true) s ∧ s.ctl.fan.fetch[0]? = some 5 ∧
      shortReturn (.fantail 5) (s.ctl.terrAddr 5) 4 true s = (u, l, true)) ∧
    (∃ (s u : State) (l : List Byte), taken (.terrFetchReturn 0 false) s ∧ s.ctl.fan.fetch[0]? = some 5 ∧
      shortReturn (.fantail 5) (s.ctl.terrAddr 5) 4 false s = (u, l, false)) ∧
    ∃ (s u : State) (l : List Byte), taken (.ledgerCellReturn 0 false) s ∧ s.ctl.led.fetch[0]? = some 5 ∧
      shortReturn (.ledger 5) (s.ctl.cellAddr 5) 8 false s = (u, l, false) ∧
      u.ownNewest (s.ctl.cellAddr 5) (l.map (fun b => (b, false))) = l.map (fun b => (b, false)) ∧
      s.ctl.led.held.filter (fun d => decide (d.key = 5)) = [] :=
  ⟨⟨withCtl (fun c => { c with fan := { c.fan with fetch := [5] } }), _, _, ⟨rfl, rfl⟩, rfl, rfl⟩,
    ⟨withCtl (fun c => { c with fan := { c.fan with fetch := [5] } }), _, _, ⟨rfl, rfl⟩, rfl, rfl⟩,
    ⟨withCtl (fun c => { c with led := { c.led with fetch := [5] } }), _, _, ⟨rfl, rfl⟩, rfl, rfl, rfl, rfl⟩⟩

theorem test_witness_BarCommandsComplete : ([.bar0AccessError false 0 1, .bar0NoPageAccess false 0, .stoppedPageAccess false 0, .registerWrite 0 (0 : Word),
    .wideValueRead 0, .wideValueCommit 0 (0 : Word), .counterReadClear 0, .blkEnable 0 false, .softReset 0 false,
    .tick, .tallyWrap] : List Instr).all (·.wellFormed) = true ∧
    State.reset.ctl.pwr.inReset = false ∧
    ([0, (R.BLK_CTRL 0)] : List Nat).all (fun a => State.reset.ctl.access a == .ok && !State.reset.ctl.mustWait a) = true := by decide

theorem test_witness_StreamCommandsComplete : ([.doorbell (0 : Word), .doorbellOrd (0 : Word), .orderedDoorbellEffect, .ctxEnable 0 (2 ^ 31 : Word),
    .ctxDisable 0 (0 : Word), .ctxDrainComplete 0, .resume 0, .skip 0, .hopperReadRequest, .hopperReadReturn 0 0,
    .recordStart 0, .recordRetire 0, .shareOffer 0, .fenceArrive 0, .fenceTimeout 0, .layerEndArrive 0,
    .layerEndPass 0, .ldrEnable (0 : Word), .ldrDb (0 : Word), .ldrDescriptorReturn (List.replicate 32 0),
    .ldrDataReturn 0 [0] 0, .ldrCompletion, .ldrResume, .ldrAbort] : List Instr).all (·.wellFormed) = true ∧
    State.reset.ctl.pwr.inReset = false ∧
    ([R.HOPPER_DOORBELL, R.HOPPER_DOORBELL_ORD, (R.CTX_CTRL 0), (R.CTX_ACTION 0), R.GLOBAL_LDR_CFG, R.GLOBAL_LDR_DB,
    R.GLOBAL_LDR_CMD] : List Nat).all (fun a => State.reset.ctl.access a == .ok && !State.reset.ctl.mustWait a) = true := by decide

theorem test_witness_SpindleFantailCommandsComplete : ([.spindleEnable 0, .spindleDisable 0, .mirrorAtRest 0, .brakeResume 0, .spindleGridSwap 0, .publish, .profDone,
    .tableWindowWrite 0 (0 : Word), .waitAlarm 0, .terrFetchReturn 0 false, .flowLost, .flowRestored] : List Instr).all (·.wellFormed) = true ∧
    State.reset.ctl.pwr.inReset = false ∧
    ([(R.BLK_CTRL (pgSpindle 0)), (R.SPINDLE_CMD 0), R.GLOBAL_PROF_CTRL, (winBase + 0)] : List Nat).all (fun a => State.reset.ctl.access a == .ok && !State.reset.ctl.mustWait a) = true := by decide

theorem test_witness_HeatCommandsComplete : ([.meas 0 0 0 false, .measMissing 0 false, .keeper 0, .ledgerEnable, .ledgerFillDone, .ledgerDisable,
    .mpower 24 0 0, .mpowerMissing 0, .mpClear 0, .haltClear, .ledgerEvaluation false, .ledgerCellReturn 0 false,
    .ledgerSweep] : List Instr).all (·.wellFormed) = true ∧
    State.reset.ctl.pwr.inReset = false ∧
    ([(R.BLK_CTRL pgLedger), R.LEDGER_CMD] : List Nat).all (fun a => State.reset.ctl.access a == .ok && !State.reset.ctl.mustWait a) = true := by decide

theorem test_witness_LaneCommandsComplete : ([.laneEnable 0, .laneDisable 0, .start 0, .retrain 0, .laneRateWrite 0 false, .detectProbe 0 false false,
    .train 0 0 0 false 0 0, .idle 0 0 0, .exchOffer 0 0 0, .exchConfirm 0 1 0, .laneTimeout 0, .backoffExpiry 0,
    .blockLockLost 0, .relockTimeout 0, .signalLost 0, .retrainReq 0 1 0, .retrainAck 0 2 0, .retrainReqTimeout 0,
    .fomWindowEnd 0 0, .dfeStep 0 (List.replicate 5 0), .adaptFrozen 0, .lineKeeperSend 0, .lineKeeper 0 0,
    .blockDiscard 0 ⟨0, 0⟩, .eiEnter 0 0 0, .wakeTimeout 0, .laneTestMode 0 (0 : Word), .injGo 0 (2 ^ 31 : Word),
    .injStop 0 (2 ^ 30 : Word), .checkerBlock 0 0 0] : List Instr).all (·.wellFormed) = true ∧
    State.reset.ctl.pwr.inReset = false ∧
    ([(R.BLK_CTRL (pgLane 0)), (R.LANE_CMD 0), (R.LANE_CTRL 0), (R.LANE_TEST 0), (R.LANE_INJ_CTL 0)] : List Nat).all (fun a => State.reset.ctl.access a == .ok && !State.reset.ctl.mustWait a) = true := by decide

theorem test_witness_ProtoBrakeCommandsComplete : ([.tickMark, .mgmtGo 0 (2 ^ 31 : Word), .mgmtRetry 0, .mgmtRsp 0 0 0, .galvo 0 0 0, .hstat 0 0 0,
    .partnerTickMark 0 0 0, .partnerSample 0 0 0 0 0, .correction 24 0 0 0, .brake 0 0 0 0, .brakeEcho 0,
    .camCredit 48, .camSof 48 0 0, .camData 48 0 0, .camEof 48 0 0, .camEnable 48 (0 : Word),
    .xy2Enable 52 (0 : Word), .xy2Frame 52, .brakeInEdge 0 false false, .brakePeriodic, .engage false, .release,
    .brkInMismatch] : List Instr).all (·.wellFormed) = true ∧
    State.reset.ctl.pwr.inReset = false ∧
    ([(R.MGMT_CMD 0), (R.CAM_CTRL 48), (R.XY2_CTRL 52), R.GLOBAL_BRK_CMD] : List Nat).all (fun a => State.reset.ctl.access a == .ok && !State.reset.ctl.mustWait a) = true := by decide

theorem test_witness_TwinCommandsComplete : ([.twinEnable (0 : Word), .pairOffer 56 0 0, .pairUid 56 0 0, .pairConfirm 56 0 0, .pairTimeout,
    .twinCycleBoundary false, .beacon 56 0 0, .beaconLoss, .align 56 0 0, .recBlockIn 56 0 0, .stateRecordComplete,
    .recordDeadline, .replayComplete, .fwd 56 0 0, .fwdApply, .configDigest, .digestHalfTimeout,
    .twinAliveToggle false, .twinAliveEdge, .aliveSilent, .solo, .handoverCmd, .handoverSend,
    .handover [(56, 0, 0)], .nativeSwitchover, .seamSwitchover, .autoResume, .duplicateTakeover, .dupRelock 0] : List Instr).all (·.wellFormed) = true ∧
    State.reset.ctl.pwr.inReset = false ∧
    ([R.TWIN_CTRL, R.TWIN_CMD] : List Nat).all (fun a => State.reset.ctl.access a == .ok && !State.reset.ctl.mustWait a) = true := by decide

theorem test_witness_MemoryCommandsComplete : ([.millraceEnable 0 false, .initDone 0, .trainStepDone 0 false, .trainRetry 0, .mcRetrain 0, .mcRateWrite 0 0,
    .rtRead 0 0 0 1 false, .rtReadReturn 0 0 [], .bulkRead 0 0 [], .dramWrite false, .writeBatch ⟨0, []⟩,
    .refreshDue 0 0 0, .refreshRepay 0 0 0, .nrr 0, .dramTempRead 0 0, .periodicCalibration 0, .scrubRead 0 [],
    .rowClose 0 0] : List Instr).all (·.wellFormed) = true ∧
    State.reset.ctl.pwr.inReset = false ∧
    ([(R.BLK_CTRL (pgMillrace 0)), (R.MC_CTRL 0)] : List Nat).all (fun a => State.reset.ctl.access a == .ok && !State.reset.ctl.mustWait a) = true := by decide

theorem test_witness_HostCommandsComplete : ([.bar2Write 0 [some 0], .bar2Read 0 [true], .bar2WinWrite (0 : Word), .flr, .linkDown,
    .configRequest (.read .deviceId), .msixMessage 0, .msixEnable false false, .ptmDialogue 0,
    .ptmResponse 0 0 0 false, .wallSet (0 : Word), .logEnable (2 ^ 31 : Word), .logRecordWrite, .logDrop,
    .logWriteback, .smbChipId, .smbHealth, .smbDiodes, .smbRails, .smbTally, .smbLink, .smbHalts, .smbUnknown 0,
    .smbAlertResponse] : List Instr).all (·.wellFormed) = true ∧
    State.reset.ctl.pwr.inReset = false ∧
    ([R.GLOBAL_BAR2_WIN_LO, R.GLOBAL_WALL_SET_LO, R.GLOBAL_LOG_CFG] : List Nat).all (fun a => State.reset.ctl.access a == .ok && !State.reset.ctl.mustWait a) = true := by decide

theorem test_witness_SluiceRecorderCommandsComplete : ([.sluiceEnable false, .sourceLevel 0, .sourceEdge 0, .swPendSet 0, .swPendClear 0, .ctxClaim 0, .ctxComplete 0 0,
    .ctxCompleteFlush 0, .ctxThreshWrite 0 0, .scanAck 0 0, .coalesceRelease 0, .buildOpen, .buildClose,
    .freeze false, .freezeExpired, .recMwWrite 0 (0 : Word), .nvWrite .ok, .nvTokenRefill, .lifetime,
    .wearIntervalEnd, .wearCfgWrite 0 (0 : Word)] : List Instr).all (·.wellFormed) = true ∧
    State.reset.ctl.pwr.inReset = false ∧
    ([(R.BLK_CTRL pgSluice), R.SLUICE_SW_PEND, (R.SLUICE_CTX_COMPLETE 0), (R.SLUICE_CTX_THRESH 0),
    (R.SLUICE_SCAN_ACK 0), R.REC_CMD, (R.BLK_CTRL pgRecorder), (R.REC_MW 0), (R.WEAR_CFG 0)] : List Nat).all (fun a => State.reset.ctl.access a == .ok && !State.reset.ctl.mustWait a) = true := by decide

theorem test_witness_LightAxesCommandsComplete : ([.rowSlot 0 0 0 0 none, .swap, .patClear, .shortTest, .camSyncEdge false, .gpiChange 0 false,
    .encoderEdge 0 false false, .encZEdge 0, .encSet 0 (0 : Word), .axisEnable 0 false, .moveAbs 0, .moveRel 0,
    .velocity 0, .stop 0, .qstop 0, .home 0, .gear 0, .setPos 0, .armRatio 0, .disarm 0, .axCmdUnassigned 0 0,
    .axisUpdate, .standstill 0, .wakeDone 0] : List Instr).all (·.wellFormed) = true ∧
    State.reset.ctl.pwr.inReset = false ∧
    ([R.LIGHT_CMD, (R.ENC_SET 0), (R.AX_CTRL 0), (R.AX_CMD 0)] : List Nat).all (fun a => State.reset.ctl.access a == .ok && !State.reset.ctl.mustWait a) = true := by decide

theorem test_witness_IdentityTrimCommandsComplete : ([.intInstall, .intErase, .commitSvn, .flashErase, .flashProgram, .flashDone, .ngEntrySigned, .ngRingWrite,
    .ngEnable (0 : Word), .trimRun, .trimMeasureEnd, .apply, .trimStoreDone false] : List Instr).all (·.wellFormed) = true ∧
    State.reset.ctl.pwr.inReset = false ∧
    ([R.ID_CMD, R.ID_FLASH_CMD, R.NG_CTRL, R.TRIM_CMD] : List Nat).all (fun a => State.reset.ctl.access a == .ok && !State.reset.ctl.mustWait a) = true := by decide

theorem test_witness_PowerCommandsComplete : ([.powerOnReset, .deviceReset ⟨List.replicate 256 0⟩ ⟨List.replicate 256 0⟩ 0, .bootVerifyEnd false, .warmPerst,
    .chipReset, .brownOut, .startStep, .powerStateChoice, .powerStateExit, .pwrChg,
    .diodeRound (List.replicate 8 0) false, .dieShutdown, .railSample (List.replicate 7 0)] : List Instr).all (·.wellFormed) = true ∧
    State.reset.ctl.pwr.inReset = false ∧
    ([R.GLOBAL_RST_CMD] : List Nat).all (fun a => State.reset.ctl.access a == .ok && !State.reset.ctl.mustWait a) = true := by decide

theorem test_witness_BarCommandEffects :
    (∃ s : State, taken (.softReset pgAxes false) s ∧ s.ctl.access (R.BLK_CTRL pgAxes) = .ok ∧ s.ctl.mustWait (R.BLK_CTRL
      pgAxes) = false ∧ pageOf pgAxes = some (Page.axes, 0, pgAxes) ∧ Page.axes.fixed = false ∧ s.ctl.is
      (R.BLK_STAT_SRST_BUSY pgAxes) = false ∧ (s.ctl.activePage pgAxes = true ∨ false = true)) ∧
    (∃ s : State, taken (.softReset pgAxes false) s ∧ s.ctl.access (R.BLK_CTRL pgAxes) = .ok ∧ s.ctl.mustWait (R.BLK_CTRL
      pgAxes) = false ∧ pageOf pgAxes = some (Page.axes, 0, pgAxes) ∧ Page.axes.fixed = false ∧ s.ctl.is
      (R.BLK_STAT_SRST_BUSY pgAxes) = false ∧ s.ctl.activePage pgAxes = false ∧ false = false) ∧
    (∃ s : State, taken (.counterReadClear 0) s ∧ s.ctl.access 0 = .ok ∧ claimAt 0 = none ∧ isWideLo 0 = false) ∧
    (∃ s : State, taken (.wideValueRead 0x80) s ∧ s.ctl.access 0x80 = .ok ∧ claimAt 0x80 = none ∧ isWideLo 0x80 = true) :=
  ⟨⟨(withCtl (fun c => c.setActive pgAxes true)), by unfold taken; decide⟩,
    ⟨(withCtl (fun c => ((c.flag (R.BLK_STAT_SRST_BUSY pgAxes) false).setActive pgAxes false))), by unfold taken; decide⟩,
    ⟨State.reset, by unfold taken; decide⟩,
    ⟨State.reset, by unfold taken; decide⟩⟩

theorem test_witness_StreamCommandEffects_1 :
    (∃ s : State, taken (.doorbell (0 : Word)) s ∧ s.ctl.access R.HOPPER_DOORBELL = .ok ∧ s.ctl.mustWait R.HOPPER_DOORBELL
      = false ∧ s.ctl.hop.ordDoorbells ≠ []) ∧
    (∃ s : State, taken (.doorbell (0 : Word)) s ∧ s.ctl.access R.HOPPER_DOORBELL = .ok ∧ s.ctl.mustWait R.HOPPER_DOORBELL
      = false ∧ s.ctl.hop.ordDoorbells = [] ∧ s.ctl.single = true ∧ (s.ctl.cst (slice ((0 : Word)).toNat 25 7) =
      csDisabled ∨ s.ctl.cst (slice ((0 : Word)).toNat 25 7) = csDraining)) ∧
    (∃ s : State, taken (.doorbell (0 : Word)) s ∧ s.ctl.access R.HOPPER_DOORBELL = .ok ∧ s.ctl.mustWait R.HOPPER_DOORBELL
      = false ∧ s.ctl.hop.ordDoorbells = [] ∧ s.ctl.single = true ∧ s.ctl.cst (slice ((0 : Word)).toNat 25 7) ≠
      csDisabled ∧ s.ctl.cst (slice ((0 : Word)).toNat 25 7) ≠ csDraining ∧ slice ((0 : Word)).toNat 0 25 =
      s.ctl.tailIx (slice ((0 : Word)).toNat 25 7)) ∧
    (∃ s : State, taken (.doorbell (4 : Word)) s ∧ s.ctl.access R.HOPPER_DOORBELL = .ok ∧ s.ctl.mustWait R.HOPPER_DOORBELL
      = false ∧ s.ctl.hop.ordDoorbells = [] ∧ s.ctl.single = true ∧ s.ctl.cst (slice ((4 : Word)).toNat 25 7) ≠
      csDisabled ∧ s.ctl.cst (slice ((4 : Word)).toNat 25 7) ≠ csDraining ∧ slice ((4 : Word)).toNat 0 25 ≠
      s.ctl.tailIx (slice ((4 : Word)).toNat 25 7) ∧ s.ctl.ringN (slice ((4 : Word)).toNat 25 7) ≤ slice ((4 :
      Word)).toNat 0 25) ∧
    (∃ s : State, taken (.doorbell (2 : Word)) s ∧ s.ctl.access R.HOPPER_DOORBELL = .ok ∧ s.ctl.mustWait R.HOPPER_DOORBELL
      = false ∧ s.ctl.hop.ordDoorbells = [] ∧ s.ctl.single = true ∧ s.ctl.cst (slice ((2 : Word)).toNat 25 7) ≠
      csDisabled ∧ s.ctl.cst (slice ((2 : Word)).toNat 25 7) ≠ csDraining ∧ slice ((2 : Word)).toNat 0 25 ≠
      s.ctl.tailIx (slice ((2 : Word)).toNat 25 7) ∧ slice ((2 : Word)).toNat 0 25 < s.ctl.ringN (slice ((2 :
      Word)).toNat 25 7) ∧ s.ctl.ringSub (slice ((2 : Word)).toNat 25 7) (slice ((2 : Word)).toNat 0 25) (s.ctl.headIx
      (slice ((2 : Word)).toNat 25 7)) < s.ctl.ringSub (slice ((2 : Word)).toNat 25 7) (s.ctl.fetchIx (slice ((2 :
      Word)).toNat 25 7)) (s.ctl.headIx (slice ((2 : Word)).toNat 25 7))) ∧
    (∃ s : State, taken (.doorbell (6 : Word)) s ∧ s.ctl.access R.HOPPER_DOORBELL = .ok ∧ s.ctl.mustWait R.HOPPER_DOORBELL
      = false ∧ s.ctl.hop.ordDoorbells = [] ∧ s.ctl.single = true ∧ s.ctl.cst (slice ((6 : Word)).toNat 25 7) ≠
      csDisabled ∧ s.ctl.cst (slice ((6 : Word)).toNat 25 7) ≠ csDraining ∧ slice ((6 : Word)).toNat 0 25 ≠
      s.ctl.tailIx (slice ((6 : Word)).toNat 25 7) ∧ slice ((6 : Word)).toNat 0 25 < s.ctl.ringN (slice ((6 :
      Word)).toNat 25 7) ∧ s.ctl.ringSub (slice ((6 : Word)).toNat 25 7) (s.ctl.fetchIx (slice ((6 : Word)).toNat 25
      7)) (s.ctl.headIx (slice ((6 : Word)).toNat 25 7)) ≤ s.ctl.ringSub (slice ((6 : Word)).toNat 25 7) (slice ((6 :
      Word)).toNat 0 25) (s.ctl.headIx (slice ((6 : Word)).toNat 25 7)) ∧ s.ctl.cst (slice ((6 : Word)).toNat 25 7) ≠
      csIdle) ∧
    (∃ s : State, taken (.doorbell (6 : Word)) s ∧ s.ctl.access R.HOPPER_DOORBELL = .ok ∧ s.ctl.mustWait R.HOPPER_DOORBELL
      = false ∧ s.ctl.hop.ordDoorbells = [] ∧ s.ctl.single = true ∧ s.ctl.cst (slice ((6 : Word)).toNat 25 7) ≠
      csDisabled ∧ s.ctl.cst (slice ((6 : Word)).toNat 25 7) ≠ csDraining ∧ slice ((6 : Word)).toNat 0 25 ≠
      s.ctl.tailIx (slice ((6 : Word)).toNat 25 7) ∧ slice ((6 : Word)).toNat 0 25 < s.ctl.ringN (slice ((6 :
      Word)).toNat 25 7) ∧ s.ctl.ringSub (slice ((6 : Word)).toNat 25 7) (s.ctl.fetchIx (slice ((6 : Word)).toNat 25
      7)) (s.ctl.headIx (slice ((6 : Word)).toNat 25 7)) ≤ s.ctl.ringSub (slice ((6 : Word)).toNat 25 7) (slice ((6 :
      Word)).toNat 0 25) (s.ctl.headIx (slice ((6 : Word)).toNat 25 7)) ∧ s.ctl.cst (slice ((6 : Word)).toNat 25 7) =
      csIdle ∧ slice ((6 : Word)).toNat 0 25 ≠ s.ctl.headIx (slice ((6 : Word)).toNat 25 7)) ∧
    (∃ s : State, taken (.doorbellOrd (0 : Word)) s ∧ s.ctl.access R.HOPPER_DOORBELL_ORD = .ok ∧ s.ctl.mustWait
      R.HOPPER_DOORBELL_ORD = false ∧ s.mem.bar2 ≠ []) ∧
    (∃ s : State, taken .orderedDoorbellEffect s ∧ s.ctl.hop.ordDoorbells = (0, 0) :: [] ∧ s.ctl.single = true ∧
      s.ctl.doorbellCause 0 = 0) ∧
    (∃ s : State, taken .orderedDoorbellEffect s ∧ s.ctl.hop.ordDoorbells = (0, 0) :: [] ∧ s.ctl.single = true ∧
      s.ctl.doorbellCause 0 ≠ 0) ∧
    (∃ s : State, taken (.resume 0) s ∧ s.ctl.access (R.CTX_ACTION 0) = .ok ∧ s.ctl.mustWait (R.CTX_ACTION 0) = false ∧
      s.ctl.single = true ∧ s.ctl.cst 0 = csHalted ∧ (s.ctl.strm 0).faulty = some (({ bytes := [] } : Item))) ∧
    (∃ s : State, taken (.ldrEnable (0x80000004 : Word)) s ∧ s.ctl.access R.GLOBAL_LDR_CFG = .ok ∧ s.ctl.mustWait
      R.GLOBAL_LDR_CFG = false ∧ s.ctl.is R.GLOBAL_LDR_CFG_EN = false ∧ bitOf ((0x80000004 : Word)).toNat 31 = true ∧
      4 ≤ slice ((0x80000004 : Word)).toNat 0 4 ∧ slice ((0x80000004 : Word)).toNat 0 4 ≤ 12) :=
  ⟨⟨(withCtl (fun c => ((fun d : Ctl => { d with hop := { d.hop with ordDoorbells := [(0, 0)] } }) c))),
      by unfold taken; decide⟩,
    ⟨(withCtl (fun c => ((fun d : Ctl => { d with hop := { d.hop with ordDoorbells := [] } }) c))),
      by unfold taken; decide⟩,
    ⟨(withCtl (fun c => ((((fun d : Ctl => { d with hop := { d.hop with ordDoorbells := [] } }) c).put (R.CTX_STAT_STATE
      (slice ((0 : Word)).toNat 25 7)) 1).put (R.CTX_STAT_STATE (slice ((0 : Word)).toNat 25 7)) 2))),
      by unfold taken; decide⟩,
    ⟨(withCtl (fun c => (((((fun d : Ctl => { d with hop := { d.hop with ordDoorbells := [] } }) c).put (R.CTX_STAT_STATE
      (slice ((4 : Word)).toNat 25 7)) 1).put (R.CTX_STAT_STATE (slice ((4 : Word)).toNat 25 7)) 2).put
      (R.CTX_SIZE_SIZE_LOG2 0) 5).put (R.CTX_STAT_STATE 0) 2)), by unfold taken; decide⟩,
    ⟨(withCtl (fun c => ((((c.put (R.CTX_SIZE_SIZE_LOG2 0) 8).put (R.CTX_STAT_STATE 0) 2).put (R.CTX_TAIL_INDEX 0) 6).put
      (R.CTX_FETCH_INDEX 0) 4))), by unfold taken; decide⟩,
    ⟨(withCtl (fun c => ((((c.put (R.CTX_SIZE_SIZE_LOG2 0) 8).put (R.CTX_STAT_STATE 0) 2).put (R.CTX_TAIL_INDEX 0) 4).put
      (R.CTX_FETCH_INDEX 0) 4))), by unfold taken; decide⟩,
    ⟨(withCtl (fun c => ((((c.put (R.CTX_SIZE_SIZE_LOG2 0) 8).put (R.CTX_STAT_STATE 0) 1).put (R.CTX_TAIL_INDEX 0) 4).put
      (R.CTX_FETCH_INDEX 0) 4))), by unfold taken; decide⟩,
    ⟨({ State.reset with mem := { bar2 := [(0, [some 1])] } }), by unfold taken; decide⟩,
    ⟨(withCtl (fun c => (((fun d : Ctl => { d with hop := { d.hop with ordDoorbells := [(0, 0)] } }) ((fun d : Ctl =>
      { d with hop := { d.hop with ordDoorbells := (0, 0) :: [] } }) c)).put (R.CTX_SIZE_SIZE_LOG2 0) 5).put
      (R.CTX_STAT_STATE 0) 2)), by unfold taken; decide⟩,
    ⟨(withCtl (fun c => (fun d : Ctl => { d with hop := { d.hop with ordDoorbells := [(0, 0)] } }) ((fun d : Ctl =>
      { d with hop := { d.hop with ordDoorbells := (0, 0) :: [] } }) c))), by unfold taken; decide⟩,
    ⟨(withCtl (fun c => ((c.put (R.CTX_STAT_STATE 0) csHalted).modStrm 0 (fun u =>
      { u with faulty := some (({ bytes := [] } : Item)) })))), by unfold taken; decide⟩,
    ⟨(withCtl (fun c => (c.flag R.GLOBAL_LDR_CFG_EN false))), by unfold taken; decide⟩⟩

theorem test_witness_StreamCommandEffects_2 :
    (∃ s : State, taken (.ldrEnable (0 : Word)) s ∧ s.ctl.access R.GLOBAL_LDR_CFG = .ok ∧ s.ctl.mustWait R.GLOBAL_LDR_CFG
      = false ∧ s.ctl.is R.GLOBAL_LDR_CFG_EN = false ∧ (slice ((0 : Word)).toNat 0 4 < 4 ∨ 12 < slice ((0 :
      Word)).toNat 0 4)) ∧
    (∃ s : State, taken (.ldrDb (0 : Word)) s ∧ s.ctl.access R.GLOBAL_LDR_DB = .ok ∧ s.ctl.mustWait R.GLOBAL_LDR_DB =
      false ∧ s.ctl.is R.GLOBAL_LDR_CFG_EN = false) ∧
    (∃ s : State, taken (.ldrDb (0 : Word)) s ∧ s.ctl.access R.GLOBAL_LDR_DB = .ok ∧ s.ctl.mustWait R.GLOBAL_LDR_DB =
      false ∧ s.ctl.is R.GLOBAL_LDR_CFG_EN = true) ∧
    (∃ s : State, taken .ldrResume s ∧ s.ctl.access R.GLOBAL_LDR_CMD = .ok ∧ s.ctl.mustWait R.GLOBAL_LDR_CMD = false) ∧
    (∃ s : State, taken (.fenceTimeout 0) s ∧ (s.ctl.sp 0).fence = none) ∧
    (∃ s : State, taken (.fenceTimeout 0) s ∧ (s.ctl.sp 0).fence = some ((({ bytes := [] } : Item)), 0) ∧ 0 ∉
      s.ctl.hop.expired) :=
  ⟨⟨(withCtl (fun c => (c.flag R.GLOBAL_LDR_CFG_EN false))), by unfold taken; decide⟩,
    ⟨(withCtl (fun c => (c.flag R.GLOBAL_LDR_CFG_EN false))), by unfold taken; decide⟩,
    ⟨(withCtl (fun c => (c.flag R.GLOBAL_LDR_CFG_EN true))), by unfold taken; decide⟩,
    ⟨State.reset, by unfold taken; decide⟩,
    ⟨(withCtl (fun c => (c.modSp 0 (fun u => { u with fence := none })))), by unfold taken; decide⟩,
    ⟨(withCtl (fun c => c.modSp 0 (fun u => { u with fence := some ({ bytes := [] }, 0) }))), by unfold taken; decide⟩⟩

theorem test_witness_SpindleFantailCommandEffects_1 :
    (∃ s : State, taken (.spindleGridSwap 0) s ∧ s.ctl.access (R.SPINDLE_CMD 0) = .ok ∧ s.ctl.mustWait (R.SPINDLE_CMD 0) =
      false ∧ s.ctl.single = true ∧ s.ctl.sst 0 = stStopped) ∧
    (∃ s : State, taken (.spindleGridSwap 0) s ∧ s.ctl.access (R.SPINDLE_CMD 0) = .ok ∧ s.ctl.mustWait (R.SPINDLE_CMD 0) =
      false ∧ s.ctl.single = true ∧ s.ctl.sst 0 ≠ stStopped) ∧
    (∃ s : State, taken (.spindleEnable 0) s ∧ s.ctl.access (R.BLK_CTRL (pgSpindle 0)) = .ok ∧ s.ctl.mustWait (R.BLK_CTRL
      (pgSpindle 0)) = false ∧ s.ctl.enabled (pgSpindle 0) = false ∧ s.ctl.sst 0 = stDisabled ∧ s.ctl.hasChan 0 = true
      ∧ s.ctl.spConfigErr 0 ≠ 0) ∧
    (∃ s : State, taken (.spindleEnable 0) s ∧ s.ctl.access (R.BLK_CTRL (pgSpindle 0)) = .ok ∧ s.ctl.mustWait (R.BLK_CTRL
      (pgSpindle 0)) = false ∧ s.ctl.enabled (pgSpindle 0) = false ∧ s.ctl.sst 0 = stDisabled ∧ s.ctl.hasChan 0 = true
      ∧ s.ctl.spConfigErr 0 = 0 ∧ ((upto 128).any (fun x => !s.ctl.is (R.CTX_CTRL_KIND x) && s.ctl.get
      (R.CTX_CTRL_BIND x) == 0 && s.ctl.get (R.CTX_STAT_STATE x) != 0)) = false) ∧
    (∃ s : State, taken (.spindleDisable 0) s ∧ s.ctl.access (R.BLK_CTRL (pgSpindle 0)) = .ok ∧ s.ctl.mustWait (R.BLK_CTRL
      (pgSpindle 0)) = false ∧ s.ctl.enabled (pgSpindle 0) = true ∧ s.ctl.sst 0 = stStopped) ∧
    (∃ s : State, taken (.mirrorAtRest 0) s ∧ s.ctl.sst 0 = stBraking ∧ (s.ctl.sp 0).stop = none ∧ (s.ctl.sp 0).stopFrom ≠
      s.ctl.now ∧ (s.ctl.sp 0).stopEnd = some 0 ∧ 32 ≤ s.ctl.sinceT 0 ∧ (s.ctl.sp 0).disabling = false) ∧
    (∃ s : State, taken (.brakeResume 0) s ∧ s.ctl.access (R.SPINDLE_CMD 0) = .ok ∧ s.ctl.mustWait (R.SPINDLE_CMD 0) =
      false ∧ s.ctl.single = true ∧ s.ctl.engaged = true) ∧
    (∃ s : State, taken (.brakeResume 0) s ∧ s.ctl.access (R.SPINDLE_CMD 0) = .ok ∧ s.ctl.mustWait (R.SPINDLE_CMD 0) =
      false ∧ s.ctl.single = true ∧ s.ctl.engaged = false) ∧
    (∃ s : State, taken .publish s ∧ s.ctl.access R.GLOBAL_PROF_CTRL = .ok ∧ s.ctl.mustWait R.GLOBAL_PROF_CTRL = false ∧
      s.ctl.single = true ∧ s.ctl.is R.GLOBAL_PROF_CTRL_PUBLISH = true) ∧
    (∃ s : State, taken (.tableWindowWrite 0 (0 : Word)) s ∧ s.ctl.access (winBase + 0) = .ok ∧ s.ctl.mustWait (winBase +
      0) = false ∧ s.ctl.is R.GLOBAL_TABLE_WIN_KIND = false ∧ s.ctl.absent (s.ctl.get R.GLOBAL_TABLE_WIN_SPINDLE) =
      true) ∧
    (∃ s : State, taken (.tableWindowWrite 0 (0 : Word)) s ∧ s.ctl.access (winBase + 0) = .ok ∧ s.ctl.mustWait (winBase +
      0) = false ∧ s.ctl.is R.GLOBAL_TABLE_WIN_KIND = false ∧ 0 < winSize false ∧ s.ctl.absent (s.ctl.get
      R.GLOBAL_TABLE_WIN_SPINDLE) = false ∧ s.ctl.get (R.SPINDLE_STAT_BANK (s.ctl.get R.GLOBAL_TABLE_WIN_SPINDLE)) =
      s.ctl.get R.GLOBAL_TABLE_WIN_BANK ∧ s.ctl.sst (s.ctl.get R.GLOBAL_TABLE_WIN_SPINDLE) ≠ stStopped) ∧
    (∃ s : State, taken (.tableWindowWrite (gridNodes * 16 - 4) (0 : Word)) s ∧ s.ctl.access (winBase + ((gridNodes * 16 -
      4))) = .ok ∧ s.ctl.mustWait (winBase + ((gridNodes * 16 - 4))) = false ∧ s.ctl.is R.GLOBAL_TABLE_WIN_KIND =
      false ∧ ((gridNodes * 16 - 4)) < winSize false ∧ s.ctl.absent (s.ctl.get R.GLOBAL_TABLE_WIN_SPINDLE) = false ∧
      (s.ctl.get (R.SPINDLE_STAT_BANK (s.ctl.get R.GLOBAL_TABLE_WIN_SPINDLE)) ≠ s.ctl.get R.GLOBAL_TABLE_WIN_BANK ∨
      s.ctl.sst (s.ctl.get R.GLOBAL_TABLE_WIN_SPINDLE) = stStopped) ∧ tget s.ctl.tab.grid (s.ctl.winNode ((gridNodes *
      16 - 4))) (0, 0, 0) = (0, 0, 0)) :=
  ⟨⟨(withCtl (fun c => (c.setSst 0 stStopped))), by unfold taken; decide⟩,
    ⟨(withCtl (fun c => (c.setSst 0 2))), by unfold taken; decide⟩,
    ⟨(withCtl (fun c => ((c.flag (R.BLK_CTRL_ENABLE (pgSpindle 0)) false).setSst 0 stDisabled))), by unfold taken; decide⟩,
    ⟨(withCtl (fun c => ((((c.flag (R.BLK_CTRL_ENABLE (pgSpindle 0)) false).setSst 0 stDisabled).put
      (R.SPINDLE_GRID_PITCH_PITCH 0) 1000).put (R.SPINDLE_AXIS_SCALE_X_SCALE 0) 1).put (R.SPINDLE_AXIS_SCALE_Y_SCALE
      0) 1)), by unfold taken; decide⟩,
    ⟨(withCtl (fun c => ((c.flag (R.BLK_CTRL_ENABLE (pgSpindle 0)) true).setSst 0 stStopped))), by unfold taken; decide⟩,
    ⟨(withCtl (fun c => ((later 2000000000 (((c.setSst 0 stBraking).modSp 0 (fun u => { u with stop := none })).modSp 0
      (fun u => { u with stopEnd := some 0 }))).modSp 0 (fun u => { u with disabling := false })))),
      by unfold taken; decide⟩,
    ⟨(withCtl (fun c => (c.flag R.GLOBAL_BRK_STAT_ENGAGED true))), by unfold taken; decide⟩,
    ⟨(withCtl (fun c => (c.flag R.GLOBAL_BRK_STAT_ENGAGED false))), by unfold taken; decide⟩,
    ⟨(withCtl (fun c => (c.flag R.GLOBAL_PROF_CTRL_PUBLISH true))), by unfold taken; decide⟩,
    ⟨(withCtl (fun c => (c.flag R.GLOBAL_TABLE_WIN_KIND false))), by unfold taken; decide⟩,
    ⟨(withCtl (fun c => ((c.put (R.PROTO_STAT_CAP_VALID 0) 1).put (R.PROTO_STAT_CAP_VALID 24) 1).setSst 0 stIdle)),
      by unfold taken; decide⟩,
    ⟨(withCtl (fun c => ((c.put (R.PROTO_STAT_CAP_VALID 0) 1).put (R.PROTO_STAT_CAP_VALID 24) 1).setSst 0 stStopped)),
      by unfold taken; decide⟩⟩

theorem test_witness_SpindleFantailCommandEffects_2 :
    (∃ s : State, taken (.tableWindowWrite 0 (0 : Word)) s ∧ s.ctl.access (winBase + 0) = .ok ∧ s.ctl.mustWait (winBase +
      0) = false ∧ s.ctl.is R.GLOBAL_TABLE_WIN_KIND = true ∧ 0 < winSize true ∧ bitOf (s.ctl.written
      R.GLOBAL_PROF_CTRL) 31 = false) ∧
    (∃ s : State, taken (.waitAlarm 0) s ∧ s.ctl.get R.FANTAIL_WAIT_LIMIT_TICKS ≠ 0 ∧ s.ctl.get R.FANTAIL_WAIT_LIMIT_TICKS
      ≤ (s.ctl.sp 0).waited ∧ (s.ctl.sp 0).alarmed = false ∧ s.ctl.enabled pgFantail = true) ∧
    (∃ s : State, taken .flowLost s ∧ s.ctl.flowLost = true ∧ s.ctl.fan.lost = false ∧ s.ctl.is
      R.FANTAIL_FAN_CTRL_FLOW_BRAKE = false) ∧
    (∃ s : State, taken .flowLost s ∧ s.ctl.flowLost = true ∧ s.ctl.fan.lost = false ∧ s.ctl.is
      R.FANTAIL_FAN_CTRL_FLOW_BRAKE = true) ∧
    (∃ s : State, taken .flowRestored s ∧ s.ctl.flowLost = false) :=
  ⟨⟨(withCtl (fun c => (c.flag R.GLOBAL_TABLE_WIN_KIND true))), by unfold taken; decide⟩,
    ⟨(withCtl (fun c => (((c.put R.FANTAIL_WAIT_LIMIT_TICKS 1).modSp 0 (fun u => { u with alarmed := false })).flag
      (R.BLK_CTRL_ENABLE pgFantail) true).modSp 0 (fun u => { u with waited := 1 }))), by unfold taken; decide⟩,
    ⟨(withCtl (fun c => (((fun d : Ctl => { d with fan := { d.fan with lost := false } }) c).flag
      R.FANTAIL_FAN_CTRL_FLOW_BRAKE false).flag R.FANTAIL_FAN_CTRL_FLOW_OK_EN true)), by unfold taken; decide⟩,
    ⟨(withCtl (fun c => (((fun d : Ctl => { d with fan := { d.fan with lost := false } }) c).flag
      R.FANTAIL_FAN_CTRL_FLOW_BRAKE true).flag R.FANTAIL_FAN_CTRL_FLOW_OK_EN true)), by unfold taken; decide⟩,
    ⟨State.reset, by unfold taken; decide⟩⟩

theorem test_witness_HeatCommandEffects :
    (∃ s : State, taken (.mpClear 0) s ∧ s.ctl.access R.LEDGER_CMD = .ok ∧ s.ctl.mustWait R.LEDGER_CMD = false ∧
      s.ctl.single = true) ∧
    (∃ s : State, taken .haltClear s ∧ s.ctl.access R.LEDGER_CMD = .ok ∧ s.ctl.mustWait R.LEDGER_CMD = false ∧
      s.ctl.single = true ∧ s.ctl.is R.LEDGER_HALT_STAT_HALTED = true) ∧
    (∃ s : State, taken (.keeper 0) s ∧ s.ctl.get (R.SPINDLE_TENT_CTRL_KEEPER 0) ≠ 0 ∧ tnSettling ≤ s.ctl.tst 0 ∧
      s.ctl.get (R.SPINDLE_TENT_CTRL_KEEPER 0) ≤ s.ctl.sinceT (s.ctl.tn 0).lastBlock ∧ (s.ctl.tn 0).waiting = none ∧
      (s.ctl.tn 0).sentNow = false) ∧
    (∃ s : State, taken .ledgerEnable s ∧ s.ctl.access (R.BLK_CTRL pgLedger) = .ok ∧ s.ctl.mustWait (R.BLK_CTRL pgLedger)
      = false ∧ s.ctl.enabled pgLedger = false ∧ s.ctl.activePage pgLedger = false ∧ s.ctl.ledgerErr ≠ 0) ∧
    (∃ s : State, taken .ledgerFillDone s ∧ s.ctl.is R.LEDGER_STAT_FILLING = true) :=
  ⟨⟨State.reset, by unfold taken; decide⟩,
    ⟨(withCtl (fun c => (c.flag R.LEDGER_HALT_STAT_HALTED true))), by unfold taken; decide⟩,
    ⟨(withCtl (fun c => (((later 2000000000 (c.put (R.SPINDLE_TENT_CTRL_KEEPER 0) 1)).modTn 0 (fun u =>
      { u with waiting := none })).modTn 0 (fun u => { u with sentNow := false })).put (R.SPINDLE_TENT_STAT_STATE 0)
      tnSettling)), by unfold taken; decide⟩,
    ⟨(withCtl (fun c => ((c.flag (R.BLK_CTRL_ENABLE pgLedger) false).setActive pgLedger false))), by unfold taken; decide⟩,
    ⟨(withCtl (fun c => (c.flag R.LEDGER_STAT_FILLING true))), by unfold taken; decide⟩⟩

theorem test_witness_LaneCommandEffects_1 :
    (∃ s : State, taken (.start 0) s ∧ s.ctl.access (R.LANE_CMD 0) = .ok ∧ s.ctl.mustWait (R.LANE_CMD 0) = false ∧
      s.ctl.enabled (pgLane 0) = true ∧ s.ctl.xy2On 0 = false ∧ s.ctl.hasLane 0 = true ∧ (s.ctl.lst 0 = lnDown ∨
      s.ctl.lst 0 = lnAbsent)) ∧
    (∃ s : State, taken (.start 52) s ∧ s.ctl.access (R.LANE_CMD 52) = .ok ∧ s.ctl.mustWait (R.LANE_CMD 52) = false ∧
      s.ctl.xy2On 52 = true) ∧
    (∃ s : State, taken (.retrain 0) s ∧ s.ctl.access (R.LANE_CMD 0) = .ok ∧ s.ctl.mustWait (R.LANE_CMD 0) = false ∧
      s.ctl.lst 0 = lnActive ∧ (s.ctl.ln 0).reqAt = none) ∧
    (∃ s : State, taken (.retrainReqTimeout 0) s ∧ (s.ctl.ln 0).reqAt = some 0 ∧ s.ctl.lst 0 = lnActive ∧ usTicks 1 ≤
      s.ctl.sinceT 0) ∧
    (∃ s : State, taken (.retrainReq 0 1 248) s ∧ ctlGood bLinkMgmt 1 248 = true ∧ s.ctl.decodes 0 true (ctlWord bLinkMgmt
      1 248) = true ∧ (received 0 true (ctlWord bLinkMgmt 1 248) s.ctl).lst 0 = lnActive ∧ ((sendRetrain 0 2 (received
      0 true (ctlWord bLinkMgmt 1 248) s.ctl)).ln 0).retrainsDue = false) ∧
    (∃ s : State, taken (.retrainReq 0 1 248) s ∧ ctlGood bLinkMgmt 1 248 = true ∧ s.ctl.decodes 0 true (ctlWord bLinkMgmt
      1 248) = true ∧ (received 0 true (ctlWord bLinkMgmt 1 248) s.ctl).lst 0 = lnActive ∧ ((sendRetrain 0 2 (received
      0 true (ctlWord bLinkMgmt 1 248) s.ctl)).ln 0).retrainsDue = true) ∧
    (∃ s : State, taken (.retrainReq 0 1 0) s ∧ ctlGood bLinkMgmt 1 0 = false ∧ s.ctl.decodes 0 true (ctlWord bLinkMgmt 1
      0) = true ∧ (received 0 true (ctlWord bLinkMgmt 1 0) s.ctl).hasLane 0 = true ∧ (received 0 true (ctlWord
      bLinkMgmt 1 0) s.ctl).lst 0 ≠ lnLock) ∧
    (∃ s : State, taken (.retrainAck 0 2 131) s ∧ ctlGood bLinkMgmt 2 131 = true ∧ s.ctl.decodes 0 true (ctlWord bLinkMgmt
      2 131) = true ∧ (received 0 true (ctlWord bLinkMgmt 2 131) s.ctl).lst 0 = lnActive ∧ ((received 0 true (ctlWord
      bLinkMgmt 2 131) s.ctl).ln 0).reqAt.isSome = true) ∧
    (∃ s : State, taken (.laneRateWrite 0 false) s ∧ s.ctl.access (R.LANE_CTRL 0) = .ok ∧ s.ctl.mustWait (R.LANE_CTRL 0) =
      false ∧ s.ctl.is (R.LANE_CTRL_RATE 0) ≠ false ∧ (s.ctl.lst 0 = lnDown ∨ s.ctl.lst 0 = lnDetect ∨ s.ctl.lst 0 =
      lnBackoff)) ∧
    (∃ s : State, taken (.laneRateWrite 0 false) s ∧ s.ctl.access (R.LANE_CTRL 0) = .ok ∧ s.ctl.mustWait (R.LANE_CTRL 0) =
      false ∧ s.ctl.is (R.LANE_CTRL_RATE 0) ≠ false ∧ s.ctl.lst 0 ≠ lnDown ∧ s.ctl.lst 0 ≠ lnDetect ∧ s.ctl.lst 0 ≠
      lnBackoff ∧ ¬ (s.ctl.lst 0 = lnTrain ∧ s.ctl.get (R.LANE_STAT_TRAIN_STEP 0) = 5)) ∧
    (∃ s : State, taken (.laneRateWrite 0 false) s ∧ s.ctl.access (R.LANE_CTRL 0) = .ok ∧ s.ctl.mustWait (R.LANE_CTRL 0) =
      false ∧ s.ctl.is (R.LANE_CTRL_RATE 0) ≠ false ∧ s.ctl.lst 0 = lnTrain ∧ s.ctl.get (R.LANE_STAT_TRAIN_STEP 0) =
      5) ∧
    (∃ s : State, taken (.detectProbe 0 true true) s ∧ s.ctl.lst 0 = lnDetect ∧ usTicks 100 ≤ s.ctl.sinceT (s.ctl.ln
      0).probeAt ∧ true = true ∧ true = true) :=
  ⟨⟨(withCtl (fun c => (c.flag (R.BLK_CTRL_ENABLE (pgLane 0)) true))), by unfold taken; decide⟩,
    ⟨(withCtl (fun c => c.flag (R.XY2_CTRL_EN 52) true)), by unfold taken; decide⟩,
    ⟨(withCtl (fun c => ((c.put (R.LANE_STAT_STATE 0) lnActive).modLn 0 (fun u => { u with reqAt := none })))),
      by unfold taken; decide⟩,
    ⟨(withCtl (fun c => (later 2000000000 ((c.modLn 0 (fun u => { u with reqAt := some 0 })).put (R.LANE_STAT_STATE 0)
      lnActive)))), by unfold taken; decide⟩,
    ⟨(withCtl (fun c => c.put (R.LANE_STAT_STATE 0) lnActive)), by unfold taken; decide⟩,
    ⟨(withCtl (fun c => (c.put (R.LANE_STAT_STATE 0) lnActive).modLn 0 (fun u => { u with heldRt := [1] }))),
      by unfold taken; decide⟩,
    ⟨(withCtl (fun c => c.put (R.LANE_STAT_STATE 0) lnActive)), by unfold taken; decide⟩,
    ⟨(withCtl (fun c => (c.put (R.LANE_STAT_STATE 0) lnActive).modLn 0 (fun u => { u with reqAt := some 0 }))),
      by unfold taken; decide⟩,
    ⟨(withCtl (fun c => (c.flag (R.LANE_CTRL_RATE 0) true))), by unfold taken; decide⟩,
    ⟨(withCtl (fun c => ((((c.flag (R.LANE_CTRL_RATE 0) true).put (R.LANE_STAT_STATE 0) 1).put (R.LANE_STAT_STATE 0)
      2).put (R.LANE_STAT_STATE 0) 2))), by unfold taken; decide⟩,
    ⟨(withCtl (fun c => (((c.flag (R.LANE_CTRL_RATE 0) true).put (R.LANE_STAT_STATE 0) lnTrain).put
      (R.LANE_STAT_TRAIN_STEP 0) 5))), by unfold taken; decide⟩,
    ⟨(withCtl (fun c => (later 2000000000 (c.put (R.LANE_STAT_STATE 0) lnDetect)))), by unfold taken; decide⟩⟩

theorem test_witness_LaneCommandEffects_2 :
    (∃ s : State, taken (.detectProbe 0 false false) s ∧ s.ctl.lst 0 = lnDetect ∧ usTicks 100 ≤ s.ctl.sinceT (s.ctl.ln
      0).probeAt ∧ (false = false ∨ false = false)) ∧
    (∃ s : State, taken (.laneTimeout 0) s ∧ s.ctl.lst 0 = lnDetect ∧ (s.ctl.ln 0).order = false ∧ msTicks (s.ctl.get1
      (R.LANE_TIMEOUT_DETECT_MS 0)) ≤ s.ctl.sinceT (s.ctl.ln 0).at_) ∧
    (∃ s : State, taken (.laneTimeout 0) s ∧ s.ctl.lst 0 = lnTrain ∧ msTicks (s.ctl.get1 (R.LANE_TIMEOUT_TRAIN_MS 0)) ≤
      s.ctl.sinceT (s.ctl.ln 0).at_) ∧
    (∃ s : State, taken (.laneTimeout 0) s ∧ s.ctl.lst 0 = lnLock ∧ (s.ctl.ln 0).relock = false ∧ msTicks (s.ctl.get1
      (R.LANE_TIMEOUT_LOCK_MS 0)) ≤ s.ctl.sinceT (s.ctl.ln 0).at_) ∧
    (∃ s : State, taken (.laneTimeout 0) s ∧ s.ctl.lst 0 = lnExchange ∧ msTicks (s.ctl.get1 (R.LANE_TIMEOUT_EXCH_MS 0)) ≤
      s.ctl.sinceT (s.ctl.ln 0).at_) ∧
    (∃ s : State, taken (.backoffExpiry 0) s ∧ s.ctl.lst 0 = lnBackoff ∧ msTicks (s.ctl.get1 (R.LANE_RETRY_BACKOFF_MS 0))
      ≤ s.ctl.sinceT (s.ctl.ln 0).at_ ∧ (s.ctl.ln 0).attempt < 1 + s.ctl.get1 (R.LANE_RETRY_RETRIES 0)) ∧
    (∃ s : State, taken (.backoffExpiry 0) s ∧ s.ctl.lst 0 = lnBackoff ∧ msTicks (s.ctl.get1 (R.LANE_RETRY_BACKOFF_MS 0))
      ≤ s.ctl.sinceT (s.ctl.ln 0).at_ ∧ 1 + s.ctl.get1 (R.LANE_RETRY_RETRIES 0) ≤ (s.ctl.ln 0).attempt) ∧
    (∃ s : State, taken (.blockLockLost 0) s ∧ s.ctl.is (R.LANE_STAT_BLOCK_LOCK 0) = true ∧ s.ctl.lst 0 = lnActive ∧
      s.ctl.is (R.LANE_STAT_SIGNAL 0) = true ∧ (s.ctl.ln 0).rxIdle = false) ∧
    (∃ s : State, taken (.blockLockLost 0) s ∧ s.ctl.lst 0 = lnActive ∧ s.ctl.is (R.LANE_STAT_SIGNAL 0) = false) ∧
    (∃ s : State, taken (.blockLockLost 0) s ∧ s.ctl.is (R.LANE_STAT_BLOCK_LOCK 0) = true ∧ s.ctl.lst 0 ≠ lnActive) ∧
    (∃ s : State, taken (.relockTimeout 0) s ∧ s.ctl.lst 0 = lnLock ∧ (s.ctl.ln 0).relock = true ∧ usTicks 10 ≤
      s.ctl.sinceT (s.ctl.ln 0).at_) ∧
    (∃ s : State, taken (.wakeTimeout 0) s ∧ s.ctl.lst 0 = lnWake ∧ 80 ≤ s.ctl.sinceT (s.ctl.ln 0).at_) :=
  ⟨⟨(withCtl (fun c => (later 2000000000 (c.put (R.LANE_STAT_STATE 0) lnDetect)))), by unfold taken; decide⟩,
    ⟨(withCtl (fun c => (later 2000000000 ((c.put (R.LANE_STAT_STATE 0) lnDetect).modLn 0 (fun u =>
      { u with order := false }))))), by unfold taken; decide⟩,
    ⟨(withCtl (fun c => (later 2000000000 (c.put (R.LANE_STAT_STATE 0) lnTrain)))), by unfold taken; decide⟩,
    ⟨(withCtl (fun c => (later 2000000000 ((c.put (R.LANE_STAT_STATE 0) lnLock).modLn 0 (fun u =>
      { u with relock := false }))))), by unfold taken; decide⟩,
    ⟨(withCtl (fun c => (later 2000000000 (c.put (R.LANE_STAT_STATE 0) lnExchange)))), by unfold taken; decide⟩,
    ⟨(withCtl (fun c => (later 2000000000 (c.put (R.LANE_STAT_STATE 0) lnBackoff)))), by unfold taken; decide⟩,
    ⟨(withCtl (fun c => later 2000000000 ((c.put (R.LANE_STAT_STATE 0) lnBackoff).modLn 0 (fun u =>
      { u with attempt := 256 })))), by unfold taken; decide⟩,
    ⟨(withCtl (fun c => ((((c.flag (R.LANE_STAT_BLOCK_LOCK 0) true).put (R.LANE_STAT_STATE 0) lnActive).flag
      (R.LANE_STAT_SIGNAL 0) true).modLn 0 (fun u => { u with rxIdle := false })))), by unfold taken; decide⟩,
    ⟨(withCtl (fun c => ((c.put (R.LANE_STAT_STATE 0) lnActive).flag (R.LANE_STAT_SIGNAL 0) false))),
      by unfold taken; decide⟩,
    ⟨(withCtl (fun c => ((c.flag (R.LANE_STAT_BLOCK_LOCK 0) true).put (R.LANE_STAT_STATE 0) 2))), by unfold taken; decide⟩,
    ⟨(withCtl (fun c => (later 2000000000 ((c.put (R.LANE_STAT_STATE 0) lnLock).modLn 0 (fun u =>
      { u with relock := true }))))), by unfold taken; decide⟩,
    ⟨(withCtl (fun c => (later 2000000000 (c.put (R.LANE_STAT_STATE 0) lnWake)))), by unfold taken; decide⟩⟩

theorem test_witness_LaneCommandEffects_3 :
    (∃ s : State, taken (.signalLost 0) s ∧ s.ctl.looped 0 = false ∧ s.ctl.announced 0 = false ∧ s.ctl.lst 0 = lnActive) ∧
    (∃ s : State, taken (.signalLost 0) s ∧ s.ctl.looped 0 = false ∧ s.ctl.announced 0 = false ∧ s.ctl.lst 0 ≠ lnActive) ∧
    (∃ s : State, taken (.signalLost 0) s ∧ s.ctl.looped 0 = true) ∧
    (∃ s : State, taken (.signalLost 0) s ∧ s.ctl.looped 0 = false ∧ s.ctl.announced 0 = true) ∧
    (∃ s : State, taken (.eiEnter 0 0 225) s ∧ ctlGood bEiEnter 0 225 = true ∧ s.ctl.decodes 0 true (ctlWord bEiEnter 0
      225) = true) ∧
    (∃ s : State, taken (.blockDiscard 0 ⟨0, 0⟩) s ∧ s.ctl.hasLane 0 = true ∧ s.ctl.hearsBad 0 0 = true ∧ ¬ (s.ctl.lst 0 =
      lnTest ∧ s.ctl.get (R.LANE_TEST_MODE 0) = 3) ∧ 0 = 0 ∧ s.ctl.deaf 0 = false ∧ popCount 64 (((((s.ctl.inc
      (R.LANE_CNT0_HDR_ERR 0)).modLn 0 (fun l =>
      { l with rxScr := lineTail 0, offers := if l.offerOk then l.offers else 0, confirms := 0 })).modLn 0 (fun l =>
      { l with hdrRun := 0, hdrBad := (l.hdrBad * 2 + 1) % 2 ^ 64, idles := 0 })).ln 0).hdrBad) < 16) ∧
    (∃ s : State, taken (.blockDiscard 0 ⟨0, 0⟩) s ∧ s.ctl.hasLane 0 = true ∧ s.ctl.hearsBad 0 0 = true ∧ ¬ (s.ctl.lst 0 =
      lnTest ∧ s.ctl.get (R.LANE_TEST_MODE 0) = 3) ∧ 0 = 0 ∧ s.ctl.deaf 0 = false ∧ 16 ≤ popCount 64 (((((s.ctl.inc
      (R.LANE_CNT0_HDR_ERR 0)).modLn 0 (fun l =>
      { l with rxScr := lineTail 0, offers := if l.offerOk then l.offers else 0, confirms := 0 })).modLn 0 (fun l =>
      { l with hdrRun := 0, hdrBad := (l.hdrBad * 2 + 1) % 2 ^ 64, idles := 0 })).ln 0).hdrBad)) ∧
    (∃ s : State, taken (.blockDiscard 0 ⟨1, 0⟩) s ∧ s.ctl.hasLane 0 = true ∧ 1 = 1 ∧ s.ctl.decodes 0 true (0) = true ∧
      (received 0 true (0) s.ctl).lst 0 ≠ lnLock) ∧
    (∃ s : State, taken (.blockDiscard 0 ⟨2, 0⟩) s ∧ s.ctl.hasLane 0 = true ∧ 2 = 2 ∧ s.ctl.decodes 0 true (0) = true ∧
      (received 0 true (0) s.ctl).lst 0 ≠ lnLock) ∧
    (∃ s : State, taken (.blockDiscard 0 ⟨3, 0⟩) s ∧ s.ctl.hasLane 0 = true ∧ 3 = 3 ∧ isTwin 0 = false ∧ s.ctl.decodes 0
      false (0) = true ∧ (received 0 false (0) s.ctl).lst 0 ≠ lnLock) ∧
    (∃ s : State, taken (.adaptFrozen 0) s ∧ s.ctl.linked 0 = true ∧ 64 ≤ (s.ctl.ln 0).nonRx ∧ (s.ctl.ln 0).trialLeft = 0) ∧
    (∃ s : State, taken (.laneTestMode 0 (0x40000000 : Word)) s ∧ s.ctl.access (R.LANE_TEST 0) = .ok ∧ s.ctl.mustWait
      (R.LANE_TEST 0) = false ∧ ((0x40000000 : Word)).toNat / 2 ^ 30 % 4 ≠ s.ctl.get (R.LANE_TEST_MODE 0) ∧
      ((0x40000000 : Word)).toNat / 2 ^ 30 % 4 ≠ 0 ∧ s.ctl.testable 0 = false) :=
  ⟨⟨(withCtl (fun c => (c.put (R.LANE_STAT_STATE 0) lnActive))), by unfold taken; decide⟩,
    ⟨(withCtl (fun c => (c.put (R.LANE_STAT_STATE 0) 2))), by unfold taken; decide⟩,
    ⟨(withCtl (fun c => (c.put (R.LANE_STAT_STATE 0) lnTest).put (R.LANE_TEST_MODE 0) 2)), by unfold taken; decide⟩,
    ⟨(withCtl (fun c => c.modLn 0 (fun u => { u with rxIdle := true }))), by unfold taken; decide⟩,
    ⟨(withCtl (fun c => c.put (R.LANE_STAT_STATE 0) lnActive)), by unfold taken; decide⟩,
    ⟨(withCtl (fun c => c.put (R.LANE_STAT_STATE 0) lnActive)), by unfold taken; decide⟩,
    ⟨(withCtl (fun c => (c.put (R.LANE_STAT_STATE 0) lnActive).modLn 0 (fun u => { u with hdrBad := 65535 }))),
      by unfold taken; decide⟩,
    ⟨(withCtl (fun c => c.put (R.LANE_STAT_STATE 0) lnActive)), by unfold taken; decide⟩,
    ⟨(withCtl (fun c => c.put (R.LANE_STAT_STATE 0) lnActive)), by unfold taken; decide⟩,
    ⟨(withCtl (fun c => c.put (R.LANE_STAT_STATE 0) lnActive)), by unfold taken; decide⟩,
    ⟨(withCtl (fun c => (c.put (R.LANE_STAT_STATE 0) lnActive).modLn 0 (fun u => { u with nonRx := 64 }))),
      by unfold taken; decide⟩,
    ⟨(withCtl (fun c => c.setSst 0 stIdle)), by unfold taken; decide⟩⟩

theorem test_witness_LaneCommandEffects_4 :
    (∃ s : State, taken (.checkerBlock 0 0 0) s ∧ s.ctl.lst 0 ≠ lnTest) :=
  ⟨(withCtl (fun c => (c.put (R.LANE_STAT_STATE 0) 2))), by unfold taken; decide⟩

theorem test_witness_ProtoBrakeCommandEffects_1 :
    (∃ s : State, taken (.mgmtRetry 0) s ∧ (s.ctl.ln 0).mout.find? (fun r => decide (2000 ≤ s.ctl.sinceT r.at_)) = some
      (({ addr := 0, write := true, data := 0 } : MgmtReq)) ∧ (({ addr := 0, write := true, data := 0 } :
      MgmtReq)).tries < 3) ∧
    (∃ s : State, taken (.mgmtRetry 0) s ∧ (s.ctl.ln 0).mout.find? (fun r => decide (2000 ≤ s.ctl.sinceT r.at_)) = some
      (({ addr := 0, write := true, data := 0, tries := 3 } : MgmtReq)) ∧ 3 ≤
      (({ addr := 0, write := true, data := 0, tries := 3 } : MgmtReq)).tries ∧
      (({ addr := 0, write := true, data := 0, tries := 3 } : MgmtReq)).cap = none) ∧
    (∃ s : State, taken (.brakeEcho 0) s ∧ (s.ctl.ln 0).echo = some (0, 0) ∧ 8 ≤ s.ctl.sinceT 0 ∧ s.ctl.get
      (R.PROTO_STAT_BSEQ_ECHO 0) ≠ 0) ∧
    (∃ s : State, taken (.brakeEcho 0) s ∧ (s.ctl.ln 0).echo = some (0, 0) ∧ 8 ≤ s.ctl.sinceT 0 ∧ s.ctl.get
      (R.PROTO_STAT_BSEQ_ECHO 0) = 0) ∧
    (∃ s : State, taken (.brake 24 0 0x101 166) s ∧ 24 ≤ 24 ∧ s.ctl.reaches 24 0 = true ∧ 0 = (s.ctl.ln 24).p.port ∧
      ctlGood bBrake 0x101 166 = true ∧ bitOf 0x101 0 = true) ∧
    (∃ s : State, taken (.brake 24 0 0x100 143) s ∧ 24 ≤ 24 ∧ s.ctl.reaches 24 0 = true ∧ 0 = (s.ctl.ln 24).p.port ∧
      ctlGood bBrake 0x100 143 = true ∧ bitOf 0x100 0 = false ∧ (s.ctl.ln 24).p.engaged = some 0 ∧ (s.ctl.ln
      24).p.braked = true ∧ 1 ≤ (slice 0x100 8 8 + 256 - 0) % 256 ∧ (slice 0x100 8 8 + 256 - 0) % 256 ≤ 127) ∧
    (∃ s : State, taken (.brake 24 0 0 237) s ∧ 24 ≤ 24 ∧ s.ctl.reaches 24 0 = true ∧ 0 = (s.ctl.ln 24).p.port ∧ ctlGood
      bBrake 0 237 = true ∧ bitOf 0 0 = false ∧ (s.ctl.ln 24).p.engaged = some 0 ∧ ((slice 0 8 8 + 256 - 0) % 256 = 0
      ∨ 127 < (slice 0 8 8 + 256 - 0) % 256)) ∧
    (∃ s : State, taken (.correction 24 0 0 197) s ∧ s.ctl.reaches 24 0 = true ∧ 0 = (s.ctl.ln 24).p.port ∧ ctlGood
      bCorrection 0 197 = true ∧ (s.ctl.ln 24).p.exempt = true) ∧
    (∃ s : State, taken (.partnerTickMark 0 0 108) s ∧ 0 < 48 ∧ (s.ctl.ln 0).p.gen0 = false ∧ s.ctl.txOn 0 = true ∧
      ctlGood bTickMark 0 108 = true) ∧
    (∃ s : State, taken (.partnerTickMark 0 0 0) s ∧ (s.ctl.ln 0).p.gen0 = true) ∧
    (∃ s : State, taken (.camEnable 48 (0x8000000B : Word)) s ∧ s.ctl.access (R.CAM_CTRL 48) = .ok ∧ s.ctl.mustWait
      (R.CAM_CTRL 48) = false ∧ s.ctl.is (R.CAM_CTRL_EN 48) = false ∧ bitOf ((0x8000000B : Word)).toNat 31 = true ∧
      (((0x8000000B : Word)).toNat % 32 < 12 ∨ 30 < ((0x8000000B : Word)).toNat % 32)) ∧
    (∃ s : State, taken (.camEnable 48 (0x8000001E : Word)) s ∧ s.ctl.access (R.CAM_CTRL 48) = .ok ∧ s.ctl.mustWait
      (R.CAM_CTRL 48) = false ∧ s.ctl.is (R.CAM_CTRL_EN 48) = false ∧ bitOf ((0x8000001E : Word)).toNat 31 = true ∧ 12
      ≤ ((0x8000001E : Word)).toNat % 32 ∧ ((0x8000001E : Word)).toNat % 32 ≤ 30) :=
  ⟨⟨(withCtl (fun c => later 2000 (c.modLn 0 (fun u => { u with mout := [{ addr := 0, write := true, data := 0 }] })))),
      by unfold taken; decide⟩,
    ⟨(withCtl (fun c => later 2000 (c.modLn 0 (fun u =>
      { u with mout := [{ addr := 0, write := true, data := 0, tries := 3 }] })))), by unfold taken; decide⟩,
    ⟨(withCtl (fun c => ((later 2000000000 (c.modLn 0 (fun u => { u with echo := some (0, 0) }))).put
      (R.PROTO_STAT_BSEQ_ECHO 0) 1))), by unfold taken; decide⟩,
    ⟨(withCtl (fun c => ((later 2000000000 (c.modLn 0 (fun u => { u with echo := some (0, 0) }))).put
      (R.PROTO_STAT_BSEQ_ECHO 0) 0))), by unfold taken; decide⟩,
    ⟨(withCtl (fun c => c.put (R.LANE_STAT_STATE 24) lnActive)), by unfold taken; decide⟩,
    ⟨(withCtl (fun c => ((c.modLn 24 (fun u => { u with p := { u.p with engaged := some 0 } })).modLn 24 (fun u =>
      { u with p := { u.p with braked := true } })).put (R.LANE_STAT_STATE 24) lnActive)), by unfold taken; decide⟩,
    ⟨(withCtl (fun c => (c.modLn 24 (fun u => { u with p := { u.p with engaged := some 0 } })).put (R.LANE_STAT_STATE 24)
      lnActive)), by unfold taken; decide⟩,
    ⟨(withCtl (fun c => (c.modLn 24 (fun u => { u with p := { u.p with exempt := true } })).put (R.LANE_STAT_STATE 24)
      lnActive)), by unfold taken; decide⟩,
    ⟨(withCtl (fun c => (c.put (R.LANE_STAT_STATE 0) lnActive).modP 0 (fun p => { p with word0 := 0x01280010 }))),
      by unfold taken; decide⟩,
    ⟨(withCtl (fun c => c.modP 0 (fun p => { p with word0 := 0 }))), by unfold taken; decide⟩,
    ⟨(withCtl (fun c => (c.flag (R.CAM_CTRL_EN 48) false))), by unfold taken; decide⟩,
    ⟨(withCtl (fun c => (c.flag (R.CAM_CTRL_EN 48) false))), by unfold taken; decide⟩⟩

theorem test_witness_ProtoBrakeCommandEffects_2 :
    (∃ s : State, taken (.galvo 0 0 1) s ∧ isHead 0 = true ∧ dataGood 2 0 1 = false ∧ s.ctl.decodes 0 false (dataWord 2 0
      1) = true) ∧
    (∃ s : State, taken (.engage false) s ∧ s.ctl.access R.GLOBAL_BRK_CMD = .ok ∧ s.ctl.mustWait R.GLOBAL_BRK_CMD = false
      ∧ s.ctl.shadows = false ∧ s.ctl.engaged = true) ∧
    (∃ s : State, taken (.engage false) s ∧ s.ctl.access R.GLOBAL_BRK_CMD = .ok ∧ s.ctl.mustWait R.GLOBAL_BRK_CMD = false
      ∧ s.ctl.shadows = false) ∧
    (∃ s : State, taken .release s ∧ s.ctl.access R.GLOBAL_BRK_CMD = .ok ∧ s.ctl.mustWait R.GLOBAL_BRK_CMD = false ∧
      s.ctl.shadows = false ∧ s.ctl.pwr.release = false ∧ s.ctl.get R.GLOBAL_BRK_STAT_LEVELS ≠ 0) ∧
    (∃ s : State, taken .release s ∧ s.ctl.access R.GLOBAL_BRK_CMD = .ok ∧ s.ctl.mustWait R.GLOBAL_BRK_CMD = false ∧
      s.ctl.shadows = false ∧ s.ctl.pwr.release = false ∧ s.ctl.get R.GLOBAL_BRK_STAT_LEVELS = 0 ∧ s.ctl.engaged =
      true) ∧
    (∃ s : State, taken .brkInMismatch s ∧ s.ctl.pwr.mismatchFrom = some 0 ∧ usTicks (s.ctl.get
      R.GLOBAL_BRK_CTRL_MISMATCH_US) ≤ s.ctl.sinceT 0) ∧
    (∃ s : State, taken .brakePeriodic s ∧ (s.ctl.engaged = false ∨ s.ctl.now % 64 ≠ 0)) :=
  ⟨⟨(withCtl (fun c => c.put (R.LANE_STAT_STATE 0) lnActive)), by unfold taken; decide⟩,
    ⟨(withCtl (fun c => (c.flag R.GLOBAL_BRK_STAT_ENGAGED true))), by unfold taken; decide⟩,
    ⟨State.reset, by unfold taken; decide⟩,
    ⟨(withCtl (fun c => (((fun d : Ctl => { d with pwr := { d.pwr with release := false } }) c).put
      R.GLOBAL_BRK_STAT_LEVELS 1))), by unfold taken; decide⟩,
    ⟨(withCtl (fun c => ((((fun d : Ctl => { d with pwr := { d.pwr with release := false } }) c).put
      R.GLOBAL_BRK_STAT_LEVELS 0).flag R.GLOBAL_BRK_STAT_ENGAGED true))), by unfold taken; decide⟩,
    ⟨(withCtl (fun c => (later 2000000000 ((fun d : Ctl => { d with pwr := { d.pwr with mismatchFrom := some 0 } }) c)))),
      by unfold taken; decide⟩,
    ⟨(withCtl (fun c => later 63 c)), by unfold taken; decide⟩⟩

theorem test_witness_TwinCommandEffects :
    (∃ s : State, taken .handoverCmd s ∧ s.ctl.access R.TWIN_CMD = .ok ∧ s.ctl.mustWait R.TWIN_CMD = false ∧ s.ctl.role =
      rActive ∧ s.ctl.tw.peerReady = true) ∧
    (∃ s : State, taken .handoverCmd s ∧ s.ctl.access R.TWIN_CMD = .ok ∧ s.ctl.mustWait R.TWIN_CMD = false ∧ s.ctl.role =
      rActive ∧ s.ctl.tw.peerReady = false) ∧
    (∃ s : State, taken .solo s ∧ s.ctl.access R.TWIN_CMD = .ok ∧ s.ctl.mustWait R.TWIN_CMD = false ∧ s.ctl.role =
      rUnpaired ∧ s.ctl.is R.TWIN_CTRL_EN = true ∧ (if s.ctl.duplicate then s.ctl.tw.silent else s.ctl.othersQuiet) =
      true) ∧
    (∃ s : State, taken .solo s ∧ s.ctl.access R.TWIN_CMD = .ok ∧ s.ctl.mustWait R.TWIN_CMD = false ∧ s.ctl.role =
      rUnpaired ∧ s.ctl.is R.TWIN_CTRL_EN = true ∧ (if s.ctl.duplicate then s.ctl.tw.silent else s.ctl.othersQuiet) =
      false) ∧
    (∃ s : State, taken .pairTimeout s ∧ s.ctl.role = rPairing ∧ (s.ctl.tw.takes.isSome && s.ctl.tw.confirm) = false ∧
      msTicks (s.ctl.get1 R.TWIN_TIMING2_PAIR_TIMEOUT) ≤ s.ctl.sinceT s.ctl.tw.pairAt) ∧
    (∃ s : State, taken .beaconLoss s ∧ s.ctl.role = rStandby ∧ s.ctl.get1 R.TWIN_TIMING_BEACON_LOSS ≤ s.ctl.sinceT
      s.ctl.tw.beaconAt) ∧
    (∃ s : State, taken .twinAliveEdge s ∧ (s.ctl.role = rSuspect ∨ s.ctl.role = rQuery)) ∧
    (∃ s : State, taken (.twinAliveToggle false) s ∧ s.ctl.sinceT s.ctl.tw.toggledAt < 10) ∧
    (∃ s : State, taken (.twinAliveToggle true) s ∧ s.ctl.is R.TWIN_CTRL_EN = true ∧ true = true ∧ s.ctl.role ≠ rFailed ∧
      s.ctl.duplicate = false ∧ 10 ≤ s.ctl.sinceT s.ctl.tw.toggledAt) ∧
    (∃ s : State, taken (.handover ([] : List (Nat × Nat × Nat))) s ∧ ((([] : List (Nat × Nat × Nat))).foldl (fun d b =>
      handoverBlock b.1 b.2.1 b.2.2 d) s.ctl).unitsIn 69 (fun k => tget ((([] : List (Nat × Nat × Nat))).foldl (fun d
      b => handoverBlock b.1 b.2.1 b.2.2 d) s.ctl).tw.hoRx k []) = none) ∧
    (∃ s : State, taken .recordDeadline s ∧ s.ctl.role = rStandby ∧ s.ctl.tw.judged ≠ s.ctl.boundaryTick ∧
      s.ctl.sendLanes.length = 8 ∧ 13 ≤ s.ctl.sinceT s.ctl.boundaryTick) ∧
    (∃ s : State, taken .recordDeadline s ∧ s.ctl.sendLanes.length = 8 ∧ s.ctl.sinceT s.ctl.boundaryTick < 13) :=
  ⟨⟨(withCtl (fun c => ((fun d : Ctl => { d with tw := { d.tw with peerReady := true } }) (c.put R.TWIN_STAT_ROLE
      rActive)))), by unfold taken; decide⟩,
    ⟨(withCtl (fun c => ((fun d : Ctl => { d with tw := { d.tw with peerReady := false } }) (c.put R.TWIN_STAT_ROLE
      rActive)))), by unfold taken; decide⟩,
    ⟨(withCtl (fun c => later 80 (((c.flag R.TWIN_CTRL_EN true).put (R.LANE_STAT_STATE 0) lnActive).modLn 0 (fun u =>
      { u with quietFrom := some 0 })))), by unfold taken; decide⟩,
    ⟨(withCtl (fun c => ((c.put R.TWIN_STAT_ROLE rUnpaired).flag R.TWIN_CTRL_EN true))), by unfold taken; decide⟩,
    ⟨(withCtl (fun c => (later 2000000000 (c.put R.TWIN_STAT_ROLE rPairing)))), by unfold taken; decide⟩,
    ⟨(withCtl (fun c => (later 2000000000 (c.put R.TWIN_STAT_ROLE rStandby)))), by unfold taken; decide⟩,
    ⟨(withCtl (fun c => c.put R.TWIN_STAT_ROLE rQuery)), by unfold taken; decide⟩,
    ⟨State.reset, by unfold taken; decide⟩,
    ⟨(withCtl (fun c => (later 2000000000 (c.flag R.TWIN_CTRL_EN true)))), by unfold taken; decide⟩,
    ⟨State.reset, by unfold taken; decide⟩,
    ⟨(withCtl (fun c => later 33 (((c.put R.TWIN_STAT_ROLE rStandby).each (upto 8) (fun i d => d.put (R.LANE_STAT_STATE
      (56 + i)) lnActive))))), by unfold taken; decide⟩,
    ⟨(withCtl (fun c => later 12 (((c.put R.TWIN_STAT_ROLE rStandby).each (upto 8) (fun i d => d.put (R.LANE_STAT_STATE
      (56 + i)) lnActive))))), by unfold taken; decide⟩⟩

theorem test_witness_MemoryCommandEffects_1 :
    (∃ s : State, taken (.initDone 0) s ∧ s.ctl.get (R.MC_STAT_STATE 0) = mcInit ∧ s.ctl.is (R.MC_CFG_RANKS 0) = true ∧
      s.ctl.is (R.MC_CFG_DENSITY 0) = true) ∧
    (∃ s : State, taken (.initDone 0) s ∧ s.ctl.get (R.MC_STAT_STATE 0) = mcInit ∧ s.ctl.is (R.MC_CFG_RANKS 0) = true ∧
      s.ctl.is (R.MC_CFG_DENSITY 0) = false) ∧
    (∃ s : State, taken (.initDone 0) s ∧ s.ctl.get (R.MC_STAT_STATE 0) = mcInit ∧ s.ctl.is (R.MC_CFG_RANKS 0) = false ∧
      s.ctl.is (R.MC_CFG_DENSITY 0) = false) ∧
    (∃ s : State, taken (.trainStepDone 0 true) s ∧ s.ctl.get (R.MC_STAT_STATE 0) = mcTrain ∧ (s.ctl.mcSt 0).failAt = 0 ∧
      s.ctl.is (R.MC_STAT_RATE_PENDING 0) = false ∧ true = true ∧ s.ctl.get (R.MC_STAT_TRAIN_STEP 0) < 7) ∧
    (∃ s : State, taken (.trainStepDone 0 true) s ∧ s.ctl.get (R.MC_STAT_STATE 0) = mcTrain ∧ (s.ctl.mcSt 0).failAt = 0 ∧
      s.ctl.is (R.MC_STAT_RATE_PENDING 0) = false ∧ true = true ∧ 7 ≤ s.ctl.get (R.MC_STAT_TRAIN_STEP 0)) ∧
    (∃ s : State, taken (.trainStepDone 0 false) s ∧ s.ctl.get (R.MC_STAT_STATE 0) = mcTrain ∧ (s.ctl.mcSt 0).failAt = 0 ∧
      s.ctl.is (R.MC_STAT_RATE_PENDING 0) = true) ∧
    (∃ s : State, taken (.trainStepDone 0 false) s ∧ s.ctl.get (R.MC_STAT_STATE 0) = mcSelfRefresh ∧ (s.ctl.mcSt
      0).leaving = false) ∧
    (∃ s : State, taken (.trainStepDone 0 true) s ∧ s.ctl.get (R.MC_STAT_STATE 0) = mcSelfRefresh ∧ (s.ctl.mcSt 0).leaving
      = true ∧ true = true ∧ s.ctl.get (R.MC_STAT_TRAIN_STEP 0) = 4) ∧
    (∃ s : State, taken (.trainStepDone 0 true) s ∧ s.ctl.get (R.MC_STAT_STATE 0) = mcSelfRefresh ∧ (s.ctl.mcSt 0).leaving
      = true ∧ true = true ∧ s.ctl.get (R.MC_STAT_TRAIN_STEP 0) = 5) ∧
    (∃ s : State, taken (.trainRetry 0) s ∧ s.ctl.get (R.MC_STAT_STATE 0) = mcTrain ∧ s.ctl.is (R.MC_STAT_RATE_PENDING 0)
      = false ∧ (s.ctl.mcSt 0).failAt ≠ 0 ∧ msTicks 10 ≤ s.ctl.sinceT ((s.ctl.mcSt 0).failAt - 1)) ∧
    (∃ s : State, taken (.mcRetrain 0) s ∧ s.ctl.access (R.MC_CTRL 0) = .ok ∧ s.ctl.mustWait (R.MC_CTRL 0) = false ∧
      s.ctl.is (R.MC_CTRL_RETRAIN 0) = false ∧ s.ctl.get (R.MC_STAT_STATE 0) = mcService ∧ s.ctl.rtReach = true) ∧
    (∃ s : State, taken (.mcRetrain 0) s ∧ s.ctl.access (R.MC_CTRL 0) = .ok ∧ s.ctl.mustWait (R.MC_CTRL 0) = false ∧
      s.ctl.is (R.MC_CTRL_RETRAIN 0) = false ∧ s.ctl.get (R.MC_STAT_STATE 0) = mcService ∧ s.ctl.rtReach = false) :=
  ⟨⟨(withCtl (fun c => (((c.put (R.MC_STAT_STATE 0) mcInit).flag (R.MC_CFG_RANKS 0) true).flag (R.MC_CFG_DENSITY 0)
      true))), by unfold taken; decide⟩,
    ⟨(withCtl (fun c => (((c.put (R.MC_STAT_STATE 0) mcInit).flag (R.MC_CFG_RANKS 0) true).flag (R.MC_CFG_DENSITY 0)
      false))), by unfold taken; decide⟩,
    ⟨(withCtl (fun c => (((c.put (R.MC_STAT_STATE 0) mcInit).flag (R.MC_CFG_RANKS 0) false).flag (R.MC_CFG_DENSITY 0)
      false))), by unfold taken; decide⟩,
    ⟨(withCtl (fun c => (((c.put (R.MC_STAT_STATE 0) mcTrain).mcMod 0 (fun u => { u with failAt := 0 })).flag
      (R.MC_STAT_RATE_PENDING 0) false))), by unfold taken; decide⟩,
    ⟨(withCtl (fun c => (((c.put (R.MC_STAT_STATE 0) mcTrain).mcMod 0 (fun u => { u with failAt := 0 })).flag
      (R.MC_STAT_RATE_PENDING 0) false).put (R.MC_STAT_TRAIN_STEP 0) 7)), by unfold taken; decide⟩,
    ⟨(withCtl (fun c => (((c.put (R.MC_STAT_STATE 0) mcTrain).mcMod 0 (fun u => { u with failAt := 0 })).flag
      (R.MC_STAT_RATE_PENDING 0) true))), by unfold taken; decide⟩,
    ⟨(withCtl (fun c => ((c.put (R.MC_STAT_STATE 0) mcSelfRefresh).mcMod 0 (fun u => { u with leaving := false })))),
      by unfold taken; decide⟩,
    ⟨(withCtl (fun c => (((c.put (R.MC_STAT_STATE 0) mcSelfRefresh).mcMod 0 (fun u => { u with leaving := true })).put
      (R.MC_STAT_TRAIN_STEP 0) 4))), by unfold taken; decide⟩,
    ⟨(withCtl (fun c => (((c.put (R.MC_STAT_STATE 0) mcSelfRefresh).mcMod 0 (fun u => { u with leaving := true })).put
      (R.MC_STAT_TRAIN_STEP 0) 5))), by unfold taken; decide⟩,
    ⟨(withCtl (fun c => (later 2000000000 ((c.put (R.MC_STAT_STATE 0) mcTrain).flag (R.MC_STAT_RATE_PENDING 0)
      false)).mcMod 0 (fun u => { u with failAt := 1 }))), by unfold taken; decide⟩,
    ⟨(withCtl (fun c => ((c.flag (R.MC_CTRL_RETRAIN 0) false).put (R.MC_STAT_STATE 0) mcService).put (R.CTX_STAT_STATE 0)
      csIdle)), by unfold taken; decide⟩,
    ⟨(withCtl (fun c => ((c.flag (R.MC_CTRL_RETRAIN 0) false).put (R.MC_STAT_STATE 0) mcService))),
      by unfold taken; decide⟩⟩

theorem test_witness_MemoryCommandEffects_2 :
    (∃ s : State, taken (.mcRetrain 0) s ∧ s.ctl.access (R.MC_CTRL 0) = .ok ∧ s.ctl.mustWait (R.MC_CTRL 0) = false ∧
      s.ctl.is (R.MC_CTRL_RETRAIN 0) = false ∧ s.ctl.get (R.MC_STAT_STATE 0) = mcFault) ∧
    (∃ s : State, taken (.rtRead 0 0 0 1 false) s ∧ s.ctl.inService 0 = true ∧ false = false ∧ s.ctl.parts 0 (min 1 (128 -
      0 % 128)) = [(0, 0, 1)]) ∧
    (∃ s : State, taken (.rtRead 0 0 0 1 true) s ∧ s.ctl.inService 0 = true ∧ true = true ∧ s.ctl.parts 0 1 = [(0, 0, 1)]) ∧
    (∃ s : State, taken (.refreshDue 0 0 0) s ∧ s.ctl.allBank 0 = false ∧ tget? (s.ctl.mcSt 0).dueAt (0 * 4 + 0) = none ∧
      4 ≤ tget (s.ctl.mcSt 0).debt (0 * 4 + 0) 0) ∧
    (∃ s : State, taken (.refreshDue 0 0 0) s ∧ s.ctl.allBank 0 = false ∧ tget? (s.ctl.mcSt 0).dueAt (0 * 4 + 0) = none ∧
      s.ctl.rtOnIndex 0 0 0 = true ∧ tget (s.ctl.mcSt 0).debt (0 * 4 + 0) 0 < 4) ∧
    (∃ s : State, taken (.refreshDue 0 0 0) s ∧ s.ctl.allBank 0 = false ∧ tget? (s.ctl.mcSt 0).dueAt (0 * 4 + 0) = none ∧
      tget (s.ctl.mcSt 0).debt (0 * 4 + 0) 0 < 4 ∧ s.ctl.rtOnIndex 0 0 0 = false) ∧
    (∃ s : State, taken (.refreshDue 0 0 0) s ∧ s.ctl.allBank 0 = false ∧ tget? (s.ctl.mcSt 0).dueAt (0 * 4 + 0) = some 0
      ∧ s.ctl.sinceT 0 < s.ctl.refInterval 0) ∧
    (∃ s : State, taken (.refreshRepay 0 0 0) s ∧ s.ctl.allBank 0 = false ∧ tget (s.ctl.mcSt 0).debt (0 * 4 + 0) 0 ≠ 0 ∧
      s.ctl.rtOnIndex 0 0 0 = false) ∧
    (∃ s : State, taken (.nrr 0) s ∧ (s.ctl.mcSt 0).nrrDue = ((0, 0)) :: [] ∧ (s.ctl.mcSt 0).reads.any (fun r => r.cls !=
      2 && s.ctl.readAt 0 r == some ((0, 0))) = false) ∧
    (∃ s : State, taken (.dramTempRead 0 default) s) ∧
    (∃ s : State, taken (.periodicCalibration 0) s) ∧
    (∃ s : State, taken (.rowClose 0 0) s ∧ tget? (s.ctl.mcSt 0).rows 0 = some ((0, 0)) ∧ (s.ctl.mcSt 0).reads = [] ∧
      s.mem.wq 0 = [] ∧ s.ctl.get (R.MC_CTRL_PAGE_IDLE 0) ≤ (s.ctl.sinceT ((0, 0)).2 + 1) * s.ctl.mcClocks 0) :=
  ⟨⟨(withCtl (fun c => ((c.flag (R.MC_CTRL_RETRAIN 0) false).put (R.MC_STAT_STATE 0) mcFault))), by unfold taken; decide⟩,
    ⟨(withCtl (fun c => (c.put (R.MC_STAT_STATE 0) mcService).put (R.MC_CAPACITY_GIB 0) 32)), by unfold taken; decide⟩,
    ⟨(withCtl (fun c => (c.put (R.MC_STAT_STATE 0) mcService).put (R.MC_CAPACITY_GIB 0) 32)), by unfold taken; decide⟩,
    ⟨(withCtl (fun c => c.mcMod 0 (fun u => { u with debt := [(0, 4)] }))), by unfold taken; decide⟩,
    ⟨(withCtl (fun c => (c.put (R.MC_CAPACITY_GIB 0) 32).mcMod 0 (fun u =>
      { u with reads := [{ cls := 0, who := 0, addr := 8192, len := 64, at_ := 0 }] }))), by unfold taken; decide⟩,
    ⟨State.reset, by unfold taken; decide⟩,
    ⟨(withCtl (fun c => c.mcMod 0 (fun u => { u with dueAt := [(0, 0)] }))), by unfold taken; decide⟩,
    ⟨(withCtl (fun c => c.mcMod 0 (fun u => { u with debt := [(0, 1)] }))), by unfold taken; decide⟩,
    ⟨(withCtl (fun c => (c.mcMod 0 (fun u => { u with nrrDue := ((0, 0)) :: [] })))), by unfold taken; decide⟩,
    ⟨State.reset, by unfold taken; decide⟩,
    ⟨State.reset, by unfold taken; decide⟩,
    ⟨(withCtl (fun c => later 4000 (c.mcMod 0 (fun u => { u with rows := [(0, (0, 0))] })))), by unfold taken; decide⟩⟩

theorem test_witness_MemoryCommandEffects_3 :
    (∃ s : State, taken (.rowClose 0 0) s ∧ tget? (s.ctl.mcSt 0).rows 0 = some ((0, 0)) ∧ (s.ctl.mcSt 0).reads = [] ∧
      s.mem.wq 0 = [] ∧ (s.ctl.sinceT ((0, 0)).2 + 1) * s.ctl.mcClocks 0 < s.ctl.get (R.MC_CTRL_PAGE_IDLE 0)) ∧
    (∃ s : State, taken (.bulkRead 0 0 []) s ∧ s.ctl.inService 0 = true ∧ s.ctl.bulkOpen 0 = false) ∧
    (∃ s : State, taken (.writeBatch ⟨0, []⟩) s ∧ s.ctl.inService 0 = true ∧ s.mem.wq 0 ≠ [] ∧ (s.ctl.mcSt 0).reads.any (fun
      r => r.cls != 2) = true) ∧
    (∃ s : State, taken (.mcRateWrite 0 0) s ∧ s.ctl.access (R.MC_CTRL 0) = .ok ∧ s.ctl.mustWait (R.MC_CTRL 0) = false ∧
      s.ctl.get (R.MC_STAT_STATE 0) = mcOff) :=
  ⟨⟨(withCtl (fun c => (c.put (R.MC_CTRL_PAGE_IDLE 0) 4000).mcMod 0 (fun u => { u with rows := [(0, (0, 0))] }))),
      by unfold taken; decide⟩,
    ⟨(withCtl (fun c => (c.put (R.MC_STAT_STATE 0) mcService).mcMod 0 (fun u =>
      { u with reads := [{ cls := 0, who := 0, addr := 8192, len := 64, at_ := 0 }] }))), by unfold taken; decide⟩,
    ⟨({ State.reset with mem := { wq0 := [{ granule := 8192, bytes := [(0, 1)], at_ := 0 }] }, ctl := (State.reset.ctl.put (R.MC_STAT_STATE 0) mcService).mcMod 0 (fun u => { u with reads := [{ cls := 0, who := 0, addr := 8192, len := 64, at_ := 0 }] }) }),
      by unfold taken; decide⟩,
    ⟨(withCtl (fun c => (c.put (R.MC_STAT_STATE 0) mcOff))), by unfold taken; decide⟩⟩

theorem test_witness_HostCommandEffects_1 :
    (∃ s : State, taken (.bar2WinWrite (0 : Word)) s ∧ s.ctl.access R.GLOBAL_BAR2_WIN_LO = .ok ∧ s.ctl.mustWait
      R.GLOBAL_BAR2_WIN_LO = false ∧ tget? s.ctl.host.stagedHi R.GLOBAL_BAR2_WIN_HI = none) ∧
    (∃ s : State, taken (.bar2WinWrite (0 : Word)) s ∧ s.ctl.access R.GLOBAL_BAR2_WIN_LO = .ok ∧ s.ctl.mustWait
      R.GLOBAL_BAR2_WIN_LO = false ∧ tget? s.ctl.host.stagedHi R.GLOBAL_BAR2_WIN_HI = some ((1 : Word))) ∧
    (∃ s : State, taken (.bar2Read 0 ([true])) s) ∧
    (∃ s : State, taken .flr s) ∧
    (∃ s : State, taken .linkDown s) ∧
    (∃ s : State, taken (.configRequest (CfgReq.read .deviceId)) s ∧ s.ctl.is R.GLOBAL_START_STAT_BOOT_DONE = false) ∧
    (∃ s : State, taken (.configRequest (CfgReq.read .deviceId)) s ∧ s.ctl.is R.GLOBAL_START_STAT_BOOT_DONE = true ∧
      ((CfgReq.read .deviceId)) = .read CfgReg.deviceId) ∧
    (∃ s : State, taken (.configRequest (CfgReq.bar false 0)) s ∧ s.ctl.is R.GLOBAL_START_STAT_BOOT_DONE = true ∧
      ((CfgReq.bar false 0)) = .bar false 0) ∧
    (∃ s : State, taken (.msixMessage 0) s ∧ s.ctl.host.msgs.contains 0 = true ∧ s.ctl.host.msixOn = true) ∧
    (∃ s : State, taken (.msixEnable false false) s ∧ s.ctl.is R.GLOBAL_START_STAT_BOOT_DONE = false) ∧
    (∃ s : State, taken (.msixEnable false false) s ∧ s.ctl.is R.GLOBAL_START_STAT_BOOT_DONE = true ∧ false = false) ∧
    (∃ s : State, taken (.ptmResponse 0 0 0 false) s ∧ s.ctl.host.ptmBusy = some 0 ∧ false = false) :=
  ⟨⟨State.reset, by unfold taken; decide⟩,
    ⟨(withCtl (fun c => ((fun d : Ctl => { d with host := { d.host with stagedHi := [(R.GLOBAL_BAR2_WIN_HI, 1)] } }) c))),
      by unfold taken; decide⟩,
    ⟨({ State.reset with mem := { bar2 := [(0, [some 1])] } }), by unfold taken; decide⟩,
    ⟨State.reset, by unfold taken; decide⟩,
    ⟨State.reset, by unfold taken; decide⟩,
    ⟨(withCtl (fun c => (c.flag R.GLOBAL_START_STAT_BOOT_DONE false))), by unfold taken; decide⟩,
    ⟨(withCtl (fun c => (c.flag R.GLOBAL_START_STAT_BOOT_DONE true))), by unfold taken; decide⟩,
    ⟨(withCtl (fun c => (c.flag R.GLOBAL_START_STAT_BOOT_DONE true))), by unfold taken; decide⟩,
    ⟨(withCtl (fun c => ((fun d : Ctl => { d with host := { d.host with msixOn := true, msgs := [0] } }) c))),
      by unfold taken; decide⟩,
    ⟨(withCtl (fun c => (c.flag R.GLOBAL_START_STAT_BOOT_DONE false))), by unfold taken; decide⟩,
    ⟨(withCtl (fun c => (c.flag R.GLOBAL_START_STAT_BOOT_DONE true))), by unfold taken; decide⟩,
    ⟨(withCtl (fun c => ((fun d : Ctl => { d with host := { d.host with ptmBusy := some 0 } }) c))),
      by unfold taken; decide⟩⟩

theorem test_witness_HostCommandEffects_2 :
    (∃ s : State, taken .smbAlertResponse s ∧ s.ctl.smbAlert = true) ∧
    (∃ s : State, taken .smbAlertResponse s ∧ s.ctl.smbAlert = false) :=
  ⟨⟨(withCtl (fun c => c.flag R.DT_STAT_WARN true)), by unfold taken; decide⟩,
    ⟨State.reset, by unfold taken; decide⟩⟩

theorem test_witness_SluiceRecorderCommandEffects_1 :
    (∃ s : State, taken (.sluiceEnable false) s ∧ s.ctl.access (R.BLK_CTRL pgSluice) = .ok ∧ s.ctl.mustWait (R.BLK_CTRL
      pgSluice) = false ∧ s.ctl.enabled pgSluice = true ∧ false = false) ∧
    (∃ s : State, taken (.swPendSet 0) s ∧ s.ctl.access R.SLUICE_SW_PEND = .ok ∧ s.ctl.mustWait R.SLUICE_SW_PEND = false ∧
      s.ctl.sluOn = true ∧ s.ctl.srcExists 0 = true ∧ s.ctl.srcMode 0 = 0) ∧
    (∃ s : State, taken (.swPendSet 0) s ∧ s.ctl.access R.SLUICE_SW_PEND = .ok ∧ s.ctl.mustWait R.SLUICE_SW_PEND = false ∧
      s.ctl.sluOn = true ∧ s.ctl.srcExists 0 = true ∧ s.ctl.srcMode 0 ≠ 0) ∧
    (∃ s : State, taken (.swPendSet 25) s ∧ s.ctl.access R.SLUICE_SW_PEND = .ok ∧ s.ctl.mustWait R.SLUICE_SW_PEND = false
      ∧ s.ctl.srcExists 25 = false) ∧
    (∃ s : State, taken (.swPendClear 0) s ∧ s.ctl.access R.SLUICE_SW_PEND = .ok ∧ s.ctl.mustWait R.SLUICE_SW_PEND =
      false) ∧
    (∃ s : State, taken (.ctxComplete 0 0) s ∧ s.ctl.access (R.SLUICE_CTX_COMPLETE 0) = .ok ∧ s.ctl.mustWait
      (R.SLUICE_CTX_COMPLETE 0) = false ∧ s.ctl.sluOn = true ∧ s.ctl.stack 0 = (0, 0) :: []) ∧
    (∃ s : State, taken (.ctxComplete 0 0) s ∧ s.ctl.access (R.SLUICE_CTX_COMPLETE 0) = .ok ∧ s.ctl.mustWait
      (R.SLUICE_CTX_COMPLETE 0) = false ∧ s.ctl.sluOn = true ∧ s.ctl.stack 0 = (1, 0) :: [] ∧ 1 ≠ 0) ∧
    (∃ s : State, taken (.ctxComplete 0 0) s ∧ s.ctl.access (R.SLUICE_CTX_COMPLETE 0) = .ok ∧ s.ctl.mustWait
      (R.SLUICE_CTX_COMPLETE 0) = false ∧ s.ctl.sluOn = true ∧ s.ctl.stack 0 = []) ∧
    (∃ s : State, taken (.ctxThreshWrite 0 0) s ∧ s.ctl.access (R.SLUICE_CTX_THRESH 0) = .ok ∧ s.ctl.mustWait
      (R.SLUICE_CTX_THRESH 0) = false ∧ s.ctl.activePage pgSluice = false ∧ (s.ctl.put (R.SLUICE_CTX_THRESH_THRESHOLD
      0) 0).sluOn = false) ∧
    (∃ s : State, taken (.scanAck 0 0) s ∧ s.ctl.access (R.SLUICE_SCAN_ACK 0) = .ok ∧ s.ctl.mustWait (R.SLUICE_SCAN_ACK 0)
      = false ∧ s.ctl.sluOn = true ∧ 0 = 0) ∧
    (∃ s : State, taken (.coalesceRelease 0) s ∧ s.ctl.host.msixOn = true ∧ tget? s.ctl.slu.held 0 = some (1, 0) ∧
      s.ctl.get (R.SLUICE_COAL_COUNT 0) ≤ 1) ∧
    (∃ s : State, taken (.freeze true) s ∧ s.ctl.access (R.BLK_CTRL pgRecorder) = .ok ∧ s.ctl.mustWait (R.BLK_CTRL
      pgRecorder) = false ∧ true = true ∧ s.ctl.rc.frozen = none) :=
  ⟨⟨(withCtl (fun c => (c.flag (R.BLK_CTRL_ENABLE pgSluice) true))), by unfold taken; decide⟩,
    ⟨(withCtl (fun c => (c.setActive pgSluice true))), by unfold taken; decide⟩,
    ⟨(withCtl (fun c => (c.setActive pgSluice true).put (R.SLUICE_SRC_CFG_MODE 0) 1)), by unfold taken; decide⟩,
    ⟨State.reset, by unfold taken; decide⟩,
    ⟨State.reset, by unfold taken; decide⟩,
    ⟨(withCtl (fun c => ((fun d : Ctl => { d with slu := { d.slu with claims := [(0, [(0, 0)])] } }) (c.setActive pgSluice
      true)))), by unfold taken; decide⟩,
    ⟨(withCtl (fun c => ((fun d : Ctl => { d with slu := { d.slu with claims := [(0, [(1, 0)])] } }) (c.setActive pgSluice
      true)))), by unfold taken; decide⟩,
    ⟨(withCtl (fun c => (c.setActive pgSluice true))), by unfold taken; decide⟩,
    ⟨(withCtl (fun c => (c.setActive pgSluice false))), by unfold taken; decide⟩,
    ⟨(withCtl (fun c => (c.setActive pgSluice true))), by unfold taken; decide⟩,
    ⟨(withCtl (fun c => ((fun d : Ctl =>
      { d with slu := { d.slu with held := [(0, (1, 0))] }, host := { d.host with msixOn := true } }) c))),
      by unfold taken; decide⟩,
    ⟨(withCtl (fun c => ((fun d : Ctl => { d with rc := { d.rc with frozen := none } }) c))), by unfold taken; decide⟩⟩

theorem test_witness_SluiceRecorderCommandEffects_2 :
    (∃ s : State, taken (.freeze true) s ∧ s.ctl.access (R.BLK_CTRL pgRecorder) = .ok ∧ s.ctl.mustWait (R.BLK_CTRL
      pgRecorder) = false ∧ true = true ∧ s.ctl.rc.frozen = some (({ at_ := 0, scopes := [] } : Frozen))) ∧
    (∃ s : State, taken (.freeze false) s ∧ s.ctl.access (R.BLK_CTRL pgRecorder) = .ok ∧ s.ctl.mustWait (R.BLK_CTRL
      pgRecorder) = false ∧ false = false) ∧
    (∃ s : State, taken .freezeExpired s ∧ s.ctl.rc.frozen = some (({ at_ := 0, scopes := [] } : Frozen)) ∧ 200000 ≤
      s.ctl.sinceT (({ at_ := 0, scopes := [] } : Frozen)).at_) ∧
    (∃ s : State, taken (.recMwWrite 0 0) s ∧ s.ctl.access (R.REC_MW 0) = .ok ∧ s.ctl.mustWait (R.REC_MW 0) = false ∧ 0 =
      0) ∧
    (∃ s : State, taken (.recMwWrite 0 (1 : Word)) s ∧ s.ctl.access (R.REC_MW 0) = .ok ∧ s.ctl.mustWait (R.REC_MW 0) =
      false ∧ ((1 : Word)) ≠ 0) ∧
    (∃ s : State, taken .nvTokenRefill s) ∧
    (∃ s : State, taken (.nvWrite NvOutcome.ok) s ∧ s.ctl.rc.nvQueue =
      (({ tally := 0, epoch := 0, wall := 0, typ := 1, flags := 0, code := 3, body := [] } : Rec)) :: [] ∧
      (({ tally := 0, epoch := 0, wall := 0, typ := 1, flags := 0, code := 3, body := [] } : Rec)).typ = 1 ∧
      (({ tally := 0, epoch := 0, wall := 0, typ := 1, flags := 0, code := 3, body := [] } : Rec)).code ≠ 0x01 ∧
      (({ tally := 0, epoch := 0, wall := 0, typ := 1, flags := 0, code := 3, body := [] } : Rec)).code ≠ 0x02 ∧
      s.ctl.get R.REC_NV_TOKENS = 0) ∧
    (∃ s : State, taken .wearIntervalEnd s ∧ s.ctl.sinceT s.ctl.rc.wearFrom < 8 * 72000000000) :=
  ⟨⟨(withCtl (fun c => ((fun d : Ctl =>
      { d with rc := { d.rc with frozen := some (({ at_ := 0, scopes := [] } : Frozen)) } }) c))),
      by unfold taken; decide⟩,
    ⟨State.reset, by unfold taken; decide⟩,
    ⟨(withCtl (fun c => (later 2000000000 ((fun d : Ctl =>
      { d with rc := { d.rc with frozen := some (({ at_ := 0, scopes := [] } : Frozen)) } }) c)))),
      by unfold taken; decide⟩,
    ⟨State.reset, by unfold taken; decide⟩,
    ⟨State.reset, by unfold taken; decide⟩,
    ⟨State.reset, by unfold taken; decide⟩,
    ⟨(withCtl (fun c => (((fun d : Ctl =>
      { d with rc := { d.rc with nvQueue := (({ tally := 0, epoch := 0, wall := 0, typ := 1, flags := 0, code := 3, body := [] } : Rec)) :: [] } })
      c).put R.REC_NV_TOKENS 0))), by unfold taken; decide⟩,
    ⟨State.reset, by unfold taken; decide⟩⟩

theorem test_witness_LightAxesCommandEffects_1 :
    (∃ s : State, taken .swap s ∧ s.ctl.access R.LIGHT_CMD = .ok ∧ s.ctl.mustWait R.LIGHT_CMD = false) ∧
    (∃ s : State, taken .patClear s ∧ s.ctl.access R.LIGHT_CMD = .ok ∧ s.ctl.mustWait R.LIGHT_CMD = false) ∧
    (∃ s : State, taken .shortTest s ∧ s.ctl.access R.LIGHT_CMD = .ok ∧ s.ctl.mustWait R.LIGHT_CMD = false ∧ s.ctl.is
      R.LIGHT_CMD_SHORT_TEST = false ∧ s.ctl.light.shortSlot = false) ∧
    (∃ s : State, taken .shortTest s ∧ s.ctl.access R.LIGHT_CMD = .ok ∧ s.ctl.mustWait R.LIGHT_CMD = false ∧ s.ctl.is
      R.LIGHT_CMD_SHORT_TEST = true) ∧
    (∃ s : State, taken (.encZEdge 0) s) ∧
    (∃ s : State, taken (.encSet 0 (0 : Word)) s ∧ s.ctl.access (R.ENC_SET 0) = .ok ∧ s.ctl.mustWait (R.ENC_SET 0) = false
      ∧ (upto 8).any (fun a => s.ctl.axState a == axGeared && s.ctl.is (R.AX_CTRL_ENC_EN a) && s.ctl.get
      (R.AX_CTRL_ENC_SEL a) == 0) = true) ∧
    (∃ s : State, taken (.encSet 0 (0 : Word)) s ∧ s.ctl.access (R.ENC_SET 0) = .ok ∧ s.ctl.mustWait (R.ENC_SET 0) = false
      ∧ (upto 8).any (fun a => s.ctl.axState a == axGeared && s.ctl.is (R.AX_CTRL_ENC_EN a) && s.ctl.get
      (R.AX_CTRL_ENC_SEL a) == 0) = false) ∧
    (∃ s : State, taken (.gpiChange 0 false) s) ∧
    (∃ s : State, taken (.moveAbs 0) s ∧ s.ctl.access (R.AX_CMD 0) = .ok ∧ s.ctl.mustWait (R.AX_CMD 0) = false ∧
      (s.ctl.axBoundary 0).axState 0 = axDisabled) ∧
    (∃ s : State, taken (.moveRel 0) s ∧ s.ctl.access (R.AX_CMD 0) = .ok ∧ s.ctl.mustWait (R.AX_CMD 0) = false ∧
      (s.ctl.axBoundary 0).axState 0 = axDisabled) ∧
    (∃ s : State, taken (.velocity 0) s ∧ s.ctl.access (R.AX_CMD 0) = .ok ∧ s.ctl.mustWait (R.AX_CMD 0) = false ∧
      (s.ctl.axBoundary 0).axState 0 = axDisabled) ∧
    (∃ s : State, taken (.stop 0) s ∧ s.ctl.access (R.AX_CMD 0) = .ok ∧ s.ctl.mustWait (R.AX_CMD 0) = false ∧
      (s.ctl.axBoundary 0).axState 0 = axDisabled) :=
  ⟨⟨State.reset, by unfold taken; decide⟩,
    ⟨State.reset, by unfold taken; decide⟩,
    ⟨(withCtl (fun c => ((fun d : Ctl => { d with light := { d.light with shortSlot := false } }) (c.flag
      R.LIGHT_CMD_SHORT_TEST false)))), by unfold taken; decide⟩,
    ⟨(withCtl (fun c => (c.flag R.LIGHT_CMD_SHORT_TEST true))), by unfold taken; decide⟩,
    ⟨State.reset, by unfold taken; decide⟩,
    ⟨(withCtl (fun c => (c.axGo 0 axGeared).flag (R.AX_CTRL_ENC_EN 0) true)), by unfold taken; decide⟩,
    ⟨State.reset, by unfold taken; decide⟩,
    ⟨State.reset, by unfold taken; decide⟩,
    ⟨(withCtl (fun c => (c.axGo 0 axDisabled))), by unfold taken; decide⟩,
    ⟨(withCtl (fun c => (c.axGo 0 axDisabled))), by unfold taken; decide⟩,
    ⟨(withCtl (fun c => (c.axGo 0 axDisabled))), by unfold taken; decide⟩,
    ⟨(withCtl (fun c => (c.axGo 0 axDisabled))), by unfold taken; decide⟩⟩

theorem test_witness_LightAxesCommandEffects_2 :
    (∃ s : State, taken (.qstop 0) s ∧ s.ctl.access (R.AX_CMD 0) = .ok ∧ s.ctl.mustWait (R.AX_CMD 0) = false ∧
      (s.ctl.axBoundary 0).axState 0 = axDisabled) ∧
    (∃ s : State, taken (.home 0) s ∧ s.ctl.access (R.AX_CMD 0) = .ok ∧ s.ctl.mustWait (R.AX_CMD 0) = false ∧
      (s.ctl.axBoundary 0).axState 0 = axDisabled) ∧
    (∃ s : State, taken (.gear 0) s ∧ s.ctl.access (R.AX_CMD 0) = .ok ∧ s.ctl.mustWait (R.AX_CMD 0) = false ∧
      (s.ctl.axBoundary 0).axState 0 = axDisabled) ∧
    (∃ s : State, taken (.setPos 0) s ∧ s.ctl.access (R.AX_CMD 0) = .ok ∧ s.ctl.mustWait (R.AX_CMD 0) = false ∧
      (s.ctl.axBoundary 0).axState 0 = axDisabled) ∧
    (∃ s : State, taken (.armRatio 0) s ∧ s.ctl.access (R.AX_CMD 0) = .ok ∧ s.ctl.mustWait (R.AX_CMD 0) = false ∧
      (s.ctl.axBoundary 0).axState 0 = axDisabled) ∧
    (∃ s : State, taken (.disarm 0) s ∧ s.ctl.access (R.AX_CMD 0) = .ok ∧ s.ctl.mustWait (R.AX_CMD 0) = false ∧
      (s.ctl.axBoundary 0).axState 0 = axDisabled) ∧
    (∃ s : State, taken (.axCmdUnassigned 0 11) s ∧ s.ctl.access (R.AX_CMD 0) = .ok ∧ s.ctl.mustWait (R.AX_CMD 0) = false
      ∧ (11 = 0 ∨ 0xA < 11) ∧ (s.ctl.axBoundary 0).axState 0 ≠ axDisabled) ∧
    (∃ s : State, taken (.moveAbs 0) s ∧ s.ctl.access (R.AX_CMD 0) = .ok ∧ s.ctl.mustWait (R.AX_CMD 0) = false ∧
      (s.ctl.axBoundary 0).axState 0 ≠ axDisabled ∧ (s.ctl.axBoundary 0).is (R.AX_STAT_POS_LOST 0) = true) ∧
    (∃ s : State, taken (.moveAbs 0) s ∧ s.ctl.access (R.AX_CMD 0) = .ok ∧ s.ctl.mustWait (R.AX_CMD 0) = false ∧
      (s.ctl.axBoundary 0).axState 0 ≠ axDisabled ∧ (s.ctl.axBoundary 0).is (R.AX_STAT_POS_LOST 0) = false ∧
      (s.ctl.axBoundary 0).limTowards 0 ((s.ctl.axBoundary 0).axTargetReg 0 - ((s.ctl.axBoundary 0).axSt 0).pos) =
      true) ∧
    (∃ s : State, taken (.moveAbs 0) s ∧ s.ctl.access (R.AX_CMD 0) = .ok ∧ s.ctl.mustWait (R.AX_CMD 0) = false ∧
      ((s.ctl.axBoundary 0).axState 0 = axIdle ∨ (s.ctl.axBoundary 0).axState 0 = axPosition ∨ (s.ctl.axBoundary
      0).axState 0 = axJog ∨ (s.ctl.axBoundary 0).axState 0 = axStopping) ∧ (s.ctl.axBoundary 0).is
      (R.AX_STAT_POS_LOST 0) = false ∧ (s.ctl.axBoundary 0).limTowards 0 ((s.ctl.axBoundary 0).axTargetReg 0 -
      ((s.ctl.axBoundary 0).axSt 0).pos) = false) ∧
    (∃ s : State, taken (.velocity 0) s ∧ s.ctl.access (R.AX_CMD 0) = .ok ∧ s.ctl.mustWait (R.AX_CMD 0) = false ∧
      ((s.ctl.axBoundary 0).axState 0 = axIdle ∨ (s.ctl.axBoundary 0).axState 0 = axPosition ∨ (s.ctl.axBoundary
      0).axState 0 = axJog ∨ (s.ctl.axBoundary 0).axState 0 = axStopping) ∧ (s.ctl.axBoundary 0).limTowards 0 (sgn 32
      ((s.ctl.axBoundary 0).reg (R.AX_VJOG 0))) = false) ∧
    (∃ s : State, taken (.stop 0) s ∧ s.ctl.access (R.AX_CMD 0) = .ok ∧ s.ctl.mustWait (R.AX_CMD 0) = false ∧
      (s.ctl.axBoundary 0).axState 0 ≠ axDisabled) :=
  ⟨⟨(withCtl (fun c => (c.axGo 0 axDisabled))), by unfold taken; decide⟩,
    ⟨(withCtl (fun c => (c.axGo 0 axDisabled))), by unfold taken; decide⟩,
    ⟨(withCtl (fun c => (c.axGo 0 axDisabled))), by unfold taken; decide⟩,
    ⟨(withCtl (fun c => (c.axGo 0 axDisabled))), by unfold taken; decide⟩,
    ⟨(withCtl (fun c => (c.axGo 0 axDisabled))), by unfold taken; decide⟩,
    ⟨(withCtl (fun c => (c.axGo 0 axDisabled))), by unfold taken; decide⟩,
    ⟨(withCtl (fun c => (c.axGo 0 1))), by unfold taken; decide⟩,
    ⟨(withCtl (fun c => ((c.axGo 0 1).flag (R.AX_STAT_POS_LOST 0) true))), by unfold taken; decide⟩,
    ⟨(withCtl (fun c => (((((c.axGo 0 1).flag (R.AX_STAT_POS_LOST 0) false).axGo 0 axIdle).flag (R.AX_INPUTS_LIM_POS_EN 0)
      true).setReg (R.AX_TARGET 0) 5).setReg R.GPI_STATE 1)), by unfold taken; decide⟩,
    ⟨(withCtl (fun c => (c.axGo 0 axJog).flag (R.AX_STAT_POS_LOST 0) false)), by unfold taken; decide⟩,
    ⟨(withCtl (fun c => c.axGo 0 axStopping)), by unfold taken; decide⟩,
    ⟨(withCtl (fun c => (c.axGo 0 1))), by unfold taken; decide⟩⟩

theorem test_witness_LightAxesCommandEffects_3 :
    (∃ s : State, taken (.qstop 0) s ∧ s.ctl.access (R.AX_CMD 0) = .ok ∧ s.ctl.mustWait (R.AX_CMD 0) = false ∧
      (s.ctl.axBoundary 0).axState 0 ≠ axDisabled) ∧
    (∃ s : State, taken (.setPos 0) s ∧ s.ctl.access (R.AX_CMD 0) = .ok ∧ s.ctl.mustWait (R.AX_CMD 0) = false ∧
      (s.ctl.axBoundary 0).axState 0 = axIdle) ∧
    (∃ s : State, taken (.setPos 0) s ∧ s.ctl.access (R.AX_CMD 0) = .ok ∧ s.ctl.mustWait (R.AX_CMD 0) = false ∧
      (s.ctl.axBoundary 0).axState 0 ≠ axDisabled ∧ (s.ctl.axBoundary 0).axState 0 ≠ axIdle) ∧
    (∃ s : State, taken (.armRatio 0) s ∧ s.ctl.access (R.AX_CMD 0) = .ok ∧ s.ctl.mustWait (R.AX_CMD 0) = false ∧
      (s.ctl.axBoundary 0).axState 0 ≠ axDisabled ∧ (s.ctl.axBoundary 0).reg (R.AX_GEAR_DEN2 0) = 0) ∧
    (∃ s : State, taken (.armRatio 0) s ∧ s.ctl.access (R.AX_CMD 0) = .ok ∧ s.ctl.mustWait (R.AX_CMD 0) = false ∧
      (s.ctl.axBoundary 0).axState 0 ≠ axDisabled ∧ (s.ctl.axBoundary 0).reg (R.AX_GEAR_DEN2 0) ≠ 0) ∧
    (∃ s : State, taken (.disarm 0) s ∧ s.ctl.access (R.AX_CMD 0) = .ok ∧ s.ctl.mustWait (R.AX_CMD 0) = false ∧
      (s.ctl.axBoundary 0).axState 0 ≠ axDisabled) ∧
    (∃ s : State, taken (.gear 0) s ∧ s.ctl.access (R.AX_CMD 0) = .ok ∧ s.ctl.mustWait (R.AX_CMD 0) = false ∧
      (s.ctl.axBoundary 0).axState 0 = axIdle ∧ (s.ctl.axBoundary 0).is (R.AX_CTRL_ENC_EN 0) = true ∧
      (s.ctl.axBoundary 0).reg (R.AX_GEAR_DEN 0) ≠ 0) ∧
    (∃ s : State, taken (.home 0) s ∧ s.ctl.access (R.AX_CMD 0) = .ok ∧ s.ctl.mustWait (R.AX_CMD 0) = false ∧
      (s.ctl.axBoundary 0).axState 0 ≠ axDisabled ∧ (s.ctl.axBoundary 0).axState 0 ≠ axIdle) ∧
    (∃ s : State, taken (.standstill 0) s ∧ s.ctl.axState 0 = axIdle ∧ s.ctl.get (R.AX_CUR_STILL_MS 0) * 2000 ≤
      (s.ctl.axSt 0).rest) ∧
    (∃ s : State, taken (.wakeDone 0) s ∧ s.ctl.is (R.AX_STAT_WAKING 0) = true ∧ (s.ctl.axSt 0).wake = 0) ∧
    (∃ s : State, taken (.encoderEdge 0 false false) s ∧ s.ctl.is (R.ENC_CFG_EN 0) = false) :=
  ⟨⟨(withCtl (fun c => (c.axGo 0 1))), by unfold taken; decide⟩,
    ⟨(withCtl (fun c => (c.axGo 0 axIdle))), by unfold taken; decide⟩,
    ⟨(withCtl (fun c => ((c.axGo 0 1).axGo 0 2))), by unfold taken; decide⟩,
    ⟨(withCtl (fun c => ((c.axGo 0 1).setReg (R.AX_GEAR_DEN2 0) 0))), by unfold taken; decide⟩,
    ⟨(withCtl (fun c => ((c.axGo 0 1).setReg (R.AX_GEAR_DEN2 0) 1))), by unfold taken; decide⟩,
    ⟨(withCtl (fun c => (c.axGo 0 1))), by unfold taken; decide⟩,
    ⟨(withCtl (fun c => (((c.axGo 0 axIdle).flag (R.AX_CTRL_ENC_EN 0) true).setReg (R.AX_GEAR_DEN 0) 1))),
      by unfold taken; decide⟩,
    ⟨(withCtl (fun c => ((c.axGo 0 1).axGo 0 2))), by unfold taken; decide⟩,
    ⟨(withCtl (fun c => (c.axGo 0 axIdle).axMod 0 (fun u => { u with rest := 2000000 }))), by unfold taken; decide⟩,
    ⟨(withCtl (fun c => ((c.flag (R.AX_STAT_WAKING 0) true).axMod 0 (fun u => { u with wake := 0 })))),
      by unfold taken; decide⟩,
    ⟨(withCtl (fun c => (c.flag (R.ENC_CFG_EN 0) false))), by unfold taken; decide⟩⟩

theorem test_witness_IdentityTrimCommandEffects_1 :
    (∃ s : State, taken .commitSvn s ∧ s.ctl.access R.ID_CMD = .ok ∧ s.ctl.mustWait R.ID_CMD = false) ∧
    (∃ s : State, taken .flashErase s ∧ s.ctl.access R.ID_FLASH_CMD = .ok ∧ s.ctl.mustWait R.ID_FLASH_CMD = false ∧
      s.ctl.ident.busy = 0 ∧ s.ctl.flashRefused (s.ctl.reg R.ID_FLASH_ADDR) = true) ∧
    (∃ s : State, taken .flashErase s ∧ s.ctl.access R.ID_FLASH_CMD = .ok ∧ s.ctl.mustWait R.ID_FLASH_CMD = false ∧
      s.ctl.ident.busy = 0 ∧ s.ctl.flashRefused (s.ctl.reg R.ID_FLASH_ADDR) = false) ∧
    (∃ s : State, taken .flashProgram s ∧ s.ctl.access R.ID_FLASH_CMD = .ok ∧ s.ctl.mustWait R.ID_FLASH_CMD = false ∧
      s.ctl.ident.busy = 0 ∧ s.ctl.flashRefused (s.ctl.reg R.ID_FLASH_ADDR) = true) ∧
    (∃ s : State, taken .flashProgram s ∧ s.ctl.access R.ID_FLASH_CMD = .ok ∧ s.ctl.mustWait R.ID_FLASH_CMD = false ∧
      s.ctl.ident.busy = 0 ∧ s.ctl.flashRefused (s.ctl.reg R.ID_FLASH_ADDR) = false) ∧
    (∃ s : State, taken .intErase s ∧ s.ctl.access R.ID_CMD = .ok ∧ s.ctl.mustWait R.ID_CMD = false ∧ s.ctl.ident.busy = 0
      ∧ s.ctl.is R.REC_STAT_BUILD_OPEN = true) ∧
    (∃ s : State, taken .intErase s ∧ s.ctl.access R.ID_CMD = .ok ∧ s.ctl.mustWait R.ID_CMD = false ∧ s.ctl.ident.busy = 0
      ∧ s.ctl.is R.REC_STAT_BUILD_OPEN = false) ∧
    (∃ s : State, taken .intInstall s ∧ s.ctl.access R.ID_CMD = .ok ∧ s.ctl.mustWait R.ID_CMD = false ∧ s.ctl.ident.busy =
      0 ∧ (derLen s.ctl.stagingObj = 0 ∨ 2048 < derLen s.ctl.stagingObj)) ∧
    (∃ s : State, taken (.ngEnable (0x8000001E : Word)) s ∧ s.ctl.access R.NG_CTRL = .ok ∧ s.ctl.mustWait R.NG_CTRL =
      false ∧ s.ctl.is R.NG_CTRL_EN = false ∧ bitOf ((0x8000001E : Word)).toNat 31 = true ∧ 12 ≤ slice ((0x8000001E :
      Word)).toNat 0 5 ∧ slice ((0x8000001E : Word)).toNat 0 5 ≤ 30) ∧
    (∃ s : State, taken (.ngEnable (0 : Word)) s ∧ s.ctl.access R.NG_CTRL = .ok ∧ s.ctl.mustWait R.NG_CTRL = false ∧
      s.ctl.is R.NG_CTRL_EN = false ∧ (slice ((0 : Word)).toNat 0 5 < 12 ∨ 30 < slice ((0 : Word)).toNat 0 5)) ∧
    (∃ s : State, taken .trimRun s ∧ s.ctl.access R.TRIM_CMD = .ok ∧ s.ctl.mustWait R.TRIM_CMD = false ∧ s.ctl.trim.run =
      some (({ phase := 0, at_ := 0, chans := 1 } : TrimRun))) ∧
    (∃ s : State, taken .apply s ∧ s.ctl.access R.TRIM_CMD = .ok ∧ s.ctl.mustWait R.TRIM_CMD = false ∧ s.ctl.is
      R.TRIM_CMD_RUN = true) :=
  ⟨⟨State.reset, by unfold taken; decide⟩,
    ⟨(withCtl (fun c => ((fun d : Ctl => { d with ident := { d.ident with busy := 0 } }) c))), by unfold taken; decide⟩,
    ⟨(withCtl (fun c => c.put R.ID_STAT_SLOT 1)), by unfold taken; decide⟩,
    ⟨(withCtl (fun c => ((fun d : Ctl => { d with ident := { d.ident with busy := 0 } }) c))), by unfold taken; decide⟩,
    ⟨(withCtl (fun c => c.put R.ID_STAT_SLOT 1)), by unfold taken; decide⟩,
    ⟨(withCtl (fun c => (((fun d : Ctl => { d with ident := { d.ident with busy := 0 } }) c).flag R.REC_STAT_BUILD_OPEN
      true))), by unfold taken; decide⟩,
    ⟨(withCtl (fun c => (((fun d : Ctl => { d with ident := { d.ident with busy := 0 } }) c).flag R.REC_STAT_BUILD_OPEN
      false))), by unfold taken; decide⟩,
    ⟨(withCtl (fun c => ((fun d : Ctl => { d with ident := { d.ident with busy := 0 } }) c))), by unfold taken; decide⟩,
    ⟨(withCtl (fun c => (c.flag R.NG_CTRL_EN false))), by unfold taken; decide⟩,
    ⟨(withCtl (fun c => (c.flag R.NG_CTRL_EN false))), by unfold taken; decide⟩,
    ⟨(withCtl (fun c => ((fun d : Ctl =>
      { d with trim := { d.trim with run := some (({ phase := 0, at_ := 0, chans := 1 } : TrimRun)) } }) c))),
      by unfold taken; decide⟩,
    ⟨(withCtl (fun c => (c.flag R.TRIM_CMD_RUN true))), by unfold taken; decide⟩⟩

theorem test_witness_IdentityTrimCommandEffects_2 :
    (∃ s : State, taken (.trimStoreDone false) s ∧ s.ctl.trim.run = some (({ phase := 4, at_ := 0, chans := 1 } :
      TrimRun)) ∧ (({ phase := 4, at_ := 0, chans := 1 } : TrimRun)).phase = 4 ∧ false = false ∧ s.ctl.get
      R.TRIM_STAT_SLOT = 1) :=
  ⟨(withCtl (fun c => (((fun d : Ctl =>
      { d with trim := { d.trim with run := some (({ phase := 4, at_ := 0, chans := 1 } : TrimRun)) } }) c).put
      R.TRIM_STAT_SLOT 1))), by unfold taken; decide⟩

theorem test_witness_PowerCommandEffects :
    (∃ s : State, Instr.wellFormed .powerOnReset = true) ∧
    (∃ s : State, Instr.wellFormed .brownOut = true) ∧
    (∃ s : State, taken .chipReset s ∧ s.ctl.access R.GLOBAL_RST_CMD = .ok ∧ s.ctl.mustWait R.GLOBAL_RST_CMD = false ∧
      s.ctl.armed = true) ∧
    (∃ s : State, taken .chipReset s ∧ s.ctl.access R.GLOBAL_RST_CMD = .ok ∧ s.ctl.mustWait R.GLOBAL_RST_CMD = false ∧
      s.ctl.armed = false) ∧
    (∃ s : State, taken .warmPerst s ∧ s.ctl.is R.GLOBAL_RST_CTRL_PERST_FULL = false) ∧
    (∃ s : State, taken .warmPerst s ∧ s.ctl.is R.GLOBAL_RST_CTRL_PERST_FULL = true) ∧
    (∃ s : State, taken .powerStateExit s ∧ s.ctl.armed = true) ∧
    (∃ s : State, taken .dieShutdown s ∧ s.ctl.pwr.critAt = some 0 ∧ s.ctl.sinceT 0 < 400) :=
  ⟨⟨State.reset, by decide⟩,
    ⟨State.reset, by decide⟩,
    ⟨(withCtl (fun c => c.flag R.TWIN_CTRL_EN true)), by unfold taken; decide⟩,
    ⟨State.reset, by unfold taken; decide⟩,
    ⟨(withCtl (fun c => (c.flag R.GLOBAL_RST_CTRL_PERST_FULL false))), by unfold taken; decide⟩,
    ⟨(withCtl (fun c => (c.flag R.GLOBAL_RST_CTRL_PERST_FULL true))), by unfold taken; decide⟩,
    ⟨(withCtl (fun c => c.flag R.TWIN_CTRL_EN true)), by unfold taken; decide⟩,
    ⟨(withCtl (fun c => ((fun d : Ctl => { d with pwr := { d.pwr with critAt := some 0 } }) c))), by unfold taken; decide⟩⟩
end

section
/-! PROOFS, scope (00_scope.md): the pages of a channel, and what an access that reads as zero does. -/

open Sys2Proof Sys2Proof.Machine

namespace Sys2Proof.Machine

/-! ### The pages of a channel (R682) -/

/-- The offset `a` lies in the spindle page of channel `n`, or in the sub-page of its head lane `n` or its laser lane
`24 + n`. -/
def InChannelPages (n a : Nat) : Prop :=
  (pgSpindle n ≤ a ∧ a < pgSpindle n + 0x1000) ∨ (pgLane n ≤ a ∧ a < pgLane n + 0x400) ∨
    (pgLane (24 + n) ≤ a ∧ a < pgLane (24 + n) + 0x400)

theorem pageOf_of_spindlePage {n a : Nat} (hn : n < 24) (h : pgSpindle n ≤ a ∧ a < pgSpindle n + 0x1000) :
    pageOf a = some (.spindle, n, pgSpindle n) := by
  unfold pgSpindle at *
  have hi : (a - 0x80000) / 0x1000 = n := by omega
  have hb : a / 0x1000 * 0x1000 = 0x80000 + 0x1000 * n := by omega
  unfold pageOf
  repeat rw [if_neg (by omega)]
  rw [if_pos (by omega), hi, hb]

theorem pageOf_of_lanePage {k a : Nat} (hk : k < 64) (h : pgLane k ≤ a ∧ a < pgLane k + 0x400) :
    pageOf a = some (.lane, k, pgLane k) := by
  unfold pgLane at *
  have hi : (a - 0xD0000) / 0x400 = k := by omega
  have hb : a / 0x400 * 0x400 = 0xD0000 + 0x400 * k := by omega
  unfold pageOf
  repeat rw [if_neg (by omega)]
  rw [if_pos (by omega), hi, hb]

/-- R3: the half-size part has neither the spindle nor the two lanes of the channels 12 to 23. -/
theorem absentPage_of_half {c : Ctl} {n a : Nat} (hh : c.half = true) (hn : 12 ≤ n) (hn' : n < 24)
    (h : InChannelPages n a) : c.absentPage a = true := by
  have hc : c.hasChan n = false := by simp [Ctl.hasChan, Ctl.nSpin, hh, hn]
  unfold Ctl.absentPage
  rcases h with h | h | h
  · simp [pageOf_of_spindlePage hn' h, hc]
  · simp [pageOf_of_lanePage (by omega) h, Ctl.hasLane, hn', hc]
  · have hk : 24 + n < 48 := by omega
    simp [pageOf_of_lanePage (by omega) h, Ctl.hasLane, hk, hc]

theorem InChannelPages.lt {n a : Nat} (hn : n < 24) (h : InChannelPages n a) : a < 2 ^ 24 := by
  unfold InChannelPages pgSpindle pgLane at h
  omega

/-- The pages of a channel lie above those of the millraces, whose writes may change the address map. -/
theorem InChannelPages.not_millrace {n a : Nat} (h : InChannelPages n a) : ¬ (0x20000 ≤ a ∧ a < 0x40000) := by
  unfold InChannelPages pgSpindle pgLane at h
  omega

/-- BLK_CTRL of an aligned offset lies in the same page. -/
theorem InChannelPages.blkCtrl {n a : Nat} (h : InChannelPages n a) (ha : a % 0x400 = 0) :
    InChannelPages n (R.BLK_CTRL a) := by
  unfold InChannelPages pgSpindle pgLane R.BLK_CTRL at *
  omega

/-! ### Accesses that read as zero (R3, R616) -/

/-- An absent page is one of the pages, so its accesses are not refused: they read as zero. -/
theorem access_of_absentPage {c : Ctl} {a : Nat} (h : c.absentPage a = true) : c.access a = .zero := by
  have hp : inPage a = true := by
    unfold inPage
    cases e : pageOf a with
    | none => simp [Ctl.absentPage, e] at h
    | some _ => simp
  simp [Ctl.access, hp, h]

theorem guardW_of_zero {a : Nat} {c : Ctl} (h : c.access a = .zero) (w : Word) (f : Ctl → Ctl) : guardW a w f c = c := by
  simp [guardW, h]

theorem guardWS_of_zero {a : Nat} {s : State} (h : s.ctl.access a = .zero) (w : Word) (f : State → State) :
    guardWS a w f s = s := by
  simp [guardWS, h]

theorem hostRead_of_zero {a : Nat} {s : State} (h : s.ctl.access a = .zero) :
    State.hostRead a s = { s with ctl := s.ctl.modHost (fun u => { u with lastRead := 0 }) } := by
  simp [State.hostRead, guardR, h]

/-- A command whose effect leaves the state as it is. -/
theorem run_of_fixed (i : Instr) {f : State → State} {s : State} (hw : i.wellFormed = true)
    (hr : s.ctl.pwr.inReset = false) (hf : f s = s) : run i f s = .next s := by
  rw [run_next i f s hw hr, keepQueue, hf]

/-- What the well-formedness of a command at an offset of BAR0 asks, `m` being the size it is aligned to. -/
theorem wellFormed_of_offset {a m : Nat} (ha : a < 2 ^ 24) (hm : a % m = 0) : (decide (a < 2 ^ 24) && a % m == 0) = true := by
  rw [decide_eq_true ha, hm]
  rfl

/-- A read of BAR0 that reads as zero changes what the host read last and nothing else. -/
theorem run_hostRead_of_zero (i : Instr) {a : Nat} {s : State} (hw : i.wellFormed = true)
    (hr : s.ctl.pwr.inReset = false) (hz : s.ctl.access a = .zero) :
    run i (State.hostRead a) s = .next { s with ctl := s.ctl.modHost (fun u => { u with lastRead := 0 }) } := by
  rw [run_next i _ s hw hr, keepQueue, hostRead_of_zero hz]

section
variable {s : State} {a : Nat} (hr : s.ctl.pwr.inReset = false) (ha : a < 2 ^ 24)
include hr ha

theorem exec_registerWrite_of_zero (w : Word) (h4 : a % 4 = 0) (hz : s.ctl.access a = .zero) :
    exec (.registerWrite a w) s = .next s :=
  run_of_fixed (.registerWrite a w) (wellFormed_of_offset ha h4) hr (guardWS_of_zero hz _ _)

theorem exec_wideValueCommit_of_zero (w : Word) (h4 : a % 4 = 0) (hz : s.ctl.access a = .zero) :
    exec (.wideValueCommit a w) s = .next s :=
  run_of_fixed (.wideValueCommit a w) (wellFormed_of_offset ha h4) hr (guardWS_of_zero hz _ _)

theorem exec_counterReadClear_of_zero (h4 : a % 4 = 0) (hz : s.ctl.access a = .zero) :
    exec (.counterReadClear a) s = .next { s with ctl := s.ctl.modHost (fun u => { u with lastRead := 0 }) } :=
  run_hostRead_of_zero (.counterReadClear a) (wellFormed_of_offset ha h4) hr hz

theorem exec_wideValueRead_of_zero (h4 : a % 4 = 0) (hz : s.ctl.access a = .zero) :
    exec (.wideValueRead a) s = .next { s with ctl := s.ctl.modHost (fun u => { u with lastRead := 0 }) } :=
  run_hostRead_of_zero (.wideValueRead a) (wellFormed_of_offset ha h4) hr hz

theorem exec_blkEnable_of_zero (en : Bool) (h400 : a % 0x400 = 0) (hz : s.ctl.access (R.BLK_CTRL a) = .zero) :
    exec (.blkEnable a en) s = .next s :=
  run_of_fixed (.blkEnable a en) (wellFormed_of_offset ha h400) hr (guardWS_of_zero hz _ _)

theorem exec_softReset_of_zero (en : Bool) (h400 : a % 0x400 = 0) (hm : ¬ (0x20000 ≤ a ∧ a < 0x40000))
    (hz : s.ctl.access (R.BLK_CTRL a) = .zero) : exec (.softReset a en) s = .next s := by
  refine run_of_fixed (.softReset a en) (wellFormed_of_offset ha h400) hr ?_
  rw [onMapAt_else a _ hm, guardW_of_zero hz]

end

end Sys2Proof.Machine

/-- Settles O10: every offset of those pages, BLK_CTRL's among them, lies in an absent page, where an access reads as
zero and a guarded write has no effect (R3). -/
theorem absentChannelsReadZeroAndIgnoreWrites : Obligations.AbsentChannelsReadZeroAndIgnoreWrites := by
  unfold Obligations.AbsentChannelsReadZeroAndIgnoreWrites
  intro s n a w en hr hh hn hn' (h : InChannelPages n a)
  have hz : ∀ {b}, InChannelPages n b → s.ctl.access b = .zero := fun hb =>
    access_of_absentPage (absentPage_of_half hh hn hn' hb)
  have ha := h.lt hn'
  refine ⟨guardW_of_zero (hz h) w, guardWS_of_zero (hz h) w, fun h4 => ⟨?_, ?_, ?_, ?_⟩, fun h400 => ⟨?_, ?_⟩⟩
  · exact exec_registerWrite_of_zero hr ha w h4 (hz h)
  · exact exec_wideValueCommit_of_zero hr ha w h4 (hz h)
  · exact exec_counterReadClear_of_zero hr ha h4 (hz h)
  · exact exec_wideValueRead_of_zero hr ha h4 (hz h)
  · exact exec_blkEnable_of_zero hr ha en h400 (hz (h.blkCtrl h400))
  · exact exec_softReset_of_zero hr ha en h400 h.not_millrace (hz (h.blkCtrl h400))

end

section
/-! PROOFS, machine picture (01_machine_picture.md): a write of BAR0 that is not refused, and doorbells that wait. -/

open Sys2Proof Sys2Proof.Machine

namespace Sys2Proof.Machine

/-! ### Writes that are not refused (R49) -/

/-- A write that nothing before it on its page holds back has its effect. -/
theorem guardW_of_free {a : Nat} {c : Ctl} (ha : c.access a = .ok) (hm : c.mustWait a = false) (w : Word)
    (f : Ctl → Ctl) : guardW a w f c = f c := by
  simp [guardW, ha, hm]

/-- A write behind another of its page joins those that wait, whatever its effect. -/
theorem guardW_of_mustWait {a : Nat} {c : Ctl} (ha : c.access a = .ok) (hm : c.mustWait a = true) (w : Word)
    (f : Ctl → Ctl) : guardW a w f c = c.holdWrite a 0 w := by
  simp [guardW, ha, hm]

/-! ### Doorbells (R53 to R55) -/

/-- A doorbell behind one that waits joins the end of the queue, with the `k` BAR2 writes it waits for itself. -/
theorem ringBehind_of_waiting {c : Ctl} (hq : c.hop.ordDoorbells ≠ []) (k a : Nat) (w : Word) :
    ringBehind k a w c = { c with hop := { c.hop with ordDoorbells := c.hop.ordDoorbells ++ [(w.toNat, k)] } } := by
  have hne : ¬ (c.hop.ordDoorbells.isEmpty ∧ k = 0) := fun ⟨he, _⟩ => hq (List.isEmpty_iff.mp he)
  exact if_neg hne

/-- A doorbell of a running device changes the control state alone, under the guard of HOPPER.DOORBELL. -/
theorem exec_doorbell_of_taken {w : Word} {s : State} (h : taken (.doorbell w) s) :
    exec (.doorbell w) s = .next { s with ctl := guardW R.HOPPER_DOORBELL w (ringDoorbell w) s.ctl } :=
  runCtl_next (.doorbell w) _ s h.1 h.2

end Sys2Proof.Machine

/-- Settles O11: a doorbell that may act finds the queue of waiting doorbells not empty and joins it, with no BAR2 write
of its own to wait for (R55); behind another write of its page the guard holds the write itself (R49). -/
theorem doorbellWaitsBehindOrderedDoorbell : Obligations.DoorbellWaitsBehindOrderedDoorbell := by
  unfold Obligations.DoorbellWaitsBehindOrderedDoorbell
  intro s w ht ha hq
  rw [exec_doorbell_of_taken ht]
  constructor
  · intro hfree
    rw [guardW_of_free ha hfree, ringDoorbell, ringBehind_of_waiting hq]
  · intro hwait
    rw [guardW_of_mustWait ha hwait]

end

section
/-! PROOFS, spindles (03_spindles.md): writes through the table window, and those that are discarded and reported. -/

open Sys2Proof Sys2Proof.Machine

namespace Sys2Proof.Machine

/-! ### A level condition that begins (R693) -/

/-- A level condition that begins reaches only the raw and the latched interrupt status of its page. -/
theorem reg_level_true_ne (c : Ctl) {page a : Nat} (k : Nat) (hr : a ≠ R.BLK_IRQ_RAW page) (hs : a ≠ R.BLK_IRQ_STAT page) :
    (c.level page k true).reg a = c.reg a :=
  calc (c.level page k true).reg a
    _ = (c.setBits (R.BLK_IRQ_RAW page) (2 ^ k)).reg a := reg_setReg_ne _ _ a _ hs
    _ = c.reg a := reg_setReg_ne _ _ a _ hr

/-! ### TABLE_ERR (R177, R182, R194) -/

@[simp] theorem tableErr_tab (cause off : Nat) (c : Ctl) : (tableErr cause off c).tab = c.tab := rfl

/-- The report of a discarded write leaves every register but TABLE_ERR and the interrupt status of its page. -/
theorem reg_tableErr_ne (cause off : Nat) (c : Ctl) {a : Nat} (he : a ≠ R.GLOBAL_TABLE_ERR)
    (hr : a ≠ R.BLK_IRQ_RAW pgGlobal) (hs : a ≠ R.BLK_IRQ_STAT pgGlobal) : (tableErr cause off c).reg a = c.reg a :=
  (reg_level_true_ne _ 1 hr hs).trans (reg_setReg_ne c _ a _ he)

theorem reg_tableErr_self {cause : Nat} (hc : cause < 4) (off : Nat) (c : Ctl) :
    (tableErr cause off c).reg R.GLOBAL_TABLE_ERR = 2 ^ 31 + cause * 2 ^ 24 + off % 2 ^ 22 := by
  rw [tableErr, reg_level_true_ne _ 1 (by decide) (by decide), reg_setReg_self]
  omega

theorem get_tableErr_valid {cause : Nat} (hc : cause < 4) (off : Nat) (c : Ctl) :
    (tableErr cause off c).get R.GLOBAL_TABLE_ERR_VALID = 1 := by
  have h : (tableErr cause off c).get R.GLOBAL_TABLE_ERR_VALID = slice (2 ^ 31 + cause * 2 ^ 24 + off % 2 ^ 22) 31 1 :=
    congrArg (slice · 31 1) (reg_tableErr_self hc off c)
  rw [h, slice, Nat.shiftRight_eq_div_pow]
  omega

theorem get_tableErr_cause {cause : Nat} (hc : cause < 4) (off : Nat) (c : Ctl) :
    (tableErr cause off c).get R.GLOBAL_TABLE_ERR_CAUSE = cause := by
  have h : (tableErr cause off c).get R.GLOBAL_TABLE_ERR_CAUSE = slice (2 ^ 31 + cause * 2 ^ 24 + off % 2 ^ 22) 24 2 :=
    congrArg (slice · 24 2) (reg_tableErr_self hc off c)
  rw [h, slice, Nat.shiftRight_eq_div_pow]
  omega

/-! ### Writes of the table window (R192 to R194) -/

/-- R182: a profile write into the store while PUBLISH reads 1 is its report and nothing else. -/
theorem tableWrite_of_publishing {off : Nat} {c : Ctl} (hk : c.is R.GLOBAL_TABLE_WIN_KIND = true) (ho : off < winSize true)
    (hp : bitOf (c.written R.GLOBAL_PROF_CTRL) 31 = true) (w : Word) : tableWrite off w c = tableErr 2 off c := by
  rw [tableWrite, if_pos hk, if_neg (Nat.not_le.mpr ho), if_pos hp]

theorem guardWS_of_free {a : Nat} {s : State} (ha : s.ctl.access a = .ok) (hm : s.ctl.mustWait a = false) (w : Word)
    (f : State → State) : guardWS a w f s = f s := by
  simp [guardWS, ha, hm]

/-- A write of BAR0 at an offset of the window is a write of the tables. -/
theorem regWrite_window {off : Nat} (ho : off < 2 ^ 22) (w : Word) (s : State) :
    s.regWrite (winBase + off) w = { s with ctl := tableWrite off w s.ctl } := by
  have hlt : winBase + off < 0x800000 := by unfold winBase; omega
  have hw : inWindow (winBase + off) = true := by
    rw [inWindow, decide_eq_true (Nat.le_add_right winBase off), decide_eq_true hlt, Bool.and_self]
  rw [State.regWrite, if_pos hw, Nat.add_sub_cancel_left]

section
variable {s : State} {off : Nat} {w : Word} (ht : taken (.tableWindowWrite off w) s)
  (ha : s.ctl.access (winBase + off) = .ok) (hm : s.ctl.mustWait (winBase + off) = false)
include ht ha hm

theorem exec_tableWindowWrite_of_free :
    exec (.tableWindowWrite off w) s = .next { s with ctl := tableWrite off w s.ctl } :=
  calc exec (.tableWindowWrite off w) s
    _ = .next { s with ctl := guardW (winBase + off) w (tableWrite off w) s.ctl } :=
      runCtl_next (.tableWindowWrite off w) _ s ht.1 ht.2
    _ = .next { s with ctl := tableWrite off w s.ctl } := by rw [guardW_of_free ha hm]

/-- The same write as a register write: what follows where lanes leave ACTIVE comes after it. -/
theorem exec_registerWrite_window_of_free :
    exec (.registerWrite (winBase + off) w) s =
      .next { s with ctl := afterLanes s.ctl.lanesActive (tableWrite off w s.ctl) } := by
  have hoff : off < 2 ^ 22 ∧ off % 4 = 0 := by simpa [Instr.wellFormed] using ht.1
  have hwin : winBase + off < 2 ^ 24 ∧ (winBase + off) % 4 = 0 := by unfold winBase; omega
  have hwf : (Instr.registerWrite (winBase + off) w).wellFormed = true := wellFormed_of_offset hwin.1 hwin.2
  have hmap : ¬ (0x20000 ≤ winBase + off ∧ winBase + off < 0x40000) := by unfold winBase; omega
  calc exec (.registerWrite (winBase + off) w) s
    _ = .next (keepQueue (guardWS (winBase + off) w (onMapAt (winBase + off) (onLanes (·.regWrite (winBase + off) w)))) s) :=
      run_next _ _ s hwf ht.2
    _ = .next { s with ctl := afterLanes s.ctl.lanesActive (tableWrite off w s.ctl) } := by
      rw [keepQueue, guardWS_of_free ha hm, onMapAt_else _ _ hmap, onLanes, regWrite_window hoff.1]

end

end Sys2Proof.Machine

/-- Settles O16: either form of the write comes to `tableWrite`, which then is the report of cause 2 alone (R182). -/
theorem publishKeepsProfileWritesOut : Obligations.PublishKeepsProfileWritesOut := by
  unfold Obligations.PublishKeepsProfileWritesOut
  intro s off w ht ha hm hk ho hp
  have hd : tableWrite off w s.ctl = tableErr 2 off s.ctl := tableWrite_of_publishing hk ho hp w
  refine ⟨tableErr 2 off s.ctl, ?_, ?_, tableErr_tab 2 off s.ctl, get_tableErr_valid (by decide) off s.ctl,
    get_tableErr_cause (by decide) off s.ctl, fun a => reg_tableErr_ne 2 off s.ctl⟩
  · rw [exec_tableWindowWrite_of_free ht ha hm, hd]
  · rw [exec_registerWrite_window_of_free ht ha hm, hd]

end

section
/-! PROOFS, heat ledger (06_heat_ledger.md): the cells of the grid, their keys, their addresses and their squares. -/

open Sys2Proof Sys2Proof.Machine

namespace Sys2Proof.Machine

/-! ### The registers of the grid -/

theorem slice_lt (n lo w : Nat) : slice n lo w < 2 ^ w := Nat.mod_lt _ (Nat.two_pow_pos w)

/-- NX is at most 4,096: the column of a cell fits below the row in its key. -/
theorem gridNx_le (c : Ctl) : c.gridNx ≤ 4096 :=
  slice_lt (c.reg R.LEDGER_GRID_GEOM) 0 12

/-- Every code of PITCH, those that fail the enable included, gives a pitch above 0. -/
theorem gridPitch_pos (c : Ctl) : 0 < c.gridPitch := by
  have hcodes : ∀ p ∈ gridPitchNm, 0 < p := by decide
  rw [Ctl.gridPitch, List.getD_eq_getElem?_getD, Int.natCast_pos]
  cases h : gridPitchNm[c.get R.LEDGER_GRID_GEOM_PITCH]? with
  | none => decide
  | some p => exact hcodes p (List.mem_of_getElem? h)

/-! ### Keys and addresses (R280) -/

theorem gridKey_of_lt {c : Ctl} {i j : Nat} (hi : i < c.gridNx) (hj : j < c.gridNy) :
    c.gridKey i j = some (j * 4096 + i) := by
  have hin : (0 : Int) ≤ i ∧ (i : Int) < c.gridNx ∧ (0 : Int) ≤ j ∧ (j : Int) < c.gridNy := by omega
  rw [Ctl.gridKey, if_pos hin, Int.toNat_natCast, Int.toNat_natCast]

/-- The address of a cell by its key: the key's two digits to base 4,096 are the row and the column. -/
theorem cellAddr_key {c : Ctl} {i : Nat} (hi : i < c.gridNx) (j : Nat) :
    c.cellAddr (j * 4096 + i) = c.gridBase + (j * c.gridNx + i) * 8 := by
  have hcol : i < 4096 := hi.trans_le (gridNx_le c)
  have hrow : (j * 4096 + i) / 4096 = j := by omega
  rw [Ctl.cellAddr, hrow, Nat.mul_add_mod_of_lt hcol]

/-! ### Squares of the bed (R280) -/

/-- The steps of width `p` from `o` tile the line: `x` falls into step `k` exactly between its two ends. -/
theorem fdiv_sub_eq_iff {p : Int} (hp : 0 < p) (o x k : Int) :
    (x - o).fdiv p = k ↔ o + k * p ≤ x ∧ x < o + (k + 1) * p := by
  rw [Int.fdiv_eq_ediv_of_nonneg _ hp.le, Int.ediv_eq_iff_of_pos hp, add_one_mul]
  omega

/-- A point has the indices of a cell exactly when it lies in the cell's square, for cells outside the grid too. -/
theorem gridIx_eq_iff (c : Ctl) (x y i j : Int) : c.gridIx x y = (i, j) ↔
    (c.getS R.LEDGER_GRID_X0_ORIGIN + i * c.gridPitch ≤ x ∧ x < c.getS R.LEDGER_GRID_X0_ORIGIN + (i + 1) * c.gridPitch) ∧
    c.getS R.LEDGER_GRID_Y0_ORIGIN + j * c.gridPitch ≤ y ∧ y < c.getS R.LEDGER_GRID_Y0_ORIGIN + (j + 1) * c.gridPitch := by
  rw [Ctl.gridIx, Prod.mk.injEq, fdiv_sub_eq_iff (gridPitch_pos c), fdiv_sub_eq_iff (gridPitch_pos c)]

end Sys2Proof.Machine

/-- Settles O18: a key holds row and column apart because NX is at most 4,096, and the floor division by a pitch above 0
puts a point into the one cell whose square holds it. -/
theorem ledgerCellsTileTheBed : Obligations.LedgerCellsTileTheBed := by
  unfold Obligations.LedgerCellsTileTheBed
  intro c i j hi hj
  exact ⟨⟨j * 4096 + i, gridKey_of_lt hi hj, cellAddr_key hi j⟩, fun x y => gridIx_eq_iff c x y i j⟩

end

section
/-! PROOFS, head protocol (08_head_protocol.md): the tick that an uplink's TICK8 stands for. -/

open Sys2Proof Sys2Proof.Machine

namespace Sys2Proof.Machine

/-- R357: the ticks that have passed since the most recent tick whose low eight bits are `t8`. -/
def Ctl.age8 (c : Ctl) (t8 : Nat) : Nat := (c.now + 256 - t8 % 256) % 256

theorem now_lt (c : Ctl) : c.now < 2 ^ 48 := c.tally.isLt

theorem age8_lt (c : Ctl) (t8 : Nat) : c.age8 t8 < 256 := Nat.mod_lt _ (by decide)

theorem upTick_of_not_compat {c : Ctl} {k : Nat} (h : c.compat k = false) (t8 : Nat) : c.upTick k t8 = c.tick8 t8 := by
  simp [Ctl.upTick, h]

/-- TICK8 is mapped to the tick `age8` ticks ago, around the wrap of the tally. -/
theorem tick8_eq_sub_age8 (c : Ctl) (t8 : Nat) : c.tick8 t8 = (c.now + 2 ^ 48 - c.age8 t8) % 2 ^ 48 := rfl

theorem tick8_lt (c : Ctl) (t8 : Nat) : c.tick8 t8 < 2 ^ 48 := Nat.mod_lt _ (Nat.two_pow_pos 48)

/-- The wrap at 2^48 keeps the low eight bits, because 256 divides 2^48. -/
theorem tick8_mod_256 (c : Ctl) (t8 : Nat) : c.tick8 t8 % 256 = t8 % 256 := by
  rw [tick8_eq_sub_age8, Nat.mod_mod_of_dvd _ (by decide), Ctl.age8]
  omega

theorem sinceT_tick8 (c : Ctl) (t8 : Nat) : c.sinceT (c.tick8 t8) = c.age8 t8 := by
  have hnow := now_lt c
  have hage := age8_lt c t8
  rw [tick8_eq_sub_age8, Ctl.sinceT, since]
  omega

/-- The low eight bits of a tick fix those of its age. -/
theorem sinceT_mod_256 (c : Ctl) (t : Nat) : c.sinceT t % 256 = c.age8 t := by
  rw [Ctl.sinceT, since, Nat.mod_mod_of_dvd _ (by decide), Ctl.age8]
  omega

theorem age8_mod_256 (c : Ctl) (t : Nat) : c.age8 (t % 256) = c.age8 t := by
  rw [Ctl.age8, Nat.mod_mod, Ctl.age8]

/-- Every tick with the low eight bits of TICK8 is as old as the tick taken, or whole periods of 256 ticks older. -/
theorem sinceT_tick8_le {c : Ctl} {t t8 : Nat} (ht : t % 256 = t8) : c.sinceT (c.tick8 t8) ≤ c.sinceT t := by
  calc c.sinceT (c.tick8 t8) = c.age8 t8 := sinceT_tick8 c t8
    _ = c.sinceT t % 256 := by rw [← ht, age8_mod_256, sinceT_mod_256]
    _ ≤ c.sinceT t := Nat.mod_le _ _

end Sys2Proof.Machine

/-- Settles O20: the tick taken is less than 256 ticks old, and the age of every tick with the same low eight bits is
the same modulo 256. -/
theorem uplinkTickIsTheMostRecentMatch : Obligations.UplinkTickIsTheMostRecentMatch := by
  unfold Obligations.UplinkTickIsTheMostRecentMatch
  intro c k t8 hcompat ht8
  rw [upTick_of_not_compat hcompat]
  exact ⟨tick8_lt c t8, (tick8_mod_256 c t8).trans (Nat.mod_eq_of_lt ht8), fun _ _ ht => sinceT_tick8_le ht⟩

end

section
/-! PROOFS, twin (09_twin.md): what a write of CMD.HANDOVER does. -/

open Sys2Proof Sys2Proof.Machine

namespace Sys2Proof.Machine

/-! ### CMD.HANDOVER (R422) -/

theorem handoverCmd_of_peerReady {c : Ctl} (hrole : c.role = rActive) (hp : c.tw.peerReady = true) :
    handoverCmd c = c.modTw (fun t => { t with asked := true }) :=
  if_pos ⟨hrole, hp⟩

theorem handoverCmd_of_not_peerReady {c : Ctl} (hp : c.tw.peerReady = false) :
    handoverCmd c = c.flag R.TWIN_STAT_HANDOVER_REFUSED true :=
  if_neg fun ⟨_, h⟩ => Bool.noConfusion (h.symm.trans hp)

theorem get_flag_handoverRefused (c : Ctl) :
    (c.flag R.TWIN_STAT_HANDOVER_REFUSED true).get R.TWIN_STAT_HANDOVER_REFUSED = 1 :=
  get_put_self c R.TWIN_STAT_HANDOVER_REFUSED 1 (by decide) (by decide)

/-- The refusal shares its register with ROLE, which lies in bits of its own. -/
theorem role_flag_handoverRefused (c : Ctl) (b : Bool) : (c.flag R.TWIN_STAT_HANDOVER_REFUSED b).role = c.role :=
  get_put_apart c R.TWIN_STAT_HANDOVER_REFUSED R.TWIN_STAT_ROLE (b2n b) rfl (by decide) (by decide) (by decide)

/-- A write of CMD.HANDOVER that nothing before it on its page holds back acts on the control state alone. -/
theorem exec_handoverCmd_of_free {s : State} (ht : taken .handoverCmd s) (ha : s.ctl.access R.TWIN_CMD = .ok)
    (hm : s.ctl.mustWait R.TWIN_CMD = false) : exec .handoverCmd s = .next { s with ctl := handoverCmd s.ctl } :=
  calc exec .handoverCmd s
    _ = .next { s with ctl := guardW R.TWIN_CMD 1 handoverCmd s.ctl } := runCtl_next .handoverCmd _ s ht.1 ht.2
    _ = .next { s with ctl := handoverCmd s.ctl } := by rw [guardW_of_free ha hm]

end Sys2Proof.Machine

/-- Settles O22: the write comes to `handoverCmd`, which on the active turns on the partner's READY alone; its refusal
is one bit of TWIN_STAT beside ROLE (R422). -/
theorem handoverNeedsReadyPartner : Obligations.HandoverNeedsReadyPartner := by
  unfold Obligations.HandoverNeedsReadyPartner
  intro s ht ha hm hrole
  rw [exec_handoverCmd_of_free ht ha hm]
  constructor
  · intro hready
    rw [handoverCmd_of_peerReady hrole hready]
  · intro hnot
    rw [handoverCmd_of_not_peerReady hnot]
    exact ⟨_, rfl, get_flag_handoverRefused s.ctl, flag_tw _ _ _, (role_flag_handoverRefused s.ctl true).trans hrole,
      fun a => reg_put_ne s.ctl R.TWIN_STAT_HANDOVER_REFUSED _ a⟩

end

section
/-! PROOFS, host port (11_host_port.md): the block that each command code of the SMBus sideband answers. -/

open Sys2Proof Sys2Proof.Machine

namespace Sys2Proof.Machine

/-! ### Block Reads (R496, R497) -/

/-- The operation `f` on the control state answers the block `l` in a running device, and the state differs in the answer
alone. -/
theorem runCtl_answered {i : Instr} {f : Ctl → Ctl} {s : State} {l : List Byte} (hw : i.wellFormed = true)
    (hr : s.ctl.pwr.inReset = false) (hf : f s.ctl = smbAnswer l s.ctl) : runCtl i f s = .next (s.answered l) :=
  calc runCtl i f s
    _ = .next { s with ctl := f s.ctl } := runCtl_next i f s hw hr
    _ = .next { s with ctl := smbAnswer l s.ctl } := by rw [hf]
    _ = .next (s.answered l) := rfl

/-- The command bytes that R497 gives no block. -/
theorem wellFormed_smbUnknown_iff (cmd : Nat) :
    (Instr.smbUnknown cmd).wellFormed = true ↔ cmd < 256 ∧ (cmd = 0 ∨ 7 < cmd) := by
  simp [Instr.wellFormed]

end Sys2Proof.Machine

/-- Settles O26: each sideband command is one answer of the control state (R496), with the block of its row in the table
of R497; a command byte outside the table is well formed and its block is empty. -/
theorem sidebandAnswersByCommandCode : Obligations.SidebandAnswersByCommandCode := by
  unfold Obligations.SidebandAnswersByCommandCode
  intro s hr
  refine ⟨?chipId, ?health, ?diodes, ?rails, ?tally, ?link, ?halts, ?unknown⟩
  case chipId => exact runCtl_answered (i := .smbChipId) (f := smbChipId) rfl hr rfl
  case health => exact runCtl_answered (i := .smbHealth) (f := fun c => smbHealth c.armed c) rfl hr rfl
  case diodes => exact runCtl_answered (i := .smbDiodes) (f := smbDiodes) rfl hr rfl
  case rails => exact runCtl_answered (i := .smbRails) (f := smbRails) rfl hr rfl
  case tally => exact runCtl_answered (i := .smbTally) (f := smbTally) rfl hr rfl
  case link => exact runCtl_answered (i := .smbLink) (f := smbLink) rfl hr rfl
  case halts => exact runCtl_answered (i := .smbHalts) (f := smbHalts) rfl hr rfl
  case unknown =>
    intro cmd hlt hcode
    exact runCtl_answered (i := .smbUnknown cmd) (f := smbUnknown)
      ((wellFormed_smbUnknown_iff cmd).mpr ⟨hlt, hcode⟩) hr rfl

end

section
/-! PROOFS, axes (13_axes.md): what the filtered index edge of an encoder writes. -/

open Sys2Proof Sys2Proof.Machine

namespace Sys2Proof.Machine

/-! ### The registers of an encoder -/

theorem encCount_ne_encZlatch (e : Nat) : R.ENC_COUNT e ≠ R.ENC_ZLATCH e := by
  unfold R.ENC_COUNT R.ENC_ZLATCH; omega

theorem encCount_ne_encStat (e : Nat) : R.ENC_COUNT e ≠ R.ENC_STAT e := by
  unfold R.ENC_COUNT R.ENC_STAT; omega

theorem encZlatch_ne_encStat (e : Nat) : R.ENC_ZLATCH e ≠ R.ENC_STAT e := by
  unfold R.ENC_ZLATCH R.ENC_STAT; omega

theorem regReset_encCount_lt {e : Nat} (he : e < 4) : regReset (R.ENC_COUNT e) < 2 ^ 32 := by
  have h : ∀ k < 4, regReset (R.ENC_COUNT k) < 2 ^ 32 := by decide
  exact h e he

theorem regReset_encStat_lt {e : Nat} (he : e < 4) : regReset (R.ENC_STAT e) < 2 ^ 32 := by
  have h : ∀ k < 4, regReset (R.ENC_STAT k) < 2 ^ 32 := by decide
  exact h e he

theorem wellFormed_encZEdge_iff (e : Nat) : (Instr.encZEdge e).wellFormed = true ↔ e < 4 := by
  simp [Instr.wellFormed]

/-! ### The index edge (R527) -/

/-- The edge writes the latch and the status of its encoder, and no other register. -/
theorem reg_encZEdge_ne (e : Nat) (c : Ctl) {a : Nat} (hz : a ≠ R.ENC_ZLATCH e) (hs : a ≠ R.ENC_STAT e) :
    (encZEdge e c).reg a = c.reg a := by
  rw [encZEdge, encMod_reg, reg_put_ne _ (R.ENC_STAT_Z_SEEN e) 1 a hs, reg_setReg_ne c _ a _ hz]

/-- The latch takes the whole count, which fits its 32 bits. -/
theorem reg_encZEdge_zlatch {e : Nat} (he : e < 4) (c : Ctl) :
    (encZEdge e c).reg (R.ENC_ZLATCH e) = c.reg (R.ENC_COUNT e) := by
  have hfit : c.reg (R.ENC_COUNT e) < 2 ^ 32 := reg_lt c _ (regReset_encCount_lt he)
  rw [encZEdge, encMod_reg, reg_put_ne _ (R.ENC_STAT_Z_SEEN e) 1 _ (encZlatch_ne_encStat e), reg_setReg_self,
    Nat.mod_eq_of_lt hfit]

theorem get_encZEdge_zSeen {e : Nat} (he : e < 4) (c : Ctl) : (encZEdge e c).get (R.ENC_STAT_Z_SEEN e) = 1 := by
  rw [encZEdge, encMod_get]
  exact get_put_self _ (R.ENC_STAT_Z_SEEN e) 1 (le_refl 32) (regReset_encStat_lt he)

end Sys2Proof.Machine

/-- Settles O28: the edge acts on the control state alone, where it writes ENC_ZLATCH and one bit of ENC_STAT; ENC_COUNT
is neither of the two (R527). -/
theorem encoderLatchesAtIndexEdge : Obligations.EncoderLatchesAtIndexEdge := by
  unfold Obligations.EncoderLatchesAtIndexEdge
  intro s e ⟨hwf, hrun⟩
  have he : e < 4 := (wellFormed_encZEdge_iff e).mp hwf
  have hnext : exec (.encZEdge e) s = .next { s with ctl := encZEdge e s.ctl } := runCtl_next _ _ s hwf hrun
  exact ⟨encZEdge e s.ctl, hnext, reg_encZEdge_zlatch he s.ctl, get_encZEdge_zSeen he s.ctl,
    reg_encZEdge_ne e s.ctl (encCount_ne_encZlatch e) (encCount_ne_encStat e), fun _ => reg_encZEdge_ne e s.ctl⟩

end

section
/-! PROOFS, start-up and power (18_startup_power.md): a write of RST_CMD.CHIP_RESET, refused or carried out. -/

open Sys2Proof Sys2Proof.Machine

namespace Sys2Proof.Machine

/-! ### The complete reset (R644) -/

@[simp] theorem fullReset_inReset (cause : Nat) (s : State) : (fullReset cause s).ctl.pwr.inReset = true := rfl

/-- The cause is recorded as it is given: what the reset takes over of the identity page lies in other registers. -/
theorem get_fullReset_cause {cause : Nat} (hc : cause < 16) (s : State) :
    (fullReset cause s).ctl.get R.GLOBAL_RST_STAT_CAUSE = cause := by
  rw [fullReset, get_put_ne _ R.ID_UID_HI_UID _ _ (by decide), get_put_ne _ R.ID_UID_LO_UID _ _ (by decide),
    get_put_ne _ R.ID_STAT_STORED_SVN _ _ (by decide), get_put_ne _ R.ID_STAT_INT_PRESENT _ _ (by decide),
    get_put_ne _ R.ID_STAT_BAD_B _ _ (by decide), get_put_ne _ R.ID_STAT_BAD_A _ _ (by decide),
    get_put_self _ R.GLOBAL_RST_STAT_CAUSE cause (by decide) (by decide)]
  exact Nat.mod_eq_of_lt hc

/-! ### CHIP_RESET (R646) -/

theorem chipReset_of_armed {s : State} (h : s.ctl.armed = true) :
    chipReset s = { s with ctl := s.ctl.flag R.GLOBAL_RST_STAT_CHIP_RESET_REFUSED true } :=
  if_pos h

theorem chipReset_of_not_armed {s : State} (h : s.ctl.armed = false) : chipReset s = fullReset 4 s :=
  if_neg (Bool.eq_false_iff.mp h)

theorem get_flag_chipResetRefused (c : Ctl) :
    (c.flag R.GLOBAL_RST_STAT_CHIP_RESET_REFUSED true).get R.GLOBAL_RST_STAT_CHIP_RESET_REFUSED = 1 :=
  get_put_self c R.GLOBAL_RST_STAT_CHIP_RESET_REFUSED 1 (by decide) (by decide)

/-- A write of CHIP_RESET that nothing before it on its page holds back has its effect, and the queue stays. -/
theorem exec_chipReset_of_free {s : State} (ht : taken .chipReset s) (ha : s.ctl.access R.GLOBAL_RST_CMD = .ok)
    (hm : s.ctl.mustWait R.GLOBAL_RST_CMD = false) : exec .chipReset s = .next (keepQueue chipReset s) :=
  calc exec .chipReset s
    _ = .next (keepQueue (guardWS R.GLOBAL_RST_CMD 1 chipReset) s) := run_next .chipReset _ s ht.1 ht.2
    _ = .next (keepQueue chipReset s) := by rw [keepQueue, guardWS_of_free ha hm, keepQueue]

end Sys2Proof.Machine

/-- Settles O30: the write comes to `chipReset`, which while the build is armed sets one bit of RST_STAT (R646) and
otherwise is the complete reset of cause 4 (R644). -/
theorem chipResetRefusedWhileArmed : Obligations.ChipResetRefusedWhileArmed := by
  unfold Obligations.ChipResetRefusedWhileArmed
  intro s ht ha hm
  rw [exec_chipReset_of_free ht ha hm, keepQueue]
  constructor
  · intro harmed
    rw [chipReset_of_armed harmed]
    exact ⟨_, rfl, get_flag_chipResetRefused s.ctl, flag_pwr _ _ _,
      fun a => reg_put_ne s.ctl R.GLOBAL_RST_STAT_CHIP_RESET_REFUSED _ a⟩
  · intro hnot
    rw [chipReset_of_not_armed hnot]
    exact ⟨_, rfl, fullReset_inReset 4 s, get_fullReset_cause (by decide) s⟩

end

section
/-! PROOFS, register map (19_register_map.md): what a refused access of BAR0 leaves, and the accesses that are refused. -/

open Sys2Proof Sys2Proof.Machine

namespace Sys2Proof.Machine

/-! ### A pulse event (R691) -/

/-- A pulse event reaches only the latched interrupt status of its page. -/
theorem reg_irq_ne (c : Ctl) {page a : Nat} (k : Nat) (hs : a ≠ R.BLK_IRQ_STAT page) : (c.irq page k).reg a = c.reg a :=
  reg_setReg_ne c _ a _ hs

theorem bit_irq_self (c : Ctl) (page : Nat) {k : Nat} (hk : k < 32) :
    (c.irq page k).bit (R.BLK_IRQ_STAT page) k = true := by
  rw [Ctl.bit, Ctl.irq, Ctl.setBits, reg_setReg_self, bitOf, Nat.testBit_mod_two_pow, Nat.testBit_or,
    Nat.testBit_two_pow_self, Bool.or_true, Bool.and_true, decide_eq_true hk]

/-! ### ACC_ERR (R15, R685) -/

/-- The word of ACC_ERR after a refused access: VALID, WRITE, CAUSE and OFFSET. -/
def accErrWord (write : Bool) (cause addr : Nat) : Nat :=
  2 ^ 31 + b2n write * 2 ^ 30 + cause % 4 * 2 ^ 28 + addr % 2 ^ 24

theorem b2n_le_one (b : Bool) : b2n b ≤ 1 := by
  cases b <;> decide

section
variable (write : Bool) (cause addr : Nat) (c : Ctl)

/-- The registers after a refused access do not depend on what a read of it returned. -/
theorem reg_accErr (a : Nat) : (accErr write cause addr c).reg a =
    ((c.setReg R.GLOBAL_ACC_ERR (accErrWord write cause addr)).irq pgGlobal 0).reg a := by
  cases write <;> rfl

theorem reg_accErr_ne {a : Nat} (he : a ≠ R.GLOBAL_ACC_ERR) (hs : a ≠ R.BLK_IRQ_STAT pgGlobal) :
    (accErr write cause addr c).reg a = c.reg a := by
  rw [reg_accErr, reg_irq_ne _ 0 hs, reg_setReg_ne c _ a _ he]

theorem accErrWord_lt : accErrWord write cause addr < 2 ^ 32 := by
  have hw : b2n write ≤ 1 := b2n_le_one write
  unfold accErrWord
  omega

/-- ACC_ERR is written whole, whatever it held. -/
theorem reg_accErr_self : (accErr write cause addr c).reg R.GLOBAL_ACC_ERR = accErrWord write cause addr := by
  rw [reg_accErr, reg_irq_ne _ 0 (by decide), reg_setReg_self, Nat.mod_eq_of_lt (accErrWord_lt write cause addr)]

theorem bit_accErr_irqStat : (accErr write cause addr c).bit (R.BLK_IRQ_STAT pgGlobal) 0 = true := by
  rw [Ctl.bit, reg_accErr]
  exact bit_irq_self _ pgGlobal (by decide)

theorem lastRead_accErr :
    (accErr write cause addr c).host.lastRead = if write then c.host.lastRead else 0xFFFFFFFF := by
  cases write <;> rfl

/-- A field of ACC_ERR as the bits of the word that the refused access writes. -/
theorem get_accErr (lo w : Nat) : (accErr write cause addr c).get ⟨R.GLOBAL_ACC_ERR, lo, w⟩ =
    accErrWord write cause addr / 2 ^ lo % 2 ^ w := by
  rw [Ctl.get, reg_accErr_self, slice, Nat.shiftRight_eq_div_pow]

end

/-- R685: what `accErr` does is what a refused access leaves, for a cause and an offset that fit their fields. -/
theorem recordsRefusal_accErr (write : Bool) {cause addr : Nat} (hc : cause < 4) (ha : addr < 2 ^ 24) (c : Ctl) :
    recordsRefusal write cause addr c (accErr write cause addr c) := by
  have hw : b2n write ≤ 1 := b2n_le_one write
  refine ⟨?valid, ?write, ?cause, ?offset, bit_accErr_irqStat write cause addr c, lastRead_accErr write cause addr c,
    fun _ => reg_accErr_ne write cause addr c⟩
  case valid => rw [R.GLOBAL_ACC_ERR_VALID, get_accErr, accErrWord]; omega
  case write => rw [R.GLOBAL_ACC_ERR_WRITE, get_accErr, accErrWord]; omega
  case cause => rw [R.GLOBAL_ACC_ERR_CAUSE, get_accErr, accErrWord]; omega
  case offset => rw [R.GLOBAL_ACC_ERR_OFFSET, get_accErr, accErrWord]; omega

/-! ### Accesses that are refused (R683, R684) -/

/-- The page of an access refuses it for one of two causes. -/
theorem cause_of_access_refused {c : Ctl} {a n : Nat} (h : c.access a = .refused n) : n = 2 ∨ n = 3 := by
  unfold Ctl.access at h
  split at h
  · exact .inl (Access.refused.inj h).symm
  · split at h
    · cases h
    · split at h
      · exact .inr (Access.refused.inj h).symm
      · split at h <;> cases h

theorem guardW_of_refused {a n : Nat} {c : Ctl} (h : c.access a = .refused n) (w : Word) (f : Ctl → Ctl) :
    guardW a w f c = accErr true n a c := by
  simp [guardW, h]

theorem guardWS_of_refused {a n : Nat} {s : State} (h : s.ctl.access a = .refused n) (w : Word) (f : State → State) :
    guardWS a w f s = { s with ctl := accErr true n a s.ctl } := by
  simp [guardWS, h]

theorem hostRead_of_refused {a n : Nat} {s : State} (h : s.ctl.access a = .refused n) :
    State.hostRead a s = { s with ctl := accErr false n a s.ctl } := by
  simp [State.hostRead, guardR, h]

/-- A command whose whole effect is a refused access answers the record of it. -/
theorem run_records_of_accErr (i : Instr) {f : State → State} {s : State} {write : Bool} {n a : Nat}
    (hw : i.wellFormed = true) (hr : s.ctl.pwr.inReset = false) (hn : n < 4) (ha : a < 2 ^ 24)
    (hf : f s = { s with ctl := accErr write n a s.ctl }) :
    ∃ d, run i f s = .next { s with ctl := d } ∧ recordsRefusal write n a s.ctl d := by
  refine ⟨accErr write n a s.ctl, ?_, recordsRefusal_accErr write hn ha s.ctl⟩
  rw [run_next i f s hw hr, keepQueue, hf]

/-- The same for a command of the control state. -/
theorem runCtl_records_of_accErr (i : Instr) {f : Ctl → Ctl} {s : State} {write : Bool} {n a : Nat}
    (ht : taken i s) (hn : n < 4) (ha : a < 2 ^ 24) (hf : f s.ctl = accErr write n a s.ctl) :
    ∃ d, runCtl i f s = .next { s with ctl := d } ∧ recordsRefusal write n a s.ctl d :=
  run_records_of_accErr i ht.1 ht.2 hn ha (by rw [hf])

/-! ### The rows that stand for a refused access -/

theorem bar0AccessError_records {s : State} {write : Bool} {a size : Nat} (ht : taken (.bar0AccessError write a size) s)
    (hs : sizeOk a size = false) :
    ∃ d, exec (.bar0AccessError write a size) s = .next { s with ctl := d } ∧ recordsRefusal write 1 a s.ctl d := by
  obtain ⟨⟨ha, _⟩, _⟩ : (a < 2 ^ 24 ∧ 0 < size) ∧ size ≤ 4096 := by simpa [Instr.wellFormed] using ht.1
  exact runCtl_records_of_accErr _ (f := fun c => if sizeOk a size then c else accErr write 1 a c) ht (by decide) ha
    (if_neg (Bool.eq_false_iff.mp hs))

theorem bar0NoPageAccess_records {s : State} {write : Bool} {a : Nat} (ht : taken (.bar0NoPageAccess write a) s)
    (hp : inPage a = false) :
    ∃ d, exec (.bar0NoPageAccess write a) s = .next { s with ctl := d } ∧ recordsRefusal write 2 a s.ctl d := by
  obtain ⟨ha, _⟩ : a < 2 ^ 24 ∧ a % 4 = 0 := by simpa [Instr.wellFormed] using ht.1
  exact runCtl_records_of_accErr _ (f := fun c => if inPage a then c else accErr write 2 a c) ht (by decide) ha
    (if_neg (Bool.eq_false_iff.mp hp))

theorem stoppedPageAccess_records {s : State} {write : Bool} {a : Nat} (ht : taken (.stoppedPageAccess write a) s)
    (h3 : s.ctl.access a = .refused 3) :
    ∃ d, exec (.stoppedPageAccess write a) s = .next { s with ctl := d } ∧ recordsRefusal write 3 a s.ctl d := by
  obtain ⟨ha, _⟩ : a < 2 ^ 24 ∧ a % 4 = 0 := by simpa [Instr.wellFormed] using ht.1
  exact runCtl_records_of_accErr _ (f := fun c => if c.access a = .refused 3 then accErr write 3 a c else c) ht (by decide) ha
    (if_pos h3)

end Sys2Proof.Machine

/-- Settles O9: every guard, every read of BAR0 and each of the three rows comes to `accErr` where the access is refused,
and `accErr` writes ACC_ERR whole, one interrupt bit and, for a read, all ones (R15, R685). -/
theorem refusedAccessIsRecorded : Obligations.RefusedAccessIsRecorded := by
  unfold Obligations.RefusedAccessIsRecorded
  refine ⟨fun s a n hr ha h => ?byPage, fun _ _ _ _ => bar0AccessError_records, fun _ _ _ => bar0NoPageAccess_records,
    fun _ _ _ => stoppedPageAccess_records⟩
  case byPage =>
    have hcause : n = 2 ∨ n = 3 := cause_of_access_refused h
    have hn : n < 4 := by omega
    have hrec : recordsRefusal true n a s.ctl (accErr true n a s.ctl) := recordsRefusal_accErr true hn ha s.ctl
    refine ⟨hcause, ?guardW, ?guardWS, fun h4 => ?commands⟩
    case guardW =>
      intro w f
      rw [guardW_of_refused h]
      exact hrec
    case guardWS => exact fun w g => ⟨_, guardWS_of_refused h w g, hrec⟩
    case commands =>
      have hwf := wellFormed_of_offset ha h4
      refine ⟨fun w => ?_, fun w => ?_, ?_, ?_⟩
      · exact run_records_of_accErr (.registerWrite a w) hwf hr hn ha (guardWS_of_refused h w _)
      · exact run_records_of_accErr (.wideValueCommit a w) hwf hr hn ha (guardWS_of_refused h w _)
      · exact run_records_of_accErr (.counterReadClear a) hwf hr hn ha (hostRead_of_refused h)
      · exact run_records_of_accErr (.wideValueRead a) hwf hr hn ha (hostRead_of_refused h)

end


section
/-! PROOFS, the register map (19_register_map.md): every register holds a word of 32 bits after reset, so what is put
into a field is what is read from it. -/

open Sys2Proof Sys2Proof.Machine

namespace Sys2Proof.Machine

theorem mem_of_findRow {l : List RegRow} {o : Nat} {r : RegRow} (h : findRow l o = some r) : r ∈ l := by
  induction l with
  | nil => cases h
  | cons q t ih =>
    rw [findRow] at h
    rcases ite_eq_iff.mp h with ⟨-, h⟩ | ⟨-, h⟩
    · cases h; exact List.mem_cons_self
    · exact List.mem_cons_of_mem _ (ih h)

theorem rows_rst_lt (p : Page) : ∀ r ∈ p.rows, r.rst < 2 ^ 32 := by
  cases p <;> decide +kernel

theorem rst_lt_of_regRow {a : Nat} {r : RegRow} (h : regRow a = some r) : r.rst < 2 ^ 32 := by
  unfold regRow at h
  split at h
  · cases h
  · rename_i p _ base _
    dsimp only at h
    split at h
    · split at h
      · cases h
      · exact rows_rst_lt .ctx r (mem_of_findRow h)
    · split at h
      · cases h
      · exact rows_rst_lt p r (mem_of_findRow h)

theorem rowReset_lt (a : Nat) : ((regRow a).map (·.rst)).getD 0 < 2 ^ 32 := by
  cases h : regRow a with
  | none => decide
  | some r => exact rst_lt_of_regRow h

/-- The number of a page among those of its kind, where it has one, fits a byte. -/
def InstLt (e : Option (Page × Nat × Nat)) : Prop := ∀ t ∈ e, t.2.1 < 256

@[simp] theorem instLt_none : InstLt none := fun _ h => nomatch h

@[simp] theorem instLt_some (p : Page) (inst base : Nat) : InstLt (some (p, inst, base)) ↔ inst < 256 := by
  simp [InstLt]

theorem instLt_ite {P : Prop} [Decidable P] {x y : Option (Page × Nat × Nat)} (hx : P → InstLt x) (hy : ¬ P → InstLt y) :
    InstLt (if P then x else y) := by
  split
  · exact hx ‹_›
  · exact hy ‹_›

theorem instLt_pageOf (a : Nat) : InstLt (pageOf a) := by
  unfold pageOf
  repeat' refine instLt_ite (fun _ => ?_) (fun _ => ?_)
  all_goals simp only [instLt_none, instLt_some]
  all_goals omega

theorem inst_lt_of_pageOf {a inst base : Nat} {p : Page} (h : pageOf a = some (p, inst, base)) : inst < 256 :=
  instLt_pageOf a _ h

theorem metricReset_snd_lt : ∀ m < 96, (metricReset m).2 < 2 ^ 32 := by decide

theorem sineDefault_lt : ∀ r < 256, sineDefault r < 2 ^ 16 := by decide +kernel

theorem code_lt (w : Nat) (i : Int) : code w i < 2 ^ w := by
  have h1 := Int.emod_nonneg i (b := ((2 ^ w : Nat) : Int)) (by positivity)
  have h2 := Int.emod_lt_of_pos i (b := ((2 ^ w : Nat) : Int)) (by positivity)
  unfold code
  omega

theorem regReset_lt (a : Nat) : regReset a < 2 ^ 32 := by
  unfold regReset
  split
  · decide
  · rename_i p inst base h
    have hinst := inst_lt_of_pageOf h
    have hkind : p.kind ≤ 16 := by cases p <;> decide
    have hbit (b : Bool) : b2n b < 2 ^ 32 := by cases b <;> decide
    dsimp only
    split
    · split
      · omega
      · decide
      · split
        · decide
        · exact hbit _
      · split
        · decide
        · exact hbit _
      · decide
    · split
      · split
        · split
          · exact code_lt 32 _
          · exact metricReset_snd_lt _ (by omega)
        · exact rowReset_lt a
      · split
        · have h0 := sineDefault_lt ((a - base - 0x800) / 4 * 2) (by omega)
          have h1 := sineDefault_lt ((a - base - 0x800) / 4 * 2 + 1) (by omega)
          omega
        · exact rowReset_lt a
      · exact rowReset_lt a

/-- A field reads as the low bits of what was put into it. -/
theorem get_put_same (c : Ctl) (f : Fld) (v : Nat) (hf : f.lo + f.w ≤ 32) : (c.put f v).get f = v % 2 ^ f.w :=
  get_put_self c f v hf (regReset_lt _)

/-- A field that lies apart from the one that is set keeps its value. -/
theorem get_put_other (c : Ctl) (f g : Fld) (v : Nat) (ha : g.addr = f.addr)
    (h : g.lo + g.w ≤ f.lo ∨ f.lo + f.w ≤ g.lo) (hf : f.lo + f.w ≤ 32) : (c.put f v).get g = c.get g :=
  get_put_apart c f g v ha h hf (regReset_lt _)

theorem get_lt (c : Ctl) (f : Fld) : c.get f < 2 ^ f.w := Nat.mod_lt _ (Nat.two_pow_pos _)

end Sys2Proof.Machine
end

section
/-! PROOFS, runs of commands (00_scope.md, Safety.lean): what shape the meaning of each command has, and from it that
every well-formed command completes, what reset holds back, which commands leave DRAM, and that a run keeps the machine
sound. -/

open Sys2Proof Sys2Proof.Machine

namespace Sys2Proof.Machine

/-! ### The shapes of the meanings -/

/-- Every command but those of reset runs only while the device is not held in reset (R643). -/
theorem exec_eq_run {i : Instr} (s : State) (h : i.ofReset = false) : ∃ f, exec i s = run i f s := by
  cases i with
  | powerOnReset | deviceReset | brownOut => cases h
  | _ => exact ⟨_, rfl⟩

/-- The commands of reset run in any case. -/
theorem exec_eq_runAlways {i : Instr} (s : State) (h : i.ofReset = true) : ∃ f, exec i s = runAlways i f s := by
  cases i with
  | powerOnReset | deviceReset | brownOut => exact ⟨_, rfl⟩
  | _ => cases h

/-- The effect of a command whose meaning is a function of the whole machine (`Meaning` ties it to `exec`); the others
have none here. -/
def machineEffect : Instr → State → State
  | .registerWrite a w | .wideValueCommit a w => guardWS a w (onMapAt a (onLanes (fun s => s.regWrite a w)))
  | .blkEnable a en => guardWS (R.BLK_CTRL a) (BitVec.ofNat 32 (b2n en))
      (onMapAt a (onLanes (fun s => s.regWrite (R.BLK_CTRL a) (BitVec.ofNat 32 (b2n en)))))
  | .softReset a en => onMapAt a (fun s =>
      { s with ctl := guardW (R.BLK_CTRL a) (BitVec.ofNat 32 (2 + b2n en)) (softReset a en) s.ctl })
  | .wideValueRead a | .counterReadClear a => State.hostRead a
  | .ctxClaim x => State.hostRead (R.SLUICE_CTX_CLAIM x)
  | .doorbellOrd w => guardWS R.HOPPER_DOORBELL_ORD w (ringOrdered w)
  | .ldrCompletion => ldrCompletion ringLoader
  | .hopperReadReturn x k => fun s => bar2Collect (hopperReturn x k s)
  | .terrFetchReturn k ue => fun s => bar2Collect (terrReturn k ue s)
  | .ledgerFillDone => ledgerFillDone
  | .ledgerEvaluation late => ledgerEvaluation late
  | .ledgerCellReturn k ue => fun s => bar2Collect (ledgerCellReturn k ue s)
  | .ledgerSweep => ledgerSweep
  | .bar2Write off l => bar2Write off l
  | .bar2Read off en => bar2Read off en
  | .rtReadReturn m ns errs => fun s => bar2Collect (rtReadReturn m ns errs s)
  | .bulkRead m a errs => fun s => bar2Collect (bulkRead m a errs s)
  | .dramWrite host => fun s => (dramWriteOf host s).camerasSee
  | .writeBatch b => fun s => bar2Collect (writeBatch b.m b.errs s)
  | .scrubRead m errs => scrubRead m errs
  | .rowClose m bank => fun s => { s with ctl := rowClose m bank (s.mem.wq m) s.ctl }
  | .powerOnReset => powerOnReset
  | .brownOut => brownOut
  | .deviceReset hA hB fault => deviceReset hA hB fault
  | .warmPerst => warmPerst
  | .chipReset => guardWS R.GLOBAL_RST_CMD 1 chipReset
  | .stateRecordComplete => recordComplete
  | .replayComplete => replayComplete
  | _ => id

/-- The six shapes that a meaning has: a function of the control state alone, with the writes that it lets go on (R49),
as a tick (R42), or with the change of the address map that it may bring (R444); or the command's effect on the whole
machine, held back by reset or not (R643). -/
inductive Meaning (i : Instr) (s : State) : Prop
  | alone (f : Ctl → Ctl) (h : exec i s = runCtl i f s)
  | held (f : Ctl → Ctl) (h : exec i s = runHeld i f s)
  | tick (f : Ctl → Ctl) (h : exec i s = runTick i f s)
  | map (f : Ctl → Ctl) (h : exec i s = runMap i f s) (hi : i.reachesMemory = true)
  | machine (h : exec i s = run i (machineEffect i) s)
  | always (h : exec i s = runAlways i (machineEffect i) s)

theorem meaning (i : Instr) (s : State) : Meaning i s := by
  cases i with
  | orderedDoorbellEffect | axisUpdate | pwrChg | fwdApply => exact .held _ rfl
  | tick | tallyWrap => exact .tick _ rfl
  | millraceEnable | initDone | trainStepDone | mcRetrain | powerStateChoice | dieShutdown => exact .map _ rfl rfl
  | powerOnReset | deviceReset | brownOut => exact .always rfl
  | registerWrite | wideValueRead | wideValueCommit | counterReadClear | blkEnable | softReset | doorbellOrd
  | hopperReadReturn | ldrCompletion | terrFetchReturn | ledgerFillDone | ledgerEvaluation | ledgerCellReturn
  | ledgerSweep | bar2Write | bar2Read | rtReadReturn | bulkRead | dramWrite | writeBatch | scrubRead | rowClose
  | warmPerst | chipReset | ctxClaim | stateRecordComplete | replayComplete => exact .machine rfl
  | bar0AccessError write a size => exact .alone (fun c => if sizeOk a size then c else accErr write 1 a c) rfl
  | bar0NoPageAccess write a => exact .alone (fun c => if inPage a then c else accErr write 2 a c) rfl
  | _ => exact .alone _ rfl

/-! ### Completion -/

theorem runAlways_illFormed (i : Instr) (f : State → State) (s : State) (h : i.wellFormed = false) :
    runAlways i f s = .fault .illFormed := by simp [runAlways, h]

theorem exec_completes {i : Instr} (s : State) (h : i.wellFormed = true) :
    ∃ t, exec i s = .next t ∧ t.pending = s.pending := by
  cases hr : i.ofReset with
  | false =>
    obtain ⟨f, e⟩ := exec_eq_run s hr
    exact e ▸ run_completes i f s h
  | true =>
    obtain ⟨f, e⟩ := exec_eq_runAlways s hr
    exact e ▸ runAlways_completes i f s h

theorem exec_illFormed {i : Instr} (s : State) (h : i.wellFormed = false) : exec i s = .fault .illFormed := by
  cases hr : i.ofReset with
  | false =>
    obtain ⟨f, e⟩ := exec_eq_run s hr
    exact e ▸ run_illFormed i f s h
  | true =>
    obtain ⟨f, e⟩ := exec_eq_runAlways s hr
    exact e ▸ runAlways_illFormed i f s h

theorem step_of_pending {i : Instr} {rest : List Instr} {s : State} (h : s.pending = i :: rest) :
    step s = exec i { s with pending := rest } := by
  simp [step, h]

theorem step_of_idle {s : State} (h : s.pending = []) : step s = .next s := by
  simp [step, h]

end Sys2Proof.Machine

/-- Settles O1: `step` takes the first of the commands that wait. -/
theorem stepRunsFrontCommand : Obligations.StepRunsFrontCommand := by
  unfold Obligations.StepRunsFrontCommand
  exact fun _ _ _ => step_of_pending

/-- Settles O2: `step` has its own case for an empty queue. -/
theorem stepIdlesOnEmptyQueue : Obligations.StepIdlesOnEmptyQueue := by
  unfold Obligations.StepIdlesOnEmptyQueue
  exact fun _ => step_of_idle

/-- Settles O4: the meaning of every command is a `run` or, for the commands of reset, a `runAlways`, and both answer a
next state exactly for a well-formed command. -/
theorem wellFormedCommandsComplete : Obligations.WellFormedCommandsComplete := by
  unfold Obligations.WellFormedCommandsComplete
  exact fun _ s => ⟨exec_completes s, exec_illFormed s⟩

/-- Settles O5: every command but those of reset is a `run`, which does nothing while reset is held (R643). -/
theorem resetHoldsDevice : Obligations.ResetHoldsDevice := by
  unfold Obligations.ResetHoldsDevice
  intro i s hwf hin hi
  obtain ⟨f, e⟩ := exec_eq_run s hi
  rw [e, run_inReset i f s hwf hin]

namespace Sys2Proof.Machine

/-! ### Commands that leave DRAM -/

theorem wellFormed_of_next {i : Instr} {s t : State} (e : exec i s = .next t) : i.wellFormed = true := by
  cases h : i.wellFormed with
  | true => rfl
  | false => rw [exec_illFormed s h] at e; cases e

theorem deviceReset_mem (hA hB : BootHeader) (fault : Nat) (s : State) : (deviceReset hA hB fault s).mem = s.mem := by
  unfold deviceReset
  dsimp only
  split <;> rfl

/-- A register write at an address outside the millrace pages, and not at RST_CMD, leaves DRAM. -/
theorem guardWS_regWrite_mem {a b : Nat} (w : Word) (s : State) (ha : ¬ (0x20000 ≤ a ∧ a < 0x40000))
    (hb : b ≠ R.GLOBAL_RST_CMD) : (guardWS b w (onMapAt a (onLanes (fun s => s.regWrite b w))) s).mem = s.mem :=
  guardWS_mem b w _ s (onMapAt_mem a _ s (onLanes_mem _ s (regWrite_mem b w s hb)) ha)

/-- RST_CMD is no word of a page header. -/
theorem blkCtrl_ne_rstCmd {a : Nat} (h : a % 0x400 = 0) : R.BLK_CTRL a ≠ R.GLOBAL_RST_CMD := by
  unfold R.BLK_CTRL R.GLOBAL_RST_CMD; omega

/-- The effect on the machine of a command that does not reach DRAM leaves it. -/
theorem machineEffect_mem {i : Instr} (s : State) (hwf : i.wellFormed = true) (hi : i.reachesMemory = false) :
    (machineEffect i s).mem = s.mem := by
  cases i with
  | registerWrite a w | wideValueCommit a w =>
    obtain ⟨hrst, hmap⟩ : a ≠ R.GLOBAL_RST_CMD ∧ ¬ (0x20000 ≤ a ∧ a < 0x40000) := by
      simpa [Instr.reachesMemory] using hi
    exact guardWS_regWrite_mem w s hmap hrst
  | blkEnable a en =>
    obtain ⟨-, h400⟩ : a < 2 ^ 24 ∧ a % 0x400 = 0 := by simpa [Instr.wellFormed] using hwf
    exact guardWS_regWrite_mem _ s (of_decide_eq_false hi) (blkCtrl_ne_rstCmd h400)
  | softReset a en => exact onMapAt_mem a _ s rfl (of_decide_eq_false hi)
  | wideValueRead a | counterReadClear a => exact hostRead_mem a s
  | ctxClaim x => exact hostRead_mem (R.SLUICE_CTX_CLAIM x) s
  | doorbellOrd w => exact guardWS_mem _ w _ s (ringOrdered_mem w s)
  | ldrCompletion => exact ldrCompletion_mem _ s
  | ledgerEvaluation late => exact ledgerEvaluation_mem late s
  | deviceReset hA hB fault => exact deviceReset_mem hA hB fault s
  | stateRecordComplete => exact recordComplete_mem s
  | replayComplete => exact replayComplete_mem s
  | hopperReadReturn | terrFetchReturn | ledgerFillDone | ledgerCellReturn | ledgerSweep | bar2Write | bar2Read
  | rtReadReturn | bulkRead | dramWrite | writeBatch | scrubRead | powerOnReset | warmPerst | chipReset
  | brownOut => cases hi
  | _ => rfl

theorem exec_mem {i : Instr} {s t : State} (hi : i.reachesMemory = false)
    (hh : ∀ w ∈ s.ctl.host.held, w.addr ≠ R.GLOBAL_RST_CMD) (e : exec i s = .next t) : t.mem = s.mem := by
  have hwf := wellFormed_of_next e
  cases meaning i s with
  | alone f h => exact runCtl_mem i f s t (h ▸ e)
  | held f h => exact runHeld_mem hh (h ▸ e)
  | tick f h => exact runTick_mem hh (h ▸ e)
  | map f h hm => exact absurd hm (Bool.eq_false_iff.mp hi)
  | machine h => exact run_mem_of (machineEffect_mem s hwf hi) (h ▸ e)
  | always h => exact runAlways_mem_of (machineEffect_mem s hwf hi) (h ▸ e)

/-- With no read waiting at a millrace, none is served for a requester. -/
theorem serveFor_of_no_reads (w : Asker) {s : State} (h : ∀ m, (s.ctl.mcSt m).reads = []) : serveFor w s = s := by
  have hone : ∀ m, serveBulk m (serveUpTo w (s.ctl.mcSt m).reads.length m s) = s := fun m => by
    simp [h, serveUpTo, serveBulk, serveBulkN]
  have hall : ∀ l : List Nat, l.foldl (fun s m => serveBulk m (serveUpTo w (s.ctl.mcSt m).reads.length m s)) s = s := by
    intro l
    induction l with
    | nil => rfl
    | cons m l ih => rw [List.foldl_cons, hone m, ih]
  exact hall (upto 2)

/-- A hopper read that returns where no read waits at a millrace takes DRAM as it is. -/
theorem hopperReturn_mem_of_no_reads (x k : Nat) {s : State} (h : ∀ m, (s.ctl.mcSt m).reads = []) :
    (hopperReturn x k s).mem = s.mem := by
  unfold hopperReturn
  dsimp only
  split
  · rfl
  · split
    · rfl
    · rw [serveFor_of_no_reads _ h]

end Sys2Proof.Machine

/-- Settles O6: a meaning of the control state reaches DRAM only through the address map or a write of RST_CMD that
waited, and the effects on the machine that are left read it at most; HOPPER_READ_RETURN reaches it only by the reads and
answers that wait. -/
theorem onlyMemoryCommandsReachDram : Obligations.OnlyMemoryCommandsReachDram := by
  unfold Obligations.OnlyMemoryCommandsReachDram
  constructor
  · exact fun _ _ _ => exec_mem
  · intro x k s t hr hb e
    have hmem : (hopperReturn x k s).mem = s.mem := hopperReturn_mem_of_no_reads x k hr
    have hnone : bar2Collect (hopperReturn x k s) = hopperReturn x k s := bar2Collect_none _ (by rw [hmem]; exact hb)
    exact run_mem_of (f := fun s => bar2Collect (hopperReturn x k s)) (by rw [hnone, hmem]) e

namespace Sys2Proof.Machine

/-! ### Commands that keep the machine sound -/

theorem guardWS_regWrite_sound (a b : Nat) (w : Word) {s : State} (hs : s.sound = true) :
    (guardWS b w (onMapAt a (onLanes (fun s => s.regWrite b w))) s).sound = true :=
  guardWS_sound b w _ s hs (onMapAt_sound a _ s (onLanes_sound _ s (regWrite_sound b w s hs)))

theorem dramWriteOf_sound (host : Bool) {s : State} (hs : s.sound = true) : (dramWriteOf host s).sound = true :=
  ite_sound (fun _ => hostWrite_sound s hs) (fun _ => dramWrite_sound s hs)

theorem camerasSee_mem (s : State) : s.camerasSee.mem = s.mem := by
  unfold State.camerasSee; rfl

/-- Every effect on the machine keeps it sound. -/
theorem machineEffect_sound (i : Instr) {s : State} (hs : s.sound = true) : (machineEffect i s).sound = true := by
  cases i with
  | registerWrite a w | wideValueCommit a w => exact guardWS_regWrite_sound a a w hs
  | blkEnable a en => exact guardWS_regWrite_sound a (R.BLK_CTRL a) _ hs
  | softReset a en => exact onMapAt_sound a _ s (sound_of_mem (s := s) rfl hs)
  | wideValueRead a | counterReadClear a => exact sound_of_mem (hostRead_mem a s) hs
  | ctxClaim x => exact sound_of_mem (hostRead_mem (R.SLUICE_CTX_CLAIM x) s) hs
  | doorbellOrd w => exact sound_of_mem (guardWS_mem _ w _ s (ringOrdered_mem w s)) hs
  | ldrCompletion => exact sound_of_mem (ldrCompletion_mem _ s) hs
  | ledgerEvaluation late => exact sound_of_mem (ledgerEvaluation_mem late s) hs
  | rowClose m bank => exact sound_of_mem (s := s) rfl hs
  | stateRecordComplete => exact sound_of_mem (recordComplete_mem s) hs
  | replayComplete => exact sound_of_mem (replayComplete_mem s) hs
  | hopperReadReturn x k => exact bar2Collect_sound _ (hopperReturn_sound x k s hs)
  | terrFetchReturn k ue => exact bar2Collect_sound _ (terrReturn_sound k ue s hs)
  | ledgerFillDone => exact ledgerFillDone_sound s hs
  | ledgerCellReturn k ue => exact bar2Collect_sound _ (ledgerCellReturn_sound k ue s hs)
  | ledgerSweep => exact ledgerSweep_sound s hs
  | bar2Write off l => exact bar2Write_sound off l s hs
  | bar2Read off en => exact bar2Read_sound off en s hs
  | rtReadReturn m ns errs => exact bar2Collect_sound _ (rtReadReturn_sound m ns errs s hs)
  | bulkRead m a errs => exact bar2Collect_sound _ (bulkRead_sound m a errs s hs)
  | dramWrite host => exact sound_of_mem (camerasSee_mem _) (dramWriteOf_sound host hs)
  | writeBatch b => exact bar2Collect_sound _ (writeBatch_sound b.m b.errs s hs)
  | scrubRead m errs => exact scrubRead_sound m errs s hs
  | powerOnReset => exact fullReset_sound 1 s
  | brownOut => exact fullReset_sound 3 s
  | deviceReset hA hB fault => exact sound_of_mem (deviceReset_mem hA hB fault s) hs
  | warmPerst => exact warmPerst_sound s hs
  | chipReset => exact guardWS_sound _ 1 _ s hs (chipReset_sound s hs)
  | _ => exact hs

/-- A meaning of the control state reaches DRAM by the address map and by what waited alone, and keeps it sound. -/
theorem exec_sound {i : Instr} {s t : State} (hs : s.sound = true) (e : exec i s = .next t) : t.sound = true := by
  cases meaning i s with
  | alone f h => exact sound_of_mem (runCtl_mem i f s t (h ▸ e)) hs
  | held f h => exact runHeld_sound hs (h ▸ e)
  | tick f h => exact runTick_sound hs (h ▸ e)
  | map f h => exact runMap_sound hs (h ▸ e)
  | machine h => exact run_sound_of hs (machineEffect_sound i hs) (h ▸ e)
  | always h => exact runAlways_sound_of (machineEffect_sound i hs) (h ▸ e)

theorem step_sound {s t : State} (hs : s.sound = true) (e : step s = .next t) : t.sound = true := by
  cases hp : s.pending with
  | nil => rw [step_of_idle hp] at e; cases e; exact hs
  | cons i rest => exact exec_sound (s := { s with pending := rest }) (sound_of_mem (s := s) rfl hs) (step_of_pending hp ▸ e)

/-! ### Runs -/

/-- A step of an orderly device answers a next state, which is orderly, without the command at the front of the queue. -/
theorem step_completes {s : State} (ho : s.orderly = true) :
    ∃ t, step s = .next t ∧ t.orderly = true ∧ t.pending = s.pending.drop 1 := by
  cases hp : s.pending with
  | nil => exact ⟨s, step_of_idle hp, ho, hp⟩
  | cons i rest =>
    obtain ⟨hi, hrest⟩ : i.wellFormed = true ∧ ∀ j ∈ rest, j.wellFormed = true := by
      simpa [State.orderly, hp] using ho
    obtain ⟨t, e, ht⟩ := exec_completes { s with pending := rest } hi
    refine ⟨t, step_of_pending hp ▸ e, ?_, ht⟩
    rw [State.orderly, ht, List.all_eq_true]
    exact hrest

theorem runsTo_succ {k : Nat} {s t : State} (e : step s = .next t) : runsTo (k + 1) s = runsTo k t := by
  rw [runsTo, e]

/-- A run of a sound and orderly device goes on to its end: each step keeps both and takes one command. -/
theorem runsTo_of_sound (k : Nat) {s : State} (hs : s.sound = true) (ho : s.orderly = true) :
    ∃ t, runsTo k s = some t ∧ t.sound = true ∧ t.orderly = true ∧ t.pending = s.pending.drop k := by
  induction k generalizing s with
  | zero => exact ⟨s, rfl, hs, ho, rfl⟩
  | succ k ih =>
    obtain ⟨u, e, hou, hpu⟩ := step_completes ho
    obtain ⟨t, ht, hst, hot, hpt⟩ := ih (step_sound hs e) hou
    refine ⟨t, runsTo_succ e ▸ ht, hst, hot, ?_⟩
    rw [hpt, hpu, List.drop_drop, Nat.add_comm]

end Sys2Proof.Machine

/-- Settles O7: a step is the command at the front of the queue, and the meaning of every command keeps the cells
canonical and both write queues sound (R450). -/
theorem stepKeepsMemorySound : Obligations.StepKeepsMemorySound := by
  unfold Obligations.StepKeepsMemorySound
  exact fun _ _ => step_sound

/-- Settles O8: by induction on the number of steps, each of which completes (O4) and keeps the machine sound (O7). -/
theorem soundRunsNeverStop : Obligations.SoundRunsNeverStop := by
  unfold Obligations.SoundRunsNeverStop
  exact fun _ k => runsTo_of_sound k

end


section
/-! PROOFS, the error correction of DRAM (10_millrace.md): the field of R441 as iterates of the doubling, the syndromes
of a codeword and of one with a single wrong symbol, and the bytes of eight codewords. -/

open Sys2Proof Sys2Proof.Machine

namespace Sys2Proof.Machine

/-! ### The field (R441) -/

theorem xor_lt_256 {a b : Nat} (ha : a < 256) (hb : b < 256) : a ^^^ b < 256 := Nat.xor_lt_two_pow (n := 8) ha hb

theorem gfDouble_lt : ∀ a < 256, gfDouble a < 256 := by decide +kernel

theorem gfDouble_ne_zero : ∀ a < 256, a ≠ 0 → gfDouble a ≠ 0 := by decide +kernel

theorem gfDouble_eq_xor : ∀ a < 256, gfDouble a = 2 * a ^^^ 0x11D * (a / 128) := by decide +kernel

/-- The doubling is linear: the bit it reduces by is that of the sum. -/
theorem gfDouble_xor {a b : Nat} (ha : a < 256) (hb : b < 256) : gfDouble (a ^^^ b) = gfDouble a ^^^ gfDouble b := by
  have hdiv : (a ^^^ b) / 128 = a / 128 ^^^ b / 128 := Nat.xor_div_two_pow (n := 7)
  have hmul : 2 * (a ^^^ b) = 2 * a ^^^ 2 * b := by
    simpa [Nat.shiftLeft_eq, Nat.mul_comm] using Nat.shiftLeft_xor_distrib (i := 1) (a := a) (b := b)
  have hred : ∀ x < 2, ∀ y < 2, 0x11D * (x ^^^ y) = 0x11D * x ^^^ 0x11D * y := by decide
  rw [gfDouble_eq_xor _ (xor_lt_256 ha hb), gfDouble_eq_xor a ha, gfDouble_eq_xor b hb, hdiv, hmul,
    hred (a / 128) (by omega) (b / 128) (by omega)]
  ac_rfl

theorem iterate_gfDouble_lt (n : Nat) {a : Nat} (ha : a < 256) : gfDouble^[n] a < 256 := by
  induction n generalizing a with
  | zero => exact ha
  | succ n ih => exact ih (gfDouble_lt a ha)

theorem iterate_gfDouble_ne_zero (n : Nat) {a : Nat} (ha : a < 256) (h : a ≠ 0) : gfDouble^[n] a ≠ 0 := by
  induction n generalizing a with
  | zero => exact h
  | succ n ih => exact ih (gfDouble_lt a ha) (gfDouble_ne_zero a ha h)

theorem iterate_gfDouble_xor (n : Nat) {a b : Nat} (ha : a < 256) (hb : b < 256) :
    gfDouble^[n] (a ^^^ b) = gfDouble^[n] a ^^^ gfDouble^[n] b := by
  induction n generalizing a b with
  | zero => rfl
  | succ n ih =>
    simp only [Function.iterate_succ, Function.comp, gfDouble_xor ha hb]
    exact ih (gfDouble_lt a ha) (gfDouble_lt b hb)

/-- No symbol but 0 stands still under 1 to 19 doublings: a wrong symbol shows its place. -/
theorem iterate_gfDouble_ne_self : ∀ a < 256, a ≠ 0 → ∀ d < 19, gfDouble^[d + 1] a ≠ a := by decide +kernel

/-! ### Products -/

/-- One bit of the second factor: what the fold of `gfMul` does at it. -/
def gfStep (a b r i : Nat) : Nat := gfDouble r ^^^ (if bitOf b (7 - i) then a else 0)

theorem gfMul_eq_foldl (a b : Nat) : gfMul a b = (upto 8).foldl (gfStep a b) 0 := rfl

theorem gfStep_lt {a r : Nat} (ha : a < 256) (hr : r < 256) (b i : Nat) : gfStep a b r i < 256 :=
  xor_lt_256 (gfDouble_lt r hr) (by split <;> omega)

theorem gfStep_xor {q r : Nat} (hq : q < 256) (hr : r < 256) (a b c i : Nat) :
    gfStep a (b ^^^ c) (q ^^^ r) i = gfStep a b q i ^^^ gfStep a c r i := by
  have hterm : (if bitOf (b ^^^ c) (7 - i) then a else 0) =
      (if bitOf b (7 - i) then a else 0) ^^^ (if bitOf c (7 - i) then a else 0) := by
    cases hb : b.testBit (7 - i) <;> cases hc : c.testBit (7 - i) <;> simp [bitOf, Nat.testBit_xor, hb, hc]
  rw [gfStep, gfDouble_xor hq hr, hterm, gfStep, gfStep]
  ac_rfl

theorem foldl_gfStep_lt {a r : Nat} (ha : a < 256) (hr : r < 256) (b : Nat) (l : List Nat) : l.foldl (gfStep a b) r < 256 := by
  induction l generalizing r with
  | nil => exact hr
  | cons i l ih => exact ih (gfStep_lt ha hr b i)

theorem gfMul_lt {a : Nat} (ha : a < 256) (b : Nat) : gfMul a b < 256 := foldl_gfStep_lt ha (by decide) b _

theorem foldl_gfStep_xor {a q r : Nat} (ha : a < 256) (hq : q < 256) (hr : r < 256) (b c : Nat) (l : List Nat) :
    l.foldl (gfStep a (b ^^^ c)) (q ^^^ r) = l.foldl (gfStep a b) q ^^^ l.foldl (gfStep a c) r := by
  induction l generalizing q r with
  | nil => rfl
  | cons i l ih =>
    rw [List.foldl_cons, gfStep_xor hq hr]
    exact ih (gfStep_lt ha hq b i) (gfStep_lt ha hr c i)

theorem gfMul_xor {a : Nat} (ha : a < 256) (b c : Nat) : gfMul a (b ^^^ c) = gfMul a b ^^^ gfMul a c :=
  foldl_gfStep_xor ha (q := 0) (r := 0) (by decide) (by decide) b c _

/-- A factor without its top bit doubles by a shift of its bits. -/
theorem gfMul_two_mul (a : Nat) {b : Nat} (hb : b < 128) : gfMul a (2 * b) = gfDouble (gfMul a b) := by
  have hlow : bitOf (2 * b) 0 = false := by simp [bitOf]
  have hshift (k : Nat) : bitOf (2 * b) (k + 1) = bitOf b k := by
    rw [bitOf, Nat.testBit_succ, Nat.mul_div_cancel_left b Nat.two_pos, bitOf]
  have htop : bitOf b 7 = false := Nat.testBit_lt_two_pow hb
  have hzero : gfDouble 0 = 0 := rfl
  simp [gfMul, upto, List.range_succ, hlow, hshift, htop, hzero]

theorem gfMul_top : ∀ a < 256, gfMul a 0x1D = gfDouble (gfMul a 128) := by decide +kernel

theorem gfDouble_split : ∀ b < 256, gfDouble b = 2 * (b % 128) ^^^ 0x1D * (b / 128) ∧
    b = b % 128 ^^^ 128 * (b / 128) := by decide +kernel

/-- A product doubles with its second factor: the top bit stands for the polynomial it is reduced by. -/
theorem gfMul_gfDouble {a b : Nat} (ha : a < 256) (hb : b < 256) : gfMul a (gfDouble b) = gfDouble (gfMul a b) := by
  obtain ⟨hd, hsplit⟩ := gfDouble_split b hb
  have htop : gfMul a (0x1D * (b / 128)) = gfDouble (gfMul a (128 * (b / 128))) := by
    obtain h | h : b / 128 = 0 ∨ b / 128 = 1 := by omega
    · rw [h]
      exact gfMul_two_mul a (b := 0) (by decide)
    · rw [h, Nat.mul_one, Nat.mul_one, gfMul_top a ha]
  calc gfMul a (gfDouble b)
      = gfMul a (2 * (b % 128)) ^^^ gfMul a (0x1D * (b / 128)) := by rw [hd, gfMul_xor ha]
    _ = gfDouble (gfMul a (b % 128)) ^^^ gfDouble (gfMul a (128 * (b / 128))) := by
      rw [gfMul_two_mul a (Nat.mod_lt b (by decide)), htop]
    _ = gfDouble (gfMul a b) := by rw [← gfDouble_xor (gfMul_lt ha _) (gfMul_lt ha _), ← gfMul_xor ha, ← hsplit]

theorem gfPow_eq_iterate (n : Nat) : gfPow n = gfDouble^[n] 1 := by
  simp [gfPow, upto, List.foldl_const]

theorem gfMul_one : ∀ a < 256, gfMul a 1 = a := by decide +kernel

/-- Times α^n is n doublings. -/
theorem gfMul_gfPow {a : Nat} (ha : a < 256) (n : Nat) : gfMul a (gfPow n) = gfDouble^[n] a := by
  rw [gfPow_eq_iterate]
  induction n with
  | zero => exact gfMul_one a ha
  | succ n ih =>
    rw [Function.iterate_succ_apply', Function.iterate_succ_apply', gfMul_gfDouble ha (iterate_gfDouble_lt n (by decide)), ih]

/-! ### Syndromes (R441, R442) -/

/-- A polynomial, `r` its part of higher powers, at the point of `i` doublings. -/
def evalFrom (i r : Nat) (w : List Nat) : Nat := w.foldl (fun r s => gfDouble^[i] r ^^^ s) r

theorem evalFrom_nil (i r : Nat) : evalFrom i r [] = r := rfl

theorem evalFrom_cons (i r s : Nat) (w : List Nat) : evalFrom i r (s :: w) = evalFrom i (gfDouble^[i] r ^^^ s) w := rfl

theorem evalFrom_append (i r : Nat) (u v : List Nat) : evalFrom i r (u ++ v) = evalFrom i (evalFrom i r u) v :=
  List.foldl_append

theorem evalFrom_lt (i : Nat) {r : Nat} (hr : r < 256) {w : List Nat} (hw : ∀ s ∈ w, s < 256) : evalFrom i r w < 256 := by
  induction w generalizing r with
  | nil => exact hr
  | cons s w ih =>
    obtain ⟨hs, hw⟩ := List.forall_mem_cons.mp hw
    exact ih (xor_lt_256 (iterate_gfDouble_lt i hr) hs) hw

theorem rsSyndrome_eq_evalFrom (i : Nat) {w : List Nat} (hw : ∀ s ∈ w, s < 256) : rsSyndrome w i = evalFrom i 0 w := by
  suffices h : ∀ r < 256, w.foldl (fun r s => gfMul r (gfPow i) ^^^ s) r = evalFrom i r w from h 0 (by decide)
  induction w with
  | nil => exact fun _ _ => rfl
  | cons s w ih =>
    intro r hr
    obtain ⟨hs, hw⟩ := List.forall_mem_cons.mp hw
    rw [List.foldl_cons, gfMul_gfPow hr, evalFrom_cons]
    exact ih hw _ (xor_lt_256 (iterate_gfDouble_lt i hr) hs)

/-- A change of the higher part shows at the end, once more doubled for each symbol that follows. -/
theorem evalFrom_xor (i : Nat) {r e : Nat} (hr : r < 256) (he : e < 256) {w : List Nat} (hw : ∀ s ∈ w, s < 256) :
    evalFrom i (r ^^^ e) w = evalFrom i r w ^^^ gfDouble^[i * w.length] e := by
  induction w generalizing r e with
  | nil => rfl
  | cons s w ih =>
    obtain ⟨hs, hw⟩ := List.forall_mem_cons.mp hw
    have hstep : gfDouble^[i] (r ^^^ e) ^^^ s = (gfDouble^[i] r ^^^ s) ^^^ gfDouble^[i] e := by
      rw [iterate_gfDouble_xor i hr he]
      ac_rfl
    rw [evalFrom_cons, hstep, ih (xor_lt_256 (iterate_gfDouble_lt i hr) hs) (iterate_gfDouble_lt i he) hw,
      evalFrom_cons, ← Function.iterate_add_apply, List.length_cons, Nat.mul_succ]

/-- R442: a wrong symbol shows in each syndrome as its change times the power of its place. -/
theorem rsSyndrome_set (i : Nat) {w : List Nat} (hw : ∀ s ∈ w, s < 256) {j : Nat} (hj : j < w.length) {e : Nat} (he : e < 256) :
    rsSyndrome (w.set j (w.getD j 0 ^^^ e)) i = rsSyndrome w i ^^^ gfDouble^[i * (w.length - 1 - j)] e := by
  have hget : w.getD j 0 = w[j] := by simp [hj]
  have hx : w[j] < 256 := hw _ (List.getElem_mem hj)
  have htake : ∀ s ∈ w.take j, s < 256 := fun s hs => hw s (List.mem_of_mem_take hs)
  have hdrop : ∀ s ∈ w.drop (j + 1), s < 256 := fun s hs => hw s (List.mem_of_mem_drop hs)
  have hset : ∀ s ∈ w.set j (w[j] ^^^ e), s < 256 := fun s hs =>
    (List.mem_or_eq_of_mem_set hs).elim (hw s) (fun h => h ▸ xor_lt_256 hx he)
  have hw' : w = w.take j ++ w[j] :: w.drop (j + 1) := by simp
  rw [hget, rsSyndrome_eq_evalFrom i hset, rsSyndrome_eq_evalFrom i hw, List.set_eq_take_append_cons_drop, if_pos hj,
    evalFrom_append, evalFrom_cons, ← Nat.xor_assoc,
    evalFrom_xor i (xor_lt_256 (iterate_gfDouble_lt i (evalFrom_lt i (by decide) htake)) hx) he hdrop,
    ← evalFrom_cons, ← evalFrom_append, ← hw', List.length_drop, Nat.sub_sub, Nat.add_comm 1 j]

/-! ### Codewords (R441) -/

theorem evalFrom_zipWith_xor (i : Nat) {r e : Nat} (hr : r < 256) (he : e < 256) {u v : List Nat} (hlen : u.length = v.length)
    (hu : ∀ s ∈ u, s < 256) (hv : ∀ s ∈ v, s < 256) :
    evalFrom i (r ^^^ e) (List.zipWith (· ^^^ ·) u v) = evalFrom i r u ^^^ evalFrom i e v := by
  induction u generalizing r e v with
  | nil => cases v with
    | nil => rfl
    | cons t v => cases hlen
  | cons s u ih => cases v with
    | nil => cases hlen
    | cons t v =>
      obtain ⟨hs, hu⟩ := List.forall_mem_cons.mp hu
      obtain ⟨ht, hv⟩ := List.forall_mem_cons.mp hv
      have hstep : gfDouble^[i] (r ^^^ e) ^^^ (s ^^^ t) = (gfDouble^[i] r ^^^ s) ^^^ (gfDouble^[i] e ^^^ t) := by
        rw [iterate_gfDouble_xor i hr he]
        ac_rfl
      rw [List.zipWith_cons_cons, evalFrom_cons, hstep, evalFrom_cons, evalFrom_cons]
      exact ih (xor_lt_256 (iterate_gfDouble_lt i hr) hs) (xor_lt_256 (iterate_gfDouble_lt i he) ht)
        (Nat.succ.inj hlen) hu hv

/-- One data symbol of the division by the generator. -/
def parityStep (r : List Nat) (d : Nat) : List Nat :=
  List.zipWith (· ^^^ ·) (r.drop 1 ++ [0]) (rsGenerator.map (gfMul (d ^^^ r.headD 0)))

theorem rsParity_eq_foldl (data : List Nat) : rsParity data = data.foldl parityStep [0, 0, 0, 0] := rfl

/-- The first four powers of α are roots of the generator. -/
theorem evalFrom_generator : ∀ i < 4, ∀ f < 256, evalFrom i f (rsGenerator.map (gfMul f)) = 0 := by decide +kernel

theorem forall_mem_zipWith_xor {u v : List Nat} (hu : ∀ s ∈ u, s < 256) (hv : ∀ s ∈ v, s < 256) :
    ∀ s ∈ List.zipWith (· ^^^ ·) u v, s < 256 := by
  intro s hs
  obtain ⟨n, hn, rfl⟩ := List.getElem_of_mem hs
  rw [List.getElem_zipWith]
  exact xor_lt_256 (hu _ (List.getElem_mem _)) (hv _ (List.getElem_mem _))

theorem forall_mem_map_gfMul {f : Nat} (hf : f < 256) (g : List Nat) : ∀ s ∈ g.map (gfMul f), s < 256 := by
  intro s hs
  obtain ⟨x, -, rfl⟩ := List.mem_map.mp hs
  exact gfMul_lt hf x

/-- A remainder of the division: four symbols, with which the data so far are a multiple of the generator. -/
def IsRemainder (r data : List Nat) : Prop :=
  r.length = 4 ∧ (∀ s ∈ r, s < 256) ∧ ∀ i < 4, evalFrom i 0 (data ++ r) = 0

theorem isRemainder_parityStep {r data : List Nat} (h : IsRemainder r data) (hdata : ∀ s ∈ data, s < 256) {d : Nat} (hd : d < 256) :
    IsRemainder (parityStep r d) (data ++ [d]) := by
  obtain ⟨hlen, hr, heval⟩ := h
  obtain ⟨a, t, rfl⟩ := List.exists_cons_of_length_eq_add_one hlen
  obtain ⟨ha, ht⟩ := List.forall_mem_cons.mp hr
  have hf : d ^^^ a < 256 := xor_lt_256 hd ha
  have hu : ∀ s ∈ t ++ [0], s < 256 := by
    intro s hs
    obtain hs | hs := List.mem_append.mp hs
    · exact ht s hs
    · rw [List.mem_singleton.mp hs]; decide
  have hv := forall_mem_map_gfMul hf rsGenerator
  have hlens : (t ++ [0]).length = (rsGenerator.map (gfMul (d ^^^ a))).length := by
    rw [List.length_map, test_generator, List.length_append]
    exact hlen
  refine ⟨?_, forall_mem_zipWith_xor hu hv, fun i hi => ?_⟩
  · simp [parityStep, test_generator, Nat.succ.inj hlen]
  · have hy : gfDouble^[i] (evalFrom i 0 data) < 256 := iterate_gfDouble_lt i (evalFrom_lt i (by decide) hdata)
    have hshift : evalFrom i (gfDouble^[i] (evalFrom i 0 data) ^^^ a) (t ++ [0]) = 0 := by
      have h0 : evalFrom i (gfDouble^[i] (evalFrom i 0 data) ^^^ a) t = 0 := by
        rw [← evalFrom_cons, ← evalFrom_append, heval i hi]
      rw [evalFrom_append, h0, evalFrom_cons, evalFrom_nil, Nat.xor_zero]
      exact Function.iterate_fixed rfl i
    have hsplit : gfDouble^[i] (evalFrom i 0 data) ^^^ d = (gfDouble^[i] (evalFrom i 0 data) ^^^ a) ^^^ (d ^^^ a) := by
      rw [Nat.xor_comm d a, ← Nat.xor_assoc, Nat.xor_assoc _ a a, Nat.xor_self, Nat.xor_zero]
    rw [evalFrom_append, evalFrom_append, evalFrom_cons, evalFrom_nil, hsplit]
    exact (evalFrom_zipWith_xor i (xor_lt_256 hy ha) hf hlens hu hv).trans (by rw [hshift, evalFrom_generator i hi _ hf]; rfl)

theorem isRemainder_rsParity {data : List Nat} (hdata : ∀ s ∈ data, s < 256) : IsRemainder (rsParity data) data := by
  suffices h : ∀ (todo done r : List Nat), (∀ s ∈ done, s < 256) → (∀ s ∈ todo, s < 256) → IsRemainder r done →
      IsRemainder (todo.foldl parityStep r) (done ++ todo) from
    h data [] [0, 0, 0, 0] (by simp) hdata (by unfold IsRemainder; decide)
  intro todo
  induction todo with
  | nil => intro done r _ _ h; rwa [List.append_nil]
  | cons d todo ih =>
    intro done r hdone htodo h
    obtain ⟨hd, htodo⟩ := List.forall_mem_cons.mp htodo
    have hdone' : ∀ s ∈ done ++ [d], s < 256 := by simpa [or_imp, forall_and] using ⟨hdone, hd⟩
    rw [List.append_cons]
    exact ih _ _ hdone' htodo (isRemainder_parityStep h hdone hd)

/-- The codeword `m` of a granule as written. -/
def codeword (l : List Byte) (m : Nat) : List Nat := dataSymbols l m ++ rsParity (dataSymbols l m)

theorem codewords_eq_map (l : List Byte) : codewords l = (upto 8).map (codeword l) := rfl

theorem slice4_lt (n lo : Nat) : slice n lo 4 < 16 := Nat.mod_lt _ (by decide)

theorem dataSymbols_lt (l : List Byte) (m : Nat) : ∀ s ∈ dataSymbols l m, s < 256 := by
  intro s hs
  obtain ⟨j, -, rfl⟩ := List.mem_map.mp hs
  have h0 : nibbleAt l (j / 8) (2 * m) (j % 8) < 16 := slice4_lt _ _
  have h1 : nibbleAt l (j / 8) (2 * m + 1) (j % 8) < 16 := slice4_lt _ _
  omega

theorem isRemainder_codeword (l : List Byte) (m : Nat) : IsRemainder (rsParity (dataSymbols l m)) (dataSymbols l m) :=
  isRemainder_rsParity (dataSymbols_lt l m)

theorem codeword_length (l : List Byte) (m : Nat) : (codeword l m).length = 20 := by
  rw [codeword, List.length_append, (isRemainder_codeword l m).1]
  rfl

theorem codeword_lt (l : List Byte) (m : Nat) : ∀ s ∈ codeword l m, s < 256 := fun s hs =>
  (List.mem_append.mp hs).elim (dataSymbols_lt l m s) ((isRemainder_codeword l m).2.1 s)

theorem rsSyndrome_codeword (l : List Byte) (m : Nat) {i : Nat} (hi : i < 4) : rsSyndrome (codeword l m) i = 0 := by
  rw [rsSyndrome_eq_evalFrom i (codeword_lt l m)]
  exact (isRemainder_codeword l m).2.2 i hi

/-! ### What a codeword shows (R442) -/

theorem rsFind_codeword (l : List Byte) (m : Nat) : rsFind (codeword l m) = .clean := by
  have hs : (upto 4).map (rsSyndrome (codeword l m)) = [0, 0, 0, 0] := by simp [upto, List.range_succ, rsSyndrome_codeword]
  rw [rsFind, if_pos hs]

/-- A symbol that is not 0 never comes back within 19 doublings. -/
theorem iterate_gfDouble_ne {e : Nat} (he : e < 256) (h0 : e ≠ 0) {x y : Nat} (hxy : x < y) (hy : y < 20) :
    gfDouble^[x] e ≠ gfDouble^[y] e := by
  obtain ⟨d, rfl⟩ : ∃ d, y = (d + 1) + x := ⟨y - x - 1, by omega⟩
  rw [Function.iterate_add_apply]
  exact (iterate_gfDouble_ne_self _ (iterate_gfDouble_lt x he) (iterate_gfDouble_ne_zero x he h0) d (by omega)).symm

theorem iterate_gfDouble_inj {e : Nat} (he : e < 256) (h0 : e ≠ 0) {x y : Nat} (hx : x < 20) (hy : y < 20)
    (h : gfDouble^[x] e = gfDouble^[y] e) : x = y := by
  rcases Nat.lt_trichotomy x y with hlt | heq | hgt
  · exact absurd h (iterate_gfDouble_ne he h0 hlt hy)
  · exact heq
  · exact absurd h.symm (iterate_gfDouble_ne he h0 hgt hx)

/-- A codeword with the change `e` of its symbol `j`. -/
def spoiled (l : List Byte) (m j e : Nat) : List Nat := (codeword l m).set j ((codeword l m).getD j 0 ^^^ e)

theorem rsSyndrome_spoiled (l : List Byte) (m : Nat) {i j e : Nat} (hi : i < 4) (hj : j < 20) (he : e < 256) :
    rsSyndrome (spoiled l m j e) i = gfDouble^[i * (19 - j)] e := by
  rw [spoiled, rsSyndrome_set i (codeword_lt l m) (by rwa [codeword_length]) he, rsSyndrome_codeword l m hi, Nat.zero_xor,
    codeword_length]

/-- The test by which a symbol is found: the syndromes are those of the change `e` there. -/
def showsAt (s : List Nat) (e j : Nat) : Bool :=
  e != 0 && (upto 4).all (fun i => s.getD i 0 == gfMul e (gfPow (i * (19 - j))))

theorem rsFind_of_find {w s : List Nat} {j e : Nat} (hs : (upto 4).map (rsSyndrome w) = s) (he : s.headD 0 = e)
    (h0 : e ≠ 0) (hf : (upto 20).find? (showsAt s e) = some j) : rsFind w = .single j e := by
  have hne : s ≠ [0, 0, 0, 0] := fun h => h0 (by rw [← he, h]; rfl)
  unfold showsAt at hf
  rw [rsFind, hs, he, if_neg hne, hf]

theorem rsFind_spoiled (l : List Byte) (m : Nat) {j e : Nat} (hj : j < 20) (he : e < 256) (h0 : e ≠ 0) :
    rsFind (spoiled l m j e) = .single j e := by
  have hs : (upto 4).map (rsSyndrome (spoiled l m j e)) = (upto 4).map (fun i => gfDouble^[i * (19 - j)] e) :=
    List.map_congr_left fun i hi => rsSyndrome_spoiled l m (List.mem_range.mp hi) hj he
  have hhead : ((upto 4).map (fun i => gfDouble^[i * (19 - j)] e)).headD 0 = e := by simp [upto, List.range_succ]
  have hshows (k : Nat) : showsAt ((upto 4).map (fun i => gfDouble^[i * (19 - j)] e)) e k = true ↔
      ∀ i < 4, gfDouble^[i * (19 - j)] e = gfDouble^[i * (19 - k)] e := by
    have hget (i : Nat) (hi : i < 4) : ((upto 4).map (fun i => gfDouble^[i * (19 - j)] e)).getD i 0 = gfDouble^[i * (19 - j)] e := by
      simp [upto, hi]
    simp only [showsAt, Bool.and_eq_true, bne_iff_ne, List.all_eq_true, upto, List.mem_range, beq_iff_eq, gfMul_gfPow he]
    exact ⟨fun h i hi => (hget i hi).symm.trans (h.2 i hi), fun h => ⟨h0, fun i hi => (hget i hi).trans (h i hi)⟩⟩
  refine rsFind_of_find hs hhead h0 (List.find?_range_eq_some.mpr ⟨(hshows j).mpr fun _ _ => rfl, List.mem_range.mpr hj, fun k hk => ?_⟩)
  rw [Bool.not_eq_true', Bool.eq_false_iff]
  intro h
  have hplace := (hshows k).mp h 1 (by decide)
  rw [Nat.one_mul, Nat.one_mul] at hplace
  have := iterate_gfDouble_inj he h0 (by omega) (by omega) hplace
  omega

theorem corrected_codeword (l : List Byte) (m : Nat) : corrected (codeword l m) = codeword l m := by
  rw [corrected, rsFind_codeword]

theorem corrected_spoiled (l : List Byte) (m : Nat) {j e : Nat} (hj : j < 20) (he : e < 256) (h0 : e ≠ 0) :
    corrected (spoiled l m j e) = codeword l m := by
  have hlen : j < (codeword l m).length := by rwa [codeword_length]
  rw [corrected, rsFind_spoiled l m hj he h0]
  simp [spoiled, hlen]

/-! ### The bytes of a granule (R441) -/

theorem byte_eq_nibbles (b : Byte) : BitVec.ofNat 8 (slice b.toNat 0 4 + slice b.toNat 4 4 * 16) = b := by
  apply BitVec.eq_of_toNat_eq
  have := b.isLt
  simp only [slice, BitVec.toNat_ofNat, Nat.shiftRight_eq_div_pow]
  omega

/-- A symbol of data holds two nibbles of its device, of two beats of the granule. -/
theorem slice_codeword (l : List Byte) {m k h : Nat} (hk : k < 16) (hh : h < 2) :
    slice ((codeword l m).getD k 0) (4 * h) 4 = nibbleAt l (k / 8) (2 * m + h) (k % 8) := by
  have hget : (codeword l m).getD k 0 =
      nibbleAt l (k / 8) (2 * m) (k % 8) + nibbleAt l (k / 8) (2 * m + 1) (k % 8) * 16 := by
    simp [codeword, dataSymbols, upto, List.getElem?_append_left, hk]
  have h0 : nibbleAt l (k / 8) (2 * m) (k % 8) < 16 := slice4_lt _ _
  have h1 : nibbleAt l (k / 8) (2 * m + 1) (k % 8) < 16 := slice4_lt _ _
  rw [hget]
  obtain rfl | rfl : h = 0 ∨ h = 1 := by omega
  · simp only [slice, Nat.mul_zero, Nat.shiftRight_zero, Nat.add_zero]
    omega
  · rw [slice, Nat.shiftRight_eq_div_pow]
    omega

/-- The nibble of the byte at `a` that lies in the low (`h` 0) or high (`h` 1) half. -/
theorem nibbleAt_of_byte (l : List Byte) {a h : Nat} (hh : h < 2) :
    nibbleAt l ((8 * (a / 64) + (2 * (a % 4) + h)) / 8) (2 * (a % 64 / 4 / 2) + a % 64 / 4 % 2)
      ((8 * (a / 64) + (2 * (a % 4) + h)) % 8) = slice (l.getD a 0).toNat (4 * h) 4 := by
  have hsub : (8 * (a / 64) + (2 * (a % 4) + h)) / 8 = a / 64 := by omega
  have hdev : (8 * (a / 64) + (2 * (a % 4) + h)) % 8 = 2 * (a % 4) + h := by omega
  have haddr : 64 * (a / 64) + 4 * (2 * (a % 64 / 4 / 2) + a % 64 / 4 % 2) + (2 * (a % 4) + h) / 2 = a := by omega
  have hhalf : (2 * (a % 4) + h) % 2 = h := by omega
  rw [hsub, hdev, nibbleAt, haddr, hhalf]

theorem granuleBytes_codewords {l : List Byte} (hl : l.length = 128) : granuleBytes (codewords l) = l := by
  have hself : l = (upto 128).map (fun a => l.getD a 0) := by
    refine List.ext_getElem (by simp [upto, hl]) fun a ha _ => ?_
    simp [upto, ha]
  refine Eq.trans (List.map_congr_left fun a ha => ?_) hself.symm
  have ha : a < 128 := List.mem_range.mp ha
  have hword : (codewords l).getD (a % 64 / 4 / 2) [] = codeword l (a % 64 / 4 / 2) := by
    have h8 : a % 64 / 4 / 2 < 8 := by omega
    simp [codewords_eq_map, upto, h8]
  have hnib (h : Nat) (hh : h < 2) :
      slice ((codeword l (a % 64 / 4 / 2)).getD (8 * (a / 64) + (2 * (a % 4) + h)) 0) (4 * (a % 64 / 4 % 2)) 4 =
        slice (l.getD a 0).toNat (4 * h) 4 :=
    (slice_codeword l (by omega) (by omega)).trans (nibbleAt_of_byte l hh)
  simp only [hword]
  rw [hnib 1 (by decide), show 2 * (a % 4) = 2 * (a % 4) + 0 from rfl, hnib 0 (by decide)]
  exact byte_eq_nibbles _

/-! ### A read (R442) -/

/-- A read in which codeword `word` alone shows a wrong symbol `j`. -/
theorem findingOf_single (j e : Nat) : ∀ word < 8,
    findingOf ((upto 8).map (fun m => if word = m then .single j e else .clean)) = .corrected j := by
  intro word hword
  interval_cases word <;> simp [findingOf, upto, List.range_succ]

theorem withErrors_single (l : List Byte) (e : SymbolError) (m : Nat) :
    withErrors [e] m (codeword l m) = if e.word = m then spoiled l m e.symbol e.bits else codeword l m := rfl

theorem eccRead_single {l : List Byte} (hl : l.length = 128) {e : SymbolError} (hw : e.word < 8) (hs : e.symbol < 20)
    (h0 : 0 < e.bits) (hb : e.bits < 256) : eccRead l [e] = (.corrected e.symbol, l) := by
  have hwords : (codewords l).zipIdx.map (fun p => withErrors [e] p.2 p.1) =
      (upto 8).map (fun m => if e.word = m then spoiled l m e.symbol e.bits else codeword l m) := by
    simp [codewords_eq_map, upto, List.range_succ, withErrors_single]
  have hfind (m : Nat) : rsFind (if e.word = m then spoiled l m e.symbol e.bits else codeword l m) =
      if e.word = m then .single e.symbol e.bits else .clean := by
    split
    · exact rsFind_spoiled l m hs hb (by omega)
    · exact rsFind_codeword l m
  have hcorrected (m : Nat) : corrected (if e.word = m then spoiled l m e.symbol e.bits else codeword l m) = codeword l m := by
    split
    · exact corrected_spoiled l m hs hb (by omega)
    · exact corrected_codeword l m
  simp only [eccRead, List.isEmpty_cons, Bool.false_eq_true, if_false, hwords, List.map_map, Function.comp_def, hfind, hcorrected]
  rw [findingOf_single _ _ _ hw, ← codewords_eq_map, granuleBytes_codewords hl]

theorem readGranule_single (s : State) (m a cls : Nat) {e : SymbolError} (hp : s.mem.poisoned.contains (granule a) = false)
    (hw : e.word < 8) (hs : e.symbol < 20) (h0 : 0 < e.bits) (hb : e.bits < 256) :
    readGranule m a cls [e] s = s.finding m a cls (.corrected e.symbol) := by
  have hread := eccRead_single (l := (upto 128).map (fun i => cellGet s.mem.dram (granule a + i))) (by simp [upto]) hw hs h0 hb
  simp only [readGranule, hp, hread, Bool.false_eq_true, if_false, List.isEmpty_cons, or_true, if_true]

end Sys2Proof.Machine

/-- Settles O25: the change of one symbol shows in every syndrome as its multiple by the power of its place, which no
other place gives; the codeword is corrected to what was written, and its nibbles are the bytes of the granule. -/
theorem singleSymbolErrorIsCorrected : Obligations.SingleSymbolErrorIsCorrected := by
  unfold Obligations.SingleSymbolErrorIsCorrected
  exact ⟨fun _ _ hl hw hs h0 hb => eccRead_single hl hw hs h0 hb,
    fun s m a cls _ hp hw hs h0 hb => readGranule_single s m a cls hp hw hs h0 hb⟩

end


section
/-! PROOFS, the scrambler (07_lanes.md): each line bit after R322 in terms of the line bits before it. -/

open Sys2Proof Sys2Proof.Machine

namespace Sys2Proof.Machine

theorem testBit_join {a n : Nat} (ha : a < 2 ^ n) (b i : Nat) :
    (a + b * 2 ^ n).testBit i = if i < n then a.testBit i else b.testBit (i - n) := by
  rw [Nat.add_comm, Nat.mul_comm, Nat.testBit_two_pow_mul_add b ha]

theorem scrambleBits_lt (n st d : Nat) : scrambleBits n st d < 2 ^ n := Nat.mod_lt _ (Nat.two_pow_pos n)

theorem testBit_scrambleBits {n i : Nat} (hi : i < n) (st d : Nat) :
    (scrambleBits n st d).testBit i = (d.testBit i ^^ st.testBit (i + 19) ^^ st.testBit i) := by
  rw [scrambleBits, Nat.testBit_mod_two_pow, Nat.testBit_xor, Nat.testBit_xor, Nat.testBit_div_two_pow, decide_eq_true hi,
    Bool.true_and]

theorem scramble_lt (st d : Nat) : scramble st d < 2 ^ 64 := by
  have hlo := scrambleBits_lt 39 st d
  have hhi := scrambleBits_lt 25 ((st + scrambleBits 39 st d * 2 ^ 58) / 2 ^ 39) (d / 2 ^ 39)
  rw [scramble]
  generalize scrambleBits 25 _ _ = hi at *
  omega

theorem testBit_scramble (st d i : Nat) : (scramble st d).testBit i =
    if i < 39 then (scrambleBits 39 st d).testBit i
    else (scrambleBits 25 ((st + scrambleBits 39 st d * 2 ^ 58) / 2 ^ 39) (d / 2 ^ 39)).testBit (i - 39) :=
  testBit_join (scrambleBits_lt 39 st d) _ i

/-- R322: a line bit is its payload bit with the line bits 39 and 58 before it. The first 39 reach back to the state
alone, the other 25 to the state and to the first 39. -/
theorem testBit_line {st : Nat} (hst : st < 2 ^ 58) (d : Nat) {i : Nat} (hi : i < 64) :
    (st + scramble st d * 2 ^ 58).testBit (58 + i) = (d.testBit i ^^ (st + scramble st d * 2 ^ 58).testBit (i + 19) ^^
      (st + scramble st d * 2 ^ 58).testBit i) := by
  have hnew : (st + scramble st d * 2 ^ 58).testBit (58 + i) = (scramble st d).testBit i := by
    rw [testBit_join hst, if_neg (by omega), Nat.add_sub_cancel_left]
  by_cases hlo : i < 39
  · rw [hnew, testBit_scramble, if_pos hlo, testBit_scrambleBits hlo, testBit_join hst, if_pos (by omega),
      testBit_join hst, if_pos (by omega)]
  · have hback (j : Nat) (hj : j < 97) :
        (st + scramble st d * 2 ^ 58).testBit j = (st + scrambleBits 39 st d * 2 ^ 58).testBit j := by
      rw [testBit_join hst, testBit_join hst]
      split
      · rfl
      · rw [testBit_scramble, if_pos (by omega)]
    rw [hnew, testBit_scramble, if_neg hlo, testBit_scrambleBits (by omega), Nat.testBit_div_two_pow,
      Nat.testBit_div_two_pow, Nat.testBit_div_two_pow, hback _ (by omega), hback _ (by omega),
      show i - 39 + 39 = i by omega, show i - 39 + 19 + 39 = i + 19 by omega]

theorem xor_cancel : ∀ a b c : Bool, ((a ^^ b ^^ c) ^^ b ^^ c) = a := by decide

theorem descramble_scramble {st d : Nat} (hst : st < 2 ^ 58) (hd : d < 2 ^ 64) : descramble st (scramble st d) = d := by
  refine Nat.eq_of_testBit_eq fun i => ?_
  rw [descramble, Nat.testBit_mod_two_pow]
  by_cases hi : i < 64
  · have hline := testBit_line hst d hi
    rw [testBit_join hst, if_neg (by omega), Nat.add_sub_cancel_left] at hline
    rw [decide_eq_true hi, Bool.true_and, Nat.testBit_xor, Nat.testBit_xor, Nat.testBit_div_two_pow, hline]
    exact xor_cancel _ _ _
  · rw [decide_eq_false hi, Bool.false_and, Nat.testBit_lt_two_pow (Nat.lt_of_lt_of_le hd (Nat.pow_le_pow_right Nat.two_pos (by omega)))]

theorem lineTail_scramble {st : Nat} (hst : st < 2 ^ 58) (d : Nat) :
    lineTail (scramble st d) = (st + scramble st d * 2 ^ 58) / 2 ^ 64 := by
  have := scramble_lt st d
  unfold lineTail
  omega

end Sys2Proof.Machine

/-- Settles O21: each line bit is its payload bit with two line bits before it, which the receiver holds as well (R322). -/
theorem descramblerUndoesScrambler : Obligations.DescramblerUndoesScrambler := by
  unfold Obligations.DescramblerUndoesScrambler
  exact fun st d hst hd => ⟨scramble_lt st d, descramble_scramble hst hd, lineTail_scramble hst d,
    fun _ hi => testBit_line hst d hi⟩

end

section
/-! PROOFS, claims and ranks (12_sluice.md, 04_fantail.md): the source that a scan over all of them keeps, and the key by
which the fantail orders spindles. -/

open Sys2Proof Sys2Proof.Machine

namespace Sys2Proof.Machine

/-! ### The source of a claim (R510) -/

/-- The better of the source kept so far and `s`. -/
def betterSource (c : Ctl) (x : Nat) (b : Option Nat) (s : Nat) : Option Nat :=
  if c.deliverable x s then
    match b with
    | none => some s
    | some t => if c.srcPrio t < c.srcPrio s then some s else some t
  else b

theorem bestSource_eq_foldl (c : Ctl) (x : Nat) : c.bestSource x = (upto 64).foldl (betterSource c x) none := rfl

/-- `s` is deliverable and precedes every other deliverable source below `n`. -/
def BestBelow (c : Ctl) (x n s : Nat) : Prop :=
  s < n ∧ c.deliverable x s = true ∧
    ∀ t, t < n → c.deliverable x t = true → c.srcPrio t < c.srcPrio s ∨ (c.srcPrio t = c.srcPrio s ∧ s ≤ t)

/-- What is kept after the sources below `n`. -/
def KeptBelow (c : Ctl) (x n : Nat) : Option Nat → Prop
  | none => ∀ t, t < n → c.deliverable x t = false
  | some s => BestBelow c x n s

theorem keptBelow_betterSource {c : Ctl} {x n : Nat} {b : Option Nat} (h : KeptBelow c x n b) :
    KeptBelow c x (n + 1) (betterSource c x b n) := by
  unfold betterSource
  split
  case isTrue hn =>
    cases b with
    | none =>
      refine ⟨n.lt_succ_self, hn, fun t ht hdel => ?_⟩
      obtain ht | rfl := Nat.lt_succ_iff_lt_or_eq.mp ht
      · rw [h t ht] at hdel; cases hdel
      · exact .inr ⟨rfl, Nat.le_refl _⟩
    | some s =>
      obtain ⟨hs, hdel, hbest⟩ := h
      dsimp only
      split
      · refine ⟨n.lt_succ_self, hn, fun t ht htdel => ?_⟩
        obtain ht | rfl := Nat.lt_succ_iff_lt_or_eq.mp ht
        · have := hbest t ht htdel
          omega
        · exact .inr ⟨rfl, Nat.le_refl _⟩
      · refine ⟨Nat.lt_succ_of_lt hs, hdel, fun t ht htdel => ?_⟩
        obtain ht | rfl := Nat.lt_succ_iff_lt_or_eq.mp ht
        · exact hbest t ht htdel
        · omega
  case isFalse hn =>
    have hlast (t : Nat) (ht : t < n + 1) (hdel : c.deliverable x t = true) : t < n := by
      obtain ht | rfl := Nat.lt_succ_iff_lt_or_eq.mp ht
      · exact ht
      · exact absurd hdel hn
    cases b with
    | none => exact fun t ht => Bool.eq_false_iff.mpr fun hdel => Bool.eq_false_iff.mp (h t (hlast t ht hdel)) hdel
    | some s =>
      obtain ⟨hs, hdel, hbest⟩ := h
      exact ⟨Nat.lt_succ_of_lt hs, hdel, fun t ht htdel => hbest t (hlast t ht htdel) htdel⟩

theorem keptBelow_foldl (c : Ctl) (x n : Nat) : KeptBelow c x n ((upto n).foldl (betterSource c x) none) := by
  induction n with
  | zero => exact fun _ ht => absurd ht (Nat.not_lt_zero _)
  | succ n ih =>
    rw [upto, List.range_succ, List.foldl_append]
    exact keptBelow_betterSource ih

theorem BestBelow.unique {c : Ctl} {x n s t : Nat} (hs : BestBelow c x n s) (ht : BestBelow c x n t) : s = t := by
  obtain ⟨hsn, hsdel, hsbest⟩ := hs
  obtain ⟨htn, htdel, htbest⟩ := ht
  have h1 := hsbest t htn htdel
  have h2 := htbest s hsn hsdel
  omega

theorem bestSource_eq_some_iff (c : Ctl) (x s : Nat) : c.bestSource x = some s ↔ BestBelow c x 64 s := by
  have h : KeptBelow c x 64 (c.bestSource x) := keptBelow_foldl c x 64
  cases hb : c.bestSource x with
  | none =>
    rw [hb] at h
    exact ⟨fun e => (nomatch e), fun ⟨hs, hdel, _⟩ => absurd hdel (Bool.eq_false_iff.mp (h s hs))⟩
  | some t =>
    rw [hb] at h
    exact ⟨fun e => Option.some.inj e ▸ h, fun hs => congrArg some (BestBelow.unique h hs)⟩

theorem bestSource_eq_none_iff (c : Ctl) (x : Nat) :
    c.bestSource x = none ↔ ∀ t, t < 64 → c.deliverable x t = false := by
  have h : KeptBelow c x 64 (c.bestSource x) := keptBelow_foldl c x 64
  cases hb : c.bestSource x with
  | none => rw [hb] at h; exact ⟨fun _ => h, fun _ => rfl⟩
  | some t =>
    rw [hb] at h
    obtain ⟨ht, hdel, -⟩ := h
    exact ⟨fun e => (nomatch e), fun hno => absurd hdel (Bool.eq_false_iff.mp (hno t ht))⟩

/-! ### The key of the fantail (R203) -/

theorem rankKey_eq_or (p c : Nat) {n : Nat} (hn : n < 32) :
    rankKey p c n = (p <<< 11 ||| (63 - c) <<< 5 ||| (31 - n)) := by
  have hclass : (63 - c) <<< 5 ||| (31 - n) = (63 - c) * 2 ^ 5 + (31 - n) := by
    rw [← Nat.shiftLeft_add_eq_or_of_lt (by omega), Nat.shiftLeft_eq]
  rw [Nat.or_assoc, hclass, ← Nat.shiftLeft_add_eq_or_of_lt (by omega), Nat.shiftLeft_eq, rankKey, Nat.add_assoc]

end Sys2Proof.Machine

/-- Settles O27: the scan over the sources keeps the best of those it has met, and two best ones are the same (R510). -/
theorem claimTakesBestDeliverableSource : Obligations.ClaimTakesBestDeliverableSource := by
  unfold Obligations.ClaimTakesBestDeliverableSource
  exact ⟨bestSource_eq_some_iff, bestSource_eq_none_iff⟩

/-- Settles O17: the three parts of the key lie apart in it, so keys compare part by part (R203). -/
theorem fantailKeyIsATotalOrder : Obligations.FantailKeyIsATotalOrder := by
  unfold Obligations.FantailKeyIsATotalOrder
  intro p q c d n m hp hq hc hd hn hm
  refine ⟨rankKey_eq_or p c (by omega), ?_, ?_, ?_⟩
  all_goals
    unfold rankKey
    omega

end

section
/-! PROOFS, speeds and accelerations (02_vector_streams.md, 03_spindles.md): the bounds of R72, R138 and R139. -/

open Sys2Proof Sys2Proof.Machine

namespace Sys2Proof.Machine

theorem pMarkAccel_of_zero {p : Prof} (h : fieldAt p 4 2 = 0) : pMarkAccel p = accelLsb := by
  rw [pMarkAccel, h, Nat.max_eq_left (by decide), Nat.cast_one, one_mul]

theorem pJumpAccel_of_zero {p : Prof} (h : fieldAt p 6 2 = 0) : pJumpAccel p = accelLsb := by
  rw [pJumpAccel, h, Nat.max_eq_left (by decide), Nat.cast_one, one_mul]

theorem pMarkAccel_of_ne_zero {p : Prof} (h : fieldAt p 4 2 ≠ 0) : pMarkAccel p = fieldAt p 4 2 * accelLsb := by
  rw [pMarkAccel, Nat.max_eq_right (Nat.pos_of_ne_zero h)]

theorem pJumpAccel_of_ne_zero {p : Prof} (h : fieldAt p 6 2 ≠ 0) : pJumpAccel p = fieldAt p 6 2 * accelLsb := by
  rw [pJumpAccel, Nat.max_eq_right (Nat.pos_of_ne_zero h)]

/-- A record's own mark speed, held between its bounds. -/
theorem markSpeed_of_own {i : Item} (h : i.speed ≠ 0) (p : Prof) :
    markSpeed i p = (min (max i.speed 100) 24000 : Nat) * speedLsb := by
  rw [markSpeed, if_pos h]

theorem markSpeed_of_none {i : Item} {p : Prof} (h : i.speed = 0) (hp : pMarkSpeed p = 0) :
    markSpeed i p = 100 * speedLsb := by
  rw [markSpeed, if_neg (not_not.mpr h), if_pos hp]
  rfl

theorem jumpSpeed_of_own {raw : Nat} (h : raw ≠ 0) (p : Prof) : jumpSpeed raw p = (min raw 60000 : Nat) * speedLsb := by
  rw [jumpSpeed, if_pos h]

end Sys2Proof.Machine

/-- Settles O15: a speed of its own stands between its bounds; a 0 in record and profile, and an acceleration of 0, read as
the least value (R72, R138, R139). -/
theorem speedAndAccelerationDefaults : Obligations.SpeedAndAccelerationDefaults := by
  unfold Obligations.SpeedAndAccelerationDefaults
  intro p i
  refine ⟨pMarkAccel_of_zero, pJumpAccel_of_zero, pMarkAccel_of_ne_zero, pJumpAccel_of_ne_zero, ?inside, ?slow, ?fast,
    markSpeed_of_none, ?jumpFast, ?jump⟩
  case inside =>
    intro h100 h24000
    rw [markSpeed_of_own (by omega), Nat.max_eq_left h100, Nat.min_eq_left h24000]
  case slow =>
    intro h0 h100
    rw [markSpeed_of_own (by omega), Nat.max_eq_right (by omega), Nat.min_eq_left (by decide)]
    rfl
  case fast =>
    intro h
    rw [markSpeed_of_own (by omega), Nat.max_eq_left (by omega), Nat.min_eq_right (by omega)]
    rfl
  case jumpFast =>
    intro raw h
    rw [jumpSpeed_of_own (by omega), Nat.min_eq_right (by omega)]
    rfl
  case jump =>
    intro raw h0 h
    rw [jumpSpeed_of_own (by omega), Nat.min_eq_left h]

end

section
/-! PROOFS, trim (17_trim.md): APPLY channel by channel. -/

open Sys2Proof Sys2Proof.Machine

namespace Sys2Proof.Machine

/-- The dark values of one channel written into its offsets. -/
def applyDark (n : Nat) (c : Ctl) : Ctl :=
  ((c.put (R.SPINDLE_TENT_OFFSET_AB_OFFSET_A n) (c.get (R.TRIM_DARK_AB_OFFSET_A n))).put (R.SPINDLE_TENT_OFFSET_AB_OFFSET_B n)
    (c.get (R.TRIM_DARK_AB_OFFSET_B n))).put (R.SPINDLE_TENT_OFFSET_R_OFFSET_R n) (c.get (R.TRIM_DARK_R_OFFSET_R n))

theorem trimApply_of_running {c : Ctl} (h : c.is R.TRIM_CMD_RUN = true) : trimApply c = c := if_pos h

theorem trimApply_of_idle {c : Ctl} (h : c.is R.TRIM_CMD_RUN = false) :
    trimApply c = c.each ((upto 24).filter c.hasChan) applyDark := by
  rw [trimApply, if_neg (Bool.eq_false_iff.mp h)]
  rfl

theorem reg_applyDark_ne (c : Ctl) (n : Nat) {a : Nat} (hab : a ≠ R.SPINDLE_TENT_OFFSET_AB n)
    (hr : a ≠ R.SPINDLE_TENT_OFFSET_R n) : (applyDark n c).reg a = c.reg a := by
  rw [applyDark, reg_put_ne _ _ _ _ hr, reg_put_ne _ _ _ _ hab, reg_put_ne _ _ _ _ hab]

theorem get_applyDark_ne (c : Ctl) (n : Nat) {f : Fld} (hab : f.addr ≠ R.SPINDLE_TENT_OFFSET_AB n)
    (hr : f.addr ≠ R.SPINDLE_TENT_OFFSET_R n) : (applyDark n c).get f = c.get f := by
  rw [Ctl.get, reg_applyDark_ne c n hab hr, Ctl.get]

/-- The offsets of channel `n` in `d` hold the dark values that `c` holds for it. -/
def HasDark (c d : Ctl) (n : Nat) : Prop :=
  d.get (R.SPINDLE_TENT_OFFSET_AB_OFFSET_A n) = c.get (R.TRIM_DARK_AB_OFFSET_A n) ∧
  d.get (R.SPINDLE_TENT_OFFSET_AB_OFFSET_B n) = c.get (R.TRIM_DARK_AB_OFFSET_B n) ∧
  d.get (R.SPINDLE_TENT_OFFSET_R_OFFSET_R n) = c.get (R.TRIM_DARK_R_OFFSET_R n)

/-- Only offsets of channels differ between `c` and `d`. -/
def SameButOffsets (c d : Ctl) : Prop :=
  ∀ a, (∀ n, n < 24 → a ≠ R.SPINDLE_TENT_OFFSET_AB n ∧ a ≠ R.SPINDLE_TENT_OFFSET_R n) → d.reg a = c.reg a

theorem SameButOffsets.get_dark {c d : Ctl} (h : SameButOffsets c d) {n : Nat} (hn : n < 24) {f : Fld}
    (hf : f.addr = R.TRIM_DARK_AB n ∨ f.addr = R.TRIM_DARK_R n) : d.get f = c.get f := by
  rw [Ctl.get, h f.addr fun m hm => ?_, Ctl.get]
  simp only [R.TRIM_DARK_AB, R.TRIM_DARK_R] at hf
  simp only [R.SPINDLE_TENT_OFFSET_AB, R.SPINDLE_TENT_OFFSET_R]
  omega

theorem sameButOffsets_applyDark {c d : Ctl} (h : SameButOffsets c d) {n : Nat} (hn : n < 24) :
    SameButOffsets c (applyDark n d) := fun a ha =>
  (reg_applyDark_ne d n (ha n hn).1 (ha n hn).2).trans (h a ha)

theorem hasDark_applyDark {c d : Ctl} (h : SameButOffsets c d) {n : Nat} (hn : n < 24) : HasDark c (applyDark n d) n := by
  have hab : R.SPINDLE_TENT_OFFSET_AB n ≠ R.SPINDLE_TENT_OFFSET_R n := by
    simp only [R.SPINDLE_TENT_OFFSET_AB, R.SPINDLE_TENT_OFFSET_R]; omega
  have hmod {v : Nat} (f : Fld) (hv : v = c.get f) (hw : f.w = 16) : v % 2 ^ 16 = c.get f := by
    rw [hv, Nat.mod_eq_of_lt (hw ▸ get_lt c f)]
  refine ⟨?_, ?_, ?_⟩
  · rw [applyDark, get_put_ne _ _ _ _ hab, get_put_other _ (R.SPINDLE_TENT_OFFSET_AB_OFFSET_B n)
      (R.SPINDLE_TENT_OFFSET_AB_OFFSET_A n) _ rfl (.inl (by decide : 0 + 16 ≤ 16)) (by decide : 16 + 16 ≤ 32),
      get_put_same _ _ _ (by decide : 0 + 16 ≤ 32)]
    exact hmod _ (h.get_dark hn (.inl rfl)) rfl
  · rw [applyDark, get_put_ne _ _ _ _ hab, get_put_same _ _ _ (by decide : 16 + 16 ≤ 32)]
    exact hmod _ (h.get_dark hn (.inl rfl)) rfl
  · rw [applyDark, get_put_same _ _ _ (by decide : 0 + 16 ≤ 32)]
    exact hmod _ (h.get_dark hn (.inr rfl)) rfl

theorem hasDark_applyDark_of_ne {c d : Ctl} {m n : Nat} (hmn : m ≠ n) (h : HasDark c d m) : HasDark c (applyDark n d) m := by
  obtain ⟨hA, hB, hR⟩ := h
  have hab : R.SPINDLE_TENT_OFFSET_AB m ≠ R.SPINDLE_TENT_OFFSET_AB n ∧ R.SPINDLE_TENT_OFFSET_AB m ≠ R.SPINDLE_TENT_OFFSET_R n := by
    simp only [R.SPINDLE_TENT_OFFSET_AB, R.SPINDLE_TENT_OFFSET_R]; omega
  have hr : R.SPINDLE_TENT_OFFSET_R m ≠ R.SPINDLE_TENT_OFFSET_AB n ∧ R.SPINDLE_TENT_OFFSET_R m ≠ R.SPINDLE_TENT_OFFSET_R n := by
    simp only [R.SPINDLE_TENT_OFFSET_AB, R.SPINDLE_TENT_OFFSET_R]; omega
  exact ⟨(get_applyDark_ne d n hab.1 hab.2).trans hA, (get_applyDark_ne d n hab.1 hab.2).trans hB,
    (get_applyDark_ne d n hr.1 hr.2).trans hR⟩

/-- After a list of channels each of them has its dark values, and so has each that had them before. -/
theorem each_applyDark {c : Ctl} (l : List Nat) (hl : ∀ n ∈ l, n < 24) : ∀ d, SameButOffsets c d →
    SameButOffsets c (d.each l applyDark) ∧ ∀ n, n ∈ l ∨ HasDark c d n → HasDark c (d.each l applyDark) n := by
  induction l with
  | nil => exact fun d h => ⟨h, fun n hn => hn.resolve_left List.not_mem_nil⟩
  | cons m l ih =>
    intro d h
    obtain ⟨hm, hl⟩ := List.forall_mem_cons.mp hl
    obtain ⟨hsame, hdark⟩ := ih hl (applyDark m d) (sameButOffsets_applyDark h hm)
    refine ⟨hsame, fun n hn => hdark n ?_⟩
    by_cases hnm : n = m
    · subst hnm
      exact .inr (hasDark_applyDark h hm)
    · exact (hn.imp (fun hmem => (List.mem_cons.mp hmem).resolve_left hnm) (hasDark_applyDark_of_ne hnm))

/-- A write of TRIM_CMD that nothing holds back acts on the control state alone. -/
theorem exec_apply_of_free {s : State} (ht : taken .apply s) (ha : s.ctl.access R.TRIM_CMD = .ok)
    (hm : s.ctl.mustWait R.TRIM_CMD = false) : exec .apply s = .next { s with ctl := trimApply s.ctl } :=
  calc exec .apply s
    _ = .next { s with ctl := guardW R.TRIM_CMD 2 trimApply s.ctl } := runCtl_next .apply _ s ht.1 ht.2
    _ = .next { s with ctl := trimApply s.ctl } := by rw [guardW_of_free ha hm]

end Sys2Proof.Machine

/-- Settles O29: while RUN reads 1 the write does nothing; otherwise it goes through the channels present, each of which
keeps what the others were given (R639). -/
theorem applyWritesTheDarkOffsets : Obligations.ApplyWritesTheDarkOffsets := by
  unfold Obligations.ApplyWritesTheDarkOffsets
  intro s ht ha hm
  rw [exec_apply_of_free ht ha hm]
  refine ⟨fun hrun => by rw [trimApply_of_running hrun], fun hidle => ⟨_, rfl, ?_⟩⟩
  rw [trimApply_of_idle hidle]
  obtain ⟨hsame, hdark⟩ := each_applyDark (c := s.ctl) ((upto 24).filter s.ctl.hasChan)
    (fun n hn => List.mem_range.mp (List.mem_filter.mp hn).1) s.ctl (fun _ _ => rfl)
  exact ⟨fun n hn hc => hdark n (.inl (List.mem_filter.mpr ⟨List.mem_range.mpr hn, hc⟩)), hsame⟩

end


section
/-! PROOFS, fences (02_vector_streams.md): what the end of a tick does to a fence whose timeout has expired. -/

open Sys2Proof Sys2Proof.Machine

namespace Sys2Proof.Machine

theorem each_singleton (c : Ctl) (n : Nat) (f : Nat → Ctl → Ctl) : c.each [n] f = f n c := rfl

theorem fencesExpire_of_none {c : Ctl} (h : c.hop.expired = []) : fencesExpire c = c := by
  rw [fencesExpire, if_pos (by rw [h]; rfl)]

/-- R121: every arrival of the tick comes before the timeout of one spindle. -/
theorem fencesExpire_of_one {c : Ctl} {n : Nat} (h : c.hop.expired = [n]) :
    fencesExpire c = fenceExpired n { allArrivals c with hop := { (allArrivals c).hop with expired := [] } } := by
  rw [fencesExpire, if_neg (by simp [h]), h]
  exact each_singleton _ n _

/-- R120: the limit of a fence, ticks: that of its record, else that of FENCE_TIMEOUT. -/
def fenceLimit (c : Ctl) (j : Item) : Nat :=
  if j.timeoutMs ≠ 0 then j.timeoutMs * 20000 else c.get R.HOPPER_FENCE_TIMEOUT_TICKS

/-- Nothing that R120 to R122 act on: completed, timed out before, without a limit or within it. -/
def fenceStays (c : Ctl) (n t : Nat) (j : Item) : Prop :=
  (c.sp n).fencePass = true ∨ (c.sp n).timedOut = true ∨ fenceLimit c j = 0 ∨ c.sinceT t < fenceLimit c j

theorem fenceExpired_of_stays {c : Ctl} {n t : Nat} {j : Item} (h : (c.sp n).fence = some (j, t)) (hs : fenceStays c n t j) :
    fenceExpired n c = c := by
  unfold fenceStays fenceLimit at hs
  simp only [fenceExpired, h, if_pos hs]

/-- With TIMEOUT_ACTION 0 a timeout counts for the spindle and is reported once for ID and mask. -/
theorem fenceExpired_of_due {c : Ctl} {n t : Nat} {j : Item} (h : (c.sp n).fence = some (j, t)) (hs : ¬ fenceStays c n t j)
    (ha : c.get R.HOPPER_FENCE_CTRL_TIMEOUT_ACTION = 0) :
    fenceExpired n c =
      if c.hop.timedOut.contains (j.fenceId, j.mask) then c.modSp n (fun u => { u with timedOut := true })
      else Ctl.irq { c.modSp n (fun u => { u with timedOut := true }) with
        hop := { c.hop with timedOut := c.hop.timedOut ++ [(j.fenceId, j.mask)] } } pgHopper 4 := by
  unfold fenceStays fenceLimit at hs
  simp only [fenceExpired, h, if_neg hs, ha]
  rfl

end Sys2Proof.Machine

/-- Settles O14: a tick without an expired timeout does nothing; one with the timeout of a spindle comes to that fence
after all arrivals, and there to the conditions of R120 to R122. -/
theorem fenceTimeoutActsAtTheTicksEnd : Obligations.FenceTimeoutActsAtTheTicksEnd := by
  unfold Obligations.FenceTimeoutActsAtTheTicksEnd
  refine ⟨fun _ => fencesExpire_of_none, fun _ _ => fencesExpire_of_one, fun c n t j hf => ⟨fenceExpired_of_stays hf, ?_⟩⟩
  intro hpass hout hlim hdue haction
  have hacts : ¬ fenceStays c n t j := by
    simp only [fenceStays, hpass, hout, Bool.false_eq_true, false_or, not_or]
    exact ⟨hlim, Nat.not_lt.mpr hdue⟩
  rw [fenceExpired_of_due hf hacts haction]
  exact ⟨fun hknown => if_pos hknown, fun hnew => if_neg (Bool.eq_false_iff.mp hnew)⟩

end

section
/-! PROOFS, the heat ledger (06_heat_ledger.md): the requests of a tick boundary, and the evaluation's answer to a
HALT_CLEAR. -/

open Sys2Proof Sys2Proof.Machine

namespace Sys2Proof.Machine

/-- The ledger without the requests that waited for the tick boundary. -/
def requestsTaken (c : Ctl) : Ctl := c.modLed (fun l => { l with mpClears := [], clears := [] })

/-- The throttle of channel `n` unfrozen, with a below-count of 0 (R312). -/
def unfrozen (n : Nat) (c : Ctl) : Ctl :=
  ((c.clearBits R.LEDGER_FROZEN (2 ^ n)).flag (R.LEDGER_CH_MP_FROZEN n) false).modLch n (fun l => { l with below := 0 })

theorem unfreeze_of_failed {n : Nat} {c : Ctl} (h : c.bit R.LEDGER_MP_FAILED n = true) : unfreeze n c = c :=
  if_pos (.inr (.inl h))

theorem unfreeze_of_frozen {n : Nat} {c : Ctl} (hn : n < 24) (hfail : c.bit R.LEDGER_MP_FAILED n = false)
    (h : c.bit R.LEDGER_FROZEN n = true) : unfreeze n c = unfrozen n c :=
  if_neg (by simp [hfail, h, hn])

/-- One MP_CLEAR, and no clear of the halt: the boundary comes to the one channel. -/
theorem ledgerRequests_of_mpClear {c : Ctl} {n : Nat} (hmp : c.led.mpClears = [n]) (hw : c.led.clears = [])
    (h : (unfreeze n (requestsTaken c)).is R.LEDGER_CMD_HALT_CLEAR = false) :
    ledgerRequests c = unfreeze n (requestsTaken c) := by
  rw [ledgerRequests, hmp, hw]
  exact if_neg fun hc => Bool.eq_false_iff.mp h hc.1

theorem ledgerRequests_of_disabled {c : Ctl} (hmp : c.led.mpClears = []) (hw : c.led.clears = [])
    (h : c.is R.LEDGER_CMD_HALT_CLEAR = true) (hoff : c.activePage pgLedger = false) :
    ledgerRequests c = haltCleared (requestsTaken c) := by
  rw [ledgerRequests, hmp, hw]
  exact if_pos ⟨h, Bool.eq_false_iff.mp hoff⟩

/-- A channel's own registers lie apart from CMD. -/
theorem haltClear_unfrozen (n : Nat) (c : Ctl) : (unfrozen n c).is R.LEDGER_CMD_HALT_CLEAR = c.is R.LEDGER_CMD_HALT_CLEAR := by
  have hch : R.LEDGER_CMD_HALT_CLEAR.addr ≠ (R.LEDGER_CH_MP_FROZEN n).addr := by
    simp only [R.LEDGER_CMD_HALT_CLEAR, R.LEDGER_CMD, R.LEDGER_CH_MP_FROZEN, R.LEDGER_CH_MP]; omega
  have hmod (d : Ctl) : (d.modLch n (fun l => { l with below := 0 })).get R.LEDGER_CMD_HALT_CLEAR = d.get R.LEDGER_CMD_HALT_CLEAR := rfl
  rw [Ctl.is, unfrozen, hmod, Ctl.flag, get_put_ne _ _ _ _ hch, Ctl.clearBits, get_setReg_ne _ _ _ _ (by decide), Ctl.is]

/-- R308, R310: the spots of all channels of the halt have cooled to the limit that a clear asks for. -/
def haltCooled (c : Ctl) : Prop :=
  ∀ n ∈ bitList 24 (c.get R.LEDGER_HALT_STAT_CHANNELS), ((c.lch n).tspot : Int) ≤
    (c.live R.LEDGER_TEMP_TH_T_HALT : Int) - 16 * (c.live R.LEDGER_HOLD_CFG_T_HYST : Int)

theorem all_tspot_iff (c : Ctl) : (bitList 24 (c.get R.LEDGER_HALT_STAT_CHANNELS)).all (fun n =>
      decide (((c.lch n).tspot : Int) ≤ ((c.live R.LEDGER_TEMP_TH_T_HALT : Nat) : Int) -
        ((16 * c.live R.LEDGER_HOLD_CFG_T_HYST : Nat) : Int))) = true ↔ haltCooled c := by
  simp [haltCooled]

theorem decideClear_of_cooled {c : Ctl} (hclear : c.live R.LEDGER_CMD_HALT_CLEAR ≠ 0)
    (hhalt : c.is R.LEDGER_HALT_STAT_HALTED = true) (h : haltCooled c) : decideClear c = haltCleared c := by
  rw [decideClear, if_neg hclear, if_neg (not_not.mpr hhalt)]
  exact if_pos ((all_tspot_iff c).mpr h)

theorem decideClear_of_hot {c : Ctl} (hclear : c.live R.LEDGER_CMD_HALT_CLEAR ≠ 0)
    (hhalt : c.is R.LEDGER_HALT_STAT_HALTED = true) (h : ¬ haltCooled c) :
    decideClear c = (c.flag R.LEDGER_HALT_STAT_CLEAR_REFUSED true).flag R.LEDGER_CMD_HALT_CLEAR false := by
  rw [decideClear, if_neg hclear, if_neg (not_not.mpr hhalt)]
  exact if_neg (mt (all_tspot_iff c).mp h)

end Sys2Proof.Machine

/-- Settles O19: one MP_CLEAR comes to `unfreeze` of its channel, a disabled ledger accepts the clear of the halt, and the
evaluation accepts it where every channel of the halt has cooled (R308, R312, R314). -/
theorem ledgerRequestsActAtTheTickBoundary : Obligations.LedgerRequestsActAtTheTickBoundary := by
  unfold Obligations.LedgerRequestsActAtTheTickBoundary
  refine ⟨fun c n hn hfrozen hmp hw hclear => ⟨fun hok => ?unfrozen, fun hfail => ?failed⟩,
    fun c hmp hw hclear hoff => ledgerRequests_of_disabled hmp hw hclear hoff, fun _ => rfl,
    fun c hclear hhalt => ⟨decideClear_of_cooled hclear hhalt, decideClear_of_hot hclear hhalt⟩⟩
  case unfrozen =>
    have hu : unfreeze n (requestsTaken c) = unfrozen n (requestsTaken c) := unfreeze_of_frozen hn hok hfrozen
    rw [ledgerRequests_of_mpClear hmp hw (by rw [hu, haltClear_unfrozen]; exact hclear), hu]
    rfl
  case failed =>
    have hu : unfreeze n (requestsTaken c) = requestsTaken c := unfreeze_of_failed hfail
    rw [ledgerRequests_of_mpClear hmp hw (by rw [hu]; exact hclear), hu]
    rfl

end


section
/-! PROOFS, writes that wait (01_machine_picture.md): what is left of a write behind another of its page, and the turn of
those that waited. -/

open Sys2Proof Sys2Proof.Machine

namespace Sys2Proof.Machine

theorem guardWS_of_mustWait {a : Nat} {s : State} (ha : s.ctl.access a = .ok) (hm : s.ctl.mustWait a = true) (w : Word)
    (f : State → State) : guardWS a w f s = { s with ctl := s.ctl.holdWrite a s.mem.bar2.length w } := by
  simp [guardWS, ha, hm]

theorem mustWait_of_held {c : Ctl} {h : Held} {a base : Nat} (hh : h ∈ c.host.held) (hp : pageBase h.addr = some base)
    (ha : pageBase a = some base) : c.mustWait a = true := by
  have hany : c.host.held.any (fun g => pageBase g.addr == some base) = true :=
    List.any_eq_true.mpr ⟨h, hh, beq_iff_eq.mpr hp⟩
  rw [Ctl.mustWait, ha]
  exact Bool.or_eq_true_iff.mpr (.inl hany)

theorem pageBase_of_mustWait {c : Ctl} {a : Nat} (h : c.mustWait a = true) : ∃ base, pageBase a = some base := by
  unfold Ctl.mustWait at h
  split at h
  · cases h
  · exact ⟨_, ‹_›⟩

theorem holdWrite_held (c : Ctl) (a k : Nat) (w : Word) : (c.holdWrite a k w).host.held =
    c.host.held ++ [{ addr := a, word := c.runningCleared a w, bar2 := k }] := rfl

theorem holdWrite_reg (c : Ctl) (a k : Nat) (w : Word) (r : Nat) : (c.holdWrite a k w).reg r = c.reg r := rfl

/-- A write that waits holds back the next one of its page. -/
theorem mustWait_holdWrite {c : Ctl} {a : Nat} (h : c.mustWait a = true) (k : Nat) (w : Word) :
    (c.holdWrite a k w).mustWait a = true := by
  obtain ⟨base, hb⟩ := pageBase_of_mustWait h
  exact mustWait_of_held (h := { addr := a, word := c.runningCleared a w, bar2 := k })
    (by rw [holdWrite_held]; exact List.mem_append_right _ (List.mem_singleton_self _)) hb hb

theorem wellFormed_registerWrite {a : Nat} (ha : a < 2 ^ 24) (h4 : a % 4 = 0) (w : Word) :
    (Instr.registerWrite a w).wellFormed = true := by
  simpa [Instr.wellFormed, h4] using ha

theorem wellFormed_wideValueCommit {a : Nat} (ha : a < 2 ^ 24) (h4 : a % 4 = 0) (w : Word) :
    (Instr.wideValueCommit a w).wellFormed = true := by
  simpa [Instr.wellFormed, h4] using ha

theorem run_guardWS_of_mustWait {i : Instr} {a : Nat} {w : Word} {f : State → State} {s : State} (hi : i.wellFormed = true)
    (hr : s.ctl.pwr.inReset = false) (ha : s.ctl.access a = .ok) (hm : s.ctl.mustWait a = true) :
    run i (guardWS a w f) s = .next { s with ctl := s.ctl.holdWrite a s.mem.bar2.length w } := by
  rw [run_next i _ s hi hr]
  exact congrArg (fun t => Host.Outcome.next (keepQueue (fun _ => t) s)) (guardWS_of_mustWait ha hm w f)

theorem releaseHeld_cons (h : Held) (l : List Held) (s : State) : State.releaseHeld (h :: l) s =
    l.foldl State.takeHeld (({ s with ctl := s.ctl.modHost (fun u => { u with held := [] }) } : State).takeHeld h) := rfl

theorem takeHeld_of_mustWait {s : State} {h : Held} (hr : s.ctl.pwr.inReset = false) (hm : s.ctl.mustWait h.addr = true) :
    s.takeHeld h = { s with ctl := s.ctl.holdWrite h.addr h.bar2 h.word } := by
  rw [State.takeHeld, if_neg (Bool.eq_false_iff.mp hr), if_pos hm]

theorem takeHeld_of_free {s : State} {h : Held} (hr : s.ctl.pwr.inReset = false) (hm : s.ctl.mustWait h.addr = false)
    (ho : h.addr ≠ R.HOPPER_DOORBELL_ORD) : s.takeHeld h = s.regWrite h.addr h.word := by
  rw [State.takeHeld, if_neg (Bool.eq_false_iff.mp hr), if_neg (Bool.eq_false_iff.mp hm), if_neg ho]

end Sys2Proof.Machine

/-- Settles O12: a guarded write that must wait is appended to the list, where it holds back the next of its page; the list
is taken from its front, each entry by the write that it is (R49). -/
theorem writesOfAPageWaitInOrder : Obligations.WritesOfAPageWaitInOrder := by
  unfold Obligations.WritesOfAPageWaitInOrder
  refine ⟨fun s a w hr ha hm => ⟨guardW_of_mustWait ha hm w, guardWS_of_mustWait ha hm w, fun hlt h4 => ⟨?write, ?commit⟩,
      fun k => ⟨holdWrite_held _ _ _ _, holdWrite_reg _ _ _ _, mustWait_holdWrite hm k w⟩⟩,
    fun _ _ _ _ => mustWait_of_held, releaseHeld_cons,
    fun s h hr => ⟨takeHeld_of_mustWait hr, takeHeld_of_free hr⟩⟩
  case write => exact run_guardWS_of_mustWait (wellFormed_registerWrite hlt h4 w) hr ha hm
  case commit => exact run_guardWS_of_mustWait (wellFormed_wideValueCommit hlt h4 w) hr ha hm

end

section
/-! PROOFS, contexts (02_vector_streams.md): the registers of a stream context after its enable. -/

open Sys2Proof Sys2Proof.Machine

namespace Sys2Proof.Machine

theorem single_iff (c : Ctl) : c.single = true ↔ c.role ≠ rActive ∧ c.shadows = false := by
  simp [Ctl.single]

/-- R411: a device in no pair acts on a command at once. -/
theorem forwarded_of_single {c : Ctl} (h : c.single = true) (kind arg : Nat) (e : Nat × Word) (act : Ctl → Ctl) :
    forwarded kind arg e act c = act c := by
  obtain ⟨hrole, hshadow⟩ := (single_iff c).mp h
  rw [forwarded, if_neg hrole, if_neg (Bool.eq_false_iff.mp hshadow)]

theorem shadowFields_of_single {c : Ctl} (h : c.single = true) (x : Nat) (w : Word) : shadowFields x w c = c := by
  obtain ⟨-, hshadow⟩ := (single_iff c).mp h
  rw [shadowFields, if_neg (Bool.eq_false_iff.mp hshadow)]

/-- A write of CTX[x].CTRL with ENABLE 1, in a device in no pair and not in Lane-idle, that nothing holds back. -/
theorem exec_ctxEnable_of_free {s : State} {x : Nat} {w : Word} (ht : taken (.ctxEnable x w) s)
    (ha : s.ctl.access (R.CTX_CTRL x) = .ok) (hm : s.ctl.mustWait (R.CTX_CTRL x) = false)
    (hidle : s.ctl.get R.GLOBAL_PWR_STAT_STATE ≠ 1) (hsingle : s.ctl.single = true) :
    exec (.ctxEnable x w) s = .next { s with ctl := streamEnable x w s.ctl } := by
  have hon : ctxOn x w s.ctl = streamEnable x w s.ctl := by
    rw [ctxOn, armingWrite, if_neg hidle, shadowFields_of_single hsingle, forwarded_of_single hsingle]
  calc exec (.ctxEnable x w) s
    _ = .next { s with ctl := guardW (R.CTX_CTRL x) w (ctxOn x w) s.ctl } := runCtl_next (.ctxEnable x w) _ s ht.1 ht.2
    _ = .next { s with ctl := streamEnable x w s.ctl } := by rw [guardW_of_free ha hm, hon]

/-! ### The fields after an enable (R84, R87) -/

/-- The fields of CTRL alone: every other register stands. -/
theorem get_ctxCtrlFields_ne (x : Nat) (w : Word) (c : Ctl) {f : Fld} (h : f.addr ≠ R.CTX_CTRL x) :
    (ctxCtrlFields x w c).get f = c.get f := by
  have hput (d : Ctl) (g : Fld) (v : Nat) (hg : g.addr = R.CTX_CTRL x) : (d.put g v).get f = d.get f :=
    get_put_ne d g f v (hg ▸ h)
  unfold ctxCtrlFields
  dsimp only
  split
  · rw [hput _ _ _ rfl, hput _ _ _ rfl, hput _ _ _ rfl, hput _ _ _ rfl, hput _ _ _ rfl, hput _ _ _ rfl]
  · rw [hput _ _ _ rfl, hput _ _ _ rfl, hput _ _ _ rfl]

theorem enableErr_lt (c : Ctl) (x : Nat) : c.enableErr x < 16 := by
  unfold Ctl.enableErr
  dsimp only
  split_ifs <;> decide

theorem cst_ctxCtrlFields (x : Nat) (w : Word) (c : Ctl) : (ctxCtrlFields x w c).cst x = c.cst x :=
  get_ctxCtrlFields_ne x w c (by simp [R.CTX_STAT_STATE, R.CTX_STAT, R.CTX_CTRL])

/-- A refused enable (R87). -/
def enableRefused (x : Nat) (c : Ctl) : Ctl := (c.put (R.CTX_STAT_ENABLE_ERR x) (c.enableErr x)).put (R.CTX_CTRL_ENABLE x) 1

/-- The indices of an accepted enable are 0 (R84), as is ENABLE_ERR. -/
def indicesCleared (x : Nat) (c : Ctl) : Ctl :=
  (((c.put (R.CTX_STAT_ENABLE_ERR x) 0).put (R.CTX_HEAD_INDEX x) 0).put (R.CTX_FETCH_INDEX x) 0).put (R.CTX_TAIL_INDEX x) 0

/-- R412: the TAIL of the host's last doorbell to stream `x`, and one that waits for it, are forgotten. -/
def tailsForgotten (x : Nat) (c : Ctl) : Ctl :=
  { c with tw := { c.tw with ownTail := tdel c.tw.ownTail x, lag := tdel c.tw.lag x } }

/-- An accepted enable before the context is IDLE. -/
def enableOpened (x : Nat) (c : Ctl) : Ctl :=
  ((tailsForgotten x (indicesCleared x c)).put (R.CTX_CTRL_ENABLE x) 1).modStrm x (fun s => { gone := s.gone })

theorem streamEnable_of_refused {x : Nat} {w : Word} {c : Ctl} (hd : c.cst x = csDisabled)
    (he : (ctxCtrlFields x w c).enableErr x ≠ 0) : streamEnable x w c = enableRefused x (ctxCtrlFields x w c) := by
  rw [streamEnable, if_neg (not_not.mpr hd), if_pos he, enableRefused]

theorem streamEnable_of_accepted {x : Nat} {w : Word} {c : Ctl} (hd : c.cst x = csDisabled)
    (he : (ctxCtrlFields x w c).enableErr x = 0) : streamEnable x w c =
      let d := setCst x csIdle (enableOpened x (ctxCtrlFields x w c))
      let n := (ctxCtrlFields x w c).bindOf x
      if ¬ d.isShare x ∧ d.sst n = stStopped then d.setSst n stIdle else d := by
  rw [streamEnable, if_neg (not_not.mpr hd), if_neg (not_not.mpr he)]
  rfl

theorem enableRefused_spec (x : Nat) (c : Ctl) : (enableRefused x c).cst x = c.cst x ∧
    (enableRefused x c).get (R.CTX_STAT_ENABLE_ERR x) = c.enableErr x := by
  have hctrl : R.CTX_STAT x ≠ R.CTX_CTRL x := by simp [R.CTX_STAT, R.CTX_CTRL]
  constructor
  · rw [Ctl.cst, enableRefused, get_put_ne _ _ _ _ hctrl, get_put_other _ (R.CTX_STAT_ENABLE_ERR x) (R.CTX_STAT_STATE x) _ rfl
      (.inl (by decide : 0 + 3 ≤ 8)) (by decide : 8 + 4 ≤ 32), Ctl.cst]
  · rw [enableRefused, get_put_ne _ _ _ _ hctrl, get_put_same _ _ _ (by decide : 8 + 4 ≤ 32)]
    exact Nat.mod_eq_of_lt (enableErr_lt c x)

theorem get_of_regs {c d : Ctl} (h : c.regs = d.regs) (f : Fld) : c.get f = d.get f := by
  rw [Ctl.get, Ctl.reg, h, Ctl.get, Ctl.reg]

theorem put_regs_of_regs {c d : Ctl} (h : c.regs = d.regs) (f : Fld) (v : Nat) : (c.put f v).regs = (d.put f v).regs := by
  simp only [Ctl.put, Ctl.setReg, Ctl.reg, h]

theorem modStrm_regs (c : Ctl) (x : Nat) (f : CtxSt → CtxSt) : (c.modStrm x f).regs = c.regs := rfl

theorem tailsForgotten_regs (x : Nat) (c : Ctl) : (tailsForgotten x c).regs = c.regs := rfl

/-- The registers of an accepted enable, one after the other. -/
theorem get_enableOpened (x : Nat) (c : Ctl) (f : Fld) :
    (enableOpened x c).get f = ((indicesCleared x c).put (R.CTX_CTRL_ENABLE x) 1).get f :=
  get_of_regs ((modStrm_regs _ x _).trans (put_regs_of_regs (tailsForgotten_regs x _) _ 1)) f

/-- What R84 and R87 have a context hold once it is enabled, its state aside. -/
def FreshIndices (c : Ctl) (x : Nat) : Prop :=
  c.headIx x = 0 ∧ c.fetchIx x = 0 ∧ c.tailIx x = 0 ∧ c.get (R.CTX_CTRL_ENABLE x) = 1 ∧ c.get (R.CTX_STAT_ENABLE_ERR x) = 0

theorem freshIndices_enableOpened (x : Nat) (c : Ctl) : FreshIndices (enableOpened x c) x := by
  have hput (d : Ctl) (f g : Fld) (v k j : Nat) (hf : f.addr = R.ctxBase x + k) (hg : g.addr = R.ctxBase x + j) (h : k ≠ j) :
      (d.put f v).get g = d.get g := get_put_ne d f g v (by rw [hf, hg]; omega)
  refine ⟨?head, ?fetch, ?tail, ?enable, ?err⟩
  case head =>
    rw [Ctl.headIx, get_enableOpened, hput _ _ _ _ 0x0 0x10 rfl rfl (by decide), indicesCleared, hput _ _ _ _ 0x18 0x10 rfl rfl (by decide),
      hput _ _ _ _ 0x14 0x10 rfl rfl (by decide), get_put_same _ _ _ (by decide : 0 + 25 ≤ 32)]
    rfl
  case fetch =>
    rw [Ctl.fetchIx, get_enableOpened, hput _ _ _ _ 0x0 0x14 rfl rfl (by decide), indicesCleared, hput _ _ _ _ 0x18 0x14 rfl rfl (by decide),
      get_put_same _ _ _ (by decide : 0 + 25 ≤ 32)]
    rfl
  case tail =>
    rw [Ctl.tailIx, get_enableOpened, hput _ _ _ _ 0x0 0x18 rfl rfl (by decide), indicesCleared, get_put_same _ _ _ (by decide : 0 + 25 ≤ 32)]
    rfl
  case enable =>
    rw [get_enableOpened, get_put_same _ _ _ (by decide : 31 + 1 ≤ 32)]
    rfl
  case err =>
    rw [get_enableOpened, hput _ _ _ _ 0x0 0x1C rfl rfl (by decide), indicesCleared, hput _ _ _ _ 0x18 0x1C rfl rfl (by decide),
      hput _ _ _ _ 0x14 0x1C rfl rfl (by decide), hput _ _ _ _ 0x10 0x1C rfl rfl (by decide), get_put_same _ _ _ (by decide : 8 + 4 ≤ 32)]
    rfl

theorem ctxWriteback_regs (x : Nat) (c : Ctl) : (ctxWriteback x c).regs = c.regs := by
  unfold ctxWriteback
  split <;> rfl

theorem get_setCst (x v : Nat) {c : Ctl} (h : c.cst x ≠ v) (f : Fld) :
    (setCst x v c).get f = (c.put (R.CTX_STAT_STATE x) v).get f := by
  rw [setCst, if_neg h]
  exact get_of_regs (ctxWriteback_regs x _) f

/-- The registers of a context lie below those of every spindle. -/
theorem get_setSst_ctx (c : Ctl) (n v : Nat) {x : Nat} (hx : x < 128) {f : Fld} {k : Nat} (hf : f.addr = R.ctxBase x + k)
    (hk : k < 0x40) : (c.setSst n v).get f = c.get f := by
  refine get_put_ne c _ f v ?_
  rw [hf]
  simp only [R.ctxBase, R.SPINDLE_STAT_STATE, R.SPINDLE_STAT]
  omega

/-- A context that has opened, as IDLE. -/
theorem idle_of_opened {x : Nat} {c : Ctl} (h : FreshIndices c x) (hd : c.cst x ≠ csIdle) :
    FreshIndices (setCst x csIdle c) x ∧ (setCst x csIdle c).cst x = csIdle := by
  obtain ⟨hhead, hfetch, htail, hen, herr⟩ := h
  have hput (f : Fld) (k : Nat) (hf : f.addr = R.ctxBase x + k) (hk : k ≠ 0x1C) :
      (setCst x csIdle c).get f = c.get f := by
    rw [get_setCst x csIdle hd, get_put_ne _ _ _ _ (by rw [hf]; simp only [R.CTX_STAT_STATE, R.CTX_STAT]; omega)]
  refine ⟨⟨?_, ?_, ?_, ?_, ?_⟩, ?_⟩
  · exact (hput _ 0x10 rfl (by decide)).trans hhead
  · exact (hput _ 0x14 rfl (by decide)).trans hfetch
  · exact (hput _ 0x18 rfl (by decide)).trans htail
  · exact (hput _ 0 rfl (by decide)).trans hen
  · rw [get_setCst x csIdle hd, get_put_other _ (R.CTX_STAT_STATE x) (R.CTX_STAT_ENABLE_ERR x) _ rfl
      (.inr (by decide : 0 + 3 ≤ 8)) (by decide : 0 + 3 ≤ 32), herr]
  · rw [Ctl.cst, get_setCst x csIdle hd, get_put_same _ _ _ (by decide : 0 + 3 ≤ 32)]
    rfl

/-- Nothing of a context changes with the state of a spindle. -/
theorem fresh_setSst {x : Nat} (hx : x < 128) {c : Ctl} (h : FreshIndices c x) (n v : Nat) :
    FreshIndices (c.setSst n v) x ∧ (c.setSst n v).cst x = c.cst x := by
  obtain ⟨hhead, hfetch, htail, hen, herr⟩ := h
  exact ⟨⟨(get_setSst_ctx c n v hx (k := 0x10) rfl (by decide)).trans hhead,
    (get_setSst_ctx c n v hx (k := 0x14) rfl (by decide)).trans hfetch,
    (get_setSst_ctx c n v hx (k := 0x18) rfl (by decide)).trans htail,
    (get_setSst_ctx c n v hx (k := 0) rfl (by decide)).trans hen,
    (get_setSst_ctx c n v hx (k := 0x1C) rfl (by decide)).trans herr⟩,
    get_setSst_ctx c n v hx (k := 0x1C) rfl (by decide)⟩

theorem cst_enableOpened {x : Nat} {c : Ctl} : (enableOpened x c).cst x = c.cst x := by
  have hput (d : Ctl) (f : Fld) (v k : Nat) (hf : f.addr = R.ctxBase x + k) (h : k ≠ 0x1C) :
      (d.put f v).get (R.CTX_STAT_STATE x) = d.get (R.CTX_STAT_STATE x) :=
    get_put_ne d f _ v (by rw [hf]; simp only [R.CTX_STAT_STATE, R.CTX_STAT]; omega)
  rw [Ctl.cst, get_enableOpened, hput _ _ _ 0 rfl (by decide), indicesCleared, hput _ _ _ 0x18 rfl (by decide),
    hput _ _ _ 0x14 rfl (by decide), hput _ _ _ 0x10 rfl (by decide), get_put_other _ (R.CTX_STAT_ENABLE_ERR x)
      (R.CTX_STAT_STATE x) _ rfl (.inl (by decide : 0 + 3 ≤ 8)) (by decide : 8 + 4 ≤ 32), Ctl.cst]

/-- An accepted enable leaves the context IDLE with its indices 0. -/
theorem streamEnable_accepted {x : Nat} (hx : x < 128) {w : Word} {c : Ctl} (hd : c.cst x = csDisabled)
    (he : (ctxCtrlFields x w c).enableErr x = 0) :
    FreshIndices (streamEnable x w c) x ∧ (streamEnable x w c).cst x = csIdle := by
  have hopen : (enableOpened x (ctxCtrlFields x w c)).cst x ≠ csIdle := by
    rw [cst_enableOpened, cst_ctxCtrlFields, hd]
    decide
  obtain ⟨hfresh, hidle⟩ := idle_of_opened (freshIndices_enableOpened x (ctxCtrlFields x w c)) hopen
  rw [streamEnable_of_accepted hd he]
  dsimp only
  split
  · obtain ⟨hfresh', hidle'⟩ := fresh_setSst hx hfresh ((ctxCtrlFields x w c).bindOf x) stIdle
    exact ⟨hfresh', hidle'.trans hidle⟩
  · exact ⟨hfresh, hidle⟩

end Sys2Proof.Machine

/-- Settles O13: the write comes to `streamEnable`, whose registers are those of an accepted or of a refused enable (R84,
R87). -/
theorem enablingContextClearsItsIndices : Obligations.EnablingContextClearsItsIndices := by
  unfold Obligations.EnablingContextClearsItsIndices
  intro s x w ht ha hm hidle hsingle hd
  have hx : x < 128 := by
    have h := ht.1
    simp only [Instr.wellFormed, Bool.and_eq_true, decide_eq_true_eq] at h
    exact h.1
  rw [exec_ctxEnable_of_free ht ha hm hidle hsingle]
  constructor
  · intro he
    obtain ⟨⟨hhead, hfetch, htail, hen, herr⟩, hst⟩ := streamEnable_accepted hx hd he
    exact ⟨_, rfl, hhead, hfetch, htail, hst, by rw [Ctl.is, hen]; rfl, herr⟩
  · intro he
    obtain ⟨hst, herr⟩ := enableRefused_spec x (ctxCtrlFields x w s.ctl)
    rw [streamEnable_of_refused hd he]
    exact ⟨_, rfl, hst.trans ((cst_ctxCtrlFields x w s.ctl).trans hd), herr⟩

end


section
/-! PROOFS, reads without bit errors (10_millrace.md): they change no byte, and the reads that wait stay without errors. -/

open Sys2Proof Sys2Proof.Machine

namespace Sys2Proof.Machine

/-! ### Lists from which one is taken -/

theorem takeFirst_mem {α : Type} {p : α → Bool} {l : List α} {x : α} {r : List α} (h : takeFirst p l = some (x, r)) :
    x ∈ l ∧ ∀ y ∈ r, y ∈ l := by
  induction l generalizing x r with
  | nil => cases h
  | cons z t ih =>
    rw [takeFirst] at h
    split at h
    · cases h
      exact ⟨List.mem_cons_self, fun y => List.mem_cons_of_mem _⟩
    · obtain ⟨⟨y, q⟩, ht, he⟩ := Option.map_eq_some_iff.mp h
      cases he
      obtain ⟨hx, hr⟩ := ih ht
      refine ⟨List.mem_cons_of_mem _ hx, fun y hy => ?_⟩
      obtain rfl | hy := List.mem_cons.mp hy
      · exact List.mem_cons_self
      · exact List.mem_cons_of_mem _ (hr y hy)

theorem pickRead_mem {c : Ctl} {m cls : Nat} {r : McRead} {rest : List McRead} (h : c.pickRead m cls = some (r, rest)) :
    r ∈ (c.mcSt m).reads ∧ ∀ q ∈ rest, q ∈ (c.mcSt m).reads := by
  unfold Ctl.pickRead at h
  dsimp only at h
  split at h
  · cases h
  · obtain hhit | ⟨-, hany⟩ := Option.or_eq_some_iff.mp h
    · split at hhit
      · cases hhit
      · exact takeFirst_mem hhit
    · exact takeFirst_mem hany

/-! ### The state of a millrace -/

theorem mcSt_of_mc {c d : Ctl} (h : c.mc = d.mc) (m : Nat) : c.mcSt m = d.mcSt m := by
  rw [Ctl.mcSt, h, Ctl.mcSt]

theorem mcSt_mcMod_self (c : Ctl) (m : Nat) (f : McSt → McSt) : (c.mcMod m f).mcSt m = f (c.mcSt m) :=
  tget_tput_self c.mc m _ {}

theorem mcSt_mcMod_ne (c : Ctl) {m k : Nat} (f : McSt → McSt) (h : k ≠ m) : (c.mcMod m f).mcSt k = c.mcSt k :=
  tget_tput_ne c.mc m k _ {} h

/-- A change of a millrace that leaves its reads leaves those of every millrace. -/
theorem reads_mcMod (c : Ctl) (m : Nat) {f : McSt → McSt} (hf : ∀ t, (f t).reads = t.reads) (k : Nat) :
    ((c.mcMod m f).mcSt k).reads = (c.mcSt k).reads := by
  by_cases h : k = m
  · subst h; rw [mcSt_mcMod_self, hf]
  · rw [mcSt_mcMod_ne c f h]

/-- None of the reads that wait at millrace `m` meets a bit error. -/
def ReadsClean (c : Ctl) (m : Nat) : Prop := ∀ r ∈ (c.mcSt m).reads, r.errs = []

theorem ReadsClean.of_reads {c d : Ctl} {m : Nat} (h : ReadsClean c m) (hd : (d.mcSt m).reads = (c.mcSt m).reads) :
    ReadsClean d m := fun r hr => h r (hd ▸ hr)

theorem reads_activate (c : Ctl) (m a k : Nat) : ((c.activate m a).mcSt k).reads = (c.mcSt k).reads := by
  have hhit (br : Nat × Nat) (s : McSt) : ((Ctl.activate.hit c m br s).mcSt k).reads = (c.mcSt k).reads := by
    unfold Ctl.activate.hit
    exact reads_mcMod c m (by intro; rfl) k
  unfold Ctl.activate
  split
  · rfl
  · dsimp only
    split
    · split
      · exact reads_mcMod c m (by intro; rfl) k
      · exact hhit _ _
    · exact hhit _ _

/-! ### Granules read without errors -/

theorem wearAcc_mc (c : Ctl) (src : Nat) (num : Int) (den : Nat) : (c.wearAcc src num den).mc = c.mc := by
  unfold Ctl.wearAcc
  split <;> rfl

theorem event_mc (c : Ctl) (page cd chan tag : Nat) (x y : Int) (args : List Nat) :
    (c.event page cd chan tag x y args).mc = c.mc := by
  unfold Ctl.event
  dsimp only
  split <;> rfl

theorem eccRecord_mc (c : Ctl) (m a cls : Nat) (ue : Bool) (symbol : Nat) : (c.eccRecord m a cls ue symbol).mc = c.mc := by
  unfold Ctl.eccRecord
  dsimp only
  rw [event_mc, wearAcc_mc]
  split <;> split <;> split <;> rfl

/-- What a read leaves: the memory, and the reads that wait at each millrace. -/
def LeavesReads (s t : State) : Prop := t.mem = s.mem ∧ ∀ k, (t.ctl.mcSt k).reads = (s.ctl.mcSt k).reads

theorem LeavesReads.refl (s : State) : LeavesReads s s := ⟨rfl, fun _ => rfl⟩

theorem LeavesReads.trans {s t u : State} (h : LeavesReads s t) (g : LeavesReads t u) : LeavesReads s u :=
  ⟨g.1.trans h.1, fun k => (g.2 k).trans (h.2 k)⟩

theorem leavesReads_of_ctl (s : State) {c : Ctl} (h : ∀ k, (c.mcSt k).reads = (s.ctl.mcSt k).reads) :
    LeavesReads s { s with ctl := c } := ⟨rfl, h⟩

/-- A read without errors finds a poisoned granule poisoned again, and any other as it is. -/
theorem readGranule_nil (m a cls : Nat) (s : State) : LeavesReads s (readGranule m a cls [] s) := by
  unfold readGranule
  dsimp only
  split
  case isTrue hp =>
    rw [State.finding]
    dsimp only
    rw [if_pos hp]
    exact leavesReads_of_ctl s fun k => by rw [mcSt_of_mc (eccRecord_mc _ _ _ _ _ _)]
  case isFalse => exact .refl s

theorem foldl_leavesReads {A : Type} {f : State → A → State} (hf : ∀ s a, LeavesReads s (f s a)) (l : List A) (s : State) :
    LeavesReads s (l.foldl f s) := by
  induction l generalizing s with
  | nil => exact .refl s
  | cons a t ih => exact (hf s a).trans (ih _)

theorem readGranules_nil (m a n cls : Nat) (s : State) : LeavesReads s (readGranules m a n cls [] s) :=
  foldl_leavesReads (fun s i => readGranule_nil m (granule a + 128 * i) cls s) _ s

theorem serveRead_nil (m : Nat) (r : McRead) (s : State) : LeavesReads s (serveRead m [] r s) := by
  have hread : LeavesReads s (readGranules m r.addr r.len r.cls [] { s with ctl := s.ctl.activate m r.addr }) :=
    (leavesReads_of_ctl s (reads_activate s.ctl m r.addr)).trans (readGranules_nil m r.addr r.len r.cls _)
  unfold serveRead
  dsimp only
  split
  · exact hread
  · exact hread.trans (leavesReads_of_ctl _ (reads_mcMod _ m (by intro; rfl)))

/-! ### Bulk reads served (R448) -/

/-- What serving reads leaves: the memory, and that the reads that wait meet no errors. -/
def KeepsClean (s t : State) : Prop := t.mem = s.mem ∧ ∀ k, ReadsClean s.ctl k → ReadsClean t.ctl k

theorem KeepsClean.trans {s t u : State} (h : KeepsClean s t) (g : KeepsClean t u) : KeepsClean s u :=
  ⟨g.1.trans h.1, fun k hk => g.2 k (h.2 k hk)⟩

theorem LeavesReads.keepsClean {s t : State} (h : LeavesReads s t) : KeepsClean s t :=
  ⟨h.1, fun k hk => hk.of_reads (h.2 k)⟩

theorem keepsClean_mcMod_rest {s : State} {m : Nat} {rest : List McRead} (h : ∀ q ∈ rest, q ∈ (s.ctl.mcSt m).reads) :
    KeepsClean s { s with ctl := s.ctl.mcMod m (fun t => { t with reads := rest }) } := by
  refine ⟨rfl, fun k hk r hr => ?_⟩
  by_cases hkm : k = m
  · subst hkm
    rw [mcSt_mcMod_self] at hr
    exact hk r (h r hr)
  · rw [mcSt_mcMod_ne _ _ hkm] at hr
    exact hk r hr

theorem serveBulkN_clean (n m : Nat) {s : State} (h : ReadsClean s.ctl m) : KeepsClean s (serveBulkN n m s) := by
  induction n generalizing s with
  | zero => exact (LeavesReads.refl s).keepsClean
  | succ n ih =>
    unfold serveBulkN
    split
    · split
      · exact (LeavesReads.refl s).keepsClean
      · rename_i r rest hpick
        obtain ⟨hr, hrest⟩ := pickRead_mem hpick
        rw [h r hr]
        have hstep := (keepsClean_mcMod_rest hrest).trans (serveRead_nil m r _).keepsClean
        exact hstep.trans (ih (hstep.2 m h))
    · exact (LeavesReads.refl s).keepsClean

theorem serveBulk_clean {m : Nat} {s : State} (h : ReadsClean s.ctl m) : KeepsClean s (serveBulk m s) :=
  serveBulkN_clean _ m h

end Sys2Proof.Machine

end

section
/-! PROOFS, the write queues (10_millrace.md): what a reader sees of a granule that is queued, accepted or committed. -/

open Sys2Proof Sys2Proof.Machine

namespace Sys2Proof.Machine

/-! ### Tables of bytes -/

theorem tget?_of_mem {V : Type} {l : Table V} (hl : (l.map (·.1)).Nodup) {e : Nat × V} (he : e ∈ l) : tget? l e.1 = some e.2 := by
  induction l with
  | nil => cases he
  | cons f t ih =>
    rw [List.map_cons, List.nodup_cons] at hl
    obtain rfl | he := List.mem_cons.mp he
    · rw [tget?, if_pos rfl]
    · have hne : e.1 ≠ f.1 := fun h => hl.1 (h ▸ List.mem_map_of_mem he)
      rw [tget?, if_neg hne, ih hl.2 he]

theorem tget?_of_not_mem {V : Type} {l : Table V} {k : Nat} (h : ∀ e ∈ l, k ≠ e.1) : tget? l k = none := by
  induction l with
  | nil => rfl
  | cons f t ih =>
    obtain ⟨hf, ht⟩ := List.forall_mem_cons.mp h
    rw [tget?, if_neg hf, ih ht]

/-- The bytes `l` put one by one over those of an entry. -/
def putAll (b l : Table Byte) : Table Byte := l.foldl (fun b x => tput b x.1 x.2) b

theorem tget?_putAll_of_not_mem {l : Table Byte} {k : Nat} (h : ∀ e ∈ l, k ≠ e.1) (b : Table Byte) :
    tget? (putAll b l) k = tget? b k := by
  induction l generalizing b with
  | nil => rfl
  | cons f t ih =>
    obtain ⟨hf, ht⟩ := List.forall_mem_cons.mp h
    exact (ih ht _).trans (tget?_tput_ne b f.1 k f.2 hf)

theorem tget?_putAll_of_mem {l : Table Byte} (hl : (l.map (·.1)).Nodup) {e : Nat × Byte} (he : e ∈ l) (b : Table Byte) :
    tget? (putAll b l) e.1 = some e.2 := by
  induction l generalizing b with
  | nil => cases he
  | cons f t ih =>
    rw [List.map_cons, List.nodup_cons] at hl
    obtain rfl | he := List.mem_cons.mp he
    · exact (tget?_putAll_of_not_mem (fun g hg h => hl.1 (List.mem_map.mpr ⟨g, hg, h.symm⟩)) _).trans (tget?_tput_self b e.1 e.2)
    · exact ih hl.2 he _

/-! ### Entries -/

theorem granule_add {g o : Nat} (hg : g % 128 = 0) (ho : o < 128) : granule (g + o) = g := by
  unfold granule; omega

theorem granule_mod (a : Nat) : granule a % 128 = 0 := by
  unfold granule; omega

theorem entry?_eq (m : Mem) (g : Nat) :
    m.entry? g = (m.wq0.find? (fun e => e.granule == g)).or (m.wq1.find? (fun e => e.granule == g)) := by
  unfold Mem.entry?
  cases m.wq0.find? (fun e => e.granule == g) <;> rfl

/-- What the queues hold of the byte at `a`. -/
def queued (m : Mem) (a : Nat) : Option Byte := (m.entry? (granule a)).bind (fun e => tget? e.bytes (a - granule a))

/-- What DRAM shows of the byte at `a` (R443). -/
def stored (m : Mem) (a : Nat) : Byte × Bool :=
  if m.poisoned.contains (granule a) then (0xFF, true) else (cellGet m.dram a, false)

/-- R451: the queues before DRAM. -/
theorem byte_eq (m : Mem) (a : Nat) : m.byte a = match queued m a with
    | some b => (b, false)
    | none => stored m a := by
  unfold Mem.byte queued
  dsimp only
  cases m.entry? (granule a) with
  | none => rfl
  | some e => cases htget : tget? e.bytes (a - granule a) <;> simp [htget, stored]

theorem byte_of_queued {m : Mem} {a : Nat} {b : Byte} (h : queued m a = some b) : m.byte a = (b, false) := by
  rw [byte_eq, h]

theorem byte_congr {m n : Mem} {a : Nat} (hq : queued n a = queued m a) (hs : stored n a = stored m a) : n.byte a = m.byte a := by
  rw [byte_eq, byte_eq, hq, hs]

theorem byte_of_parts {m n : Mem} (h0 : n.dram = m.dram) (h1 : n.wq0 = m.wq0) (h2 : n.wq1 = m.wq1)
    (h3 : n.poisoned = m.poisoned) (a : Nat) : n.byte a = m.byte a := by
  simp only [Mem.byte, Mem.entry?, h0, h1, h2, h3]

/-! ### A write accepted (R450) -/

/-- The entry of a granule after the bytes `l` have come to it. -/
def mergedEntry (t g : Nat) (l : Table Byte) : Option WqEntry → WqEntry
  | none => { granule := g, bytes := l, at_ := t }
  | some e => { e with bytes := putAll e.bytes l }

theorem find?_wqMerge (t g : Nat) (l : Table Byte) (h : Nat) (q : List WqEntry) :
    (wqMerge t g l q).find? (fun e => e.granule == h) =
      if h = g then some (mergedEntry t g l (q.find? (fun e => e.granule == g)))
      else q.find? (fun e => e.granule == h) := by
  induction q with
  | nil =>
    by_cases hg : h = g
    · simp [wqMerge, mergedEntry, hg]
    · simp [wqMerge, hg, Ne.symm hg]
  | cons e q ih =>
    by_cases he : e.granule = g
    · by_cases hg : h = g
      · simp [wqMerge, he, hg, mergedEntry, putAll]
      · simp [wqMerge, he, hg, Ne.symm hg]
    · rw [wqMerge, if_neg he, List.find?_cons, List.find?_cons, List.find?_cons, ih]
      by_cases hg : h = g
      · simp [hg, beq_false_of_ne he]
      · simp [hg]

theorem wq_setWq (m : Mem) (k : Nat) (l : List WqEntry) : (m.setWq k l).wq0 = (if k = 0 then l else m.wq0) ∧
    (m.setWq k l).wq1 = (if k = 0 then m.wq1 else l) := by
  unfold Mem.setWq
  split <;> exact ⟨rfl, rfl⟩

/-- Where the other queue holds no entry of the granule, the write is merged into what the queues hold of it. -/
theorem entry?_enqueue (m : Mem) (t : Nat) {k g : Nat} (l : Table Byte) (hk : k < 2)
    (hother : ∀ e ∈ m.wq (1 - k), e.granule ≠ g) (h : Nat) :
    (m.enqueue t k g l).entry? h = if h = g then some (mergedEntry t g l (m.entry? g)) else m.entry? h := by
  obtain ⟨h0, h1⟩ := wq_setWq m k (wqMerge t g l (m.wq k))
  rw [entry?_eq, entry?_eq m g, entry?_eq m h, Mem.enqueue, h0, h1]
  obtain rfl | rfl : k = 0 ∨ k = 1 := by omega
  · have hnone : m.wq1.find? (fun e => e.granule == g) = none := by simpa [Mem.wq] using hother
    rw [if_pos rfl, if_pos rfl, find?_wqMerge, hnone, Option.or_none]
    split <;> rfl
  · have hnone : m.wq0.find? (fun e => e.granule == g) = none := by simpa [Mem.wq] using hother
    rw [if_neg (by decide), if_neg (by decide), find?_wqMerge, hnone, Option.none_or]
    split
    · rename_i hg
      rw [hg, hnone]
      rfl
    · rfl

theorem tget?_mergedEntry_of_mem (t g : Nat) {l : Table Byte} (hl : (l.map (·.1)).Nodup) {e : Nat × Byte} (he : e ∈ l)
    (old : Option WqEntry) : tget? (mergedEntry t g l old).bytes e.1 = some e.2 := by
  cases old with
  | none => exact tget?_of_mem hl he
  | some f => exact tget?_putAll_of_mem hl he f.bytes

theorem tget?_mergedEntry_of_not_mem (t g : Nat) {l : Table Byte} {o : Nat} (h : ∀ e ∈ l, o ≠ e.1) (old : Option WqEntry) :
    tget? (mergedEntry t g l old).bytes o = old.bind (fun f => tget? f.bytes o) := by
  cases old with
  | none => exact tget?_of_not_mem h
  | some f => exact tget?_putAll_of_not_mem h f.bytes

theorem stored_enqueue (m : Mem) (t k g : Nat) (l : Table Byte) (b : Nat) : stored (m.enqueue t k g l) b = stored m b := by
  unfold stored Mem.enqueue Mem.setWq
  split <;> rfl

/-- R451: the bytes of an accepted write are what a reader sees, and no other byte changes. -/
theorem byte_enqueue (m : Mem) (t : Nat) {k g : Nat} {l : Table Byte} (hk : k < 2) (hg : g % 128 = 0)
    (hother : ∀ e ∈ m.wq (1 - k), e.granule ≠ g) (hl : ∀ e ∈ l, e.1 < 128) (hn : (l.map (·.1)).Nodup) :
    (∀ e ∈ l, (m.enqueue t k g l).byte (g + e.1) = (e.2, false)) ∧
    ∀ b, (∀ e ∈ l, b ≠ g + e.1) → (m.enqueue t k g l).byte b = m.byte b := by
  refine ⟨fun e he => byte_of_queued ?_, fun b hb => byte_congr ?_ (stored_enqueue m t k g l b)⟩
  · rw [queued, granule_add hg (hl e he), entry?_enqueue m t l hk hother, if_pos rfl, Option.bind_some,
      Nat.add_sub_cancel_left, tget?_mergedEntry_of_mem t g hn he]
  · rw [queued, queued, entry?_enqueue m t l hk hother]
    split
    · rename_i hgb
      have hle : granule b ≤ b := by unfold granule; omega
      rw [Option.bind_some, tget?_mergedEntry_of_not_mem t g (fun e he h => hb e he (by omega)), hgb]
    · rfl

/-! ### Acceptance -/

theorem millOf_lt (c : Ctl) (a : Nat) : c.millOf a < 2 := by
  unfold Ctl.millOf Ctl.place
  dsimp only
  split_ifs
  · exact Nat.mod_lt _ (by decide)
  · exact Nat.zero_lt_two
  · exact Nat.zero_lt_two
  · exact Nat.one_lt_two
  · exact Nat.zero_lt_two

/-- Two memories that differ in what waits outside DRAM and its queues. -/
def SameDram (m n : Mem) : Prop := n.dram = m.dram ∧ n.wq0 = m.wq0 ∧ n.wq1 = m.wq1 ∧ n.poisoned = m.poisoned

theorem SameDram.byte {m n : Mem} (h : SameDram m n) (a : Nat) : n.byte a = m.byte a :=
  byte_of_parts h.1 h.2.1 h.2.2.1 h.2.2.2 a

theorem SameDram.wq {m n : Mem} (h : SameDram m n) (k : Nat) : n.wq k = m.wq k := by
  obtain ⟨-, h0, h1, -⟩ := h
  simp only [Mem.wq, h0, h1]

/-- What the device's next write holds: the granule that it corrects, or bytes of its own; none for a stale correction. -/
theorem own_of_nextWrite {s : State} {w : Nat × List Byte} {a : Nat} {l : Table Byte}
    (h : (if s.mem.staleFix w.1 w.2 then none else some (w.1, inGranule w.1 (s.mem.bytesOf w.1 w.2))) = some (a, l)) :
    s.mem.staleFix w.1 w.2 = false ∧ w.1 = a ∧ inGranule w.1 (s.mem.bytesOf w.1 w.2) = l := by
  split at h
  · cases h
  · rename_i hs
    cases h
    exact ⟨Bool.eq_false_iff.mpr hs, rfl, rfl⟩

/-- The write of the device that comes next is accepted where it meets room. -/
theorem dramWrite_of_next {s : State} {a : Nat} {l : Table Byte} (h : s.nextWrite false = some (a, l))
    (hroom : s.mem.hasRoom (s.ctl.millOf a) (granule a) = true) :
    ∃ m : Mem, SameDram s.mem m ∧ (dramWrite s).mem = m.enqueue s.ctl.now (s.ctl.millOf a) (granule a) l := by
  unfold State.nextWrite at h
  simp only [Bool.false_eq_true, if_false] at h
  unfold dramWrite
  split at h
  · rename_i w rest hw
    obtain ⟨hs, rfl, rfl⟩ := own_of_nextWrite h
    rw [hw]
    dsimp only
    rw [if_neg (Bool.eq_false_iff.mp hs)]
    exact ⟨{ s.mem with waiting := rest }, ⟨rfl, rfl, rfl, rfl⟩, rfl⟩
  · rename_i w _ hnone hout
    obtain ⟨hheld, h⟩ | ⟨-, h⟩ := ite_eq_iff.mp h
    · obtain ⟨hs, rfl, rfl⟩ := own_of_nextWrite h
      have hroom : s.roomFor w.1 = true := hroom
      rw [hnone, hout]
      dsimp only
      rw [hheld, hs, if_neg (by decide), if_pos hroom]
      exact ⟨s.mem, ⟨rfl, rfl, rfl, rfl⟩, rfl⟩
    · cases h
  · cases h

/-- The write of the host that comes next is accepted where it meets room, and what waited for it goes on. -/
theorem hostWrite_of_next {s : State} {a : Nat} {l : Table Byte} (h : s.nextWrite true = some (a, l))
    (hroom : s.mem.hasRoom (s.ctl.millOf a) (granule a) = true) :
    ∃ rest, hostWrite s = bar2Passed rest (acceptWrite false a l s) := by
  unfold State.nextWrite at h
  simp only [if_true] at h
  unfold hostWrite
  split at h
  · rename_i w rest hbar
    split at h
    · rename_i hinst
      cases h
      have hroom : s.roomFor w.1 = true := hroom
      rw [hbar]
      dsimp only
      rw [if_neg (not_not.mpr hinst), if_pos hroom]
      exact ⟨rest, rfl⟩
    · cases h
  · cases h

/-! ### The reads that an accepted write of the host lets go on -/

theorem readsClean_mcAsk {c : Ctl} {k : Nat} (h : ReadsClean c k) (m : Nat) {r : McRead} (hr : r.errs = []) :
    ReadsClean (mcAsk m r c) k := by
  unfold mcAsk
  split
  · by_cases hk : k = m
    · subst hk
      intro q hq
      rw [mcSt_mcMod_self] at hq
      obtain hq | hq := List.mem_append.mp hq
      · exact h q hq
      · rw [List.mem_singleton.mp hq, hr]
    · exact h.of_reads (by rw [mcSt_mcMod_ne _ _ hk])
  · exact h

theorem foldl_readsClean {A : Type} {f : Ctl → A → Ctl} {k : Nat} (hf : ∀ c a, ReadsClean c k → ReadsClean (f c a) k) (l : List A)
    {c : Ctl} (h : ReadsClean c k) : ReadsClean (l.foldl f c) k := by
  induction l generalizing c with
  | nil => exact h
  | cons a t ih => exact ih (hf c a h)

theorem readsClean_queueRead {c : Ctl} {k : Nat} (h : ReadsClean c k) (w : Asker) (cls who a n : Nat) :
    ReadsClean (queueRead w cls who a n c) k :=
  foldl_readsClean (fun _ p hc => readsClean_mcAsk hc p.1 rfl) _ h

theorem readsClean_bar2Ask {c : Ctl} {k : Nat} (h : ReadsClean c k) (r : Bar2Read) : ReadsClean (bar2Ask r c) k := by
  refine foldl_readsClean (fun d g hd => ?_) _ h
  dsimp only
  split
  · split
    · exact hd
    · exact readsClean_queueRead hd _ _ _ _ _
  · split
    · exact hd
    · exact readsClean_queueRead hd _ _ _ _ _

/-- The BAR2 reads before which every write is visible asked of their millraces. -/
def readsAsked (s : State) : State :=
  let ready := fun (r : Bar2Read) => !r.asked && r.left == 0
  { s with
    ctl := (s.mem.bar2Reads.filter ready).foldl (fun c r => bar2Ask r c) s.ctl
    mem := { s.mem with bar2Reads := s.mem.bar2Reads.map (fun r => if ready r then { r with asked := true } else r) } }

theorem bar2Ready_eq (s : State) : bar2Ready s = bar2Collect (serveBulk 1 (serveBulk 0 (readsAsked s))) := rfl

theorem sameDram_bar2Ready {s : State} (h : ∀ k, ReadsClean s.ctl k) : SameDram s.mem (bar2Ready s).mem := by
  have hask (k : Nat) : ReadsClean (readsAsked s).ctl k := foldl_readsClean (fun c r hc => readsClean_bar2Ask hc r) _ (h k)
  have hfirst := serveBulk_clean (hask 0)
  have hboth := hfirst.trans (serveBulk_clean (hfirst.2 1 (hask 1)))
  rw [bar2Ready_eq, bar2Collect_mem, hboth.1]
  exact ⟨rfl, rfl, rfl, rfl⟩

/-! ### R452: reads that keep what they saw -/

theorem reads_freeze_errs (s : State) (g n : Nat) (own : Option (Table Byte)) {k : Nat} (h : ReadsClean s.ctl k) :
    ReadsClean (s.freeze g n own) k := by
  refine foldl_readsClean (fun c m hc => ?_) _ h
  by_cases hk : k = m
  · subst hk
    intro q hq
    rw [mcSt_mcMod_self] at hq
    obtain ⟨r, hr, rfl⟩ := List.mem_map.mp hq
    dsimp only
    split
    · exact hc r hr
    · split <;> exact hc r hr
  · exact hc.of_reads (by rw [mcSt_mcMod_ne _ _ hk])

theorem countAccept_mc (c : Ctl) (m : Mem) (k g : Nat) : (c.countAccept m k g).mc = c.mc := by
  unfold Ctl.countAccept
  dsimp only
  split <;> rfl

theorem acceptWrite_mem (own : Bool) (a : Nat) (b : Table Byte) (s : State) :
    (acceptWrite own a b s).mem = s.mem.enqueue s.ctl.now (s.ctl.millOf a) (granule a) b := rfl

theorem acceptWrite_mc (own : Bool) (a : Nat) (b : Table Byte) (s : State) :
    (acceptWrite own a b s).ctl.mc = (s.freeze (granule a) 128 (if own then some b else none)).mc := countAccept_mc _ _ _ _

theorem readsClean_acceptWrite (own : Bool) (a : Nat) (b : Table Byte) {s : State} {k : Nat} (h : ReadsClean s.ctl k) :
    ReadsClean (acceptWrite own a b s).ctl k :=
  (reads_freeze_errs s (granule a) 128 (if own then some b else none) h).of_reads
    (by rw [mcSt_of_mc (acceptWrite_mc own a b s)])

/-- The oldest BAR2 write is no longer waited for. -/
def writePassed (rest : List (Nat × List (Option Byte))) (s : State) : State :=
  { s with
    ctl := bar2Visible s.ctl
    mem := { s.mem with
      bar2 := rest
      bar2Full := false
      bar2Reads := s.mem.bar2Reads.map (fun r => { r with left := r.left - 1 }) } }

theorem bar2Passed_eq (rest : List (Nat × List (Option Byte))) (s : State) : bar2Passed rest s = bar2Ready (writePassed rest s) := rfl

theorem sameDram_bar2Passed (rest : List (Nat × List (Option Byte))) {s : State} (h : ∀ k, ReadsClean s.ctl k) :
    SameDram s.mem (bar2Passed rest s).mem := by
  have hmc : (writePassed rest s).ctl.mc = s.ctl.mc := rfl
  rw [bar2Passed_eq]
  exact sameDram_bar2Ready fun k => (h k).of_reads (by rw [mcSt_of_mc hmc])

/-- DRAM_WRITE with room: the memory is that of the write's entry merged into its queue. -/
theorem dramWriteOf_of_next {s : State} {host : Bool} {a : Nat} {l : Table Byte} (h : s.nextWrite host = some (a, l))
    (hroom : s.mem.hasRoom (s.ctl.millOf a) (granule a) = true) (hclean : host = true → ∀ k, ReadsClean s.ctl k) :
    ∃ m n : Mem, SameDram s.mem m ∧ SameDram (m.enqueue s.ctl.now (s.ctl.millOf a) (granule a) l) n ∧
      (dramWriteOf host s).mem = n := by
  cases host with
  | false =>
    obtain ⟨m, hm, hw⟩ := dramWrite_of_next h hroom
    exact ⟨m, _, hm, ⟨rfl, rfl, rfl, rfl⟩, hw⟩
  | true =>
    obtain ⟨rest, hw⟩ := hostWrite_of_next h hroom
    have hpassed := sameDram_bar2Passed rest fun k => readsClean_acceptWrite false a l (hclean rfl k)
    rw [acceptWrite_mem] at hpassed
    exact ⟨s.mem, _, ⟨rfl, rfl, rfl, rfl⟩, hpassed, congrArg State.mem hw⟩

theorem exec_dramWrite_of_taken {s : State} {host : Bool} (ht : taken (.dramWrite host) s) :
    exec (.dramWrite host) s = .next (keepQueue (fun s => (dramWriteOf host s).camerasSee) s) :=
  run_next (.dramWrite host) (fun s => (dramWriteOf host s).camerasSee) s ht.1 ht.2

end Sys2Proof.Machine

/-- Settles O23: the write is merged into what the queues hold of its granule, which a reader sees before DRAM; the reads
that an accepted write of the host lets go on meet no error and change no byte (R450, R451). -/
theorem acceptedWriteIsVisible : Obligations.AcceptedWriteIsVisible := by
  unfold Obligations.AcceptedWriteIsVisible
  intro s host a l ht hnext hl hn hroom hother hclean
  obtain ⟨m, n, hm, hn', hw⟩ := dramWriteOf_of_next hnext hroom hclean
  obtain ⟨hnew, hold⟩ := byte_enqueue m s.ctl.now (l := l) (millOf_lt s.ctl a) (granule_mod a)
    (by rw [hm.wq]; exact hother) hl hn
  have hmem : (keepQueue (fun s => (dramWriteOf host s).camerasSee) s).mem = n := by
    rw [keepQueue_mem, camerasSee_mem, hw]
  refine ⟨_, exec_dramWrite_of_taken ht, fun e he => ?_, fun b hb => ?_⟩
  · rw [hmem, hn'.byte, hnew e he]
  · rw [hmem, hn'.byte, hold b hb, hm.byte]

end

section
/-! PROOFS, batches (10_millrace.md): the entries that WRITE_BATCH commits show in DRAM what they showed in the queue. -/

open Sys2Proof Sys2Proof.Machine

namespace Sys2Proof.Machine

/-! ### Cells of a granule -/

theorem cellGet_cellSetAll_of_not_mem {l : Table Byte} {base b : Nat} (h : ∀ e ∈ l, b ≠ base + e.1) (m : List Host.Cell) :
    cellGet (cellSetAll m base l) b = cellGet m b := by
  unfold cellSetAll
  induction l generalizing m with
  | nil => rfl
  | cons e t ih =>
    obtain ⟨he, ht⟩ := List.forall_mem_cons.mp h
    rw [List.foldl_cons, ih ht, cellGet_cellSet_ne m (base + e.1) b e.2 he]

theorem cellGet_cellSetAll_of_mem {l : Table Byte} (hl : (l.map (·.1)).Nodup) {base : Nat} {e : Nat × Byte} (he : e ∈ l)
    {m : List Host.Cell} (hm : cellsAbove 0 m = true) : cellGet (cellSetAll m base l) (base + e.1) = e.2 := by
  induction l generalizing m with
  | nil => cases he
  | cons f t ih =>
    rw [List.map_cons, List.nodup_cons] at hl
    obtain rfl | he := List.mem_cons.mp he
    · have hrest : ∀ g ∈ t, base + e.1 ≠ base + g.1 := fun g hg h =>
        hl.1 (List.mem_map.mpr ⟨g, hg, (Nat.add_left_cancel h).symm⟩)
      exact (cellGet_cellSetAll_of_not_mem hrest _).trans (cellGet_cellSet_self m 0 (base + e.1) e.2 hm)
    · exact ih hl.2 he (cellsAbove_cellSet m 0 (base + f.1) f.2 (Nat.zero_le _) hm)

/-- An entry of a queue as R450 has it: an aligned granule, each of its offsets once. -/
def EntryOk (e : WqEntry) : Prop := e.granule % 128 = 0 ∧ (e.bytes.map (·.1)).Nodup ∧ ∀ x ∈ e.bytes, x.1 < 128

/-- An entry written to the cells shows in its own granule alone. -/
theorem cellGet_cellSetAll_entry {e : WqEntry} (he : EntryOk e) {m : List Host.Cell} (hm : cellsAbove 0 m = true) (b : Nat) :
    cellGet (cellSetAll m e.granule e.bytes) b =
      if granule b = e.granule then (tget? e.bytes (b - e.granule)).getD (cellGet m b) else cellGet m b := by
  obtain ⟨hg, hn, hlt⟩ := he
  split
  case isTrue h =>
    have hle : e.granule ≤ b := by rw [← h]; unfold granule; omega
    by_cases hmem : ∃ x ∈ e.bytes, b = e.granule + x.1
    · obtain ⟨x, hx, rfl⟩ := hmem
      rw [cellGet_cellSetAll_of_mem hn hx hm, Nat.add_sub_cancel_left, tget?_of_mem hn hx]
      rfl
    · have hno : ∀ x ∈ e.bytes, b ≠ e.granule + x.1 := fun x hx h => hmem ⟨x, hx, h⟩
      rw [cellGet_cellSetAll_of_not_mem hno, tget?_of_not_mem fun x hx h => hno x hx (by omega)]
      rfl
  case isFalse h =>
    exact cellGet_cellSetAll_of_not_mem (fun x hx hb => h (by rw [hb, granule_add hg (hlt x hx)])) m

/-! ### Entries committed -/

/-- Entries of different granules. -/
def Apart (l : List WqEntry) : Prop := (l.map (·.granule)).Nodup

theorem find?_of_mem {l : List WqEntry} (hl : Apart l) {e : WqEntry} (he : e ∈ l) :
    l.find? (fun f => f.granule == e.granule) = some e := by
  induction l with
  | nil => cases he
  | cons f t ih =>
    rw [Apart, List.map_cons, List.nodup_cons] at hl
    obtain rfl | he := List.mem_cons.mp he
    · simp
    · have hne : f.granule ≠ e.granule := fun h => hl.1 (h ▸ List.mem_map_of_mem he)
      rw [List.find?_cons, beq_false_of_ne hne]
      exact ih hl.2 he

theorem commit_of_clean {m : Mem} (hp : m.poisoned = []) (e : WqEntry) :
    m.commit e = { m with dram := cellSetAll m.dram e.granule e.bytes } := by
  unfold Mem.commit
  rw [if_neg (by simp [hp])]
  simp [hp]

/-- What the entry of the granule of `b` in `l` holds of the byte at `b`. -/
def heldIn (l : List WqEntry) (b : Nat) : Option Byte :=
  (l.find? (fun e => e.granule == granule b)).bind (fun e => tget? e.bytes (b - granule b))

theorem commits_of_clean {l : List WqEntry} (hl : Apart l) (hok : ∀ e ∈ l, EntryOk e) {m : Mem} (hm : m.wf = true)
    (hp : m.poisoned = []) : (l.foldl Mem.commit m).poisoned = [] ∧
      ∀ b, cellGet (l.foldl Mem.commit m).dram b = (heldIn l b).getD (cellGet m.dram b) := by
  induction l generalizing m with
  | nil => exact ⟨hp, fun _ => rfl⟩
  | cons e t ih =>
    rw [Apart, List.map_cons, List.nodup_cons] at hl
    obtain ⟨he, ht⟩ := List.forall_mem_cons.mp hok
    have hcommit := commit_of_clean hp e
    obtain ⟨hp', hget⟩ := ih hl.2 ht (commit_wf m e hm) (by rw [hcommit]; exact hp)
    refine ⟨hp', fun b => (hget b).trans ?_⟩
    have hcell : cellGet (m.commit e).dram b =
        if granule b = e.granule then (tget? e.bytes (b - e.granule)).getD (cellGet m.dram b) else cellGet m.dram b := by
      rw [hcommit]
      exact cellGet_cellSetAll_entry he hm b
    rw [hcell, heldIn, heldIn, List.find?_cons]
    by_cases hb : granule b = e.granule
    · have hnone : t.find? (fun f => f.granule == granule b) = none :=
        List.find?_eq_none.mpr fun f hf h => hl.1 (List.mem_map.mpr ⟨f, hf, (beq_iff_eq.mp h).trans hb⟩)
      rw [hnone, if_pos hb, hb, beq_self_eq_true]
      rfl
    · rw [if_neg hb, beq_false_of_ne (Ne.symm hb)]

/-! ### A batch -/

/-- The entries of a queue that stay when those of `now` are committed. -/
def restOf (q now : List WqEntry) : List WqEntry := q.filter (fun e => !now.any (fun f => f.granule == e.granule))

theorem find?_restOf (q now : List WqEntry) (h : Nat) : (restOf q now).find? (fun e => e.granule == h) =
    if now.any (fun f => f.granule == h) then none else q.find? (fun e => e.granule == h) := by
  induction q with
  | nil => simp [restOf]
  | cons e q ih =>
    by_cases he : e.granule = h
    · by_cases hn : now.any (fun f => f.granule == h) = true
      · rw [if_pos hn] at ih ⊢
        rw [restOf, List.filter_cons_of_neg (by simp [he, hn])]
        exact ih
      · rw [if_neg hn]
        rw [restOf, List.filter_cons_of_pos (by simpa [he] using hn), List.find?_cons_of_pos (by simp [he]),
          List.find?_cons_of_pos (by simp [he])]
    · have hskip : (restOf (e :: q) now).find? (fun e => e.granule == h) = (restOf q now).find? (fun e => e.granule == h) := by
        unfold restOf
        rw [List.filter_cons]
        split
        · rw [List.find?_cons_of_neg (by simpa using he)]
        · rfl
      rw [hskip, ih, List.find?_cons_of_neg (by simpa using he)]

theorem mem_batchOrder {c : Ctl} {m : Nat} {q : List WqEntry} {e : WqEntry} (h : e ∈ c.batchOrder m q) : e ∈ q := by
  unfold Ctl.batchOrder at h
  simp only [List.mem_append, List.mem_filter] at h
  rcases h with (h | h) | h <;> exact h.1

theorem nodup_batchOrder (c : Ctl) (m : Nat) {q : List WqEntry} (h : q.Nodup) : (c.batchOrder m q).Nodup := by
  unfold Ctl.batchOrder
  refine List.nodup_append'.mpr ⟨List.nodup_append'.mpr ⟨h.filter _, h.filter _, ?_⟩, h.filter _, ?_⟩
  · intro e h1 h2
    simp only [List.mem_filter] at h1 h2
    simp_all
  · intro e h1 h2
    simp only [List.mem_append, List.mem_filter, Bool.and_eq_true, Bool.not_eq_true', Bool.and_eq_false_iff] at h1 h2
    obtain ⟨-, hold, hhit⟩ := h2
    rcases h1 with ⟨-, h1⟩ | ⟨-, -, h1⟩
    · rw [h1] at hold; cases hold
    · simp [hold, h1] at hhit

theorem apart_take_batchOrder (c : Ctl) (m n : Nat) {q : List WqEntry} (h : Apart q) : Apart ((c.batchOrder m q).take n) := by
  have hinj : ∀ e ∈ c.batchOrder m q, ∀ f ∈ c.batchOrder m q, e.granule = f.granule → e = f := fun e he f hf hef =>
    List.inj_on_of_nodup_map h (mem_batchOrder he) (mem_batchOrder hf) hef
  exact ((nodup_batchOrder c m h.of_map).map_on hinj).sublist ((List.take_sublist n _).map _)

theorem readPartials_nil (m : Nat) (b : List WqEntry) (s : State) : LeavesReads s (readPartials m [] b s) := by
  refine foldl_leavesReads (fun s e => ?_) _ s
  have hinc (c : Ctl) (f : Fld) (k : Nat) : ((c.inc f).mcSt k).reads = (c.mcSt k).reads := rfl
  split
  · exact (leavesReads_of_ctl s fun k => (hinc _ _ k).trans (reads_activate s.ctl m _ k)).trans (readGranule_nil m _ 2 _)
  · exact leavesReads_of_ctl s (reads_activate s.ctl m _)

/-- The memory after the entries `now` of queue `k` are committed. -/
def batched (mem : Mem) (k : Nat) (now : List WqEntry) : Mem := (now.foldl Mem.commit mem).setWq k (restOf (mem.wq k) now)

theorem KeepsClean.sameDram {s t : State} (h : KeepsClean s t) : SameDram s.mem t.mem := by
  rw [h.1]
  exact ⟨rfl, rfl, rfl, rfl⟩

/-- WRITE_BATCH without errors: the memory is as it was, or some entries of the queue are committed. -/
theorem writeBatch_clean {m : Nat} {s : State} (h : ReadsClean s.ctl m) :
    SameDram s.mem (writeBatch m [] s).mem ∨
      ∃ n, SameDram (batched s.mem m ((s.ctl.batchOrder m (s.mem.wq m)).take n)) (writeBatch m [] s).mem := by
  unfold writeBatch
  dsimp only
  split
  · exact .inl ⟨rfl, rfl, rfl, rfl⟩
  · split
    · have hkeep (f : McSt → McSt) (hf : ∀ t, (f t).reads = t.reads) :
          SameDram s.mem (serveBulk m { s with ctl := s.ctl.mcMod m f }).mem :=
        ((leavesReads_of_ctl s (reads_mcMod s.ctl m hf)).keepsClean.trans
          (serveBulk_clean (s := { s with ctl := s.ctl.mcMod m f }) (h.of_reads (reads_mcMod s.ctl m hf m)))).sameDram
      exact .inl (hkeep _ (by intro; rfl))
    · refine .inr ⟨s.ctl.wqBatch m, ?_⟩
      generalize (s.ctl.batchOrder m (s.mem.wq m)).take (s.ctl.wqBatch m) = now
      obtain ⟨hmem, hreads⟩ := readPartials_nil m now s
      generalize readPartials m [] now s = s1 at hmem hreads
      have hkeep (f : McSt → McSt) (hf : ∀ t, (f t).reads = t.reads) (mem : Mem) :
          SameDram mem (serveBulk m { s1 with ctl := s1.ctl.mcMod m f, mem := mem }).mem :=
        (serveBulk_clean (s := { s1 with ctl := s1.ctl.mcMod m f, mem := mem })
          (h.of_reads ((reads_mcMod s1.ctl m hf m).trans (hreads m)))).sameDram
      rw [hmem]
      exact hkeep _ (by intro; rfl) _

theorem batched_wq (mem : Mem) {k : Nat} (now : List WqEntry) (hk : k < 2) :
    (batched mem k now).wq k = restOf (mem.wq k) now ∧ (batched mem k now).wq (1 - k) = mem.wq (1 - k) := by
  obtain ⟨h0, h1⟩ := commits_queues now mem
  obtain ⟨g0, g1⟩ := wq_setWq (now.foldl Mem.commit mem) k (restOf (mem.wq k) now)
  rw [← batched] at g0 g1
  obtain rfl | rfl : k = 0 ∨ k = 1 := by omega
  · exact ⟨g0, g1.trans h1⟩
  · exact ⟨g1, g0.trans h0⟩

/-- Where no granule is in both queues, it does not matter which is asked first. -/
theorem entry?_of_apart {mem : Mem} {k : Nat} (hk : k < 2)
    (hother : ∀ e ∈ mem.wq k, ∀ f ∈ mem.wq (1 - k), f.granule ≠ e.granule) (g : Nat) :
    mem.entry? g = ((mem.wq k).find? (fun e => e.granule == g)).or ((mem.wq (1 - k)).find? (fun e => e.granule == g)) := by
  rw [entry?_eq]
  obtain rfl | rfl : k = 0 ∨ k = 1 := by omega
  · rfl
  · change (mem.wq0.find? _).or (mem.wq1.find? _) = (mem.wq1.find? _).or (mem.wq0.find? _)
    cases h1 : mem.wq1.find? (fun e => e.granule == g) with
    | none => rw [Option.or_none, Option.none_or]
    | some e =>
      have he : e.granule = g := by simpa using List.find?_some h1
      have h0 : mem.wq0.find? (fun e => e.granule == g) = none := List.find?_eq_none.mpr fun f hf hg =>
        hother e (List.mem_of_find?_eq_some h1) f hf ((beq_iff_eq.mp hg).trans he.symm)
      rw [h0, Option.none_or, Option.or_none]

theorem stored_of_clean {mem : Mem} (hp : mem.poisoned = []) (b : Nat) : stored mem b = (cellGet mem.dram b, false) := by
  rw [stored, hp]
  rfl

theorem stored_batched {mem : Mem} {now : List WqEntry} (k : Nat) (hwf : mem.wf = true) (hp : mem.poisoned = [])
    (hnow : Apart now) (hok : ∀ e ∈ now, EntryOk e) (b : Nat) :
    stored (batched mem k now) b = ((heldIn now b).getD (cellGet mem.dram b), false) := by
  obtain ⟨hp', hget⟩ := commits_of_clean hnow hok hwf hp
  have hset : ∀ n : Mem, ∀ l, (n.setWq k l).dram = n.dram ∧ (n.setWq k l).poisoned = n.poisoned := by
    intro n l
    unfold Mem.setWq
    split <;> exact ⟨rfl, rfl⟩
  obtain ⟨hdram, hpois⟩ := hset (now.foldl Mem.commit mem) (restOf (mem.wq k) now)
  rw [batched, stored_of_clean (hpois.trans hp'), hdram, hget b]

/-- R450 to R453: entries of a queue that are committed show in DRAM what a reader saw of them in the queue. -/
theorem byte_batched {mem : Mem} {k : Nat} {now : List WqEntry} (hk : k < 2) (hwf : mem.wf = true) (hp : mem.poisoned = [])
    (hsub : ∀ e ∈ now, e ∈ mem.wq k) (hnow : Apart now) (hq : Apart (mem.wq k)) (hok : ∀ e ∈ mem.wq k, EntryOk e)
    (hother : ∀ e ∈ mem.wq k, ∀ f ∈ mem.wq (1 - k), f.granule ≠ e.granule) (b : Nat) :
    (batched mem k now).byte b = mem.byte b := by
  obtain ⟨hwq, hwq'⟩ := batched_wq mem now hk
  have hrest : ∀ e ∈ (batched mem k now).wq k, ∀ f ∈ (batched mem k now).wq (1 - k), f.granule ≠ e.granule := by
    rw [hwq, hwq']
    exact fun e he => hother e (List.mem_filter.mp he).1
  have hnew : (batched mem k now).entry? (granule b) = _ := entry?_of_apart hk hrest (granule b)
  rw [hwq, hwq', find?_restOf] at hnew
  have hstored := stored_batched k hwf hp hnow (fun e he => hok e (hsub e he)) b
  by_cases hany : now.any (fun f => f.granule == granule b) = true
  · obtain ⟨e, he, hg⟩ := List.any_eq_true.mp hany
    have hg : e.granule = granule b := beq_iff_eq.mp hg
    have hnone : (mem.wq (1 - k)).find? (fun f => f.granule == granule b) = none :=
      List.find?_eq_none.mpr fun f hf h => hother e (hsub e he) f hf ((beq_iff_eq.mp h).trans hg.symm)
    have hold : mem.entry? (granule b) = some e := by
      rw [entry?_of_apart hk hother, ← hg, find?_of_mem hq (hsub e he)]
      rfl
    have hheld : heldIn now b = tget? e.bytes (b - granule b) := by
      rw [heldIn, ← hg, find?_of_mem hnow he]
      rfl
    rw [if_pos hany, hnone] at hnew
    rw [byte_eq, queued, hnew, hstored, hheld, byte_eq mem, queued, hold]
    cases htget : tget? e.bytes (b - granule b) <;> simp [htget, stored_of_clean hp]
  · have hheld : heldIn now b = none := by
      rw [heldIn, List.find?_eq_none.mpr fun f hf h => hany (List.any_eq_true.mpr ⟨f, hf, h⟩)]
      rfl
    rw [if_neg hany, ← entry?_of_apart hk hother] at hnew
    refine byte_congr (by rw [queued, queued, hnew]) ?_
    rw [hstored, hheld, stored_of_clean hp]
    rfl

theorem apart_of_wqSound {l : List WqEntry} (h : wqSound l = true) : Apart l ∧ ∀ e ∈ l, e.granule % 128 = 0 := by
  simp only [wqSound, Bool.and_eq_true, decide_eq_true_eq, List.all_eq_true, beq_iff_eq] at h
  exact ⟨h.2, h.1.2⟩

theorem exec_writeBatch_of_taken {s : State} {w : WriteBatch} (ht : taken (.writeBatch w) s) :
    exec (.writeBatch w) s = .next (keepQueue (fun s => bar2Collect (writeBatch w.m w.errs s)) s) :=
  run_next (.writeBatch w) (fun s => bar2Collect (writeBatch w.m w.errs s)) s ht.1 ht.2

end Sys2Proof.Machine

/-- Settles O24: the batch either commits no entry, or some whose bytes then stand in DRAM, the reads without errors
aside, which change no byte (R450, R451, R453, R454). -/
theorem writeBatchKeepsWhatReadersSee : Obligations.WriteBatchKeepsWhatReadersSee := by
  unfold Obligations.WriteBatchKeepsWhatReadersSee
  intro s m ht hs hbytes hdisjoint hp hclean
  have hm : m < 2 := by simpa [Instr.wellFormed] using ht.1
  obtain ⟨hapart, halign⟩ := apart_of_wqSound (sound_wq s m hs)
  have hother : ∀ e ∈ s.mem.wq m, ∀ f ∈ s.mem.wq (1 - m), f.granule ≠ e.granule := by
    obtain rfl | rfl : m = 0 ∨ m = 1 := by omega
    · exact fun e he f hf => (hdisjoint e he f hf).symm
    · exact fun e he f hf => hdisjoint f hf e he
  refine ⟨_, exec_writeBatch_of_taken ht, fun b => ?_⟩
  have hcollect : (keepQueue (fun s => bar2Collect (writeBatch m [] s)) s).mem.byte b = (writeBatch m [] s).mem.byte b :=
    byte_of_parts rfl rfl rfl rfl b
  rw [hcollect]
  obtain hsame | ⟨n, hsame⟩ := writeBatch_clean hclean
  · exact hsame.byte b
  · exact (hsame.byte b).trans (byte_batched hm ((sound_iff s).mp hs).1 hp
      (fun e he => mem_batchOrder (List.mem_of_mem_take he)) (apart_take_batchOrder s.ctl m n hapart) hapart
      (fun e he => ⟨halign e he, hbytes e he⟩) hother b)

end


section
/-! PROOFS, completion of the commands (00_scope.md, 01_machine_picture.md): what a command taken answers, by the shape of its
meaning and by the page that takes its write. -/

open Sys2Proof Sys2Proof.Machine

namespace Sys2Proof.Machine

/-- A change of the control state. -/
theorem exec_of_runCtl {i : Instr} {f : Ctl → Ctl} {s : State} (he : exec i s = runCtl i f s) (ht : taken i s) :
    exec i s = .next { s with ctl := f s.ctl } :=
  he.trans (runCtl_next i f s ht.1 ht.2)

/-- A change of the control state by a write of a page that takes it at once. -/
theorem exec_of_guardW {i : Instr} {a : Nat} {w : Word} {f : Ctl → Ctl} {s : State}
    (he : exec i s = runCtl i (guardW a w f) s) (ht : taken i s) (ha : s.ctl.access a = .ok) (hm : s.ctl.mustWait a = false) :
    exec i s = .next { s with ctl := f s.ctl } := by
  rw [exec_of_runCtl he ht, guardW_of_free ha hm]

/-- A change of the whole machine. -/
theorem exec_of_run {i : Instr} {f : State → State} {s : State} (he : exec i s = run i f s) (ht : taken i s) :
    exec i s = .next (keepQueue f s) :=
  he.trans (run_next i f s ht.1 ht.2)

/-- A change of the whole machine by a write of a page that takes it at once. -/
theorem exec_of_guardWS {i : Instr} {a : Nat} {w : Word} {f : State → State} {s : State}
    (he : exec i s = run i (guardWS a w f) s) (ht : taken i s) (ha : s.ctl.access a = .ok) (hm : s.ctl.mustWait a = false) :
    exec i s = .next (keepQueue f s) := by
  rw [exec_of_run he ht, keepQueue, guardWS_of_free ha hm, keepQueue]

/-- A change of the control state that may move the address map. -/
theorem exec_of_runMap {i : Instr} {f : Ctl → Ctl} {s : State} (he : exec i s = runMap i f s) (ht : taken i s) :
    exec i s = .next (bar2Collect { s with ctl := f s.ctl, mem := s.mem.remap s.ctl (f s.ctl) }) :=
  he.trans (runMap_next i f s ht.1 ht.2)

/-- The same by a write of a page that takes it at once. -/
theorem exec_of_runMap_guardW {i : Instr} {a : Nat} {w : Word} {f : Ctl → Ctl} {s : State}
    (he : exec i s = runMap i (guardW a w f) s) (ht : taken i s) (ha : s.ctl.access a = .ok) (hm : s.ctl.mustWait a = false) :
    exec i s = .next (bar2Collect { s with ctl := f s.ctl, mem := s.mem.remap s.ctl (f s.ctl) }) := by
  rw [exec_of_runMap he ht, guardW_of_free ha hm]

/-- A change of the control state, with the writes that waited. -/
theorem exec_of_runHeld {i : Instr} {f : Ctl → Ctl} {s : State} (he : exec i s = runHeld i f s) (ht : taken i s) :
    exec i s = .next (keepQueue (State.releaseHeld s.ctl.host.held) { s with ctl := f s.ctl }) :=
  he.trans (run_next i _ s ht.1 ht.2)

/-- A tick, with the record that waited for a replay and the writes that waited. -/
theorem exec_of_runTick {i : Instr} {f : Ctl → Ctl} {s : State} (he : exec i s = runTick i f s) (ht : taken i s) :
    exec i s = .next (keepQueue (fun s => State.releaseHeld s.ctl.host.held (waitingRecord { s with ctl := f s.ctl })) s) :=
  he.trans (run_next i _ s ht.1 ht.2)

/-- A command of power and resets acts in reset too. -/
theorem exec_of_runAlways {i : Instr} {f : State → State} {s : State} (he : exec i s = runAlways i f s)
    (hw : i.wellFormed = true) : exec i s = .next (keepQueue f s) :=
  he.trans (runAlways_next i f s hw)

/-- SOFT_RESET at a page that takes it: the change of the page, and of the map at a millrace (R690, R444). -/
theorem exec_softReset_of_free {addr : Nat} {en : Bool} {s : State} (ht : taken (.softReset addr en) s)
    (ha : s.ctl.access (R.BLK_CTRL addr) = .ok) (hm : s.ctl.mustWait (R.BLK_CTRL addr) = false) :
    exec (.softReset addr en) s = .next (keepQueue (onMapAt addr (fun s => { s with ctl := softReset addr en s.ctl })) s) := by
  rw [exec_of_run (i := .softReset addr en) (f := onMapAt addr (fun s =>
    { s with ctl := guardW (R.BLK_CTRL addr) (BitVec.ofNat 32 (2 + b2n en)) (softReset addr en) s.ctl })) rfl ht]
  unfold onMapAt
  split
  · simp only [keepQueue, onMap, guardW_of_free ha hm]
  · simp only [keepQueue, guardW_of_free ha hm]

end Sys2Proof.Machine

/-- Settles O31: each command runs the operation named, a write once its page takes it. -/
theorem barCommandsComplete : Obligations.BarCommandsComplete := by
  unfold Obligations.BarCommandsComplete
  refine ⟨?bar0AccessError, ?bar0NoPageAccess, ?stoppedPageAccess, ?registerWrite, ?wideValueRead,
    ?wideValueCommit, ?counterReadClear, ?blkEnable, ?softReset, ?tick, ?tallyWrap⟩
  case bar0AccessError =>
    exact fun write addr size _ => exec_of_runCtl
      (f := fun c => if sizeOk addr size then c else accErr write 1 addr c) (by rfl)
  case bar0NoPageAccess =>
    exact fun write addr _ => exec_of_runCtl
      (f := fun c => if inPage addr then c else accErr write 2 addr c) (by rfl)
  case stoppedPageAccess =>
    exact fun write addr _ => exec_of_runCtl
      (f := fun c => if c.access addr = .refused 3 then accErr write 3 addr c else c) (by rfl)
  case registerWrite => exact fun _ _ _ => exec_of_guardWS (by rfl)
  case wideValueRead => exact fun _ _ => exec_of_run (by rfl)
  case wideValueCommit => exact fun _ _ _ => exec_of_guardWS (by rfl)
  case counterReadClear => exact fun _ _ => exec_of_run (by rfl)
  case blkEnable => exact fun _ _ _ => exec_of_guardWS (by rfl)
  case softReset => exact fun _ _ _ => exec_softReset_of_free
  case tick => exact fun _ => exec_of_runTick (by rfl)
  case tallyWrap => exact fun _ => exec_of_runTick (by rfl)

/-- Settles O32: each command of streams and the loader runs the operation named. -/
theorem streamCommandsComplete : Obligations.StreamCommandsComplete := by
  unfold Obligations.StreamCommandsComplete
  refine ⟨?doorbell, ?doorbellOrd, ?orderedDoorbellEffect, ?ctxEnable, ?ctxDisable, ?ctxDrainComplete, ?resume,
    ?skip, ?hopperReadRequest, ?hopperReadReturn, ?recordStart, ?recordRetire, ?shareOffer, ?fenceArrive,
    ?fenceTimeout, ?layerEndArrive, ?layerEndPass, ?ldrEnable, ?ldrDb, ?ldrDescriptorReturn, ?ldrDataReturn,
    ?ldrCompletion, ?ldrResume, ?ldrAbort⟩
  case doorbell => exact fun _ _ => exec_of_guardW (by rfl)
  case doorbellOrd => exact fun _ _ => exec_of_guardWS (by rfl)
  case orderedDoorbellEffect => exact fun _ => exec_of_runHeld (by rfl)
  case ctxEnable => exact fun _ _ _ => exec_of_guardW (by rfl)
  case ctxDisable => exact fun _ _ _ => exec_of_guardW (by rfl)
  case ctxDrainComplete => exact fun _ _ => exec_of_runCtl (by rfl)
  case resume => exact fun _ _ => exec_of_guardW (by rfl)
  case skip => exact fun _ _ => exec_of_guardW (by rfl)
  case hopperReadRequest => exact fun _ => exec_of_runCtl (by rfl)
  case hopperReadReturn => exact fun _ _ _ => exec_of_run (by rfl)
  case recordStart => exact fun _ _ => exec_of_runCtl (by rfl)
  case recordRetire => exact fun _ _ => exec_of_runCtl (by rfl)
  case shareOffer => exact fun _ _ => exec_of_runCtl (by rfl)
  case fenceArrive => exact fun _ _ => exec_of_runCtl (by rfl)
  case fenceTimeout => exact fun _ _ => exec_of_runCtl (by rfl)
  case layerEndArrive => exact fun _ _ => exec_of_runCtl (by rfl)
  case layerEndPass => exact fun _ _ => exec_of_runCtl (by rfl)
  case ldrEnable => exact fun _ _ => exec_of_guardW (by rfl)
  case ldrDb => exact fun _ _ => exec_of_guardW (by rfl)
  case ldrDescriptorReturn => exact fun _ _ => exec_of_runCtl (by rfl)
  case ldrDataReturn => exact fun _ _ _ _ => exec_of_runCtl (by rfl)
  case ldrCompletion => exact fun _ => exec_of_run (by rfl)
  case ldrResume => exact fun _ => exec_of_guardW (by rfl)
  case ldrAbort => exact fun _ => exec_of_guardW (by rfl)

/-- Settles O33: each command of spindles, tables and the fantail runs the operation named. -/
theorem spindleFantailCommandsComplete : Obligations.SpindleFantailCommandsComplete := by
  unfold Obligations.SpindleFantailCommandsComplete
  refine ⟨?spindleEnable, ?spindleDisable, ?mirrorAtRest, ?brakeResume, ?spindleGridSwap, ?publish, ?profDone,
    ?tableWindowWrite, ?waitAlarm, ?terrFetchReturn, ?flowLost, ?flowRestored⟩
  case spindleEnable => exact fun _ _ => exec_of_guardW (by rfl)
  case spindleDisable => exact fun _ _ => exec_of_guardW (by rfl)
  case mirrorAtRest => exact fun _ _ => exec_of_runCtl (by rfl)
  case brakeResume => exact fun _ _ => exec_of_guardW (by rfl)
  case spindleGridSwap => exact fun _ _ => exec_of_guardW (by rfl)
  case publish => exact fun _ => exec_of_guardW (by rfl)
  case profDone => exact fun _ => exec_of_runCtl (by rfl)
  case tableWindowWrite => exact fun _ _ _ => exec_of_guardW (by rfl)
  case waitAlarm => exact fun _ _ => exec_of_runCtl (by rfl)
  case terrFetchReturn => exact fun _ _ _ => exec_of_run (by rfl)
  case flowLost => exact fun _ => exec_of_runCtl (by rfl)
  case flowRestored => exact fun _ => exec_of_runCtl (by rfl)

/-- Settles O34: each command of tentering and the ledger runs the operation named. -/
theorem heatCommandsComplete : Obligations.HeatCommandsComplete := by
  unfold Obligations.HeatCommandsComplete
  refine ⟨?meas, ?measMissing, ?keeper, ?ledgerEnable, ?ledgerFillDone, ?ledgerDisable, ?mpower, ?mpowerMissing,
    ?mpClear, ?haltClear, ?ledgerEvaluation, ?ledgerCellReturn, ?ledgerSweep⟩
  case meas => exact fun _ _ _ _ _ => exec_of_runCtl (by rfl)
  case measMissing => exact fun _ _ _ => exec_of_runCtl (by rfl)
  case keeper => exact fun _ _ => exec_of_runCtl (by rfl)
  case ledgerEnable => exact fun _ => exec_of_guardW (by rfl)
  case ledgerFillDone => exact fun _ => exec_of_run (by rfl)
  case ledgerDisable => exact fun _ => exec_of_guardW (by rfl)
  case mpower => exact fun _ _ _ _ => exec_of_runCtl (by rfl)
  case mpowerMissing => exact fun _ _ => exec_of_runCtl (by rfl)
  case mpClear => exact fun _ _ => exec_of_guardW (by rfl)
  case haltClear => exact fun _ => exec_of_guardW (by rfl)
  case ledgerEvaluation => exact fun _ _ => exec_of_run (by rfl)
  case ledgerCellReturn => exact fun _ _ _ => exec_of_run (by rfl)
  case ledgerSweep => exact fun _ => exec_of_run (by rfl)

/-- Settles O35: each command of a lane runs the operation named, with what a lane that leaves ACTIVE brings. -/
theorem laneCommandsComplete : Obligations.LaneCommandsComplete := by
  unfold Obligations.LaneCommandsComplete
  refine ⟨?laneEnable, ?laneDisable, ?start, ?retrain, ?laneRateWrite, ?detectProbe, ?train, ?idle, ?exchOffer,
    ?exchConfirm, ?laneTimeout, ?backoffExpiry, ?blockLockLost, ?relockTimeout, ?signalLost, ?retrainReq,
    ?retrainAck, ?retrainReqTimeout, ?fomWindowEnd, ?dfeStep, ?adaptFrozen, ?lineKeeperSend, ?lineKeeper,
    ?blockDiscard, ?eiEnter, ?wakeTimeout, ?laneTestMode, ?injGo, ?injStop, ?checkerBlock⟩
  case laneEnable => exact fun _ _ => exec_of_guardW (by rfl)
  case laneDisable => exact fun _ _ => exec_of_guardW (by rfl)
  case start => exact fun _ _ => exec_of_guardW (by rfl)
  case retrain => exact fun _ _ => exec_of_guardW (by rfl)
  case laneRateWrite => exact fun _ _ _ => exec_of_guardW (by rfl)
  case detectProbe => exact fun _ _ _ _ => exec_of_runCtl (by rfl)
  case train => exact fun _ _ _ _ _ _ _ => exec_of_runCtl (by rfl)
  case idle => exact fun _ _ _ _ => exec_of_runCtl (by rfl)
  case exchOffer => exact fun _ _ _ _ => exec_of_runCtl (by rfl)
  case exchConfirm => exact fun _ _ _ _ => exec_of_runCtl (by rfl)
  case laneTimeout => exact fun _ _ => exec_of_runCtl (by rfl)
  case backoffExpiry => exact fun _ _ => exec_of_runCtl (by rfl)
  case blockLockLost => exact fun _ _ => exec_of_runCtl (by rfl)
  case relockTimeout => exact fun _ _ => exec_of_runCtl (by rfl)
  case signalLost => exact fun _ _ => exec_of_runCtl (by rfl)
  case retrainReq => exact fun _ _ _ _ => exec_of_runCtl (by rfl)
  case retrainAck => exact fun _ _ _ _ => exec_of_runCtl (by rfl)
  case retrainReqTimeout => exact fun _ _ => exec_of_runCtl (by rfl)
  case fomWindowEnd => exact fun _ _ _ => exec_of_runCtl (by rfl)
  case dfeStep => exact fun _ _ _ => exec_of_runCtl (by rfl)
  case adaptFrozen => exact fun _ _ => exec_of_runCtl (by rfl)
  case lineKeeperSend => exact fun _ _ => exec_of_runCtl (by rfl)
  case lineKeeper => exact fun _ _ _ => exec_of_runCtl (by rfl)
  case blockDiscard => exact fun _ _ _ _ => exec_of_runCtl (by rfl)
  case eiEnter => exact fun _ _ _ _ => exec_of_runCtl (by rfl)
  case wakeTimeout => exact fun _ _ => exec_of_runCtl (by rfl)
  case laneTestMode => exact fun _ _ _ => exec_of_guardW (by rfl)
  case injGo => exact fun _ _ _ => exec_of_guardW (by rfl)
  case injStop => exact fun _ _ _ => exec_of_guardW (by rfl)
  case checkerBlock => exact fun _ _ _ _ => exec_of_runCtl (by rfl)

/-- Settles O36: each command of the protocol and the brake runs the operation named. -/
theorem protoBrakeCommandsComplete : Obligations.ProtoBrakeCommandsComplete := by
  unfold Obligations.ProtoBrakeCommandsComplete
  refine ⟨?tickMark, ?mgmtGo, ?mgmtRetry, ?mgmtRsp, ?galvo, ?hstat, ?partnerTickMark, ?partnerSample, ?correction,
    ?brake, ?brakeEcho, ?camCredit, ?camSof, ?camData, ?camEof, ?camEnable, ?xy2Enable, ?xy2Frame, ?brakeInEdge,
    ?brakePeriodic, ?engage, ?release, ?brkInMismatch⟩
  case tickMark => exact fun _ => exec_of_runCtl (by rfl)
  case mgmtGo => exact fun _ _ _ => exec_of_guardW (by rfl)
  case mgmtRetry => exact fun _ _ => exec_of_runCtl (by rfl)
  case mgmtRsp => exact fun _ _ _ _ => exec_of_runCtl (by rfl)
  case galvo => exact fun _ _ _ _ => exec_of_runCtl (by rfl)
  case hstat => exact fun _ _ _ _ => exec_of_runCtl (by rfl)
  case partnerTickMark => exact fun _ _ _ _ => exec_of_runCtl (by rfl)
  case partnerSample => exact fun _ _ _ _ _ _ => exec_of_runCtl (by rfl)
  case correction => exact fun _ _ _ _ _ => exec_of_runCtl (by rfl)
  case brake => exact fun _ _ _ _ _ => exec_of_runCtl (by rfl)
  case brakeEcho => exact fun _ _ => exec_of_runCtl (by rfl)
  case camCredit => exact fun _ _ => exec_of_runCtl (by rfl)
  case camSof => exact fun _ _ _ _ => exec_of_runCtl (by rfl)
  case camData => exact fun _ _ _ _ => exec_of_runCtl (by rfl)
  case camEof => exact fun _ _ _ _ => exec_of_runCtl (by rfl)
  case camEnable => exact fun _ _ _ => exec_of_guardW (by rfl)
  case xy2Enable => exact fun _ _ _ => exec_of_guardW (by rfl)
  case xy2Frame => exact fun _ _ => exec_of_runCtl (by rfl)
  case brakeInEdge => exact fun _ _ _ _ => exec_of_runCtl (by rfl)
  case brakePeriodic => exact fun _ => exec_of_runCtl (by rfl)
  case engage => exact fun _ _ => exec_of_guardW (by rfl)
  case release => exact fun _ => exec_of_guardW (by rfl)
  case brkInMismatch => exact fun _ => exec_of_runCtl (by rfl)

/-- Settles O37: each command of the twin runs the operation named. -/
theorem twinCommandsComplete : Obligations.TwinCommandsComplete := by
  unfold Obligations.TwinCommandsComplete
  refine ⟨?twinEnable, ?pairOffer, ?pairUid, ?pairConfirm, ?pairTimeout, ?twinCycleBoundary, ?beacon, ?beaconLoss,
    ?align, ?recBlockIn, ?stateRecordComplete, ?recordDeadline, ?replayComplete, ?fwd, ?fwdApply, ?configDigest,
    ?digestHalfTimeout, ?twinAliveToggle, ?twinAliveEdge, ?aliveSilent, ?solo, ?handoverCmd, ?handoverSend,
    ?handover, ?nativeSwitchover, ?seamSwitchover, ?autoResume, ?duplicateTakeover, ?dupRelock⟩
  case twinEnable => exact fun _ _ => exec_of_guardW (by rfl)
  case pairOffer => exact fun _ _ _ _ => exec_of_runCtl (by rfl)
  case pairUid => exact fun _ _ _ _ => exec_of_runCtl (by rfl)
  case pairConfirm => exact fun _ _ _ _ => exec_of_runCtl (by rfl)
  case pairTimeout => exact fun _ => exec_of_runCtl (by rfl)
  case twinCycleBoundary => exact fun _ _ => exec_of_runCtl (by rfl)
  case beacon => exact fun _ _ _ _ => exec_of_runCtl (by rfl)
  case beaconLoss => exact fun _ => exec_of_runCtl (by rfl)
  case align => exact fun _ _ _ _ => exec_of_runCtl (by rfl)
  case recBlockIn => exact fun _ _ _ _ => exec_of_runCtl (by rfl)
  case stateRecordComplete => exact fun _ => exec_of_run (by rfl)
  case recordDeadline => exact fun _ => exec_of_runCtl (by rfl)
  case replayComplete => exact fun _ => exec_of_run (by rfl)
  case fwd => exact fun _ _ _ _ => exec_of_runCtl (by rfl)
  case fwdApply => exact fun _ => exec_of_runHeld (by rfl)
  case configDigest => exact fun _ => exec_of_runCtl (by rfl)
  case digestHalfTimeout => exact fun _ => exec_of_runCtl (by rfl)
  case twinAliveToggle => exact fun _ _ => exec_of_runCtl (by rfl)
  case twinAliveEdge => exact fun _ => exec_of_runCtl (by rfl)
  case aliveSilent => exact fun _ => exec_of_runCtl (by rfl)
  case solo => exact fun _ => exec_of_guardW (by rfl)
  case handoverCmd => exact fun _ => exec_of_guardW (by rfl)
  case handoverSend => exact fun _ => exec_of_runCtl (by rfl)
  case handover => exact fun _ _ => exec_of_runCtl (by rfl)
  case nativeSwitchover => exact fun _ => exec_of_runCtl (by rfl)
  case seamSwitchover => exact fun _ => exec_of_runCtl (by rfl)
  case autoResume => exact fun _ => exec_of_runCtl (by rfl)
  case duplicateTakeover => exact fun _ => exec_of_runCtl (by rfl)
  case dupRelock => exact fun _ _ => exec_of_runCtl (by rfl)

/-- Settles O38: each command of the millraces runs the operation named, and moves the memory where the map may change. -/
theorem memoryCommandsComplete : Obligations.MemoryCommandsComplete := by
  unfold Obligations.MemoryCommandsComplete
  refine ⟨?millraceEnable, ?initDone, ?trainStepDone, ?trainRetry, ?mcRetrain, ?mcRateWrite, ?rtRead,
    ?rtReadReturn, ?bulkRead, ?dramWrite, ?writeBatch, ?refreshDue, ?refreshRepay, ?nrr, ?dramTempRead,
    ?periodicCalibration, ?scrubRead, ?rowClose⟩
  case millraceEnable => exact fun _ _ _ => exec_of_runMap_guardW (by rfl)
  case initDone => exact fun _ _ => exec_of_runMap (by rfl)
  case trainStepDone => exact fun _ _ _ => exec_of_runMap (by rfl)
  case trainRetry => exact fun _ _ => exec_of_runCtl (by rfl)
  case mcRetrain => exact fun _ _ => exec_of_runMap_guardW (by rfl)
  case mcRateWrite => exact fun _ _ _ => exec_of_guardW (by rfl)
  case rtRead => exact fun _ _ _ _ _ _ => exec_of_runCtl (by rfl)
  case rtReadReturn => exact fun _ _ _ _ => exec_of_run (by rfl)
  case bulkRead => exact fun _ _ _ _ => exec_of_run (by rfl)
  case dramWrite => exact fun _ _ => exec_of_run (by rfl)
  case writeBatch => exact fun _ _ _ => exec_of_run (by rfl)
  case refreshDue => exact fun _ _ _ _ => exec_of_runCtl (by rfl)
  case refreshRepay => exact fun _ _ _ _ => exec_of_runCtl (by rfl)
  case nrr => exact fun _ _ => exec_of_runCtl (by rfl)
  case dramTempRead => exact fun _ _ _ => exec_of_runCtl (by rfl)
  case periodicCalibration => exact fun _ _ => exec_of_runCtl (by rfl)
  case scrubRead => exact fun _ _ _ => exec_of_run (by rfl)
  case rowClose => exact fun m bank _ => exec_of_run (f := fun s => { s with ctl := rowClose m bank (s.mem.wq m) s.ctl }) (by rfl)

/-- Settles O39: each command of the host port runs the operation named. -/
theorem hostCommandsComplete : Obligations.HostCommandsComplete := by
  unfold Obligations.HostCommandsComplete
  refine ⟨?bar2Write, ?bar2Read, ?bar2WinWrite, ?flr, ?linkDown, ?configRequest, ?msixMessage, ?msixEnable,
    ?ptmDialogue, ?ptmResponse, ?wallSet, ?logEnable, ?logRecordWrite, ?logDrop, ?logWriteback, ?smbChipId,
    ?smbHealth, ?smbDiodes, ?smbRails, ?smbTally, ?smbLink, ?smbHalts, ?smbUnknown, ?smbAlertResponse⟩
  case bar2Write => exact fun _ _ _ => exec_of_run (by rfl)
  case bar2Read => exact fun _ _ _ => exec_of_run (by rfl)
  case bar2WinWrite => exact fun _ _ => exec_of_guardW (by rfl)
  case flr => exact fun _ => exec_of_runCtl (by rfl)
  case linkDown => exact fun _ => exec_of_runCtl (by rfl)
  case configRequest => exact fun _ _ => exec_of_runCtl (by rfl)
  case msixMessage => exact fun _ _ => exec_of_runCtl (by rfl)
  case msixEnable => exact fun _ _ _ => exec_of_runCtl (by rfl)
  case ptmDialogue => exact fun _ _ => exec_of_runCtl (by rfl)
  case ptmResponse => exact fun _ _ _ _ _ => exec_of_runCtl (by rfl)
  case wallSet => exact fun _ _ => exec_of_guardW (by rfl)
  case logEnable => exact fun _ _ => exec_of_guardW (by rfl)
  case logRecordWrite => exact fun _ => exec_of_runCtl (by rfl)
  case logDrop => exact fun _ => exec_of_runCtl (by rfl)
  case logWriteback => exact fun _ => exec_of_runCtl (by rfl)
  case smbChipId => exact fun _ => exec_of_runCtl (by rfl)
  case smbHealth => exact fun _ => exec_of_runCtl (f := fun c => smbHealth c.armed c) (by rfl)
  case smbDiodes => exact fun _ => exec_of_runCtl (by rfl)
  case smbRails => exact fun _ => exec_of_runCtl (by rfl)
  case smbTally => exact fun _ => exec_of_runCtl (by rfl)
  case smbLink => exact fun _ => exec_of_runCtl (by rfl)
  case smbHalts => exact fun _ => exec_of_runCtl (by rfl)
  case smbUnknown => exact fun _ _ => exec_of_runCtl (by rfl)
  case smbAlertResponse => exact fun _ => exec_of_runCtl (by rfl)

/-- Settles O40: each command of the sluice and the recorder runs the operation named. -/
theorem sluiceRecorderCommandsComplete : Obligations.SluiceRecorderCommandsComplete := by
  unfold Obligations.SluiceRecorderCommandsComplete
  refine ⟨?sluiceEnable, ?sourceLevel, ?sourceEdge, ?swPendSet, ?swPendClear, ?ctxClaim, ?ctxComplete,
    ?ctxCompleteFlush, ?ctxThreshWrite, ?scanAck, ?coalesceRelease, ?buildOpen, ?buildClose, ?freeze,
    ?freezeExpired, ?recMwWrite, ?nvWrite, ?nvTokenRefill, ?lifetime, ?wearIntervalEnd, ?wearCfgWrite⟩
  case sluiceEnable => exact fun _ _ => exec_of_guardW (by rfl)
  case sourceLevel => exact fun _ _ => exec_of_runCtl (by rfl)
  case sourceEdge => exact fun _ _ => exec_of_runCtl (by rfl)
  case swPendSet => exact fun _ _ => exec_of_guardW (by rfl)
  case swPendClear => exact fun _ _ => exec_of_guardW (by rfl)
  case ctxClaim => exact fun _ _ => exec_of_run (by rfl)
  case ctxComplete => exact fun _ _ _ => exec_of_guardW (by rfl)
  case ctxCompleteFlush => exact fun _ _ => exec_of_guardW (by rfl)
  case ctxThreshWrite => exact fun _ _ _ => exec_of_guardW (by rfl)
  case scanAck => exact fun _ _ _ => exec_of_guardW (by rfl)
  case coalesceRelease => exact fun _ _ => exec_of_runCtl (by rfl)
  case buildOpen => exact fun _ => exec_of_guardW (by rfl)
  case buildClose => exact fun _ => exec_of_guardW (by rfl)
  case freeze => exact fun _ _ => exec_of_guardW (by rfl)
  case freezeExpired => exact fun _ => exec_of_runCtl (by rfl)
  case recMwWrite => exact fun _ _ _ => exec_of_guardW (by rfl)
  case nvWrite => exact fun _ _ => exec_of_runCtl (by rfl)
  case nvTokenRefill => exact fun _ => exec_of_runCtl (by rfl)
  case lifetime => exact fun _ => exec_of_runCtl (by rfl)
  case wearIntervalEnd => exact fun _ => exec_of_runCtl (by rfl)
  case wearCfgWrite => exact fun _ _ _ => exec_of_guardW (by rfl)

/-- Settles O41: each command of lighting and axes runs the operation named. -/
theorem lightAxesCommandsComplete : Obligations.LightAxesCommandsComplete := by
  unfold Obligations.LightAxesCommandsComplete
  refine ⟨?rowSlot, ?swap, ?patClear, ?shortTest, ?camSyncEdge, ?gpiChange, ?encoderEdge, ?encZEdge, ?encSet,
    ?axisEnable, ?moveAbs, ?moveRel, ?velocity, ?stop, ?qstop, ?home, ?gear, ?setPos, ?armRatio, ?disarm,
    ?axCmdUnassigned, ?axisUpdate, ?standstill, ?wakeDone⟩
  case rowSlot => exact fun _ _ _ _ _ _ => exec_of_runCtl (by rfl)
  case swap => exact fun _ => exec_of_guardW (by rfl)
  case patClear => exact fun _ => exec_of_guardW (by rfl)
  case shortTest => exact fun _ => exec_of_guardW (by rfl)
  case camSyncEdge => exact fun _ _ => exec_of_runCtl (by rfl)
  case gpiChange => exact fun _ _ _ => exec_of_runCtl (by rfl)
  case encoderEdge => exact fun _ _ _ _ => exec_of_runCtl (by rfl)
  case encZEdge => exact fun _ _ => exec_of_runCtl (by rfl)
  case encSet => exact fun _ _ _ => exec_of_guardW (by rfl)
  case axisEnable => exact fun _ _ _ => exec_of_guardW (by rfl)
  case moveAbs => exact fun _ _ => exec_of_guardW (by rfl)
  case moveRel => exact fun _ _ => exec_of_guardW (by rfl)
  case velocity => exact fun _ _ => exec_of_guardW (by rfl)
  case stop => exact fun _ _ => exec_of_guardW (by rfl)
  case qstop => exact fun _ _ => exec_of_guardW (by rfl)
  case home => exact fun _ _ => exec_of_guardW (by rfl)
  case gear => exact fun _ _ => exec_of_guardW (by rfl)
  case setPos => exact fun _ _ => exec_of_guardW (by rfl)
  case armRatio => exact fun _ _ => exec_of_guardW (by rfl)
  case disarm => exact fun _ _ => exec_of_guardW (by rfl)
  case axCmdUnassigned => exact fun _ _ _ => exec_of_guardW (by rfl)
  case axisUpdate => exact fun _ => exec_of_runHeld (by rfl)
  case standstill => exact fun _ _ => exec_of_runCtl (by rfl)
  case wakeDone => exact fun _ _ => exec_of_runCtl (by rfl)

/-- Settles O42: each command of identity and trim runs the operation named. -/
theorem identityTrimCommandsComplete : Obligations.IdentityTrimCommandsComplete := by
  unfold Obligations.IdentityTrimCommandsComplete
  refine ⟨?intInstall, ?intErase, ?commitSvn, ?flashErase, ?flashProgram, ?flashDone, ?ngEntrySigned, ?ngRingWrite,
    ?ngEnable, ?trimRun, ?trimMeasureEnd, ?apply, ?trimStoreDone⟩
  case intInstall => exact fun _ => exec_of_guardW (by rfl)
  case intErase => exact fun _ => exec_of_guardW (by rfl)
  case commitSvn => exact fun _ => exec_of_guardW (by rfl)
  case flashErase => exact fun _ => exec_of_guardW (by rfl)
  case flashProgram => exact fun _ => exec_of_guardW (by rfl)
  case flashDone => exact fun _ => exec_of_runCtl (by rfl)
  case ngEntrySigned => exact fun _ => exec_of_runCtl (by rfl)
  case ngRingWrite => exact fun _ => exec_of_runCtl (by rfl)
  case ngEnable => exact fun _ _ => exec_of_guardW (by rfl)
  case trimRun => exact fun _ => exec_of_guardW (by rfl)
  case trimMeasureEnd => exact fun _ => exec_of_runCtl (by rfl)
  case apply => exact fun _ => exec_of_guardW (by rfl)
  case trimStoreDone => exact fun _ _ => exec_of_runCtl (by rfl)

/-- Settles O43: each command of power runs the operation named, those of a reset in reset too. -/
theorem powerCommandsComplete : Obligations.PowerCommandsComplete := by
  unfold Obligations.PowerCommandsComplete
  refine ⟨?powerOnReset, ?deviceReset, ?bootVerifyEnd, ?warmPerst, ?chipReset, ?brownOut, ?startStep,
    ?powerStateChoice, ?powerStateExit, ?pwrChg, ?diodeRound, ?dieShutdown, ?railSample⟩
  case powerOnReset => exact fun _ => exec_of_runAlways (by rfl)
  case deviceReset => exact fun _ _ _ _ => exec_of_runAlways (by rfl)
  case bootVerifyEnd => exact fun _ _ => exec_of_runCtl (by rfl)
  case warmPerst => exact fun _ => exec_of_run (by rfl)
  case chipReset => exact fun _ => exec_of_guardWS (by rfl)
  case brownOut => exact fun _ => exec_of_runAlways (by rfl)
  case startStep => exact fun _ => exec_of_runCtl (by rfl)
  case powerStateChoice => exact fun _ => exec_of_runMap (by rfl)
  case powerStateExit => exact fun _ => exec_of_runCtl (by rfl)
  case pwrChg => exact fun _ => exec_of_runHeld (by rfl)
  case diodeRound => exact fun _ _ _ => exec_of_runCtl (by rfl)
  case dieShutdown => exact fun _ => exec_of_runMap (by rfl)
  case railSample => exact fun _ _ => exec_of_runCtl (by rfl)

end


section
/-! PROOFS, effects case by case (01_machine_picture.md): from what an operation does to the control state to what its
command answers. -/

open Sys2Proof Sys2Proof.Machine

namespace Sys2Proof.Machine

/-- A command whose operation comes to `d`. -/
theorem exec_ctl_eq {i : Instr} {f : Ctl → Ctl} {s : State} {d : Ctl} (he : exec i s = runCtl i f s) (ht : taken i s)
    (hd : f s.ctl = d) : exec i s = .next { s with ctl := d } :=
  hd ▸ exec_of_runCtl he ht

/-- A write that its page takes, whose operation comes to `d`. -/
theorem exec_write_eq {i : Instr} {a : Nat} {w : Word} {f : Ctl → Ctl} {s : State} {d : Ctl}
    (he : exec i s = runCtl i (guardW a w f) s) (ht : taken i s) (ha : s.ctl.access a = .ok) (hm : s.ctl.mustWait a = false)
    (hd : f s.ctl = d) : exec i s = .next { s with ctl := d } :=
  hd ▸ exec_of_guardW he ht ha hm

/-- A command of a lane whose operation comes to `d`. -/
theorem exec_lane_eq {i : Instr} {f : Ctl → Ctl} {s : State} {d : Ctl} (he : exec i s = runCtl i (withLanes f) s) (ht : taken i s)
    (hd : f s.ctl = d) : exec i s = .next { s with ctl := afterLanes s.ctl.lanesActive d } :=
  exec_ctl_eq he ht (congrArg (afterLanes s.ctl.lanesActive) hd)

/-- A write of a lane's page, which takes it, whose operation comes to `d`. -/
theorem exec_laneWrite_eq {i : Instr} {a : Nat} {w : Word} {f : Ctl → Ctl} {s : State} {d : Ctl}
    (he : exec i s = runCtl i (guardW a w (withLanes f)) s) (ht : taken i s) (ha : s.ctl.access a = .ok)
    (hm : s.ctl.mustWait a = false) (hd : f s.ctl = d) :
    exec i s = .next { s with ctl := afterLanes s.ctl.lanesActive d } :=
  exec_write_eq he ht ha hm (congrArg (afterLanes s.ctl.lanesActive) hd)

/-! ### Soft resets (R690) -/

/-- What a change of a page does to the map depends on the state that it leaves alone. -/
theorem onMapAt_apply (a : Nat) (f : State → State) (s : State) : onMapAt a f s = onMapAt a (fun _ => f s) s := by
  unfold onMapAt
  split <;> rfl

theorem softReset_word (en : Bool) : bitOf (BitVec.ofNat 32 (2 + b2n en)).toNat 1 = true ∧
    bitOf (BitVec.ofNat 32 (2 + b2n en)).toNat 0 = en := by
  cases en <;> decide

/-- SOFT_RESET at a page that can be disabled, with no soft reset under way. -/
theorem softReset_of_idle {addr inst base : Nat} {en : Bool} {p : Page} {c : Ctl} (hp : pageOf addr = some (p, inst, base))
    (hfixed : p.fixed = false) (hbusy : c.is (R.BLK_STAT_SRST_BUSY base) = false) :
    softReset addr en c = if c.activePage base ∨ en = true then c.flag (R.BLK_STAT_SRST_REFUSED base) true
      else resetPage p base c := by
  obtain ⟨h1, h0⟩ := softReset_word en
  have hrec : p ≠ .recorder := by rintro rfl; cases hfixed
  rw [softReset, hp]
  dsimp only
  rw [if_neg (Bool.eq_false_iff.mp hfixed), blkCtrl, if_neg hrec, if_neg (Bool.eq_false_iff.mp hfixed), if_pos h1,
    if_neg (Bool.eq_false_iff.mp hbusy), h0]

theorem exec_softReset_eq {addr : Nat} {en : Bool} {s : State} {d : Ctl} (ht : taken (.softReset addr en) s)
    (ha : s.ctl.access (R.BLK_CTRL addr) = .ok) (hm : s.ctl.mustWait (R.BLK_CTRL addr) = false)
    (hd : softReset addr en s.ctl = d) :
    exec (.softReset addr en) s = .next (keepQueue (onMapAt addr (fun _ => { s with ctl := d })) s) := by
  rw [exec_softReset_of_free ht ha hm, keepQueue, keepQueue, onMapAt_apply, hd]

/-! ### Reads that have an effect (R19, R21) -/

theorem hostRead_of_register {addr : Nat} {s : State} (ha : s.ctl.access addr = .ok) (hc : claimAt addr = none) :
    State.hostRead addr s = s.regRead addr := by
  rw [State.hostRead, guardR, ha, hc]

theorem regRead_of_narrow {addr : Nat} {s : State} (h : isWideLo addr = false) : s.regRead addr = { s with
    ctl := rcClear addr (s.ctl.modHost (fun u => { u with lastRead := BitVec.ofNat 32 (s.readValue addr) })) } := by
  rw [State.regRead, h]
  rfl

theorem regRead_of_wide {addr : Nat} {s : State} (h : isWideLo addr = true) : s.regRead addr = { s with
    ctl := rcClear addr (s.ctl.modHost (fun u => { u with
      lastRead := BitVec.ofNat 32 (s.readValue addr)
      captured := tput u.captured (addr + 4) (BitVec.ofNat 32 (s.readWord (addr + 4))) })) } := by
  rw [State.regRead, h]
  rfl

theorem keepQueue_of_eq {f : State → State} {s : State} {d : Ctl} (h : f s = { s with ctl := d }) :
    keepQueue f s = { s with ctl := d } := by
  rw [keepQueue, h]

end Sys2Proof.Machine

/-- Settles O44: a soft reset is refused or resets its page by the conditions of R690; a read clears what R19 names and
captures a wide value as R21 has it. -/
theorem barCommandEffects : Obligations.BarCommandEffects := by
  unfold Obligations.BarCommandEffects
  refine ⟨?refused, ?reset, ?counter, ?wide⟩
  case refused =>
    intro addr en s p inst base ht ha hm hp hfixed hbusy h
    exact exec_softReset_eq ht ha hm (by rw [softReset_of_idle hp hfixed hbusy, if_pos h])
  case reset =>
    intro addr en s p inst base ht ha hm hp hfixed hbusy hoff hen
    exact exec_softReset_eq ht ha hm (by rw [softReset_of_idle hp hfixed hbusy, if_neg (by simp [hoff, hen])])
  case counter =>
    intro addr s ht ha hc hnarrow
    rw [exec_of_run (i := .counterReadClear addr) (f := State.hostRead addr) rfl ht,
      keepQueue_of_eq ((hostRead_of_register ha hc).trans (regRead_of_narrow hnarrow))]
  case wide =>
    intro addr s ht ha hc hwide
    rw [exec_of_run (i := .wideValueRead addr) (f := State.hostRead addr) rfl ht,
      keepQueue_of_eq ((hostRead_of_register ha hc).trans (regRead_of_wide hwide))]

end


section
/-! PROOFS, effects of streams and the loader (02_vector_streams.md, 11_host_port.md): doorbells by the cause of R97, the
loader by its enable. -/

open Sys2Proof Sys2Proof.Machine

namespace Sys2Proof.Machine

/-! ### Doorbells (R53, R54, R96, R97) -/

/-- The TAIL that the host's last doorbell to a stream brought (R412). -/
def tailKept (w : Nat) (c : Ctl) : Ctl := c.modTw (fun t => { t with ownTail := tput t.ownTail (slice w 25 7) (slice w 0 25) })

theorem cst_of_regs {c d : Ctl} (h : d.regs = c.regs) (x : Nat) : d.cst x = c.cst x := get_of_regs h _

theorem tailIx_of_regs {c d : Ctl} (h : d.regs = c.regs) (x : Nat) : d.tailIx x = c.tailIx x := get_of_regs h _

theorem headIx_of_regs {c d : Ctl} (h : d.regs = c.regs) (x : Nat) : d.headIx x = c.headIx x := get_of_regs h _

theorem fetchIx_of_regs {c d : Ctl} (h : d.regs = c.regs) (x : Nat) : d.fetchIx x = c.fetchIx x := get_of_regs h _

theorem ringN_of_regs {c d : Ctl} (h : d.regs = c.regs) (x : Nat) : d.ringN x = c.ringN x :=
  congrArg (fun k => 2 ^ (k - 5)) (get_of_regs h _)

/-- The cause of R97 is read from registers alone. -/
theorem doorbellCause_of_regs {c d : Ctl} (h : d.regs = c.regs) (w : Nat) : d.doorbellCause w = c.doorbellCause w := by
  rw [Ctl.doorbellCause, Ctl.doorbellCause, Ctl.ringSub, Ctl.ringSub, Ctl.ringSub, Ctl.ringSub, cst_of_regs h,
    tailIx_of_regs h, headIx_of_regs h, fetchIx_of_regs h, ringN_of_regs h]

theorem doorbellEffect_of_rejected {w : Nat} {c : Ctl} (h : c.doorbellCause w ≠ 0) :
    doorbellEffect w c = doorbellReject w (c.doorbellCause w) c := by
  rw [doorbellEffect, if_pos h]

/-- A doorbell of a device in no pair that R97 finds no cause against. -/
theorem doorbellPair_of_accepted {c : Ctl} (hs : c.single = true) {w : Nat} (h : c.doorbellCause w = 0) (e : Option (Nat × Word)) :
    doorbellPair e w c = doorbellEffect w (tailKept w c) := by
  obtain ⟨hrole, hshadow⟩ := (single_iff c).mp hs
  rw [doorbellPair, if_neg (Bool.eq_false_iff.mp hshadow), if_neg hrole, if_pos h, tailKept]

theorem doorbellPair_of_rejected {c : Ctl} (hs : c.single = true) {w : Nat} (h : c.doorbellCause w ≠ 0) (e : Option (Nat × Word)) :
    doorbellPair e w c = doorbellReject w (c.doorbellCause w) c := by
  obtain ⟨hrole, hshadow⟩ := (single_iff c).mp hs
  rw [doorbellPair, if_neg (Bool.eq_false_iff.mp hshadow), if_neg hrole, if_neg h, doorbellEffect_of_rejected h]

/-- A doorbell with none waiting before it acts at once. -/
theorem ringDoorbell_of_first {c : Ctl} (hq : c.hop.ordDoorbells = []) (w : Word) :
    ringDoorbell w c = doorbellPair (some (R.HOPPER_DOORBELL, w)) w.toNat c := by
  rw [ringDoorbell, ringBehind, if_pos ⟨by rw [hq]; rfl, rfl⟩]

theorem ringDoorbell_rejected {c : Ctl} (hq : c.hop.ordDoorbells = []) (hs : c.single = true) {w : Word} {k : Nat}
    (hk : c.doorbellCause w.toNat = k) (h0 : k ≠ 0) : ringDoorbell w c =
      ((c.setReg R.HOPPER_DB_ERR_WORD w.toNat).setReg R.HOPPER_DB_ERR (2 ^ 31 + k)).irq pgHopper 0 := by
  rw [ringDoorbell_of_first hq, doorbellPair_of_rejected hs (hk ▸ h0), doorbellReject, hk]

theorem ringDoorbell_accepted {c : Ctl} (hq : c.hop.ordDoorbells = []) (hs : c.single = true) {w : Word}
    (h : c.doorbellCause w.toNat = 0) : ringDoorbell w c = doorbellEffect w.toNat (tailKept w.toNat c) := by
  rw [ringDoorbell_of_first hq, doorbellPair_of_accepted hs h]

section
variable {c : Ctl} {w : Nat}

theorem doorbellCause_of_closed (h : c.cst (slice w 25 7) = csDisabled ∨ c.cst (slice w 25 7) = csDraining) :
    c.doorbellCause w = 1 := by
  rw [Ctl.doorbellCause, if_pos h]

variable (hd : c.cst (slice w 25 7) ≠ csDisabled) (hr : c.cst (slice w 25 7) ≠ csDraining)
include hd hr

theorem doorbellCause_of_sameTail (ht : slice w 0 25 = c.tailIx (slice w 25 7)) : c.doorbellCause w = 0 := by
  rw [Ctl.doorbellCause, if_neg (not_or.mpr ⟨hd, hr⟩), if_pos ht]

variable (ht : slice w 0 25 ≠ c.tailIx (slice w 25 7))
include ht

theorem doorbellCause_of_beyond (h : c.ringN (slice w 25 7) ≤ slice w 0 25) : c.doorbellCause w = 2 := by
  rw [Ctl.doorbellCause, if_neg (not_or.mpr ⟨hd, hr⟩), if_neg ht, if_pos h]

variable (hn : slice w 0 25 < c.ringN (slice w 25 7))
include hn

theorem doorbellCause_of_fetched (h : c.ringSub (slice w 25 7) (slice w 0 25) (c.headIx (slice w 25 7)) <
    c.ringSub (slice w 25 7) (c.fetchIx (slice w 25 7)) (c.headIx (slice w 25 7))) : c.doorbellCause w = 3 := by
  rw [Ctl.doorbellCause, if_neg (not_or.mpr ⟨hd, hr⟩), if_neg ht, if_neg (Nat.not_le.mpr hn), if_pos h]

theorem doorbellCause_of_ahead (h : c.ringSub (slice w 25 7) (c.fetchIx (slice w 25 7)) (c.headIx (slice w 25 7)) ≤
    c.ringSub (slice w 25 7) (slice w 0 25) (c.headIx (slice w 25 7))) : c.doorbellCause w = 0 := by
  rw [Ctl.doorbellCause, if_neg (not_or.mpr ⟨hd, hr⟩), if_neg ht, if_neg (Nat.not_le.mpr hn), if_neg (Nat.not_lt.mpr h)]

end

section
variable {c d : Ctl} {w : Nat} (hregs : d.regs = c.regs) (h : c.doorbellCause w = 0)
include hregs h

theorem doorbellEffect_of_sameTail (ht : slice w 0 25 = c.tailIx (slice w 25 7)) : doorbellEffect w d = d := by
  rw [doorbellEffect, doorbellCause_of_regs hregs, if_neg (not_not.mpr h), tailIx_of_regs hregs, if_pos ht]

theorem doorbellEffect_of_newTail (ht : slice w 0 25 ≠ c.tailIx (slice w 25 7)) : doorbellEffect w d =
    if c.cst (slice w 25 7) = csIdle ∧ slice w 0 25 ≠ c.headIx (slice w 25 7) then
      setCst (slice w 25 7) csActive (d.put (R.CTX_TAIL_INDEX (slice w 25 7)) (slice w 0 25))
    else d.put (R.CTX_TAIL_INDEX (slice w 25 7)) (slice w 0 25) := by
  rw [doorbellEffect, doorbellCause_of_regs hregs, if_neg (not_not.mpr h), tailIx_of_regs hregs, if_neg ht,
    cst_of_regs hregs, headIx_of_regs hregs]

end

/-- The doorbells that wait, without the first. -/
def doorbellsLeft (l : List (Nat × Nat)) (c : Ctl) : Ctl := { c with hop := { c.hop with ordDoorbells := l } }

theorem single_doorbellsLeft {c : Ctl} (h : c.single = true) (l : List (Nat × Nat)) : (doorbellsLeft l c).single = true := h

theorem orderedRings_of_ready {c : Ctl} {v : Nat} {l : List (Nat × Nat)} (hq : c.hop.ordDoorbells = (v, 0) :: l) :
    orderedRings c = doorbellPair (some (R.HOPPER_DOORBELL_ORD, BitVec.ofNat 32 v)) v (doorbellsLeft l c) := by
  unfold orderedRings
  rw [hq]
  rfl

theorem orderedRings_accepted {c : Ctl} {v : Nat} {l : List (Nat × Nat)} (hq : c.hop.ordDoorbells = (v, 0) :: l)
    (hs : c.single = true) (h : c.doorbellCause v = 0) :
    orderedRings c = doorbellEffect v (tailKept v (doorbellsLeft l c)) :=
  (orderedRings_of_ready hq).trans
    (doorbellPair_of_accepted (single_doorbellsLeft hs l) ((doorbellCause_of_regs (by rfl) v).trans h) _)

theorem orderedRings_rejected {c : Ctl} {v : Nat} {l : List (Nat × Nat)} (hq : c.hop.ordDoorbells = (v, 0) :: l)
    (hs : c.single = true) (h : c.doorbellCause v ≠ 0) :
    orderedRings c = doorbellReject v (c.doorbellCause v) (doorbellsLeft l c) := by
  have hc : (doorbellsLeft l c).doorbellCause v = c.doorbellCause v := doorbellCause_of_regs (by rfl) v
  rw [orderedRings_of_ready hq, doorbellPair_of_rejected (single_doorbellsLeft hs l) (hc.symm ▸ h), hc]

theorem ringOrdered_of_bar2 {w : Word} {s : State} (h : s.mem.bar2 ≠ []) : ringOrdered w s = { s with
    ctl := { s.ctl with hop := { s.ctl.hop with ordDoorbells := s.ctl.hop.ordDoorbells ++ [(w.toNat, s.mem.bar2.length)] } } } := by
  rw [ringOrdered, ringBehind, if_neg fun h0 => h (List.length_eq_zero_iff.mp h0.2)]

/-! ### RESUME (R90) and the loader (R482 to R487) -/

theorem ctxResume_of_single {x : Nat} {c : Ctl} (hs : c.single = true) : ctxResume x c = streamResume x c := by
  rw [ctxResume, ctxAction, if_pos (.inr rfl), forwarded_of_single hs, streamAction]
  rfl

theorem streamResume_of_halted {x : Nat} {c : Ctl} {j : Item} (hc : c.cst x = csHalted) (hj : (c.strm x).faulty = some j) :
    streamResume x c = setCst x csActive ((c.put (R.CTX_FETCH_INDEX x) j.idx).modStrm x (fun u =>
      { u with faulty := none, readStop := false })) := by
  rw [streamResume, if_pos hc, hj]

theorem fenceTimeout_of_none {n : Nat} {c : Ctl} (h : (c.sp n).fence = none) : fenceTimeout n c = c :=
  if_pos (.inl (by rw [h]; rfl))

theorem fenceTimeout_of_some {n : Nat} {c : Ctl} {e : Item × Nat} (h : (c.sp n).fence = some e) (hn : n ∉ c.hop.expired) :
    fenceTimeout n c = { c with hop := { c.hop with expired := c.hop.expired ++ [n] } } :=
  if_neg (by simp [h, hn])

end Sys2Proof.Machine

/-- Settles O45: a doorbell is rejected by its cause or moves TAIL (R54, R96, R97), waits behind those before it (R53, R55);
RESUME, the loader and the timeout of a fence act by the conditions named (R90, R482 to R487, R120). -/
theorem streamCommandEffects : Obligations.StreamCommandEffects := by
  unfold Obligations.StreamCommandEffects
  refine ⟨?waits, ?closed, ?sameTail, ?beyond, ?fetched, ?ahead, ?starts, ?ordered, ?taken, ?rejected, ?resume, ?ldrOpens,
    ?ldrSize, ?ldrDbOff, ?ldrDb, ?ldrResume, ?noFence, ?fence⟩
  case waits =>
    intro w s ht ha hm hq
    exact exec_write_eq (by rfl) ht ha hm (ringBehind_of_waiting hq 0 R.HOPPER_DOORBELL w)
  case closed =>
    intro w s ht ha hm hq hs hc
    exact exec_write_eq (by rfl) ht ha hm (ringDoorbell_rejected hq hs (doorbellCause_of_closed hc) (by decide))
  case sameTail =>
    intro w s ht ha hm hq hs hd hr htail
    have h := doorbellCause_of_sameTail hd hr htail
    exact exec_write_eq (by rfl) ht ha hm ((ringDoorbell_accepted hq hs h).trans
      (doorbellEffect_of_sameTail (by rfl) h htail))
  case beyond =>
    intro w s ht ha hm hq hs hd hr htail hn
    exact exec_write_eq (by rfl) ht ha hm (ringDoorbell_rejected hq hs (doorbellCause_of_beyond hd hr htail hn) (by decide))
  case fetched =>
    intro w s ht ha hm hq hs hd hr htail hn hf
    exact exec_write_eq (by rfl) ht ha hm
      (ringDoorbell_rejected hq hs (doorbellCause_of_fetched hd hr htail hn hf) (by decide))
  case ahead =>
    intro w s ht ha hm hq hs hd hr htail hn hf hidle
    have h := doorbellCause_of_ahead hd hr htail hn hf
    exact exec_write_eq (by rfl) ht ha hm ((ringDoorbell_accepted hq hs h).trans
      ((doorbellEffect_of_newTail (by rfl) h htail).trans (if_neg fun hi => hidle hi.1)))
  case starts =>
    intro w s ht ha hm hq hs hd hr htail hn hf hidle hhead
    have h := doorbellCause_of_ahead hd hr htail hn hf
    exact exec_write_eq (by rfl) ht ha hm ((ringDoorbell_accepted hq hs h).trans
      ((doorbellEffect_of_newTail (by rfl) h htail).trans (if_pos ⟨hidle, hhead⟩)))
  case ordered =>
    intro w s ht ha hm hb
    rw [exec_of_guardWS (i := .doorbellOrd w) (f := ringOrdered w) rfl ht ha hm, keepQueue_of_eq (ringOrdered_of_bar2 hb)]
  case taken =>
    intro s v l ht hq hs hc
    rw [exec_of_runHeld (i := .orderedDoorbellEffect) (f := orderedRings) rfl ht, orderedRings_accepted hq hs hc]
    rfl
  case rejected =>
    intro s v l ht hq hs hc
    rw [exec_of_runHeld (i := .orderedDoorbellEffect) (f := orderedRings) rfl ht, orderedRings_rejected hq hs hc]
    rfl
  case resume =>
    intro x s j ht ha hm hs hc hj
    exact exec_write_eq (by rfl) ht ha hm ((ctxResume_of_single hs).trans (streamResume_of_halted hc hj))
  case ldrOpens =>
    intro w s ht ha hm hoff hen h4 h12
    exact exec_write_eq (by rfl) ht ha hm (by rw [ldrEnable, if_neg (Bool.eq_false_iff.mp hoff), if_pos ⟨hen, h4, h12⟩])
  case ldrSize =>
    intro w s ht ha hm hoff hsize
    exact exec_write_eq (by rfl) ht ha hm (by
      rw [ldrEnable, if_neg (Bool.eq_false_iff.mp hoff), if_neg fun h => by omega])
  case ldrDbOff =>
    intro w s ht ha hm hoff
    exact exec_write_eq (by rfl) ht ha hm (by rw [ldrDb, if_neg (Bool.eq_false_iff.mp hoff)])
  case ldrDb =>
    intro w s ht ha hm hon
    exact exec_write_eq (by rfl) ht ha hm (by rw [ldrDb, if_pos hon])
  case ldrResume =>
    intro s ht ha hm
    exact exec_of_guardW (by rfl) ht ha hm
  case noFence =>
    intro n s ht hf
    exact exec_ctl_eq (by rfl) ht (fenceTimeout_of_none hf)
  case fence =>
    intro n s j t ht hf hn
    exact exec_ctl_eq (by rfl) ht (fenceTimeout_of_some hf hn)

end


section
/-! PROOFS, effects of spindles, tables and the fantail (03_spindles.md, 04_fantail.md): each operation in the case that its
conditions name. -/

open Sys2Proof Sys2Proof.Machine

namespace Sys2Proof.Machine

/-! ### Block enables (R688) -/

section
variable {p : Page} {inst base : Nat} {c : Ctl} (hrec : p ≠ .recorder) (hfixed : p.fixed = false)
include hrec hfixed

theorem blkCtrl_on (he : c.enabled base = false) : blkCtrl p inst base 1 c = blkEnable p inst true c := by
  rw [blkCtrl, if_neg hrec, if_neg (Bool.eq_false_iff.mp hfixed), if_neg (by decide), he]
  rfl

theorem blkCtrl_off (he : c.enabled base = true) : blkCtrl p inst base 0 c = blkEnable p inst false c := by
  rw [blkCtrl, if_neg hrec, if_neg (Bool.eq_false_iff.mp hfixed), if_neg (by decide), he]
  rfl

end

section
variable {n : Nat} {c : Ctl} (hst : c.sst n = stDisabled) (hch : c.hasChan n = true)
include hst hch

theorem spindleEnable_of_configErr (he : c.spConfigErr n ≠ 0) : spindleEnable n c =
    ((c.put (R.SPINDLE_STAT_CFG_ERR n) (c.spConfigErr n)).irq (pgSpindle n) 4).flag (R.BLK_CTRL_ENABLE (pgSpindle n)) true := by
  rw [spindleEnable, if_neg (by simp [hst, hch])]
  exact if_pos he

theorem spindleEnable_unbound (he : c.spConfigErr n = 0)
    (hb : ((upto 128).any (fun x => !c.is (R.CTX_CTRL_KIND x) && c.get (R.CTX_CTRL_BIND x) == n &&
      c.get (R.CTX_STAT_STATE x) != 0)) = false) : spindleEnable n c =
    spWake n (Ctl.setSst (toNewest n (((c.put (R.SPINDLE_STAT_CFG_ERR n) 0).flag (R.BLK_CTRL_ENABLE (pgSpindle n)) true).setActive
      (pgSpindle n) true)) n stStopped) := by
  rw [spindleEnable, if_neg (by simp [hst, hch])]
  dsimp only
  rw [if_neg (not_not.mpr he), hb]
  rfl

end

theorem spindleDisable_of_stopped {n : Nat} {c : Ctl} (h : c.sst n = stStopped) :
    spindleDisable n c = spDisabled n (c.flag (R.BLK_CTRL_ENABLE (pgSpindle n)) false) := by
  unfold spindleDisable
  dsimp only
  rw [h, if_neg (by decide), if_pos rfl]

/-- R130: a mirror that has stood still for 32 ticks, with no disable asked for. -/
theorem mirrorAtRest_of_rest {n t : Nat} {c : Ctl} (hst : c.sst n = stBraking) (hstop : (c.sp n).stop = none)
    (hfrom : (c.sp n).stopFrom ≠ c.now) (hend : (c.sp n).stopEnd = some t) (h32 : 32 ≤ c.sinceT t)
    (hdis : (c.sp n).disabling = false) : mirrorAtRest n c = (c.setSst n stBraked).irq (pgSpindle n) 2 := by
  unfold mirrorAtRest
  dsimp only
  rw [if_neg (by simp [hst, hstop, hfrom, hend, h32]), if_neg (Bool.eq_false_iff.mp hdis)]

theorem cmdGridSwap_of_single {n : Nat} {c : Ctl} (h : c.single = true) : cmdGridSwap n c = gridSwap n c :=
  forwarded_of_single h _ _ _ _

theorem cmdBrakeResume_of_single {n : Nat} {c : Ctl} (h : c.single = true) :
    cmdBrakeResume n c = if c.engaged then c else spResume n c :=
  forwarded_of_single h _ _ _ _

/-! ### The table window (R177, R192 to R194) -/

theorem tableWrite_of_absent {off : Nat} {c : Ctl} (hk : c.is R.GLOBAL_TABLE_WIN_KIND = false)
    (ha : c.absent (c.get R.GLOBAL_TABLE_WIN_SPINDLE) = true) (w : Word) : tableWrite off w c = tableErr 3 off c := by
  rw [tableWrite, if_neg (Bool.eq_false_iff.mp hk)]
  exact if_pos ha

theorem tableWrite_profile {off : Nat} {c : Ctl} (hk : c.is R.GLOBAL_TABLE_WIN_KIND = true) (ho : off < winSize true)
    (hp : bitOf (c.written R.GLOBAL_PROF_CTRL) 31 = false) (w : Word) : tableWrite off w c =
      { c with tab := { c.tab with prof := tput c.tab.prof (c.winProf off) ((tget c.tab.prof (c.winProf off) (zeros 64)).take
        (off % 64) ++ leBytes 4 w.toNat ++ (tget c.tab.prof (c.winProf off) (zeros 64)).drop (off % 64 + 4)) } } := by
  rw [tableWrite, if_pos hk, if_neg (Nat.not_le.mpr ho), if_neg (Bool.eq_false_iff.mp hp)]

section
variable {off : Nat} {c : Ctl} (hk : c.is R.GLOBAL_TABLE_WIN_KIND = false) (ho : off < winSize false)
  (ha : c.absent (c.get R.GLOBAL_TABLE_WIN_SPINDLE) = false)
include hk ho ha

theorem tableWrite_of_bankInUse (hbank : c.get (R.SPINDLE_STAT_BANK (c.get R.GLOBAL_TABLE_WIN_SPINDLE)) =
    c.get R.GLOBAL_TABLE_WIN_BANK) (hst : c.sst (c.get R.GLOBAL_TABLE_WIN_SPINDLE) ≠ stStopped) (w : Word) :
    tableWrite off w c = tableErr 1 off c := by
  rw [tableWrite, if_neg (Bool.eq_false_iff.mp hk)]
  dsimp only
  rw [if_neg (Bool.eq_false_iff.mp ha), if_neg (Nat.not_le.mpr ho), if_pos ⟨hbank, hst⟩]

/-- R192: the third of the node that a write of the grid reaches. -/
theorem tableWrite_grid (hfree : c.get (R.SPINDLE_STAT_BANK (c.get R.GLOBAL_TABLE_WIN_SPINDLE)) ≠ c.get R.GLOBAL_TABLE_WIN_BANK ∨
    c.sst (c.get R.GLOBAL_TABLE_WIN_SPINDLE) = stStopped) {dx dy dz : Int}
    (hg : tget c.tab.grid (c.winNode off) (0, 0, 0) = (dx, dy, dz)) (w : Word) : tableWrite off w c =
      { c with tab := { c.tab with grid := tput c.tab.grid (c.winNode off) (if off % 16 / 4 = 0 then (sgn 20 w.toNat, dy, dz)
        else if off % 16 / 4 = 1 then (dx, sgn 20 w.toNat, dz) else if off % 16 / 4 = 2 then (dx, dy, sgn 20 w.toNat)
        else (dx, dy, dz)) } } := by
  rw [tableWrite, if_neg (Bool.eq_false_iff.mp hk)]
  dsimp only
  rw [if_neg (Bool.eq_false_iff.mp ha), if_neg (Nat.not_le.mpr ho),
    if_neg (fun h => hfree.elim (fun hb => hb h.1) (fun hs => h.2 hs)), hg]
  generalize off % 16 / 4 = k
  match k with
  | 0 | 1 | 2 | _ + 3 => rfl

end

/-! ### The fantail (R209, R216, R219) -/

theorem waitAlarm_of_due {n : Nat} {c : Ctl} (hlim : c.get R.FANTAIL_WAIT_LIMIT_TICKS ≠ 0)
    (hle : c.get R.FANTAIL_WAIT_LIMIT_TICKS ≤ (c.sp n).waited) (hal : (c.sp n).alarmed = false)
    (hen : c.enabled pgFantail = true) :
    waitAlarm n c = (c.setSp n { c.sp n with alarmed := true }).irq pgFantail 4 := by
  unfold waitAlarm
  dsimp only
  rw [if_neg (by simp [hlim, hal, hen, Nat.not_lt.mpr hle])]

theorem flowLoss_of_new {c : Ctl} (hl : c.flowLost = true) (hn : c.fan.lost = false) : flowLoss c =
    if c.is R.FANTAIL_FAN_CTRL_FLOW_BRAKE then brakeSource brkFlow false
      (((c.modFan (fun u => { u with lost := true })).irq pgFantail 5).inc R.FANTAIL_CNT2_FLOW_LOSSES)
    else ((c.modFan (fun u => { u with lost := true })).irq pgFantail 5).inc R.FANTAIL_CNT2_FLOW_LOSSES := by
  rw [flowLoss, if_neg (by simp [hl, hn])]

section
variable {k key : Nat} {ue : Bool} {s u : State} {l : List Byte} (hf : s.ctl.fan.fetch[k]? = some key)
include hf

theorem terrReturn_of_error (hr : shortReturn (.fantail key) (s.ctl.terrAddr key) 4 ue s = (u, l, true)) :
    terrReturn k ue s = { u with ctl := (u.ctl.modFan (fun q =>
      { q with fetch := q.fetch.eraseIdx k, cells := tput q.cells key 0 })).irq pgFantail 6 } := by
  unfold terrReturn
  simp only [hf, hr, if_true]

theorem terrReturn_of_data (hr : shortReturn (.fantail key) (s.ctl.terrAddr key) 4 ue s = (u, l, false)) :
    terrReturn k ue s = { u with ctl := u.ctl.modFan (fun q =>
      { q with fetch := q.fetch.eraseIdx k, cells := tput q.cells key (leNat l % 2 ^ 24) }) } := by
  unfold terrReturn
  simp only [hf, hr, Bool.false_eq_true, if_false]

end

/-- What a change of the whole machine keeps of the queue depends on the state that it leaves alone. -/
theorem keepQueue_apply (f : State → State) (s : State) : keepQueue f s = keepQueue (fun _ => f s) s := rfl

theorem exec_run_eq {i : Instr} {f : State → State} {s t : State} (he : exec i s = run i f s) (ht : taken i s) (hd : f s = t) :
    exec i s = .next (keepQueue (fun _ => t) s) := by
  rw [exec_of_run he ht, keepQueue_apply, hd]

end Sys2Proof.Machine

/-- Settles O46: the spindle's commands by its state (R130, R132, R163), the table window by kind, bank and spindle (R177, R192
to R194), the fantail's alarms and returns (R209, R216, R219). -/
theorem spindleFantailCommandEffects : Obligations.SpindleFantailCommandEffects := by
  unfold Obligations.SpindleFantailCommandEffects
  refine ⟨?swaps, ?noSwap, ?configErr, ?enables, ?disables, ?rest, ?engaged, ?resumes, ?publishing, ?absent, ?bankInUse, ?grid,
    ?profile, ?alarm, ?flowLost, ?flowBrake, ?flowRestored, ?fetchError, ?fetchData⟩
  case swaps =>
    intro n s ht ha hm hs hst
    exact exec_write_eq (by rfl) ht ha hm (by rw [cmdGridSwap_of_single hs, gridSwap, if_pos hst])
  case noSwap =>
    intro n s ht ha hm hs hst
    exact exec_write_eq (by rfl) ht ha hm (by rw [cmdGridSwap_of_single hs, gridSwap, if_neg hst])
  case configErr =>
    intro n s ht ha hm hoff hst hch he
    exact exec_write_eq (by rfl) ht ha hm
      ((blkCtrl_on (p := .spindle) (inst := n) (by decide) (by decide) hoff).trans (spindleEnable_of_configErr hst hch he))
  case enables =>
    intro n s ht ha hm hoff hst hch he hb
    exact exec_write_eq (by rfl) ht ha hm
      ((blkCtrl_on (p := .spindle) (inst := n) (by decide) (by decide) hoff).trans (spindleEnable_unbound hst hch he hb))
  case disables =>
    intro n s ht ha hm hon hst
    exact exec_write_eq (by rfl) ht ha hm
      ((blkCtrl_off (p := .spindle) (inst := n) (by decide) (by decide) hon).trans (spindleDisable_of_stopped hst))
  case rest =>
    intro n s t ht hst hstop hfrom hend h32 hdis
    exact exec_ctl_eq (by rfl) ht (mirrorAtRest_of_rest hst hstop hfrom hend h32 hdis)
  case engaged =>
    intro n s ht ha hm hs he
    exact exec_write_eq (by rfl) ht ha hm (by rw [cmdBrakeResume_of_single hs, if_pos he])
  case resumes =>
    intro n s ht ha hm hs he
    exact exec_write_eq (by rfl) ht ha hm (by rw [cmdBrakeResume_of_single hs, if_neg (Bool.eq_false_iff.mp he)])
  case publishing =>
    intro s ht ha hm hs hp
    exact exec_write_eq (by rfl) ht ha hm (by rw [cmdPublish, forwarded_of_single hs, publish, if_pos hp])
  case absent =>
    intro off w s ht ha hm hk hab
    rw [exec_tableWindowWrite_of_free ht ha hm, tableWrite_of_absent hk hab]
  case bankInUse =>
    intro off w s ht ha hm hk ho hab hbank hst
    rw [exec_tableWindowWrite_of_free ht ha hm, tableWrite_of_bankInUse hk ho hab hbank hst]
  case grid =>
    intro off w s dx dy dz ht ha hm hk ho hab hfree hg
    rw [exec_tableWindowWrite_of_free ht ha hm, tableWrite_grid hk ho hab hfree hg]
  case profile =>
    intro off w s ht ha hm hk ho hp
    rw [exec_tableWindowWrite_of_free ht ha hm, tableWrite_profile hk ho hp]
  case alarm =>
    intro n s ht hlim hle hal hen
    exact exec_ctl_eq (by rfl) ht (waitAlarm_of_due hlim hle hal hen)
  case flowLost =>
    intro s ht hl hn hb
    exact exec_ctl_eq (by rfl) ht ((flowLoss_of_new hl hn).trans (by rw [if_neg (Bool.eq_false_iff.mp hb)]))
  case flowBrake =>
    intro s ht hl hn hb
    exact exec_ctl_eq (by rfl) ht ((flowLoss_of_new hl hn).trans (by rw [if_pos hb]))
  case flowRestored =>
    intro s ht hl
    exact exec_ctl_eq (by rfl) ht (by rw [flowRestored, if_neg (Bool.eq_false_iff.mp hl)])
  case fetchError =>
    intro k ue s key u l ht hf hr
    exact exec_run_eq (i := .terrFetchReturn k ue) rfl ht (congrArg bar2Collect (terrReturn_of_error hf hr))
  case fetchData =>
    intro k ue s key u l ht hf hr
    exact exec_run_eq (i := .terrFetchReturn k ue) rfl ht (congrArg bar2Collect (terrReturn_of_data hf hr))

end

section
/-! PROOFS, effects of tentering and the ledger (05_tentering.md, 06_heat_ledger.md). -/

open Sys2Proof Sys2Proof.Machine

namespace Sys2Proof.Machine

theorem keeper_of_due {n : Nat} {c : Ctl} (hk : c.get (R.SPINDLE_TENT_CTRL_KEEPER n) ≠ 0) (hst : tnSettling ≤ c.tst n)
    (hle : c.get (R.SPINDLE_TENT_CTRL_KEEPER n) ≤ c.sinceT (c.tn n).lastBlock) (hw : (c.tn n).waiting = none)
    (hsent : (c.tn n).sentNow = false) : keeper n c = corrSend n 2 (c.tn n).sent c := by
  unfold keeper
  dsimp only
  rw [if_pos (by simp [hk, hst, hle, hw, hsent])]

theorem ledgerEnable_of_err {c : Ctl} (ha : c.activePage pgLedger = false) (he : c.ledgerErr ≠ 0) : ledgerEnable c =
    ((c.put R.LEDGER_STAT_CFG_ERR c.ledgerErr).irq pgLedger 6).flag (R.BLK_CTRL_ENABLE pgLedger) true := by
  rw [ledgerEnable, if_neg (Bool.eq_false_iff.mp ha)]
  exact if_pos he

theorem ledgerFillDone_of_filling {s : State} (h : s.ctl.is R.LEDGER_STAT_FILLING = true) : ledgerFillDone s = { s with
    ctl := { (s.freeze s.ctl.gridBase (8 * (s.ctl.gridNx * s.ctl.gridNy)) none).setReg R.LEDGER_STAT (2 ^ 31) with
      memOut := outside s.ctl.gridBase (8 * (s.ctl.gridNx * s.ctl.gridNy)) s.ctl.memOut }
    mem := ({ s.mem with
      waiting := outside s.ctl.gridBase (8 * (s.ctl.gridNx * s.ctl.gridNy)) s.mem.waiting } : Mem).fill s.ctl.gridBase
        (List.replicate (s.ctl.gridNx * s.ctl.gridNy) s.ctl.fillCell).flatten } := by
  rw [ledgerFillDone, if_neg (not_not.mpr h)]

/-- R285, R291: a cell that returns without an error, with no part waiting for it. -/
theorem ledgerCellReturn_of_clean {k key : Nat} {ue : Bool} {s u : State} {l : List Byte} (hf : s.ctl.led.fetch[k]? = some key)
    (hr : shortReturn (.ledger key) (s.ctl.cellAddr key) 8 ue s = (u, l, false))
    (hown : u.ownNewest (s.ctl.cellAddr key) (l.map (fun b => (b, false))) = l.map (fun b => (b, false)))
    (hheld : s.ctl.led.held.filter (fun d => decide (d.key = key)) = []) : ledgerCellReturn k ue s = { u with
      ctl := (u.ctl.modLed (fun q => { q with
        fetch := q.fetch.eraseIdx k
        cache := tput q.cache key (s.ctl.cellOf (l.map (fun b => (b, false)))) })).modLed (fun q => { q with
          held := q.held.filter (fun d => decide (d.key ≠ key)) }) } := by
  have hclean : (l.map (fun b => (b, false))).any (·.2) = false := by simp
  unfold ledgerCellReturn
  dsimp only
  rw [hf]
  dsimp only
  rw [hr]
  dsimp only
  rw [hown, hclean, hheld, List.foldl_nil, if_neg (by decide)]

end Sys2Proof.Machine

/-- Settles O47: the clears of the ledger wait for their tick (R308, R312); the keeper, the fill and a fetched cell act by the
conditions named (R263, R283, R285). -/
theorem heatCommandEffects : Obligations.HeatCommandEffects := by
  unfold Obligations.HeatCommandEffects
  refine ⟨?mpClear, ?haltClear, ?keeper, ?ledgerEnable, ?fillDone, ?cellReturn⟩
  case mpClear =>
    intro n s ht ha hm hs
    exact exec_write_eq (by rfl) ht ha hm (by rw [cmdMpClear, forwarded_of_single hs, mpClear])
  case haltClear =>
    intro s ht ha hm hs hh
    exact exec_write_eq (by rfl) ht ha hm (by rw [cmdHaltClear, forwarded_of_single hs, haltClear, if_pos hh])
  case keeper =>
    intro n s ht hk hst hle hw hsent
    exact exec_ctl_eq (by rfl) ht (keeper_of_due hk hst hle hw hsent)
  case ledgerEnable =>
    intro s ht ha hm hoff hact he
    exact exec_write_eq (by rfl) ht ha hm
      ((blkCtrl_on (p := .ledger) (inst := 0) (by decide) (by decide) hoff).trans (ledgerEnable_of_err hact he))
  case fillDone =>
    intro s ht hfill
    rw [exec_of_run (i := .ledgerFillDone) (f := ledgerFillDone) rfl ht, keepQueue, ledgerFillDone_of_filling hfill]
  case cellReturn =>
    intro k ue s key u l ht hf hr hown hheld
    exact exec_run_eq (i := .ledgerCellReturn k ue) rfl ht
      (congrArg bar2Collect (ledgerCellReturn_of_clean hf hr hown hheld))

end


section
/-! PROOFS, effects of the lanes (07_lanes.md): the lane's operations by its state, and its blocks by what the receiver makes
of them. -/

open Sys2Proof Sys2Proof.Machine

namespace Sys2Proof.Machine

section
variable {k : Nat} {c : Ctl}

/-! ### Retrain and rate (R333, R337) -/

theorem retrain_of_active (hst : c.lst k = lnActive) (hreq : (c.ln k).reqAt = none) :
    retrain k c = (sendRetrain k 1 c).modLn k (fun l => { l with reqAt := some c.now }) := by
  rw [retrain, if_pos ⟨hst, by rw [hreq]; rfl⟩]

theorem retrainReqTimeout_of_due {t : Nat} (hreq : (c.ln k).reqAt = some t) (hst : c.lst k = lnActive)
    (hle : usTicks 1 ≤ c.sinceT t) : retrainReqTimeout k c = retrainNow k c := by
  unfold retrainReqTimeout
  rw [hreq]
  exact if_pos ⟨hst, hle⟩

theorem retrainReq_of_active (hst : c.lst k = lnActive) : retrainReq k c =
    if ((sendRetrain k 2 c).ln k).retrainsDue then (sendRetrain k 2 c).modLn k (fun l => { l with trainDue := true })
    else retrainNow k (sendRetrain k 2 c) := by
  rw [retrainReq, if_neg (not_not.mpr hst)]

section
variable {slow : Bool} (hne : c.is (R.LANE_CTRL_RATE k) ≠ slow)
include hne

theorem laneRateWrite_of_quiet (hst : c.lst k = lnDown ∨ c.lst k = lnDetect ∨ c.lst k = lnBackoff) :
    laneRateWrite k slow c = (c.flag (R.LANE_CTRL_RATE k) slow).modLn k (fun l => { l with rateDue := true }) := by
  unfold laneRateWrite
  dsimp only
  rw [if_neg hne, if_pos hst]

theorem laneRateWrite_of_busy (h0 : c.lst k ≠ lnDown) (h1 : c.lst k ≠ lnDetect) (h2 : c.lst k ≠ lnBackoff) :
    laneRateWrite k slow c = if c.lst k = lnTrain ∧ c.get (R.LANE_STAT_TRAIN_STEP k) = 5 then
      trainStart k ((c.flag (R.LANE_CTRL_RATE k) slow).flag (R.LANE_STAT_RATE_PENDING k) true)
    else (c.flag (R.LANE_CTRL_RATE k) slow).flag (R.LANE_STAT_RATE_PENDING k) true := by
  unfold laneRateWrite
  dsimp only
  rw [if_neg hne, if_neg (not_or.mpr ⟨h0, not_or.mpr ⟨h1, h2⟩⟩)]

end

/-! ### Detection and timeouts (R329 to R331) -/

theorem detectProbe_of_due {found signal : Bool} (hst : c.lst k = lnDetect) (hle : usTicks 100 ≤ c.sinceT (c.ln k).probeAt) :
    detectProbe k found signal c = if found ∧ signal then
      enterTrain k ((c.flag (R.LANE_STAT_SIGNAL k) signal).modLn k (fun l => { l with probeAt := c.now }))
    else (c.flag (R.LANE_STAT_SIGNAL k) signal).modLn k (fun l => { l with probeAt := c.now }) := by
  unfold detectProbe
  dsimp only
  rw [if_pos ⟨hst, hle⟩]

theorem laneTimeout_detect (hst : c.lst k = lnDetect) (hord : (c.ln k).order = false)
    (hle : msTicks (c.get1 (R.LANE_TIMEOUT_DETECT_MS k)) ≤ c.sinceT (c.ln k).at_) : laneTimeout k c = laneFail k 1 c := by
  unfold laneTimeout
  dsimp only
  rw [if_pos hst, if_pos (decide_eq_true (by simpa [hord] using hle))]

theorem laneTimeout_train (hst : c.lst k = lnTrain)
    (hle : msTicks (c.get1 (R.LANE_TIMEOUT_TRAIN_MS k)) ≤ c.sinceT (c.ln k).at_) : laneTimeout k c = laneFail k 2 c := by
  unfold laneTimeout
  dsimp only
  rw [hst, if_neg (by decide), if_pos rfl, if_pos (decide_eq_true hle)]

theorem laneTimeout_lock (hst : c.lst k = lnLock) (hre : (c.ln k).relock = false)
    (hle : msTicks (c.get1 (R.LANE_TIMEOUT_LOCK_MS k)) ≤ c.sinceT (c.ln k).at_) : laneTimeout k c = laneFail k 4 c := by
  unfold laneTimeout
  dsimp only
  rw [hst, if_neg (by decide), if_neg (by decide), if_pos ⟨rfl, Bool.eq_false_iff.mp hre⟩, if_pos (decide_eq_true hle)]

theorem laneTimeout_exchange (hst : c.lst k = lnExchange)
    (hle : msTicks (c.get1 (R.LANE_TIMEOUT_EXCH_MS k)) ≤ c.sinceT (c.ln k).at_) : laneTimeout k c = laneFail k 5 c := by
  unfold laneTimeout
  dsimp only
  rw [hst, if_neg (by decide), if_neg (by decide), if_neg (fun h => absurd h.1 (by decide)), if_pos rfl,
    if_pos (decide_eq_true hle)]

theorem backoffExpiry_of_due (hst : c.lst k = lnBackoff)
    (hle : msTicks (c.get1 (R.LANE_RETRY_BACKOFF_MS k)) ≤ c.sinceT (c.ln k).at_) : backoffExpiry k c =
    if (c.ln k).attempt < 1 + c.get1 (R.LANE_RETRY_RETRIES k) then
      (laneGo k lnDetect (c.put (R.LANE_STAT_ATTEMPT k) ((c.ln k).attempt + 1))).modLn k (fun l =>
        { l with attempt := l.attempt + 1, probeAt := c.now })
    else (laneGo k lnAbsent c).irq (pgLane k) 1 := by
  unfold backoffExpiry
  dsimp only
  rw [if_pos ⟨hst, hle⟩]

/-! ### Loss of block lock and of signal (R326, R329, R345, R347) -/

/-- The receiver without block lock, as R329 counts and forgets. -/
def lockGone (k : Nat) (c : Ctl) : Ctl := ((c.flag (R.LANE_STAT_BLOCK_LOCK k) false).inc (R.LANE_CNT1_LOCK_LOSS k)).modLn k
  (fun l => { l with idles := 0, hdrRun := 0, hdrBad := 0, drop := false })

theorem blockLockLost_of_active (hlock : c.is (R.LANE_STAT_BLOCK_LOCK k) = true) (hst : c.lst k = lnActive)
    (hsig : c.is (R.LANE_STAT_SIGNAL k) = true) (hidle : (c.ln k).rxIdle = false) :
    blockLockLost k c = (laneGo k lnLock (lockGone k c)).modLn k (fun l => { l with relock := true }) := by
  unfold blockLockLost
  dsimp only
  rw [if_neg (by simp [hlock, hsig, hidle]), if_pos hst]
  rfl

theorem blockLockLost_of_silent (hst : c.lst k = lnActive) (hsig : c.is (R.LANE_STAT_SIGNAL k) = false) :
    blockLockLost k c = c := by
  unfold blockLockLost
  dsimp only
  rw [if_pos (Or.inr ⟨hst, by simp [hsig]⟩)]

theorem blockLockLost_of_inactive (hlock : c.is (R.LANE_STAT_BLOCK_LOCK k) = true) (hst : c.lst k ≠ lnActive) :
    blockLockLost k c = lockGone k c := by
  unfold blockLockLost
  dsimp only
  rw [if_neg (by simp [hlock, hst]), if_neg hst]
  rfl

/-- The receiver without signal, its lock and its runs forgotten. -/
def signalGone (k : Nat) (c : Ctl) : Ctl := ((c.flag (R.LANE_STAT_SIGNAL k) false).flag (R.LANE_STAT_BLOCK_LOCK k) false).modLn k
  (fun l => { l with hdrRun := 0, hdrBad := 0, drop := false, idles := 0 })

theorem signalLost_of_looped (h : c.looped k = true) : signalLost k c = c := by
  rw [signalLost, if_pos h]

theorem signalLost_of_announced (hl : c.looped k = false) (ha : c.announced k = true) :
    signalLost k c = (c.flag (R.LANE_STAT_SIGNAL k) false).modLn k (fun l => { l with rxIdle := true }) := by
  unfold signalLost
  dsimp only
  rw [if_neg (Bool.eq_false_iff.mp hl), if_pos ha]

theorem signalLost_of_unannounced (hl : c.looped k = false) (ha : c.announced k = false) :
    signalLost k c = if c.lst k = lnActive then trainFirst k (signalGone k c) else signalGone k c := by
  unfold signalLost
  dsimp only
  rw [if_neg (Bool.eq_false_iff.mp hl), if_neg (Bool.eq_false_iff.mp ha)]
  rfl

/-! ### Blocks (R323, R324, R326) -/

/-- A control block that is decoded and whose CHECK holds. -/
theorem ctlBlock_of_good {typ body check : Nat} {f : Ctl → Ctl} (hg : ctlGood typ body check = true)
    (h : c.decodes k true (ctlWord typ body check) = true) :
    ctlBlock k typ body check f c = relockBlock k (f (received k true (ctlWord typ body check) c)) := by
  rw [ctlBlock_decodes k typ body check f c h]
  exact if_pos hg

/-- A control block that is decoded and whose CHECK fails. -/
theorem ctlBlock_of_bad {typ body check : Nat} {f : Ctl → Ctl} (hg : ctlGood typ body check = false)
    (h : c.decodes k true (ctlWord typ body check) = true)
    (hl : (received k true (ctlWord typ body check) c).hasLane k = true) :
    ctlBlock k typ body check f c = discardBlock k 1 (received k true (ctlWord typ body check) c) := by
  rw [ctlBlock_decodes k typ body check f c h]
  dsimp only
  rw [if_neg (Bool.eq_false_iff.mp hg), if_pos hl]

/-- The counter of a discarded block's cause (R324). -/
def discardCount (k cause : Nat) : Fld :=
  match cause with
  | 1 => R.LANE_CNT0_CHECK_ERR k
  | 2 => R.LANE_CNT1_UNKNOWN_TYPE k
  | _ => if isTwin k then R.TWIN_CNT0_LINK_ERR else R.PROTO_CNT0_CHK_ERR k

theorem discardCount_chk (h : isTwin k = false) : discardCount k 3 = R.PROTO_CNT0_CHK_ERR k :=
  if_neg (Bool.eq_false_iff.mp h)

/-- Outside a relock a discarded block breaks the runs and is counted. -/
theorem discardBlock_of_noLock (cause : Nat) (hst : c.lst k ≠ lnLock) : discardBlock k cause c =
    (c.inc (discardCount k cause)).modLn k (fun l =>
      { l with idles := 0, offers := if l.offerOk then l.offers else 0, confirms := 0 }) := by
  have hkeeps : (c.lst k == lnLock && (c.ln k).relock && cause != 1) = false := by simp [hst]
  unfold discardBlock discardCount
  dsimp only
  rw [hkeeps]
  match cause with
  | 0 | 1 | 2 | _ + 3 => rfl

theorem blockDiscard_of_counted {cause payload : Nat} (hl : c.hasLane k = true) (h0 : cause ≠ 0)
    (h : c.decodes k (cause != 3) payload = true) :
    blockDiscard k cause payload c = discardBlock k cause (received k (cause != 3) payload c) := by
  unfold blockDiscard
  rw [if_neg (by simp [hl, h0]), if_neg h0, rxBlock_decodes _ _ _ _ _ _ h]

/-- The receiver that has met a block with an invalid header. -/
def badHeaderMet (k payload : Nat) (c : Ctl) : Ctl := ((c.inc (R.LANE_CNT0_HDR_ERR k)).modLn k (fun l =>
  { l with rxScr := lineTail payload, offers := if l.offerOk then l.offers else 0, confirms := 0 })).modLn k (fun l =>
  { l with hdrRun := 0, hdrBad := (l.hdrBad * 2 + 1) % 2 ^ 64, idles := 0 })

theorem blockDiscard_of_header {payload : Nat} (hl : c.hasLane k = true) (hh : c.hearsBad k payload = true)
    (hfar : ¬ (c.lst k = lnTest ∧ c.get (R.LANE_TEST_MODE k) = 3)) (hd : c.deaf k = false) :
    blockDiscard k 0 payload c = if 16 ≤ popCount 64 ((badHeaderMet k payload c).ln k).hdrBad then
      blockLockLost k (badHeaderMet k payload c) else badHeaderMet k payload c := by
  unfold blockDiscard
  dsimp only
  rw [if_neg (by simp [hl, hh]), if_pos rfl, if_neg (Bool.eq_false_iff.mp hd), if_neg hfar]
  rfl

/-! ### Adaptation and tests (R340, R347) -/

theorem adaptFrozen_of_settled (hl : c.linked k = true) (h64 : 64 ≤ (c.ln k).nonRx) (ht : (c.ln k).trialLeft = 0) :
    adaptFrozen k c = c.flag (R.LANE_STAT_ADAPT_FROZEN k) true := by
  unfold adaptFrozen
  rw [if_neg (by simp [hl, Nat.not_lt.mpr h64]), ht]
  rfl

theorem laneTestMode_of_untestable {w : Nat} (hne : w / 2 ^ 30 % 4 ≠ c.get (R.LANE_TEST_MODE k)) (h0 : w / 2 ^ 30 % 4 ≠ 0)
    (ht : c.testable k = false) : laneTestMode k w c = c.flag (R.LANE_TEST_STAT_TEST_REFUSED k) true := by
  unfold laneTestMode
  dsimp only
  rw [if_neg hne, if_neg h0, if_neg (by simp [ht])]

end

end Sys2Proof.Machine

/-- Settles O48: each lane command by the lane's state and its time there (R329 to R337), each block by its header, CHECK and
type (R323 to R326). -/
theorem laneCommandEffects : Obligations.LaneCommandEffects := by
  unfold Obligations.LaneCommandEffects
  refine ⟨?start, ?startXy2, ?retrain, ?reqTimeout, ?reqNow, ?reqDue, ?reqBad, ?ack, ?rateQuiet, ?rateBusy, ?rateStep5, ?found,
    ?notFound, ?timeoutDetect, ?timeoutTrain, ?timeoutLock, ?timeoutExchange, ?retry, ?absent, ?lockActive, ?lockSilent,
    ?lockInactive, ?relock, ?wake, ?signalActive, ?signalInactive, ?signalLooped, ?signalAnnounced, ?eiEnter, ?headerFew,
    ?headerMany, ?checkErr, ?unknownType, ?chkErr, ?frozen, ?testRefused, ?checker⟩
  case start =>
    intro k s ht ha hm hen hxy hl hst
    exact exec_laneWrite_eq (by rfl) ht ha hm (by rw [laneStart, if_pos ⟨hen, Bool.eq_false_iff.mp hxy, hl, hst⟩])
  case startXy2 =>
    intro k s ht ha hm hxy
    exact exec_laneWrite_eq (by rfl) ht ha hm (by rw [laneStart, if_neg fun h => h.2.1 hxy])
  case retrain =>
    intro k s ht ha hm hst hreq
    exact exec_laneWrite_eq (by rfl) ht ha hm (retrain_of_active hst hreq)
  case reqTimeout =>
    intro k s t ht hreq hst hle
    exact exec_lane_eq (by rfl) ht (retrainReqTimeout_of_due hreq hst hle)
  case reqNow =>
    intro k body check s ht hg hd hst hdue
    exact exec_lane_eq (by rfl) ht ((ctlBlock_of_good hg hd).trans (by
      rw [retrainReq_of_active hst, if_neg (Bool.eq_false_iff.mp hdue)]))
  case reqDue =>
    intro k body check s ht hg hd hst hdue
    exact exec_lane_eq (by rfl) ht ((ctlBlock_of_good hg hd).trans (by rw [retrainReq_of_active hst, if_pos hdue]))
  case reqBad =>
    intro k body check s ht hg hd hl hst
    exact exec_lane_eq (by rfl) ht ((ctlBlock_of_bad hg hd hl).trans (discardBlock_of_noLock 1 hst))
  case ack =>
    intro k body check s ht hg hd hst hreq
    exact exec_lane_eq (by rfl) ht ((ctlBlock_of_good hg hd).trans (by rw [retrainAck, if_pos ⟨hst, hreq⟩]))
  case rateQuiet =>
    intro k slow s ht ha hm hne hst
    exact exec_laneWrite_eq (by rfl) ht ha hm (laneRateWrite_of_quiet hne hst)
  case rateBusy =>
    intro k slow s ht ha hm hne h0 h1 h2 h5
    exact exec_laneWrite_eq (by rfl) ht ha hm ((laneRateWrite_of_busy hne h0 h1 h2).trans (by rw [if_neg h5]))
  case rateStep5 =>
    intro k slow s ht ha hm hne hst h5
    exact exec_laneWrite_eq (by rfl) ht ha hm ((laneRateWrite_of_busy hne (by rw [hst]; decide) (by rw [hst]; decide)
      (by rw [hst]; decide)).trans (by rw [if_pos ⟨hst, h5⟩]))
  case found =>
    intro k found signal s ht hst hle hf hs
    exact exec_lane_eq (by rfl) ht ((detectProbe_of_due hst hle).trans (by rw [if_pos ⟨hf, hs⟩]))
  case notFound =>
    intro k found signal s ht hst hle hno
    exact exec_lane_eq (by rfl) ht ((detectProbe_of_due hst hle).trans (by
      rw [if_neg fun h => hno.elim (fun hf => nomatch hf ▸ h.1) (fun hs => nomatch hs ▸ h.2)]))
  case timeoutDetect =>
    intro k s ht hst hord hle
    exact exec_lane_eq (by rfl) ht (laneTimeout_detect hst hord hle)
  case timeoutTrain =>
    intro k s ht hst hle
    exact exec_lane_eq (by rfl) ht (laneTimeout_train hst hle)
  case timeoutLock =>
    intro k s ht hst hre hle
    exact exec_lane_eq (by rfl) ht (laneTimeout_lock hst hre hle)
  case timeoutExchange =>
    intro k s ht hst hle
    exact exec_lane_eq (by rfl) ht (laneTimeout_exchange hst hle)
  case retry =>
    intro k s ht hst hle hlt
    exact exec_lane_eq (by rfl) ht ((backoffExpiry_of_due hst hle).trans (by rw [if_pos hlt]))
  case absent =>
    intro k s ht hst hle hge
    exact exec_lane_eq (by rfl) ht ((backoffExpiry_of_due hst hle).trans (by rw [if_neg (Nat.not_lt.mpr hge)]))
  case lockActive =>
    intro k s ht hlock hst hsig hidle
    exact exec_lane_eq (by rfl) ht (blockLockLost_of_active hlock hst hsig hidle)
  case lockSilent =>
    intro k s ht hst hsig
    exact exec_lane_eq (by rfl) ht (blockLockLost_of_silent hst hsig)
  case lockInactive =>
    intro k s ht hlock hst
    exact exec_lane_eq (by rfl) ht (blockLockLost_of_inactive hlock hst)
  case relock =>
    intro k s ht hst hre hle
    exact exec_lane_eq (by rfl) ht (by rw [relockTimeout, if_pos ⟨hst, hre, hle⟩])
  case wake =>
    intro k s ht hst hle
    exact exec_lane_eq (by rfl) ht (by rw [wakeTimeout, if_pos ⟨hst, hle⟩])
  case signalActive =>
    intro k s ht hl ha hst
    exact exec_lane_eq (by rfl) ht ((signalLost_of_unannounced hl ha).trans (by rw [if_pos hst, signalGone]))
  case signalInactive =>
    intro k s ht hl ha hst
    exact exec_lane_eq (by rfl) ht ((signalLost_of_unannounced hl ha).trans (by rw [if_neg hst, signalGone]))
  case signalLooped =>
    intro k s ht hl
    exact exec_lane_eq (by rfl) ht (signalLost_of_looped hl)
  case signalAnnounced =>
    intro k s ht hl ha
    exact exec_lane_eq (by rfl) ht (signalLost_of_announced hl ha)
  case eiEnter =>
    intro k body check s ht hg hd
    exact exec_lane_eq (by rfl) ht (ctlBlock_of_good (f := eiEnter k (body % 4)) hg hd)
  case headerFew =>
    intro k cause payload s ht hl hh hfar h0 hd hfew
    subst h0
    have hlt : ¬ 16 ≤ popCount 64 ((badHeaderMet k payload s.ctl).ln k).hdrBad := Nat.not_le.mpr hfew
    exact exec_lane_eq (d := badHeaderMet k payload s.ctl) (by rfl) ht (by rw [blockDiscard_of_header hl hh hfar hd, if_neg hlt])
  case headerMany =>
    intro k cause payload s ht hl hh hfar h0 hd hmany
    subst h0
    have hge : 16 ≤ popCount 64 ((badHeaderMet k payload s.ctl).ln k).hdrBad := hmany
    exact exec_lane_eq (d := blockLockLost k (badHeaderMet k payload s.ctl)) (by rfl) ht (by
      rw [blockDiscard_of_header hl hh hfar hd, if_pos hge])
  case checkErr =>
    intro k cause payload s ht hl h1 hd hst
    subst h1
    exact exec_lane_eq (by rfl) ht ((blockDiscard_of_counted (cause := 1) (payload := payload) hl (by decide) hd).trans
      (discardBlock_of_noLock 1 hst))
  case unknownType =>
    intro k cause payload s ht hl h2 hd hst
    subst h2
    exact exec_lane_eq (by rfl) ht ((blockDiscard_of_counted (cause := 2) (payload := payload) hl (by decide) hd).trans
      (discardBlock_of_noLock 2 hst))
  case chkErr =>
    intro k cause payload s ht hl h3 htwin hd hst
    subst h3
    exact exec_lane_eq (by rfl) ht ((blockDiscard_of_counted (cause := 3) (payload := payload) hl (by decide) hd).trans
      ((discardBlock_of_noLock 3 hst).trans (by rw [discardCount_chk htwin])))
  case frozen =>
    intro k s ht hl h64 h0
    exact exec_lane_eq (by rfl) ht (adaptFrozen_of_settled hl h64 h0)
  case testRefused =>
    intro k w s ht ha hm hne h0 htest
    exact exec_laneWrite_eq (by rfl) ht ha hm (laneTestMode_of_untestable hne h0 htest)
  case checker =>
    intro k line drift s ht hst
    exact exec_ctl_eq (by rfl) ht (by rw [checkerBlock, if_pos hst])

end


section
/-! PROOFS, effects of the protocol and the brake (08_head_protocol.md, 18_startup_power.md): the partner's blocks where they
reach it, the brake's commands by its state. -/

open Sys2Proof Sys2Proof.Machine

namespace Sys2Proof.Machine

section
variable {k : Nat} {c : Ctl}

/-! ### The lanes that a well-formed command names -/

theorem brake_lane {port body check : Nat} {s : State} (ht : taken (.brake k port body check) s) : k < 48 := by
  have h := ht.1
  simp only [Instr.wellFormed, Bool.and_eq_true, decide_eq_true_eq] at h
  omega

theorem correction_lane {port body check : Nat} {s : State} (ht : taken (.correction k port body check) s) :
    isLaser k = true := by
  have h := ht.1
  simp only [Instr.wellFormed, Bool.and_eq_true] at h
  obtain ⟨⟨⟨⟨h24, h48⟩, _⟩, _⟩, _⟩ := h
  rw [isLaser, h24, h48, Bool.and_self]

theorem camEnable_lane {w : Word} {s : State} (ht : taken (.camEnable k w) s) : isAux k = true := ht.1

/-! ### The management channel (R375) -/

section
variable {q : MgmtReq} (hq : (c.ln k).mout.find? (fun r => decide (2000 ≤ c.sinceT r.at_)) = some q)
include hq

theorem mgmtRetry_again (ht : q.tries < 3) : mgmtRetry k c =
    ((c.modLn k (fun l => { l with mout := l.mout.filter (fun p => p.rseq != q.rseq) })).inc (R.PROTO_CNT1_MGMT_RETRY k)).modLn k
      (fun l => { l with mq := { q with tries := q.tries + 1 } :: l.mq }) := by
  unfold mgmtRetry
  dsimp only
  rw [hq]
  dsimp only
  rw [if_pos ht]

theorem mgmtRetry_failed (ht : 3 ≤ q.tries) (hcap : q.cap = none) : mgmtRetry k c =
    (((c.modLn k (fun l => { l with mout := l.mout.filter (fun p => p.rseq != q.rseq) })).flag (R.MGMT_STAT_FAILED k) true).flag
      (R.MGMT_CMD_GO k) false).protoEvt k 2 := by
  unfold mgmtRetry
  dsimp only
  rw [hq]
  dsimp only
  rw [if_neg (Nat.not_lt.mpr ht), hcap]

end

/-! ### The brake's echo and the partner's brake (R372, R373) -/

theorem brakeEcho_of_due {b t : Nat} (he : (c.ln k).echo = some (b, t)) (h8 : 8 ≤ c.sinceT t) : brakeEcho k c =
    if c.get (R.PROTO_STAT_BSEQ_ECHO k) ≠ b then (c.modLn k (fun l => { l with echo := none })).protoEvt k 3
    else c.modLn k (fun l => { l with echo := none }) := by
  unfold brakeEcho
  rw [he]
  exact if_pos h8

section
variable {port body check : Nat} (hlaser : 24 ≤ k) (hk : k < 48) (hr : c.reaches k port = true)
  (hp : port = (c.ln k).p.port) (hg : ctlGood bBrake body check = true)
include hlaser hk hr hp hg

/-- The first BRAKE that reaches a laser's partner (R372). -/
theorem brakeBlock_first (he : (c.ln k).p.engaged = none) : brakeBlock k port body check c = c.modP k (fun p => { p with
    braked := bitOf body 0, engaged := some (slice body 8 8), bseq := slice body 8 8
    out := if bitOf body 0 then 0 else p.out }) := by
  have hhead : isHead k = false := decide_eq_false (Nat.not_lt.mpr hlaser)
  unfold brakeBlock
  dsimp only
  rw [if_neg (by simp [hk, hr, ← hp, hg]), hhead, if_neg Bool.false_ne_true, he]

/-- A BRAKE after one of number `e` (R372). -/
theorem brakeBlock_again {e : Nat} (he : (c.ln k).p.engaged = some e) : brakeBlock k port body check c =
    if bitOf body 0 then c.modP k (fun p =>
      { p with braked := true, engaged := some (slice body 8 8), bseq := slice body 8 8, out := 0 })
    else if (c.ln k).p.braked ∧ 1 ≤ (slice body 8 8 + 256 - e) % 256 ∧ (slice body 8 8 + 256 - e) % 256 ≤ 127 then
      c.modP k (fun p => { p with braked := false, bseq := slice body 8 8 })
    else c := by
  have hhead : isHead k = false := decide_eq_false (Nat.not_lt.mpr hlaser)
  unfold brakeBlock
  dsimp only
  rw [if_neg (by simp [hk, hr, ← hp, hg]), hhead, if_neg Bool.false_ne_true, he]

theorem brakeBlock_engages (hb : bitOf body 0 = true) : brakeBlock k port body check c = c.modP k (fun p =>
    { p with braked := true, engaged := some (slice body 8 8), bseq := slice body 8 8, out := 0 }) := by
  cases he : (c.ln k).p.engaged with
  | none => simp only [brakeBlock_first hlaser hk hr hp hg he, hb, if_true]
  | some e => rw [brakeBlock_again hlaser hk hr hp hg he, if_pos hb]

variable (hb : bitOf body 0 = false) {q : Nat} (he : (c.ln k).p.engaged = some q)
include hb he

theorem brakeBlock_releases (hbr : (c.ln k).p.braked = true) (h1 : 1 ≤ (slice body 8 8 + 256 - q) % 256)
    (h127 : (slice body 8 8 + 256 - q) % 256 ≤ 127) :
    brakeBlock k port body check c = c.modP k (fun p => { p with braked := false, bseq := slice body 8 8 }) := by
  rw [brakeBlock_again hlaser hk hr hp hg he, hb, if_neg Bool.false_ne_true, if_pos ⟨hbr, h1, h127⟩]

theorem brakeBlock_stale
    (hd : (slice body 8 8 + 256 - q) % 256 = 0 ∨ 127 < (slice body 8 8 + 256 - q) % 256) :
    brakeBlock k port body check c = c := by
  rw [brakeBlock_again hlaser hk hr hp hg he, hb, if_neg Bool.false_ne_true, if_neg (fun h => by omega)]

end

/-! ### Blocks to the partner and from the head (R353, R361, R368, R387) -/

/-- R368: a CORRECTION after an exempt one leaves no gap. -/
theorem correction_of_exempt {port body check : Nat} (hlaser : isLaser k = true) (hr : c.reaches k port = true)
    (hp : port = (c.ln k).p.port) (hg : ctlGood bCorrection body check = true) (hex : (c.ln k).p.exempt = true) :
    correction k port body check c = c.modP k (fun p =>
      { p with factor := slice body 16 16, cseq := some (slice body 8 8), exempt := false, gap := p.gap }) := by
  unfold correction
  dsimp only
  rw [if_neg (by simp [hlaser, hr, ← hp, hg]), hex]
  simp only [Bool.not_true, Bool.false_and, Bool.or_false]

theorem partnerTickMark_of_sent {tally check : Nat} (hk : k < 48) (hgen : (c.ln k).p.gen0 = false) (htx : c.txOn k = true)
    (hg : ctlGood bTickMark tally check = true) : partnerTickMark k tally check c = c.modP k (fun p =>
      { p with synced := true, slip := p.slip || (p.synced && p.count != tally), count := tally }) := by
  rw [partnerTickMark, if_neg (by simp [hk, hgen, htx, hg])]

theorem upGalvo_of_bad {body chk : Nat} (hh : isHead k = true) (hbad : dataGood 2 body chk = false)
    (hd : c.decodes k false (dataWord 2 body chk) = true) : upGalvo k body chk c =
      relockBlock k ((received k false (dataWord 2 body chk) c).inc (R.PROTO_CNT0_CHK_ERR k)) := by
  rw [upGalvo, uplinkEnds, hbad, Bool.false_and, if_neg (by decide), galvo, if_neg (not_not.mpr hh), uplink,
    dataBlock_decodes _ _ _ _ _ _ hd, if_pos (by simp [hbad])]

/-! ### Cameras (R386) -/

section
variable {w : Nat} (hk : isAux k = true) (hoff : c.is (R.CAM_CTRL_EN k) = false) (hen : bitOf w 31 = true)
include hk hoff hen

theorem camEnable_of_badSize (hsize : w % 32 < 12 ∨ 30 < w % 32) : camEnable k w c =
    ((c.put (R.CAM_CTRL_SIZE_LOG2 k) (w % 32)).flag (R.CAM_CTRL_EN k) false).flag (R.CAM_CTRL_SIZE_ERR k) true := by
  unfold camEnable
  dsimp only
  rw [if_neg (not_not.mpr hk), hoff, if_pos hen, if_neg Bool.false_ne_true, if_pos hsize]

theorem camEnable_of_size (h12 : 12 ≤ w % 32) (h30 : w % 32 ≤ 30) : camEnable k w c =
    ((((((c.put (R.CAM_CTRL_SIZE_LOG2 k) (w % 32)).flag (R.CAM_CTRL_EN k) true).flag (R.CAM_CTRL_SIZE_ERR k) false).put
      (R.CAM_WR_INDEX k) 0).put (R.CAM_RD_INDEX k) 0).modCam k (fun _ => {})).modLn k (fun l => { l with creditDue := 0 }) := by
  unfold camEnable
  dsimp only
  rw [if_neg (not_not.mpr hk), hoff, if_pos hen, if_neg Bool.false_ne_true, if_neg (by omega), if_neg Bool.false_ne_true]

end

end

/-! ### The device's brake (R670, R679, R680) -/

section
variable {c : Ctl}

theorem brkCmd_engage (hs : c.shadows = false) (late : Bool) : brkCmd late 1 c = engage late c := by
  rw [brkCmd, if_neg (Bool.eq_false_iff.mp hs)]
  rfl

theorem brkCmd_release (hs : c.shadows = false) : brkCmd false 2 c = release c := by
  rw [brkCmd, if_neg (Bool.eq_false_iff.mp hs)]
  rfl

/-- The host's ENGAGE is no cause that a standby withholds. -/
theorem engage_eq (late : Bool) (c : Ctl) : engage late c = brakeEngage late (c.setBits R.GLOBAL_BRK_CAUSE (2 ^ brkEngage)) := by
  rw [engage, brakeSource, if_neg]
  simp [Ctl.withheld, brkEngage, brkHalt]

theorem engaged_setBits_cause (m : Nat) : (c.setBits R.GLOBAL_BRK_CAUSE m).engaged = c.engaged :=
  congrArg (· != 0) (get_setReg_ne c R.GLOBAL_BRK_CAUSE _ R.GLOBAL_BRK_STAT_ENGAGED (by decide))

theorem brakeEngage_of_engaged (he : c.engaged = true) (late : Bool) :
    brakeEngage late c = { c with pwr := { c.pwr with release := false } } := by
  unfold brakeEngage
  dsimp only
  rw [if_pos he]

theorem release_of_level (hr : c.pwr.release = false) (hl : c.get R.GLOBAL_BRK_STAT_LEVELS ≠ 0) :
    release c = (c.flag R.GLOBAL_BRK_STAT_RELEASE_REFUSED true).irq pgGlobal 7 := by
  rw [release, if_neg (Bool.eq_false_iff.mp hr), if_pos hl]

theorem release_of_engaged (hr : c.pwr.release = false) (hl : c.get R.GLOBAL_BRK_STAT_LEVELS = 0) (he : c.engaged = true) :
    release c = { c.setReg R.GLOBAL_BRK_CAUSE 0 with pwr := { c.pwr with release := true } } := by
  unfold release
  dsimp only
  rw [if_neg (Bool.eq_false_iff.mp hr), if_neg (not_not.mpr hl), if_pos he]
  rfl

theorem brkInMismatch_of_due {t : Nat} (hm : c.pwr.mismatchFrom = some t)
    (hle : usTicks (c.get R.GLOBAL_BRK_CTRL_MISMATCH_US) ≤ c.sinceT t) : brkInMismatch c =
      { (c.flag R.GLOBAL_BRK_STAT_IN_MISMATCH true).irq pgGlobal 6 with pwr.mismatchFrom := none } := by
  unfold brkInMismatch
  rw [hm]
  exact if_pos hle

theorem brakePeriodic_of_notDue (h : c.engaged = false ∨ c.now % 64 ≠ 0) : brakePeriodic c = c := by
  rw [brakePeriodic, if_neg fun ⟨he, _, hn⟩ => h.elim (fun h0 => nomatch h0.symm.trans he) (fun h1 => h1 hn)]

end

end Sys2Proof.Machine

/-- Settles O49: management retries (R375), the partner's blocks where they reach it (R361, R368, R372), the camera by its size
(R386) and the brake by its state (R670, R679, R680). -/
theorem protoBrakeCommandEffects : Obligations.ProtoBrakeCommandEffects := by
  unfold Obligations.ProtoBrakeCommandEffects
  refine ⟨?retry, ?retryFailed, ?echoWrong, ?echoRight, ?brakeEngages, ?brakeReleases, ?brakeStale, ?correction, ?tickMark,
    ?tickMarkGen0, ?camSizeErr, ?camOpens, ?galvo, ?engageAgain, ?engage, ?releaseRefused, ?release, ?mismatch, ?periodic⟩
  case retry =>
    intro k s q ht hq htries
    exact exec_ctl_eq (by rfl) ht (mgmtRetry_again hq htries)
  case retryFailed =>
    intro k s q ht hq htries hcap
    exact exec_ctl_eq (by rfl) ht (mgmtRetry_failed hq htries hcap)
  case echoWrong =>
    intro k s b t ht he h8 hne
    exact exec_ctl_eq (by rfl) ht ((brakeEcho_of_due he h8).trans (by rw [if_pos hne]))
  case echoRight =>
    intro k s b t ht he h8 heq
    exact exec_ctl_eq (by rfl) ht ((brakeEcho_of_due he h8).trans (by rw [if_neg (not_not.mpr heq)]))
  case brakeEngages =>
    intro k port body check s ht h24 hr hp hg hb
    exact exec_ctl_eq (by rfl) ht (brakeBlock_engages h24 (brake_lane ht) hr hp hg hb)
  case brakeReleases =>
    intro k port body check s q ht h24 hr hp hg hb he hbr h1 h127
    exact exec_ctl_eq (by rfl) ht (brakeBlock_releases h24 (brake_lane ht) hr hp hg hb he hbr h1 h127)
  case brakeStale =>
    intro k port body check s q ht h24 hr hp hg hb he hd
    exact exec_ctl_eq (by rfl) ht (brakeBlock_stale h24 (brake_lane ht) hr hp hg hb he hd)
  case correction =>
    intro k port body check s ht hr hp hg hex
    exact exec_ctl_eq (by rfl) ht (correction_of_exempt (correction_lane ht) hr hp hg hex)
  case tickMark =>
    intro k tally check s ht hk hgen htx hg
    exact exec_ctl_eq (by rfl) ht (partnerTickMark_of_sent hk hgen htx hg)
  case tickMarkGen0 =>
    intro k tally check s ht hgen
    exact exec_ctl_eq (by rfl) ht (by rw [partnerTickMark, if_pos (.inr (.inr (.inr hgen)))])
  case camSizeErr =>
    intro k w s ht ha hm hoff hen hsize
    exact exec_write_eq (by rfl) ht ha hm (camEnable_of_badSize (camEnable_lane ht) hoff hen hsize)
  case camOpens =>
    intro k w s ht ha hm hoff hen h12 h30
    exact exec_write_eq (by rfl) ht ha hm (camEnable_of_size (camEnable_lane ht) hoff hen h12 h30)
  case galvo =>
    intro k body chk s ht hh hbad hd
    exact exec_ctl_eq (by rfl) ht (upGalvo_of_bad hh hbad hd)
  case engageAgain =>
    intro late s ht ha hm hs he
    exact exec_write_eq (by rfl) ht ha hm ((brkCmd_engage hs late).trans ((engage_eq late s.ctl).trans
      (brakeEngage_of_engaged ((engaged_setBits_cause _).trans he) late)))
  case engage =>
    intro late s ht ha hm hs
    exact exec_write_eq (by rfl) ht ha hm ((brkCmd_engage hs late).trans (engage_eq late s.ctl))
  case releaseRefused =>
    intro s ht ha hm hs hr hl
    exact exec_write_eq (by rfl) ht ha hm ((brkCmd_release hs).trans (release_of_level hr hl))
  case release =>
    intro s ht ha hm hs hr hl he
    exact exec_write_eq (by rfl) ht ha hm ((brkCmd_release hs).trans (release_of_engaged hr hl he))
  case mismatch =>
    intro s t ht hmis hle
    exact exec_ctl_eq (by rfl) ht (brkInMismatch_of_due hmis hle)
  case periodic =>
    intro s ht h
    exact exec_ctl_eq (by rfl) ht (brakePeriodic_of_notDue h)

end

section
/-! PROOFS, effects of the twin (09_twin.md): pairing, loss and handover by role and time. -/

open Sys2Proof Sys2Proof.Machine

namespace Sys2Proof.Machine

section
variable {c : Ctl}

theorem solo_of_unpaired (hrole : c.role = rUnpaired) (hen : c.is R.TWIN_CTRL_EN = true) : solo c =
    if (if c.duplicate then c.tw.silent else c.othersQuiet) then { c with soloOn := true }
    else c.flag R.TWIN_STAT_SOLO_REFUSED true := by
  rw [solo, if_pos ⟨hrole, hen⟩]

theorem pairTimeout_of_due (hrole : c.role = rPairing) (hopen : (c.tw.takes.isSome && c.tw.confirm) = false)
    (hle : msTicks (c.get1 R.TWIN_TIMING2_PAIR_TIMEOUT) ≤ c.sinceT c.tw.pairAt) : pairTimeout c = pairRefuse 5 c := by
  rw [pairTimeout, if_pos ⟨hrole, by simpa using hopen, hle⟩]

theorem aliveEdge_of_waiting (hrole : c.role = rSuspect ∨ c.role = rQuery) : aliveEdge c =
    twinEval (setRole rDetached (c.modTw (fun t => { t with edgeAt := c.now, silent := false }))) := by
  have h : (c.modTw (fun t => { t with edgeAt := c.now, silent := false })).role = c.role := get_of_regs (by rfl) _
  unfold aliveEdge
  dsimp only
  rw [h, if_pos hrole]

theorem aliveToggle_of_early (h : c.sinceT c.tw.toggledAt < 10) (domains : Bool) : aliveToggle domains c = c := by
  unfold aliveToggle
  dsimp only
  rw [if_neg fun h10 => Nat.not_le.mpr h h10.2]

theorem aliveToggle_of_due (hen : c.is R.TWIN_CTRL_EN = true) (hrole : c.role ≠ rFailed) (hdup : c.duplicate = false)
    (h10 : 10 ≤ c.sinceT c.tw.toggledAt) :
    aliveToggle true c = c.modTw (fun t => { t with aliveOut := !t.aliveOut, toggledAt := c.now }) := by
  unfold aliveToggle
  dsimp only
  rw [if_pos (by simp [hen, hrole, hdup, h10])]

/-! ### The handover record (R403, R424, R425) -/

theorem handoverTake_of_short (h : c.unitsIn 69 (fun k => tget c.tw.hoRx k []) = none) : handoverTake c = c := by
  unfold handoverTake
  rw [h]

theorem handoverTake_of_record {l : List Byte} (h : c.unitsIn 69 (fun k => tget c.tw.hoRx k []) = some l) :
    handoverTake c = if crc32 ((l.take 480).take 476) = fieldAt (l.take 480) 476 4 then
      twinEval ((setRole rTakeover c).modTw (fun t => { t with handed := l.take 480 }))
    else c.modTw (fun t => { t with hoRx := [] }) := by
  unfold handoverTake
  rw [h]

/-! ### The deadline of a state record (R407) -/

section
variable (h8 : c.sendLanes.length = 8)
include h8

theorem recordDeadline_of_due (hrole : c.role = rStandby) (hj : c.tw.judged ≠ c.boundaryTick)
    (h13 : 13 ≤ c.sinceT c.boundaryTick) : recordDeadline c = recordFail c := by
  rw [recordDeadline, h8, if_pos ⟨.inl hrole, hj, h13⟩]

theorem recordDeadline_of_early (h13 : c.sinceT c.boundaryTick < 13) : recordDeadline c = c := by
  rw [recordDeadline, h8, if_neg fun h => Nat.not_le.mpr h13 h.2.2]

end

end

end Sys2Proof.Machine

/-- Settles O50: SOLO and pairing by what the device has heard (R400, R401), loss and alive edges by role (R430, R431), the
handover record by its CRC (R424) and the deadline of a state record (R407). -/
theorem twinCommandEffects : Obligations.TwinCommandEffects := by
  unfold Obligations.TwinCommandEffects
  refine ⟨?handoverReady, ?handoverRefused, ?solo, ?soloRefused, ?pairTimeout, ?beaconLoss, ?aliveEdge, ?toggleEarly, ?toggle,
    ?recordShort, ?recordTaken, ?recordBroken, ?deadline, ?deadlineEarly⟩
  case handoverReady =>
    intro s ht ha hm hrole hready
    exact exec_write_eq (by rfl) ht ha hm (handoverCmd_of_peerReady hrole hready)
  case handoverRefused =>
    intro s ht ha hm _ hnot
    exact exec_write_eq (by rfl) ht ha hm (handoverCmd_of_not_peerReady hnot)
  case solo =>
    intro s ht ha hm hrole hen hq
    exact exec_write_eq (by rfl) ht ha hm ((solo_of_unpaired hrole hen).trans (by rw [if_pos hq]))
  case soloRefused =>
    intro s ht ha hm hrole hen hq
    exact exec_write_eq (by rfl) ht ha hm ((solo_of_unpaired hrole hen).trans (by rw [if_neg (Bool.eq_false_iff.mp hq)]))
  case pairTimeout =>
    intro s ht hrole hopen hle
    exact exec_ctl_eq (by rfl) ht (pairTimeout_of_due hrole hopen hle)
  case beaconLoss =>
    intro s ht hrole hle
    exact exec_ctl_eq (by rfl) ht (by rw [beaconLoss, if_pos ⟨hrole, hle⟩])
  case aliveEdge =>
    intro s ht hrole
    exact exec_ctl_eq (by rfl) ht (aliveEdge_of_waiting hrole)
  case toggleEarly =>
    intro domains s ht hlt
    exact exec_ctl_eq (by rfl) ht (aliveToggle_of_early hlt domains)
  case toggle =>
    intro domains s ht hen hdom hrole hdup h10
    subst hdom
    exact exec_ctl_eq (by rfl) ht (aliveToggle_of_due hen hrole hdup h10)
  case recordShort =>
    intro blocks s ht h
    exact exec_ctl_eq (by rfl) ht (by rw [handover, handoverTake_of_short h])
  case recordTaken =>
    intro blocks s l ht h hcrc
    exact exec_ctl_eq (by rfl) ht (by rw [handover, handoverTake_of_record h, if_pos hcrc])
  case recordBroken =>
    intro blocks s l ht h hcrc
    exact exec_ctl_eq (by rfl) ht (by rw [handover, handoverTake_of_record h, if_neg hcrc])
  case deadline =>
    intro s ht hrole hj h8 h13
    exact exec_ctl_eq (by rfl) ht (recordDeadline_of_due h8 hrole hj h13)
  case deadlineEarly =>
    intro s ht h8 h13
    exact exec_ctl_eq (by rfl) ht (recordDeadline_of_early h8 h13)

end


section
/-! PROOFS, effects of the millraces (10_millrace.md): training by its state, reads and refreshes by what waits. -/

open Sys2Proof Sys2Proof.Machine

namespace Sys2Proof.Machine

/-! ### Commands that may move the address map (R444) -/

theorem exec_map_eq {i : Instr} {f : Ctl → Ctl} {s : State} {d : Ctl} (he : exec i s = runMap i f s) (ht : taken i s)
    (hd : f s.ctl = d) : exec i s = .next (bar2Collect { s with ctl := d, mem := s.mem.remap s.ctl d }) :=
  hd ▸ exec_of_runMap he ht

theorem exec_mapWrite_eq {i : Instr} {a : Nat} {w : Word} {f : Ctl → Ctl} {s : State} {d : Ctl}
    (he : exec i s = runMap i (guardW a w f) s) (ht : taken i s) (ha : s.ctl.access a = .ok) (hm : s.ctl.mustWait a = false)
    (hd : f s.ctl = d) : exec i s = .next (bar2Collect { s with ctl := d, mem := s.mem.remap s.ctl d }) :=
  hd ▸ exec_of_runMap_guardW he ht ha hm

section
variable {m : Nat} {c : Ctl}

/-! ### Initialisation and training (R439, R465 to R469) -/

theorem initDone_of_init (hst : c.get (R.MC_STAT_STATE m) = mcInit) : initDone m c =
    if c.is (R.MC_CFG_RANKS m) && c.is (R.MC_CFG_DENSITY m) then
      (((c.put (R.MC_STAT_FAIL_CAUSE m) 8).mcGo m mcFault).put (R.MC_CTRL_RETRAIN m) 0).irq (pgMillrace m) 3
    else (c.put (R.MC_CAPACITY_GIB m)
      (if c.is (R.MC_CFG_RANKS m) || c.is (R.MC_CFG_DENSITY m) then 64 else 32)).mcTrainAt m 1 := by
  rw [initDone, if_pos hst]

/-- A training step in progress that ends well, or with a rate that waits (R465 to R467). -/
theorem trainStepDone_of_train {pass : Bool} (hst : c.get (R.MC_STAT_STATE m) = mcTrain) (hf : (c.mcSt m).failAt = 0)
    (h : c.is (R.MC_STAT_RATE_PENDING m) = true ∨ pass = true) : trainStepDone m pass c =
    if c.is (R.MC_STAT_RATE_PENDING m) then ((c.mcApplyRate m).put (R.MC_STAT_TRAIN_STEP m) 1).irq (pgMillrace m) 4
    else if c.get (R.MC_STAT_TRAIN_STEP m) < 7 then c.put (R.MC_STAT_TRAIN_STEP m) (c.get (R.MC_STAT_TRAIN_STEP m) + 1)
    else (((c.mcGo m mcService).put (R.MC_CTRL_RETRAIN m) 0).irq (pgMillrace m) 2).mcMod m (fun u =>
      { u with first := false }) := by
  unfold trainStepDone
  dsimp only
  rw [if_neg fun hfail => hfail.2 hf, if_pos hst]
  by_cases hp : c.is (R.MC_STAT_RATE_PENDING m) = true
  · rw [if_pos hp, if_pos hp]
  · rw [if_neg hp, if_neg hp, if_pos (h.resolve_left hp)]

/-- A training step on leaving self-refresh (R469). -/
theorem trainStepDone_of_selfRefresh {pass : Bool} (hst : c.get (R.MC_STAT_STATE m) = mcSelfRefresh)
    (h : (c.mcSt m).leaving = false ∨ pass = true) : trainStepDone m pass c =
    if (c.mcSt m).leaving then
      if c.get (R.MC_STAT_TRAIN_STEP m) = 4 then c.put (R.MC_STAT_TRAIN_STEP m) 5
      else (c.mcMod m (fun u => { u with leaving := false })).mcGo m mcService
    else c := by
  unfold trainStepDone
  dsimp only
  rw [hst, if_neg fun h => absurd h.1 (by decide), if_neg (by decide), if_pos rfl]
  by_cases hl : (c.mcSt m).leaving = true
  · rw [if_neg (not_not.mpr hl), if_pos hl, if_pos (h.resolve_left (by simp [hl]))]
  · rw [if_pos hl, if_neg hl]

theorem trainRetry_of_due (hst : c.get (R.MC_STAT_STATE m) = mcTrain) (hp : c.is (R.MC_STAT_RATE_PENDING m) = false)
    (hf : (c.mcSt m).failAt ≠ 0) (hle : msTicks 10 ≤ c.sinceT ((c.mcSt m).failAt - 1)) :
    trainRetry m c = (c.mcMod m (fun u => { u with failAt := 0 })).mcTrainAt m 2 := by
  unfold trainRetry
  dsimp only
  rw [if_pos ⟨hst, hf, hle⟩, if_neg (Bool.eq_false_iff.mp hp)]

theorem mcRetrain_of_service (hr : c.is (R.MC_CTRL_RETRAIN m) = false) (hst : c.get (R.MC_STAT_STATE m) = mcService) :
    mcRetrain m c = if c.rtReach then c.put (R.MC_STAT_RETRAIN_REFUSED m) 1
      else (c.put (R.MC_CTRL_RETRAIN m) 1).mcTrainAt m 1 := by
  unfold mcRetrain
  dsimp only
  rw [if_neg (Bool.eq_false_iff.mp hr), if_pos hst]

theorem mcRetrain_of_fault (hr : c.is (R.MC_CTRL_RETRAIN m) = false) (hst : c.get (R.MC_STAT_STATE m) = mcFault) :
    mcRetrain m c = (c.put (R.MC_CTRL_RETRAIN m) 1).mcGo m mcInit := by
  unfold mcRetrain
  dsimp only
  rw [if_neg (Bool.eq_false_iff.mp hr), hst, if_neg (by decide), if_pos rfl]

theorem state_put_rate (v : Nat) : (c.put (R.MC_CTRL_RATE m) v).get (R.MC_STAT_STATE m) = c.get (R.MC_STAT_STATE m) :=
  get_put_ne c _ _ v (by simp [R.MC_CTRL_RATE, R.MC_STAT_STATE, R.MC_CTRL, R.MC_STAT])

theorem mcRateWrite_of_off (hst : c.get (R.MC_STAT_STATE m) = mcOff) (v : Nat) :
    mcRateWrite m v c = c.put (R.MC_CTRL_RATE m) v := by
  unfold mcRateWrite
  dsimp only
  rw [state_put_rate, hst, if_neg (by decide)]

/-! ### Reads that arrive (R447, R448) -/

theorem mcAsk_of_service (hs : c.inService m = true) (r : McRead) : mcAsk m r c = c.mcMod m (fun u => { u with
    reads := u.reads ++ [r]
    bulkFrom := if r.cls = 1 ∧ u.reads.all (fun q => q.cls != 1) then c.now else u.bulkFrom }) := by
  rw [mcAsk, if_pos hs]

/-- A read that is no RT-bulk read leaves the time of the oldest of those. -/
theorem mcAsk_of_notBulk (hs : c.inService m = true) {r : McRead} (hr : r.cls ≠ 1) :
    mcAsk m r c = c.mcMod m (fun u => { u with reads := u.reads ++ [r] }) := by
  rw [mcAsk_of_service hs]
  exact congrArg (c.mcMod m) (funext fun u => by rw [if_neg fun h => hr h.1])

theorem mcAsk_of_bulk (hs : c.inService m = true) {r : McRead} (hr : r.cls = 1) : mcAsk m r c = c.mcMod m (fun u => { u with
    reads := u.reads ++ [r], bulkFrom := if u.reads.all (fun q => q.cls != 1) then c.now else u.bulkFrom }) := by
  rw [mcAsk_of_service hs]
  exact congrArg (c.mcMod m) (funext fun u => by simp [hr])

/-- An RT read whose bytes lie in one millrace asks it once. -/
theorem rtRead_of_part {who a len n : Nat} {bulk : Bool}
    (hp : c.parts a (if bulk then len else min len (128 - a % 128)) = [(m, a, n)]) : rtRead m who a len bulk c =
      mcAsk m { cls := b2n bulk, who := who, addr := a, len := n, at_ := c.now } c := by
  unfold rtRead
  dsimp only
  rw [hp, List.filter_cons_of_pos (by simp), List.filter_nil]
  rfl

theorem serveBulk_of_closed {s : State} (h : s.ctl.bulkOpen m = false) : serveBulk m s = s := by
  unfold serveBulk
  cases (s.ctl.mcSt m).reads.length with
  | zero => rfl
  | succ n => rw [serveBulkN, if_neg (Bool.eq_false_iff.mp h)]

theorem bulkOpen_append {r : McRead} (hr : r.cls = 2) :
    (c.mcMod m (fun u => { u with reads := u.reads ++ [r] })).bulkOpen m = c.bulkOpen m := by
  simp [Ctl.bulkOpen, mcSt_mcMod_self, hr]

/-- R448: a bulk read waits while an RT read waits or writes drain. -/
theorem bulkRead_of_closed {s : State} (hs : s.ctl.inService m = true) (ho : s.ctl.bulkOpen m = false) (a : Nat)
    (errs : List SymbolError) : bulkRead m a errs s = { s with ctl := s.ctl.mcMod m (fun u => { u with reads :=
      u.reads ++ [{ cls := 2, who := 0, addr := a, len := 128, at_ := s.ctl.now, errs := errs }] }) } := by
  rw [bulkRead, mcAsk_of_notBulk hs (by decide : (2 : Nat) ≠ 1), serveBulk_of_closed ((bulkOpen_append rfl).trans ho)]

/-- R453: writes give way to RT reads. -/
theorem writeBatch_of_reads {s : State} (h : (s.ctl.mcSt m).reads.any (fun r => r.cls != 2) = true)
    (errs : List SymbolError) : writeBatch m errs s = s := by
  unfold writeBatch
  dsimp only
  rw [h, Bool.or_true, if_pos rfl]

/-! ### Refresh (R457, R458, R461) and rows (R456) -/

section
variable {rank idx : Nat} (hall : c.allBank m = false)
include hall

theorem refIdx_of_sameBank : c.refIdx m idx = [idx] := by
  rw [Ctl.refIdx, if_neg (Bool.eq_false_iff.mp hall)]

theorem refreshDue_of_first (hdue : tget? (c.mcSt m).dueAt (rank * 4 + idx) = none) : refreshDue m rank idx c =
    if 4 ≤ tget (c.mcSt m).debt (rank * 4 + idx) 0 then
      (((c.mcMod m (fun u => { u with dueAt := tput u.dueAt (rank * 4 + idx) c.now })).debtBy m rank idx id).inc
        (R.MC_REFRESH_FORCED m)).irq (pgMillrace m) 5
    else if c.rtOnIndex m rank idx then
      (c.mcMod m (fun u => { u with dueAt := tput u.dueAt (rank * 4 + idx) c.now })).debtBy m rank idx (· + 1)
    else c.mcMod m (fun u => { u with dueAt := tput u.dueAt (rank * 4 + idx) c.now }) := by
  unfold refreshDue
  dsimp only
  rw [hall, if_neg Bool.false_ne_true, hdue, Option.any_none, if_neg Bool.false_ne_true, refIdx_of_sameBank hall]
  simp only [List.any_cons, List.any_nil, Bool.or_false, decide_eq_true_eq]

theorem refreshDue_of_early {t : Nat} (hdue : tget? (c.mcSt m).dueAt (rank * 4 + idx) = some t)
    (hlt : c.sinceT t < c.refInterval m) : refreshDue m rank idx c = c := by
  unfold refreshDue
  dsimp only
  rw [hall, if_neg Bool.false_ne_true, hdue, Option.any_some, if_pos (decide_eq_true hlt)]

theorem refreshRepay_of_debt (hdebt : tget (c.mcSt m).debt (rank * 4 + idx) 0 ≠ 0) (hrt : c.rtOnIndex m rank idx = false) :
    refreshRepay m rank idx c = c.debtBy m rank idx (· - 1) := by
  rw [refreshRepay, refIdx_of_sameBank hall, hrt, if_neg (by simp [hdebt])]

end

theorem nrr_of_due {b : Nat × Nat} {l : List (Nat × Nat)} (hd : (c.mcSt m).nrrDue = b :: l)
    (hr : (c.mcSt m).reads.any (fun r => r.cls != 2 && c.readAt m r == some b) = false) :
    nrr m c = (c.inc (R.MC_CNT0_NRR m)).mcMod m (fun u => { u with nrrDue := l, rows := tdel u.rows b.1 }) := by
  unfold nrr
  rw [hd]
  dsimp only
  rw [if_neg (Bool.eq_false_iff.mp hr)]

/-- R456: with nothing waiting a row is closed once it has been idle for long enough. -/
theorem rowClose_of_quiet {bank : Nat} {z : Nat × Nat} (hz : tget? (c.mcSt m).rows bank = some z) (hr : (c.mcSt m).reads = []) :
    rowClose m bank [] c = if c.get (R.MC_CTRL_PAGE_IDLE m) ≤ (c.sinceT z.2 + 1) * c.mcClocks m then
      c.mcMod m (fun u => { u with rows := tdel u.rows bank }) else c := by
  unfold rowClose
  simp [hz, hr]

end

end Sys2Proof.Machine

/-- Settles O51: initialisation, training and retraining by state (R439, R465 to R469), reads and writes by what waits (R447,
R448, R453), refreshes by debt (R457, R458, R461), rows by their idle time (R456). -/
theorem memoryCommandEffects : Obligations.MemoryCommandEffects := by
  unfold Obligations.MemoryCommandEffects
  refine ⟨?initFault, ?initRanks, ?initSmall, ?stepNext, ?stepLast, ?stepRate, ?refreshStays, ?refreshStep4, ?refreshStep5,
    ?trainRetry, ?retrainRefused, ?retrainService, ?retrainFault, ?rtShort, ?rtBulk, ?refreshForced, ?refreshDebt, ?refreshDone,
    ?refreshEarly, ?repay, ?nrr, ?temp, ?calibration, ?rowIdle, ?rowStays, ?bulkRead, ?batchWaits, ?rateOff⟩
  case initFault =>
    intro m s ht hst hranks hdensity
    exact exec_map_eq (by rfl) ht ((initDone_of_init hst).trans (by rw [hranks, hdensity]; rfl))
  case initRanks =>
    intro m s ht hst hranks hdensity
    exact exec_map_eq (by rfl) ht ((initDone_of_init hst).trans (by rw [hranks, hdensity]; rfl))
  case initSmall =>
    intro m s ht hst hranks hdensity
    exact exec_map_eq (by rfl) ht ((initDone_of_init hst).trans (by rw [hranks, hdensity]; rfl))
  case stepNext =>
    intro m pass s ht hst hf hp hpass hlt
    exact exec_map_eq (by rfl) ht ((trainStepDone_of_train hst hf (.inr hpass)).trans (by
      rw [if_neg (Bool.eq_false_iff.mp hp), if_pos hlt]))
  case stepLast =>
    intro m pass s ht hst hf hp hpass hge
    exact exec_map_eq (by rfl) ht ((trainStepDone_of_train hst hf (.inr hpass)).trans (by
      rw [if_neg (Bool.eq_false_iff.mp hp), if_neg (Nat.not_lt.mpr hge)]))
  case stepRate =>
    intro m pass s ht hst hf hp
    exact exec_map_eq (by rfl) ht ((trainStepDone_of_train hst hf (.inl hp)).trans (by rw [if_pos hp]))
  case refreshStays =>
    intro m pass s ht hst hl
    exact exec_map_eq (by rfl) ht ((trainStepDone_of_selfRefresh hst (.inl hl)).trans (by
      rw [if_neg (Bool.eq_false_iff.mp hl)]))
  case refreshStep4 =>
    intro m pass s ht hst hl hpass h4
    exact exec_map_eq (by rfl) ht ((trainStepDone_of_selfRefresh hst (.inr hpass)).trans (by rw [if_pos hl, if_pos h4]))
  case refreshStep5 =>
    intro m pass s ht hst hl hpass h5
    exact exec_map_eq (by rfl) ht ((trainStepDone_of_selfRefresh hst (.inr hpass)).trans (by
      rw [if_pos hl, if_neg (by rw [h5]; decide)]))
  case trainRetry =>
    intro m s ht hst hp hf hle
    exact exec_ctl_eq (by rfl) ht (trainRetry_of_due hst hp hf hle)
  case retrainRefused =>
    intro m s ht ha hm hr hst hreach
    exact exec_mapWrite_eq (by rfl) ht ha hm ((mcRetrain_of_service hr hst).trans (by rw [if_pos hreach]))
  case retrainService =>
    intro m s ht ha hm hr hst hreach
    exact exec_mapWrite_eq (by rfl) ht ha hm ((mcRetrain_of_service hr hst).trans (by
      rw [if_neg (Bool.eq_false_iff.mp hreach)]))
  case retrainFault =>
    intro m s ht ha hm hr hst
    exact exec_mapWrite_eq (by rfl) ht ha hm (mcRetrain_of_fault hr hst)
  case rtShort =>
    intro m who a len bulk s n ht hs hb hp
    subst hb
    exact exec_ctl_eq (by rfl) ht ((rtRead_of_part hp).trans (mcAsk_of_notBulk hs Nat.zero_ne_one))
  case rtBulk =>
    intro m who a len bulk s n ht hs hb hp
    subst hb
    exact exec_ctl_eq (by rfl) ht ((rtRead_of_part hp).trans (mcAsk_of_bulk hs rfl))
  case refreshForced =>
    intro m rank idx s ht hall hdue h4
    exact exec_ctl_eq (by rfl) ht ((refreshDue_of_first hall hdue).trans (by rw [if_pos h4]))
  case refreshDebt =>
    intro m rank idx s ht hall hdue hrt h4
    exact exec_ctl_eq (by rfl) ht ((refreshDue_of_first hall hdue).trans (by rw [if_neg (Nat.not_le.mpr h4), if_pos hrt]))
  case refreshDone =>
    intro m rank idx s ht hall hdue h4 hrt
    exact exec_ctl_eq (by rfl) ht ((refreshDue_of_first hall hdue).trans (by
      rw [if_neg (Nat.not_le.mpr h4), if_neg (Bool.eq_false_iff.mp hrt)]))
  case refreshEarly =>
    intro m rank idx s t ht hall hdue hlt
    exact exec_ctl_eq (by rfl) ht (refreshDue_of_early hall hdue hlt)
  case repay =>
    intro m rank idx s ht hall hdebt hrt
    exact exec_ctl_eq (by rfl) ht (refreshRepay_of_debt hall hdebt hrt)
  case nrr =>
    intro m s b l ht hd hr
    exact exec_ctl_eq (by rfl) ht (nrr_of_due hd hr)
  case temp =>
    intro m degC s ht
    exact exec_of_runCtl (by rfl) ht
  case calibration =>
    intro m s ht
    exact exec_of_runCtl (by rfl) ht
  case rowIdle =>
    intro m bank s z ht hz hr hq hle
    rw [exec_of_run (i := .rowClose m bank) (f := fun s => { s with ctl := rowClose m bank (s.mem.wq m) s.ctl }) rfl ht, keepQueue,
      hq, rowClose_of_quiet hz hr, if_pos hle]
  case rowStays =>
    intro m bank s z ht hz hr hq hlt
    rw [exec_of_run (i := .rowClose m bank) (f := fun s => { s with ctl := rowClose m bank (s.mem.wq m) s.ctl }) rfl ht, keepQueue,
      hq, rowClose_of_quiet hz hr, if_neg (Nat.not_le.mpr hlt)]
  case bulkRead =>
    intro m a errs s ht hs ho
    exact exec_run_eq (i := .bulkRead m a errs) rfl ht (congrArg bar2Collect (bulkRead_of_closed hs ho a errs))
  case batchWaits =>
    intro m errs s ht _ _ hr
    exact exec_run_eq (i := .writeBatch ⟨m, errs⟩) rfl ht (congrArg bar2Collect (writeBatch_of_reads hr errs))
  case rateOff =>
    intro m rate s ht ha hm hst
    exact exec_write_eq (by rfl) ht ha hm (mcRateWrite_of_off hst rate)

end


section
/-! PROOFS, effects of the host port (11_host_port.md): configuration, messages and SMBus. -/

open Sys2Proof Sys2Proof.Machine

namespace Sys2Proof.Machine

section
variable {c : Ctl}

/-! ### The window of BAR2 (R22) -/

theorem bar2WinWrite_of_low (h : tget? c.host.stagedHi R.GLOBAL_BAR2_WIN_HI = none) (w : Word) : bar2WinWrite w c =
    (c.put R.GLOBAL_BAR2_WIN_LO_BASE (slice w.toNat 20 12)).modHost (fun u =>
      { u with stagedHi := tdel u.stagedHi R.GLOBAL_BAR2_WIN_HI }) := by
  unfold bar2WinWrite
  rw [h]

theorem bar2WinWrite_of_high {hi : Word} (h : tget? c.host.stagedHi R.GLOBAL_BAR2_WIN_HI = some hi) (w : Word) : bar2WinWrite w c =
    ((c.put R.GLOBAL_BAR2_WIN_HI_BASE hi.toNat).put R.GLOBAL_BAR2_WIN_LO_BASE (slice w.toNat 20 12)).modHost (fun u =>
      { u with stagedHi := tdel u.stagedHi R.GLOBAL_BAR2_WIN_HI }) := by
  unfold bar2WinWrite
  rw [h]

/-! ### Configuration and messages (R472 to R474, R518, R519) -/

theorem configRequest_of_boot (h : c.is R.GLOBAL_START_STAT_BOOT_DONE = false) (q : CfgReq) :
    configRequest q c = c.send .retry := by
  rw [configRequest.eq_def, if_pos (Bool.eq_false_iff.mp h)]

theorem configRequest_read (h : c.is R.GLOBAL_START_STAT_BOOT_DONE = true) (r : CfgReg) :
    configRequest (.read r) c = c.send (.completion (c.cfgRead r) false) := by
  rw [configRequest, if_neg (not_not.mpr h)]

theorem configRequest_bar (h : c.is R.GLOBAL_START_STAT_BOOT_DONE = true) (two : Bool) (b : Nat) :
    configRequest (.bar two b) c =
      (c.modHost (fun h => if two then { h with bar2 := b } else { h with bar0 := b })).send (.completion [] false) := by
  rw [configRequest, if_neg (not_not.mpr h)]

theorem msixMessage_of_waiting {v : Nat} (hv : c.host.msgs.contains v = true) (hon : c.host.msixOn = true) :
    msixMessage v c = ({ c with host := { c.host with msgs := c.host.msgs.erase v } } : Ctl).decideMsg v := by
  rw [msixMessage, hv, hon, Bool.and_self, if_pos rfl]

theorem msixEnable_of_boot (h : c.is R.GLOBAL_START_STAT_BOOT_DONE = false) (on mask : Bool) :
    msixEnable on mask c = c.send .retry := by
  rw [msixEnable, if_pos (Bool.eq_false_iff.mp h)]

theorem msixEnable_off (h : c.is R.GLOBAL_START_STAT_BOOT_DONE = true) (mask : Bool) :
    msixEnable false mask c = { c with host := { c.host with msixOn := false, fnMask := mask, msgs := [] } } := by
  rw [msixEnable, if_neg (not_not.mpr h)]
  rfl

theorem ptmResponse_failed {t1 : Nat} (h : c.host.ptmBusy = some t1) (t2 p clk : Nat) :
    ptmResponse t2 p clk false c = ptmFailed c := by
  unfold ptmResponse
  rw [h]
  rfl

end

end Sys2Proof.Machine

/-- Settles O52: the window (R22), what a request answers before and after boot (R472 to R474), messages (R518, R519), time
(R495) and the alert response (R496). -/
theorem hostCommandEffects : Obligations.HostCommandEffects := by
  unfold Obligations.HostCommandEffects
  refine ⟨?winLow, ?winHigh, ?bar2Read, ?flr, ?linkDown, ?cfgBoot, ?cfgRead, ?cfgBar, ?message, ?msixBoot, ?msixOff, ?ptm, ?alert,
    ?noAlert⟩
  case winLow =>
    intro w s ht ha hm hi
    exact exec_write_eq (by rfl) ht ha hm (bar2WinWrite_of_low hi w)
  case winHigh =>
    intro w s hi ht ha hm h
    exact exec_write_eq (by rfl) ht ha hm (bar2WinWrite_of_high h w)
  case bar2Read =>
    intro off en s ht
    exact exec_run_eq (i := .bar2Read off en) (f := bar2Read off en) rfl ht rfl
  case flr =>
    intro s ht
    exact exec_of_runCtl (by rfl) ht
  case linkDown =>
    intro s ht
    exact exec_of_runCtl (by rfl) ht
  case cfgBoot =>
    intro q s ht hb
    exact exec_ctl_eq (by rfl) ht (configRequest_of_boot hb q)
  case cfgRead =>
    intro q s r ht hb hq
    subst hq
    exact exec_ctl_eq (by rfl) ht (configRequest_read hb r)
  case cfgBar =>
    intro q s two b ht hb hq
    subst hq
    exact exec_ctl_eq (by rfl) ht (configRequest_bar hb two b)
  case message =>
    intro v s ht hv hon
    exact exec_ctl_eq (by rfl) ht (msixMessage_of_waiting hv hon)
  case msixBoot =>
    intro on mask s ht hb
    exact exec_ctl_eq (by rfl) ht (msixEnable_of_boot hb on mask)
  case msixOff =>
    intro on mask s ht hb hon
    subst hon
    exact exec_ctl_eq (by rfl) ht (msixEnable_off hb mask)
  case ptm =>
    intro t2 p clk ok s t1 ht hbusy hok
    subst hok
    exact exec_ctl_eq (by rfl) ht (ptmResponse_failed hbusy t2 p clk)
  case alert =>
    intro s ht h
    exact exec_ctl_eq (by rfl) ht (by rw [smbAlertResponse, if_pos h, smbAnswer])
  case noAlert =>
    intro s ht h
    exact exec_ctl_eq (by rfl) ht (by rw [smbAlertResponse, if_neg (Bool.eq_false_iff.mp h), smbAnswer])

end

section
/-! PROOFS, effects of the sluice and the recorder (12_sluice.md, 15_recorder.md). -/

open Sys2Proof Sys2Proof.Machine

namespace Sys2Proof.Machine

section
variable {c : Ctl}

/-! ### Sources, claims and vectors (R506, R511, R515, R516) -/

theorem swPendSet_of_absent {src : Nat} (h : c.srcExists src = false) : swPendSet src c = c := by
  rw [swPendSet, h, Bool.and_false, if_neg Bool.false_ne_true]

theorem swPendSet_of_exists {src : Nat} (hon : c.sluOn = true) (h : c.srcExists src = true) : swPendSet src c =
    if c.srcMode src = 0 then ((c.sluMod (fun t => { t with latch := setMask t.latch src true })).sampleLevel src).sluEval
    else (c.countEdge src).sluEval := by
  rw [swPendSet, hon, h, Bool.and_self, if_pos rfl]

section
variable {x src : Nat} (hon : c.sluOn = true)
include hon

theorem ctxComplete_of_claims {q p : Nat} {l : List (Nat × Nat)} (h : c.stack x = (q, p) :: l) : ctxComplete x src c =
    if q = src then (((c.sluMod (fun u => { u with claims := tput u.claims x l })).releaseSource src).armCtx x).sluEval
    else c.sluErr 1 x src := by
  unfold ctxComplete
  rw [hon, Bool.not_true, if_neg Bool.false_ne_true, h]

theorem ctxComplete_of_none (h : c.stack x = []) : ctxComplete x src c = c.sluErr 2 x src := by
  unfold ctxComplete
  rw [hon, Bool.not_true, if_neg Bool.false_ne_true, h]

end

theorem ctxThreshWrite_of_off {x t : Nat} (h : (c.put (R.SLUICE_CTX_THRESH_THRESHOLD x) t).sluOn = false) :
    ctxThreshWrite x t c = c.put (R.SLUICE_CTX_THRESH_THRESHOLD x) t :=
  if_neg (Bool.eq_false_iff.mp h)

/-- R515: an acknowledgement of no source arms the group again. -/
theorem scanAck_of_none {g : Nat} (hon : c.sluOn = true) :
    scanAck g 0 c = (c.sluMod (fun t => { t with armedGrp := setMask t.armedGrp g true })).sluEval := by
  have hnone : bitList 24 0 = [] := by decide
  rw [scanAck, hon, Bool.not_true, if_neg Bool.false_ne_true, hnone]
  rfl

theorem coalesceRelease_of_count {v p q : Nat} (hon : c.host.msixOn = true) (hh : tget? c.slu.held v = some (p, q))
    (hle : c.get (R.SLUICE_COAL_COUNT v) ≤ p) : coalesceRelease v c = c.passMsg v := by
  unfold coalesceRelease
  rw [hh]
  exact if_pos ⟨hon, .inl hle⟩

/-! ### The recorder (R587 to R590, R598, R603) -/

theorem freeze_of_running (h : c.rc.frozen = none) : freeze true c =
    ({ c with rc := { c.rc with frozen := some ⟨c.now, [c.rc.layer, c.rc.last, c.rc.build, c.rc.life]⟩ } } : Ctl).put
      R.REC_STAT_FROZEN 1 := by
  unfold freeze
  rw [if_pos rfl, h]

theorem freeze_of_frozen {z : Frozen} (h : c.rc.frozen = some z) : freeze true c = c := by
  unfold freeze
  rw [if_pos rfl, h]

theorem freeze_off (c : Ctl) :
    freeze false c = ({ c with rc := { c.rc with frozen := none } } : Ctl).put R.REC_STAT_FROZEN 0 := by
  unfold freeze
  rw [if_neg Bool.false_ne_true]

theorem freezeExpired_of_due {z : Frozen} (h : c.rc.frozen = some z) (hle : 200000 ≤ c.sinceT z.at_) : freezeExpired c =
    (((freeze false c).put R.REC_STAT_FREEZE_EXPIRED 1).irq pgRecorder 3).event pgRecorder 0x19 0xFF 0 0 0 [] := by
  unfold freezeExpired
  rw [h]
  exact if_pos hle

/-- The non-volatile records that wait, without the first. -/
def nvLeft (l : List Rec) (c : Ctl) : Ctl := { c with rc := { c.rc with nvQueue := l } }

/-- R598: an event that needs a token is suppressed where none is left. -/
theorem nvWrite_of_noToken {r : Rec} {l : List Rec} (hq : c.rc.nvQueue = r :: l) (htyp : r.typ = 1) (h1 : r.code ≠ 0x01)
    (h2 : r.code ≠ 0x02) (h0 : c.get R.REC_NV_TOKENS = 0) (o : NvOutcome) :
    nvWrite o c = ((nvLeft l c).inc R.REC_NV_SUPPRESSED).irq pgRecorder 6 := by
  have hfree : r.tokenFree = false := by simp [Rec.tokenFree, htyp, h1, h2]
  have htok : (nvLeft l c).get R.REC_NV_TOKENS = 0 := (get_of_regs (by rfl) _).trans h0
  unfold nvWrite
  rw [hq]
  change (nvLeft l c).withToken r _ = _
  unfold Ctl.withToken
  dsimp only
  rw [hfree, if_neg Bool.false_ne_true, htok, if_pos rfl]

theorem wearIntervalEnd_of_early (h : c.sinceT c.rc.wearFrom < 8 * 72000000000) : wearIntervalEnd c = c := by
  rw [wearIntervalEnd, decide_eq_false (Nat.not_le.mpr h), Bool.and_false, if_neg Bool.false_ne_true]

end

end Sys2Proof.Machine

/-- Settles O53: the sluice's writes by source and claim (R506, R511, R515, R516, R520), the recorder's by what it holds (R587 to
R590, R598, R603). -/
theorem sluiceRecorderCommandEffects : Obligations.SluiceRecorderCommandEffects := by
  unfold Obligations.SluiceRecorderCommandEffects
  refine ⟨?disable, ?setLevel, ?setEdge, ?setAbsent, ?pendClear, ?completes, ?wrongSource, ?nothingClaimed, ?threshold, ?scanAck,
    ?coalesce, ?freezes, ?frozen, ?thaws, ?expired, ?mwZero, ?mwWrite, ?refill, ?noToken, ?wearEarly⟩
  case disable =>
    intro en s ht ha hm hon hen
    subst hen
    exact exec_write_eq (by rfl) ht ha hm ((blkCtrl_off (p := .sluice) (inst := 0) (by decide) (by decide) hon).trans (by
      rw [blkEnable, sluiceEnable, if_neg Bool.false_ne_true]))
  case setLevel =>
    intro src s ht ha hm hon hsrc hmode
    exact exec_write_eq (by rfl) ht ha hm ((swPendSet_of_exists hon hsrc).trans (by rw [if_pos hmode]))
  case setEdge =>
    intro src s ht ha hm hon hsrc hmode
    exact exec_write_eq (by rfl) ht ha hm ((swPendSet_of_exists hon hsrc).trans (by rw [if_neg hmode]))
  case setAbsent =>
    intro src s ht ha hm hsrc
    exact exec_write_eq (by rfl) ht ha hm (swPendSet_of_absent hsrc)
  case pendClear =>
    intro src s ht ha hm
    exact exec_of_guardW (by rfl) ht ha hm
  case completes =>
    intro x src s p l ht ha hm hon hst
    exact exec_write_eq (by rfl) ht ha hm ((ctxComplete_of_claims hon hst).trans (by rw [if_pos rfl]))
  case wrongSource =>
    intro x src s q p l ht ha hm hon hst hne
    exact exec_write_eq (by rfl) ht ha hm ((ctxComplete_of_claims hon hst).trans (by rw [if_neg hne]))
  case nothingClaimed =>
    intro x src s ht ha hm hon hst
    exact exec_write_eq (by rfl) ht ha hm (ctxComplete_of_none hon hst)
  case threshold =>
    intro x t s ht ha hm _ hoff
    exact exec_write_eq (by rfl) ht ha hm (ctxThreshWrite_of_off hoff)
  case scanAck =>
    intro g mask s ht ha hm hon h0
    subst h0
    exact exec_write_eq (by rfl) ht ha hm (scanAck_of_none hon)
  case coalesce =>
    intro v s p q ht hon hh hle
    exact exec_ctl_eq (by rfl) ht (coalesceRelease_of_count hon hh hle)
  case freezes =>
    intro on s ht ha hm hon hz
    subst hon
    exact exec_write_eq (by rfl) ht ha hm (freeze_of_running hz)
  case frozen =>
    intro on s z ht ha hm hon hz
    subst hon
    exact exec_write_eq (by rfl) ht ha hm (freeze_of_frozen hz)
  case thaws =>
    intro on s ht ha hm hon
    subst hon
    exact exec_write_eq (by rfl) ht ha hm (freeze_off s.ctl)
  case expired =>
    intro s z ht hz hle
    exact exec_ctl_eq (by rfl) ht ((freezeExpired_of_due hz hle).trans (by rw [freeze_off]))
  case mwZero =>
    intro k w s ht ha hm h0
    exact exec_write_eq (by rfl) ht ha hm (by rw [recMwWrite, if_pos h0])
  case mwWrite =>
    intro k w s ht ha hm h0
    exact exec_write_eq (by rfl) ht ha hm (by rw [recMwWrite, if_neg h0])
  case refill =>
    intro s ht
    exact exec_of_runCtl (by rfl) ht
  case noToken =>
    intro o s r l ht hq htyp h1 h2 h0
    exact exec_ctl_eq (by rfl) ht (nvWrite_of_noToken hq htyp h1 h2 h0 o)
  case wearEarly =>
    intro s ht hlt
    exact exec_ctl_eq (by rfl) ht (wearIntervalEnd_of_early hlt)

end


section
/-! PROOFS, effects of lighting and the axes (14_bed_lighting.md, 13_axes.md): an axis command by its OP and the axis's state. -/

open Sys2Proof Sys2Proof.Machine

namespace Sys2Proof.Machine

section
variable {a : Nat} {c : Ctl}

theorem exec_axis_eq {i : Instr} {op : Nat} {w : Word} {s : State} {d : Ctl}
    (he : exec i s = runCtl i (guardW (R.AX_CMD a) w (axOrder a op)) s) (ht : taken i s) (ha : s.ctl.access (R.AX_CMD a) = .ok)
    (hm : s.ctl.mustWait (R.AX_CMD a) = false) (hd : axCommand a op (s.ctl.axBoundary a) = d) :
    exec i s = .next { s with ctl := d } :=
  exec_write_eq he ht ha hm hd

/-! ### Axis commands (R537): a disabled axis refuses each of them -/

theorem axCommand_of_disabled (h : c.axState a = axDisabled) (op : Nat) : axCommand a op c = c.axRefuse a 1 := by
  unfold axCommand
  split
  · rw [moveAbs, if_pos h]
  · rw [moveRel, if_pos h]
  · rw [velocity, if_pos h]
  · rw [stop, if_pos h]
  · rw [qstop, if_pos h]
  · rw [home, if_pos h]
  · rw [gear, if_pos h]
  · rw [setPos, if_pos h]
  · rw [armRatio, if_pos h]
  · rw [disarm, if_pos h]
  · rw [axCmdUnassigned, if_pos h]

theorem axCommand_unassigned {op : Nat} (h : op = 0 ∨ 0xA < op) : axCommand a op c = axCmdUnassigned a c := by
  unfold axCommand
  split
  iterate 10 · omega
  rfl

/-- The states in which an axis takes a move or a speed (R537). -/
def takesMoves (st : Nat) : Prop := st = axIdle ∨ st = axPosition ∨ st = axJog ∨ st = axStopping

theorem takesMoves.enabled {st : Nat} (h : takesMoves st) : st ≠ axDisabled ∧ ¬ (st = axHoming ∨ st = axGeared) := by
  rcases h with h | h | h | h <;> subst h <;> decide

theorem moveAbs_of_enabled (h : c.axState a ≠ axDisabled) : moveAbs a c =
    if c.is (R.AX_STAT_POS_LOST a) then c.axRefuse a 2
    else if c.limTowards a (c.axTargetReg a - (c.axSt a).pos) then c.axRefuse a 3
    else if c.axState a = axHoming ∨ c.axState a = axGeared then c.axRefuse a 7
    else c.axMoveTo a (c.axTargetReg a) := by
  rw [moveAbs, if_neg h]

theorem velocity_of_moving (h : takesMoves (c.axState a)) (hl : c.limTowards a (sgn 32 (c.reg (R.AX_VJOG a))) = false) :
    velocity a c = ((((c.axLatch a).axGo a axJog).axReverse a
      (decide (((c.axLatch a).axSt a).v * ((c.axLatch a).axSt a).vjog < 0))).axWake a).axShow a := by
  rw [velocity, if_neg h.enabled.1, if_neg (Bool.eq_false_iff.mp hl), if_neg h.enabled.2]

theorem stop_of_enabled (h : c.axState a ≠ axDisabled) : stop a c = (c.axLatch a).axStop a false := by
  rw [stop, if_neg h]

theorem qstop_of_enabled (h : c.axState a ≠ axDisabled) : qstop a c = c.axFreeze a false := by
  rw [qstop, if_neg h]

theorem disarm_of_enabled (h : c.axState a ≠ axDisabled) : disarm a c = c.put (R.AX_STAT_RATIO_ARMED a) 0 := by
  rw [disarm, if_neg h]

theorem setPos_of_idle (h : c.axState a = axIdle) : setPos a c =
    ((c.axMod a (fun u => { u with p := c.axTargetReg a * (2 ^ 32 : Nat) })).put (R.AX_STAT_POS_LOST a) 0).axShow a := by
  rw [setPos, h, if_neg (by decide), if_neg (not_not.mpr rfl)]

theorem setPos_of_moving (h : c.axState a ≠ axDisabled) (hi : c.axState a ≠ axIdle) : setPos a c = c.axRefuse a 6 := by
  rw [setPos, if_neg h, if_pos hi]

theorem armRatio_of_enabled (h : c.axState a ≠ axDisabled) : armRatio a c =
    if c.reg (R.AX_GEAR_DEN2 a) = 0 then c.axRefuse a 4
    else (c.axMod a (fun u => { u with
      num2 := sgn 32 (c.reg (R.AX_GEAR_NUM2 a)), den2 := c.reg (R.AX_GEAR_DEN2 a)
      switchC := c.reg (R.AX_GEAR_SWITCH a) })).put (R.AX_STAT_RATIO_ARMED a) 1 := by
  rw [armRatio, if_neg h]

theorem gear_of_idle (h : c.axState a = axIdle) (henc : c.is (R.AX_CTRL_ENC_EN a) = true) (hden : c.reg (R.AX_GEAR_DEN a) ≠ 0) :
    gear a c = (((c.axLatch a).axMod a (fun u => { u with
      gearNum := sgn 32 (c.reg (R.AX_GEAR_NUM a)), gearDen := c.reg (R.AX_GEAR_DEN a)
      baseC := c.axCount a, lastC := c.axCount a, baseP := u.pos, followExc := false })).axGo a axGeared).axWake a := by
  rw [gear, if_neg (by rw [h]; decide), if_neg (by simp [h, henc, hden])]

theorem home_of_moving (h : c.axState a ≠ axDisabled) (hi : c.axState a ≠ axIdle) : home a c = c.axRefuse a 5 := by
  rw [home, if_neg h, if_pos (.inl hi)]

/-! ### Standstill and encoders (R525, R543) -/

theorem standstill_of_rest (hst : c.axState a = axIdle) (hle : c.get (R.AX_CUR_STILL_MS a) * 2000 ≤ (c.axSt a).rest) :
    standstill a c = (c.put (R.AX_STAT_BRIDGE a) (if c.get (R.AX_CTRL_STANDSTILL a) = 0 then 0
      else if c.get (R.AX_CTRL_STANDSTILL a) = 1 then 1 else 2)).axMod a (fun u => { u with still := true }) := by
  rw [standstill, if_pos ⟨hst, hle⟩]
  match c.get (R.AX_CTRL_STANDSTILL a) with
  | 0 | 1 | _ + 2 => rfl

theorem is_encMod (e : Nat) (f : EncSt → EncSt) (g : Fld) : (c.encMod e f).is g = c.is g :=
  congrArg (· != 0) (get_of_regs (by rfl) g)

theorem encoderEdge_of_off {e : Nat} (h : c.is (R.ENC_CFG_EN e) = false) (p q : Bool) :
    encoderEdge e p q c = c.encMod e (fun u => { u with a := p, b := q }) := by
  unfold encoderEdge
  dsimp only
  rw [is_encMod, h, Bool.not_false, if_pos rfl]

theorem shortTest_of_idle (h : c.is R.LIGHT_CMD_SHORT_TEST = false) (hs : c.light.shortSlot = false) :
    shortTest c = (c.put R.LIGHT_CMD_SHORT_TEST 1).liMod (fun u => { u with shortDue := true }) := by
  rw [shortTest, if_neg (by simp [h, hs])]

end

end Sys2Proof.Machine

/-- Settles O54: lighting (R565, R569, R573), encoders and inputs (R522, R525 to R527), axis commands by OP and state (R537, R543,
R544, R547, R552). -/
theorem lightAxesCommandEffects : Obligations.LightAxesCommandEffects := by
  unfold Obligations.LightAxesCommandEffects
  refine ⟨?swap, ?patClear, ?shortTest, ?shortRuns, ?zEdge, ?setRefused, ?set, ?gpi, ?moveAbs1, ?moveRel1, ?velocity1, ?stop1,
    ?qstop1, ?home1, ?gear1, ?setPos1, ?armRatio1, ?disarm1, ?unassigned, ?moveAbs2, ?moveAbs3, ?moveAbs, ?velocity, ?stop,
    ?qstop, ?setPos, ?setPos6, ?armRatio4, ?armRatio, ?disarm, ?gear, ?home5, ?standstill, ?wake, ?edgeOff⟩
  case swap | patClear =>
    intro s ht ha hm
    exact exec_of_guardW (by rfl) ht ha hm
  case shortTest =>
    intro s ht ha hm h hs
    exact exec_write_eq (by rfl) ht ha hm (shortTest_of_idle h hs)
  case shortRuns =>
    intro s ht ha hm h
    exact exec_write_eq (by rfl) ht ha hm (by rw [shortTest, if_pos (.inl h)])
  case zEdge =>
    intro e s ht
    exact exec_of_runCtl (by rfl) ht
  case setRefused =>
    intro e w s ht ha hm h
    exact exec_write_eq (by rfl) ht ha hm (by rw [encSet, if_pos h])
  case set =>
    intro e w s ht ha hm h
    exact exec_write_eq (by rfl) ht ha hm (by rw [encSet, if_neg (Bool.eq_false_iff.mp h)])
  case gpi =>
    intro k on s ht
    exact exec_of_runCtl (by rfl) ht
  case moveAbs1 | moveRel1 | velocity1 | stop1 | qstop1 | home1 | gear1 | setPos1 | armRatio1 | disarm1 =>
    intro a s ht ha hm h
    exact exec_axis_eq rfl ht ha hm (axCommand_of_disabled h _)
  case unassigned =>
    intro a op s ht ha hm hop h
    exact exec_axis_eq rfl ht ha hm ((axCommand_unassigned hop).trans (by rw [axCmdUnassigned, if_neg h]))
  case moveAbs2 =>
    intro a s ht ha hm h hlost
    exact exec_axis_eq rfl ht ha hm ((moveAbs_of_enabled h).trans (by rw [if_pos hlost]))
  case moveAbs3 =>
    intro a s ht ha hm h hpos hlim
    exact exec_axis_eq rfl ht ha hm ((moveAbs_of_enabled h).trans (by
      rw [if_neg (Bool.eq_false_iff.mp hpos), if_pos hlim]))
  case moveAbs =>
    intro a s ht ha hm h hpos hlim
    exact exec_axis_eq rfl ht ha hm ((moveAbs_of_enabled (takesMoves.enabled h).1).trans (by
      rw [if_neg (Bool.eq_false_iff.mp hpos), if_neg (Bool.eq_false_iff.mp hlim), if_neg (takesMoves.enabled h).2]))
  case velocity =>
    intro a s ht ha hm h hlim
    exact exec_axis_eq rfl ht ha hm (velocity_of_moving h hlim)
  case stop =>
    intro a s ht ha hm h
    exact exec_axis_eq rfl ht ha hm (stop_of_enabled h)
  case qstop =>
    intro a s ht ha hm h
    exact exec_axis_eq rfl ht ha hm (qstop_of_enabled h)
  case setPos =>
    intro a s ht ha hm h
    exact exec_axis_eq rfl ht ha hm (setPos_of_idle h)
  case setPos6 =>
    intro a s ht ha hm h hi
    exact exec_axis_eq rfl ht ha hm (setPos_of_moving h hi)
  case armRatio4 =>
    intro a s ht ha hm h hden
    exact exec_axis_eq rfl ht ha hm ((armRatio_of_enabled h).trans (by rw [if_pos hden]))
  case armRatio =>
    intro a s ht ha hm h hden
    exact exec_axis_eq rfl ht ha hm ((armRatio_of_enabled h).trans (by rw [if_neg hden]))
  case disarm =>
    intro a s ht ha hm h
    exact exec_axis_eq rfl ht ha hm (disarm_of_enabled h)
  case gear =>
    intro a s ht ha hm h henc hden
    exact exec_axis_eq rfl ht ha hm (gear_of_idle h henc hden)
  case home5 =>
    intro a s ht ha hm h hi
    exact exec_axis_eq rfl ht ha hm (home_of_moving h hi)
  case standstill =>
    intro a s ht hst hle
    exact exec_ctl_eq (by rfl) ht (standstill_of_rest hst hle)
  case wake =>
    intro a s ht hw h0
    exact exec_ctl_eq (by rfl) ht (by rw [wakeDone, if_pos ⟨hw, h0⟩])
  case edgeOff =>
    intro e a b s ht h
    exact exec_ctl_eq (by rfl) ht (encoderEdge_of_off h a b)

end


section
/-! PROOFS, effects of identity, flash and trim (16_identity_boot.md, 17_trim.md). -/

open Sys2Proof Sys2Proof.Machine

namespace Sys2Proof.Machine

section
variable {c : Ctl}

/-! ### Flash and the intermediate certificate (R611, R617) -/

section
variable (h0 : c.ident.busy = 0)
include h0

theorem flashErase_of_idle : flashErase c = if c.flashRefused (c.reg R.ID_FLASH_ADDR) then c.irq pgIdentity 5
    else ((c.put R.ID_FLASH_CMD_ERASE 1).put R.ID_STAT_BUSY 1).idMod (fun u =>
      { u with busy := 2, cmdAddr := c.reg R.ID_FLASH_ADDR }) := by
  rw [flashErase, if_neg (not_not.mpr h0)]

theorem flashProgram_of_idle : flashProgram c = if c.flashRefused (c.reg R.ID_FLASH_ADDR) then c.irq pgIdentity 5
    else ((c.put R.ID_FLASH_CMD_PROGRAM 1).put R.ID_STAT_BUSY 1).idMod (fun u =>
      { u with busy := 3, cmdAddr := c.reg R.ID_FLASH_ADDR, cmdObj := c.stagingObj }) := by
  rw [flashProgram, if_neg (not_not.mpr h0)]

theorem intErase_of_idle : intErase c = if c.is R.REC_STAT_BUILD_OPEN then c.intErr 4
    else ((c.put R.ID_CMD_INT_ERASE 1).put R.ID_STAT_BUSY 1).idMod (fun u => { u with busy := 4 }) := by
  rw [intErase, if_neg (not_not.mpr h0)]

theorem intInstall_of_badLength (hn : derLen c.stagingObj = 0 ∨ 2048 < derLen c.stagingObj) : intInstall c = c.intErr 3 := by
  unfold intInstall
  dsimp only
  rw [if_neg (not_not.mpr h0), if_pos hn]

end

/-! ### The Ngabenor ring (R623) -/

theorem ngEnable_of_off (hoff : c.is R.NG_CTRL_EN = false) (w : Word) : ngEnable w c =
    if bitOf w.toNat 31 ∧ 12 ≤ slice w.toNat 0 5 ∧ slice w.toNat 0 5 ≤ 30 then
      ((c.put R.NG_CTRL_SIZE_LOG2 (slice w.toNat 0 5)).put R.NG_CTRL_EN 1).put R.NG_WR_INDEX
        ((c.put R.NG_CTRL_SIZE_LOG2 (slice w.toNat 0 5)).get R.NG_RD_INDEX)
    else c.put R.NG_CTRL_SIZE_LOG2 (slice w.toNat 0 5) := by
  unfold ngEnable
  dsimp only
  rw [if_neg (Bool.eq_false_iff.mp hoff)]

/-! ### Trim (R636) -/

theorem trimRun_of_running {z : TrimRun} (h : c.trim.run = some z) : trimRun c = c := by
  rw [trimRun, if_pos (by rw [h]; rfl)]

/-- R636: a failed store leaves nothing in the slot that it was to fill. -/
theorem trimStoreDone_failed {z : TrimRun} (h : c.trim.run = some z) (hz : z.phase = 4) (hslot : c.get R.TRIM_STAT_SLOT = 1) :
    trimStoreDone false c = trimFail 9 0 { c with nv := { c.nv with trimB := [] } } := by
  unfold trimStoreDone
  rw [h]
  dsimp only
  rw [if_neg (not_not.mpr hz), if_neg Bool.false_ne_true, if_pos hslot]

end

end Sys2Proof.Machine

/-- Settles O55: flash and certificate commands while none is under way (R611, R617), the ring by its size (R623), trim by its run
(R636, R639). -/
theorem identityTrimCommandEffects : Obligations.IdentityTrimCommandEffects := by
  unfold Obligations.IdentityTrimCommandEffects
  refine ⟨?commit, ?eraseRefused, ?erase, ?programRefused, ?program, ?intEraseOpen, ?intErase, ?installLength, ?ngOpens, ?ngSize,
    ?trimRun, ?apply, ?storeFailed⟩
  case commit =>
    intro s ht ha hm
    exact exec_of_guardW (by rfl) ht ha hm
  case eraseRefused =>
    intro s ht ha hm h0 hr
    exact exec_write_eq (by rfl) ht ha hm ((flashErase_of_idle h0).trans (by rw [if_pos hr]))
  case erase =>
    intro s ht ha hm h0 hr
    exact exec_write_eq (by rfl) ht ha hm ((flashErase_of_idle h0).trans (by rw [if_neg (Bool.eq_false_iff.mp hr)]))
  case programRefused =>
    intro s ht ha hm h0 hr
    exact exec_write_eq (by rfl) ht ha hm ((flashProgram_of_idle h0).trans (by rw [if_pos hr]))
  case program =>
    intro s ht ha hm h0 hr
    exact exec_write_eq (by rfl) ht ha hm ((flashProgram_of_idle h0).trans (by rw [if_neg (Bool.eq_false_iff.mp hr)]))
  case intEraseOpen =>
    intro s ht ha hm h0 hb
    exact exec_write_eq (by rfl) ht ha hm ((intErase_of_idle h0).trans (by rw [if_pos hb]))
  case intErase =>
    intro s ht ha hm h0 hb
    exact exec_write_eq (by rfl) ht ha hm ((intErase_of_idle h0).trans (by rw [if_neg (Bool.eq_false_iff.mp hb)]))
  case installLength =>
    intro s ht ha hm h0 hn
    exact exec_write_eq (by rfl) ht ha hm (intInstall_of_badLength h0 hn)
  case ngOpens =>
    intro w s ht ha hm hoff hen h12 h30
    exact exec_write_eq (by rfl) ht ha hm ((ngEnable_of_off hoff w).trans (by rw [if_pos ⟨hen, h12, h30⟩]))
  case ngSize =>
    intro w s ht ha hm hoff hsize
    exact exec_write_eq (by rfl) ht ha hm ((ngEnable_of_off hoff w).trans (by rw [if_neg fun h => by omega]))
  case trimRun =>
    intro s z ht ha hm h
    exact exec_write_eq (by rfl) ht ha hm (trimRun_of_running h)
  case apply =>
    intro s ht ha hm h
    exact exec_write_eq (by rfl) ht ha hm (trimApply_of_running h)
  case storeFailed =>
    intro ok s z ht h hz hok hslot
    subst hok
    exact exec_ctl_eq (by rfl) ht (trimStoreDone_failed h hz hslot)

end

section
/-! PROOFS, effects of resets and power (18_startup_power.md). -/

open Sys2Proof Sys2Proof.Machine

namespace Sys2Proof.Machine

/-- A full reset keeps the commands that wait. -/
theorem keepQueue_fullReset {f : State → State} {s : State} {cause : Nat} (h : f s = fullReset cause s) :
    keepQueue f s = fullReset cause s := by
  rw [keepQueue, h]
  rfl

theorem dieShutdown_of_early {c : Ctl} {t : Nat} (h : c.pwr.critAt = some t) (hlt : c.sinceT t < 400) : dieShutdown c = c := by
  unfold dieShutdown
  rw [h]
  dsimp only
  rw [if_pos (.inr hlt)]

end Sys2Proof.Machine

/-- Settles O56: the full resets by cause (R644, R668), CHIP_RESET and the warm PERST# by their conditions (R645, R646), the
return to Ready (R655) and the die's shutdown before its time (R664). -/
theorem powerCommandEffects : Obligations.PowerCommandEffects := by
  unfold Obligations.PowerCommandEffects
  refine ⟨?powerOn, ?brownOut, ?chipRefused, ?chipReset, ?warmPort, ?warmFull, ?exit, ?shutdownEarly⟩
  case powerOn =>
    intro s hw
    rw [exec_of_runAlways (i := .powerOnReset) (f := powerOnReset) rfl hw, keepQueue_fullReset (f := powerOnReset) rfl]
  case brownOut =>
    intro s hw
    rw [exec_of_runAlways (i := .brownOut) (f := brownOut) rfl hw, keepQueue_fullReset (f := brownOut) rfl]
  case chipRefused =>
    intro s ht ha hm harm
    rw [exec_chipReset_of_free ht ha hm, keepQueue_of_eq (chipReset_of_armed harm)]
  case chipReset =>
    intro s ht ha hm harm
    rw [exec_chipReset_of_free ht ha hm, keepQueue_fullReset (chipReset_of_not_armed harm)]
  case warmPort =>
    intro s ht hfull
    rw [exec_of_run (i := .warmPerst) (f := warmPerst) rfl ht, keepQueue_of_eq (by
      rw [warmPerst, if_neg (Bool.eq_false_iff.mp hfull), linkDown])]
  case warmFull =>
    intro s ht hfull
    rw [exec_of_run (i := .warmPerst) (f := warmPerst) rfl ht, keepQueue_fullReset (cause := 2) (by
      rw [warmPerst, if_pos hfull])]
  case exit =>
    intro s ht harm
    exact exec_lane_eq (by rfl) ht (by rw [powerStateExit, if_pos (.inl harm)])
  case shutdownEarly =>
    intro s t ht h hlt
    exact exec_map_eq (f := withLanes dieShutdown) (by rfl) ht (congrArg (afterLanes s.ctl.lanesActive) (dieShutdown_of_early h hlt))

end
